-- ==== Sys2Proof/Word.lean ====
section
/-! DEFINITION. The word types of the model. -/

namespace Sys2Proof

/-- A byte of memory. -/
abbrev Byte := BitVec 8

/-- A register word (R9: registers are 32 bits wide). -/
abbrev Word := BitVec 32

/-- A byte address: the key of a memory cell. -/
abbrev Addr := Nat

end Sys2Proof
end

