-- ==== Sys2Proof/Syntax.lean ====
section
/-! DEFINITION. The commands of the device: one constructor per row of spec/opcode_table.json, with the row's
operands: which parcel, port, context or descriptor it is about, and what the outside world brings with it (a packet,
a frame, the data of a host read, a sensor's reading, an error an engine met). -/

namespace Sys2Proof

/-- A parcel, 0-11. -/
abbrev Parcel := Fin 12

/-- A fabric port, 0-19. -/
abbrev Port := Fin 20

/-- The access paths of R11. -/
inductive Path where
  | pf0
  | mgmtCore
  | mgmtPort
  | fabMgr
  | hart (parcel : Fin 12) (hart : Fin 4)
  deriving DecidableEq, Repr

/-- A fabric packet: the header unit of R243 without the fields of the hop (SEQ, HCRC), and its payload bytes. -/
structure Packet where
  ptype : BitVec 8
  vc : BitVec 2 := 0
  dst : BitVec 24 := 0
  src : BitVec 24 := 0
  hops : BitVec 4 := 0
  dstCtx : BitVec 12 := 0
  srcCtx : BitVec 12 := 0
  jobTag : BitVec 32 := 0
  addr : BitVec 32 := 0
  txn : BitVec 16 := 0
  status : BitVec 8 := 0
  opx : BitVec 8 := 0
  payload : List Byte := []
  deriving DecidableEq, Repr

/-- An error that a read finds in a 16 B hold word (R43): where, and whether it can be corrected. -/
structure WordErr where
  addr : Nat
  uncorrectable : Bool
  deriving DecidableEq, Repr

/-- What one account did in a tick (R326, R327): its function and job tag, the activity counts in the order of Table 3 of
the Toll's chapter, and the CCLK it occupied on each parcel. -/
structure AccountUse where
  fn : Nat
  tag : Nat
  counts : List Nat
  occ : List Nat
  deriving DecidableEq, Repr

/-- One rail's reading (R325): millivolts, 10 mA units, degrees, and a fault in the regulator's status. -/
structure RailRead where
  mv : Nat
  ca : Nat
  tempC : Nat
  fault : Bool
  deriving DecidableEq, Repr

/-- How a host read ends (R210): with its data, or failed by UR, CA, poison or a refused translation. -/
inductive HostAnswer where
  | data (bytes : List Byte)
  | ur
  | ca
  | poisoned (bytes : List Byte)
  | refusedTranslation
  deriving DecidableEq, Repr

/-- An input of the fault collector at one MCLK edge (R372): the source, a rising edge or only a change of level, the
level the input keeps, the detail its block sends, and the attribution (function, context, index, status). -/
structure FaultInput where
  source : Nat
  edge : Bool := true
  condition : Bool := false
  detail : Nat := 0
  kind : Nat := 0
  attr : Option (Nat × Nat × Nat × Nat) := none
  deriving DecidableEq, Repr

/-- What a CXL device shows at enumeration (R200, R201): whether it keeps to the supported subset (a memory device without
cache capability, one logical device, no switch), its capacity in GiB, and the trained width (x16) and rate (64 GT/s). -/
structure CxlDevice where
  supported : Bool
  gib : Nat
  wide : Bool
  fast : Bool
  deriving DecidableEq, Repr

/-- What the benchmark run of one parcel finds (R421, Table 4): banks, tiles and vector units that fail, and other engines
that fail, by engine code (2 decoders, 4 attention and pager, 5 gangway, 6 DMA) and unit. -/
structure BenchRun where
  banks : List Nat := []
  tiles : List Nat := []
  vus : List Nat := []
  engines : List (Nat × Nat) := []
  deriving DecidableEq, Repr

/-- The transports that carry a management message (R456): I3C, or PCIe VDM. -/
inductive Transport where
  | i3c
  | vdm
  deriving DecidableEq, Repr

/-- The sensors of the PDR repository (R462). -/
inductive Sensor where
  | tj
  | stackTemp (n : Fin 12)
  | power
  | totalUj
  | devUj
  | jobUj (entry : Fin 256)
  | railV (k : Fin 14)
  | railI (k : Fin 14)
  | fcuStatus
  | fcuService
  | bruReady
  | parcelState (n : Fin 12)
  | powerState
  deriving DecidableEq, Repr

/-- A command: one constructor per row of the opcode table. -/
inductive Instr where
  /-- REGISTER_WRITE (R9): A write to a register field that has no row of its own takes effect according to its access type (RW, W1C, W1S, RWO, RWL). -/
  | registerWrite (path : Path) (off : Nat) (value : Word)
  /-- LOW_WORD_READ (R11): A read of the low word of a 64-bit register copies the high word into the latch of the reading path. -/
  | lowWordRead (path : Path) (off : Nat)
  /-- BAR0_BAD_ACCESS (R493): A BAR0 access that is not one aligned whole word is not performed; it is counted and may be recorded. -/
  | bar0BadAccess (fn : Fin 1024) (off len : Nat) (isRead : Bool)
  /-- PLOT_OWNER_WRITE (R33): A write to HLD_PLOT_OWNER applies an ownership transition, starts a clear where one is needed, or is dropped. -/
  | plotOwnerWrite (path : Path) (n : Parcel) (plot : Fin 96) (value : Word)
  /-- PLOT_CLEAR_DONE (R34): A plot clear finishes, CLEARING falls, and the waiting accesses proceed. -/
  | plotClearDone (n : Parcel) (plot : Fin 96)
  /-- SCRUB_STEP (R46): Every INTERVAL times 64 CCLK each good bank reads its next scrub row; the last row ends the pass. -/
  | scrubStep (n : Parcel) (errs : List WordErr)
  /-- HLD_ARB_WRITE (R40): A write to HLD_ARB sets the guarantees, or is dropped when their sum would exceed 32. -/
  | hldArbWrite (path : Path) (n : Parcel) (value : Word)
  /-- HLD_SCRUB_WRITE (R46): A write to HLD_SCRUB changes INTERVAL at the next step, or abandons or restarts the pass through ENABLE. -/
  | hldScrubWrite (path : Path) (n : Parcel) (value : Word)
  /-- HLD_ERR_CLR (R49): A write to HLD_ERR_CLR clears both error counts and the error record. -/
  | hldErrClr (path : Path) (n : Parcel) (value : Word)
  /-- WDC_COMMIT (R62): A write to WDC_COMMIT validates the staged tables and copies them with the tag into the live set, or rejects them. -/
  | wdcCommit (n : Parcel) (value : Word)
  /-- WDC_ERR_CLR (R69): A write to WDC_ERR_CLR clears the decoder failure record. -/
  | wdcErrClr (n : Parcel) (value : Word)
  /-- DOORBELL (R216): A descriptor doorbell word is accepted, counted stale, discarded as bad, or found to overflow the ring. -/
  | doorbell (fn : Fin 1024) (slot : Fin 128) (w : Word) (whole : Bool)
  /-- COMPLETION_HEAD (R216): A completion-head doorbell word advances the head of consumed completion records. -/
  | completionHead (fn : Fin 1024) (slot : Fin 128) (w : Word) (whole : Bool)
  /-- CONSUMED (R215): A write of the consumed index of a gangway request is taken as the reader's progress on the output ring. -/
  | consumed (fn : Fin 1024) (p : Parcel) (r : Fin 64) (value : Word)
  /-- DESCRIPTOR_FETCH (R218): The home sequencer issues a read of up to 64 descriptors once doorbell and completion-ring room allow. -/
  | descriptorFetch (c : Fin 4096) (refused : Bool)
  /-- FETCH_COMPLETE (R218): A descriptor read completes; the fetch shadow is written and each descriptor is validated and forwarded to its parcels. -/
  | fetchComplete (c : Fin 4096) (bytes : List Byte)
  /-- DESCRIPTOR_ADMIT (R316): A descriptor is admitted at a parcel once the parcel's bucket is above 0, and its energy is drawn. -/
  | descriptorAdmit (n : Parcel) (id : Nat)
  /-- LEASE_DENY_TIMEOUT (R317): A descriptor held at admission for TOL_DENY.MS completes with LEASE_DENIED. -/
  | leaseDenyTimeout (n : Parcel) (id : Nat)
  /-- PART_START (R71): A ready part starts on its engine once its marks, order and the engine allow. -/
  | partStart (n : Parcel) (id : Nat) (targetInSpan : Bool)
  /-- DESCRIPTOR_COMPLETE (R81): Every part of a descriptor has ended, so it signals its mark and queues its completion record. -/
  | descriptorComplete (id pj occ : Nat) (targetInSpan : Bool)
  /-- IRQ_COALESCE_TIMER (R221): IRQ_CO_US passes since the first record not yet announced, so an MSI-X message is sent. -/
  | irqCoalesceTimer (c : Fin 4096)
  /-- MSIX_UNMASK (R221): A masked vector with its pending bit set is unmasked, and the merged message is sent. -/
  | msixUnmask (fn : Fin 1024) (vec : Fin 2048)
  /-- NOP (R85): Descriptor NOP becomes ready as its header says and ends at once. -/
  | nop (n : Parcel) (id : Nat)
  /-- MARK_ADD (R84): MARK with ACTION ADD adds VALUE to the named mark at each parcel in the mask. -/
  | markAdd (n : Parcel) (id : Nat)
  /-- MARK_SET (R84): MARK with ACTION SET writes VALUE to the named mark. -/
  | markSet (n : Parcel) (id : Nat)
  /-- MARK_CLEAR_ERROR (R84): MARK with ACTION CLEAR_ERROR sets the mark's ERROR bit to 0 and leaves the count. -/
  | markClearError (n : Parcel) (id : Nat)
  /-- FENCE (R85): Descriptor FENCE becomes ready once every earlier descriptor of its ring has ended its part at that parcel. -/
  | fence (n : Parcel) (id : Nat)
  /-- GEMM (R92): A GEMM part deals panels to the tiles and computes C in the fixed accumulation order. -/
  | gemm (n : Parcel) (errs : List WordErr)
  /-- CGEMM (R95): A CGEMM part decodes coded weight groups and multiplies them on the tiles as GEMM does. -/
  | cgemm (n : Parcel) (errs : List WordErr)
  /-- GEMV (R97): A GEMV part computes y = W x in FP32 over 512 virtual lanes and a fixed tree. -/
  | gemv (n : Parcel) (errs : List WordErr)
  /-- RMS_APPLY (R99): NORM with KIND RMS_APPLY writes RMS-normalised and gained rows. -/
  | rmsApply (n : Parcel) (errs : List WordErr)
  /-- RMS_SCALE (R99): NORM with KIND RMS_SCALE writes one reciprocal RMS scale per row. -/
  | rmsScale (n : Parcel) (errs : List WordErr)
  /-- LAYER_APPLY (R99): NORM with KIND LAYER_APPLY writes layer-normalised rows with gain and bias. -/
  | layerApply (n : Parcel) (errs : List WordErr)
  /-- COPY (R101): A COPY moves LEN bytes between tiers, split into parts by parcel. -/
  | copy (n : Parcel) (errs terrs : List WordErr) (refused : Bool)
  /-- COPY_ZERO (R100): A COPY with ZERO set writes LEN zero bytes to its destination. -/
  | copyZero (n : Parcel)
  /-- FXFER (R102): An FXFER sends the local hold data as WRITE packets to a remote station's hold. -/
  | fxfer (n : Parcel) (id : Nat) (errs : List WordErr)
  /-- WRITE_RECEIVE (R103): An arriving WRITE packet is written to the destination hold after its checks, and a RESPONSE answers it. -/
  | writeReceive (p : Packet)
  /-- SIGNAL_RECEIVE (R83): An arriving SIGNAL packet adds its increment to the target mark, sets ERROR where asked, and is answered. -/
  | signalReceive (p : Packet)
  /-- RESPONSE_RECEIVE (R83): A RESPONSE arrives and settles the outstanding request whose TXN it carries. -/
  | responseReceive (p : Packet)
  /-- RESPONSE_TIMEOUT (R287): A windowed packet stays unanswered for FAB_RSP_TIMEOUT, so its part ends UNREACHABLE. -/
  | responseTimeout (txn : BitVec 16)
  /-- TILE_PARITY_ERROR (R104): A tile detects a parity error; it is withdrawn and its panel is re-dealt, or the parcel fences itself after a repeat. -/
  | tileParityError (n : Parcel) (tile : Fin 48) (panel : Nat)
  /-- MT_ERR_CLR (R106): A write to MT_ERR_CLR clears MT_ERR_INFO. -/
  | mtErrClr (path : Path) (n : Parcel) (value : Word)
  /-- VLOAD (R119): VLOAD validates a microprogram image and loads it into a slot. -/
  | vload (n : Parcel) (errs : List WordErr)
  /-- VLOAD_FREE (R120): VLOAD with FREE set, issued by the owner, returns the slot to FREE. -/
  | vloadFree (n : Parcel)
  /-- VRUN (R123): VRUN checks the slot and starts every vector unit in service at the entry's word. -/
  | vrun (n : Parcel)
  /-- VRUN_CYCLE_LIMIT (R124): CYCLE_LIMIT times 1,024 CCLK pass since a VRUN started, so the invocation ends ABORTED. -/
  | vrunCycleLimit (n : Parcel)
  /-- VU_PARITY_ERROR (R125): A parity error in a vector unit withdraws the unit and ends the invocation FENCED. -/
  | vuParityError (n : Parcel) (u : Fin 8) (what : Fin 3)
  /-- VU_SLOT_FREE (R120): A write to VU_SLOT_FREE returns the chosen slots to FREE whatever their owner. -/
  | vuSlotFree (path : Path) (n : Parcel) (value : Word)
  /-- VU_ERR_CLR (R128): A write to VU_ERR_CLR clears VU_ERR_INFO and VU_ERR_CODE. -/
  | vuErrClr (path : Path) (n : Parcel) (value : Word)
  /-- VU_NOP (R111): Vector instruction NOP does nothing. -/
  | vuNop (n : Parcel) (u : Fin 8)
  /-- END (R123): Vector instruction END stops this unit. -/
  | vuEnd (n : Parcel) (u : Fin 8)
  /-- BR (R111): Vector instruction BR branches to IMM. -/
  | vuBr (n : Parcel) (u : Fin 8)
  /-- BNZ (R111): Vector instruction BNZ branches when S[a] is not 0. -/
  | vuBnz (n : Parcel) (u : Fin 8)
  /-- BLT (R111): Vector instruction BLT branches when S[a] is less than S[b], signed. -/
  | vuBlt (n : Parcel) (u : Fin 8)
  /-- LOOP (R111): Vector instruction LOOP decrements S[a] and branches while the result is not 0. -/
  | vuLoop (n : Parcel) (u : Fin 8)
  /-- SYNC (R116): Vector instruction SYNC waits for every unit in service and every earlier store. -/
  | vuSync (n : Parcel) (u : Fin 8)
  /-- TRAP (R124): Vector instruction TRAP ends the invocation with BAD_DESCRIPTOR and the immediate as its code. -/
  | vuTrap (n : Parcel) (u : Fin 8)
  /-- SLI (R111): Vector instruction SLI loads IMM into a scalar register. -/
  | sli (n : Parcel) (u : Fin 8)
  /-- SADD (R111): Vector instruction SADD adds two scalars modulo 2^32. -/
  | sadd (n : Parcel) (u : Fin 8)
  /-- SMUL (R111): Vector instruction SMUL writes the low 32 bits of the scalar product. -/
  | smul (n : Parcel) (u : Fin 8)
  /-- SAND (R111): Vector instruction SAND writes the bitwise AND of two scalars. -/
  | sand (n : Parcel) (u : Fin 8)
  /-- SADDI (R111): Vector instruction SADDI adds IMM to a scalar. -/
  | saddi (n : Parcel) (u : Fin 8)
  /-- SSHL (R111): Vector instruction SSHL shifts a scalar left. -/
  | sshl (n : Parcel) (u : Fin 8)
  /-- SSHR (R111): Vector instruction SSHR shifts a scalar right, logically. -/
  | sshr (n : Parcel) (u : Fin 8)
  /-- SARG (R111): Vector instruction SARG reads a VRUN operand word into a scalar. -/
  | sarg (n : Parcel) (u : Fin 8)
  /-- SID (R109): Vector instruction SID returns this unit's number among the units in service. -/
  | sid (n : Parcel) (u : Fin 8)
  /-- SCNT (R109): Vector instruction SCNT returns the number of units in service. -/
  | scnt (n : Parcel) (u : Fin 8)
  /-- SLD (R115): Vector instruction SLD loads 4 B from the hold into a scalar. -/
  | sld (n : Parcel) (u : Fin 8) (errs : List WordErr)
  /-- VLD_F32 (R115): Vector instruction VLD.F32 loads 64 FP32 values. -/
  | vldF32 (n : Parcel) (u : Fin 8) (errs : List WordErr)
  /-- VLD_BF16 (R115): Vector instruction VLD.BF16 loads 64 BF16 values and widens them. -/
  | vldBf16 (n : Parcel) (u : Fin 8) (errs : List WordErr)
  /-- VLD_BF16X2 (R115): Vector instruction VLD.BF16X2 loads 128 BF16 values into a register pair. -/
  | vldBf16x2 (n : Parcel) (u : Fin 8) (errs : List WordErr)
  /-- VLD_BCAST (R115): Vector instruction VLD.BCAST loads one FP32 value into every lane. -/
  | vldBcast (n : Parcel) (u : Fin 8) (errs : List WordErr)
  /-- VST_F32 (R115): Vector instruction VST.F32 stores 64 FP32 values. -/
  | vstF32 (n : Parcel) (u : Fin 8)
  /-- VST_BF16 (R115): Vector instruction VST.BF16 stores 64 values rounded to BF16. -/
  | vstBf16 (n : Parcel) (u : Fin 8)
  /-- VST_BF16X2 (R115): Vector instruction VST.BF16X2 stores a register pair as 128 BF16 values. -/
  | vstBf16x2 (n : Parcel) (u : Fin 8)
  /-- VST_E4M3 (R115): Vector instruction VST.E4M3 stores two MX blocks with their scales. -/
  | vstE4m3 (n : Parcel) (u : Fin 8)
  /-- VADD (R113): Vector instruction VADD adds per lane. -/
  | vadd (n : Parcel) (u : Fin 8)
  /-- VSUB (R113): Vector instruction VSUB subtracts per lane. -/
  | vsub (n : Parcel) (u : Fin 8)
  /-- VMUL (R113): Vector instruction VMUL multiplies per lane. -/
  | vmul (n : Parcel) (u : Fin 8)
  /-- VFMA (R113): Vector instruction VFMA computes a times b plus c, rounded once. -/
  | vfma (n : Parcel) (u : Fin 8)
  /-- VFMS (R113): Vector instruction VFMS computes a times b minus c, rounded once. -/
  | vfms (n : Parcel) (u : Fin 8)
  /-- VFNMA (R113): Vector instruction VFNMA computes c minus a times b, rounded once. -/
  | vfnma (n : Parcel) (u : Fin 8)
  /-- VMIN (R113): Vector instruction VMIN takes the per-lane minimum under the NaN and signed-zero rules. -/
  | vmin (n : Parcel) (u : Fin 8)
  /-- VMAX (R113): Vector instruction VMAX takes the per-lane maximum under the NaN and signed-zero rules. -/
  | vmax (n : Parcel) (u : Fin 8)
  /-- VABS (R111): Vector instruction VABS takes the absolute value per lane. -/
  | vabs (n : Parcel) (u : Fin 8)
  /-- VNEG (R111): Vector instruction VNEG negates per lane. -/
  | vneg (n : Parcel) (u : Fin 8)
  /-- VMOV (R111): Vector instruction VMOV copies a vector register. -/
  | vmov (n : Parcel) (u : Fin 8)
  /-- VADDS (R111): Vector instruction VADDS adds a scalar read as FP32 to every lane. -/
  | vadds (n : Parcel) (u : Fin 8)
  /-- VMULS (R111): Vector instruction VMULS multiplies every lane by a scalar read as FP32. -/
  | vmuls (n : Parcel) (u : Fin 8)
  /-- VCMUL (R113): Vector instruction VCMUL computes a complex product over register pairs. -/
  | vcmul (n : Parcel) (u : Fin 8)
  /-- VCVT_F2I (R113): Vector instruction VCVT.F2I converts FP32 to int32 with saturation. -/
  | vcvtF2i (n : Parcel) (u : Fin 8)
  /-- VCVT_I2F (R113): Vector instruction VCVT.I2F converts int32 to FP32. -/
  | vcvtI2f (n : Parcel) (u : Fin 8)
  /-- VRCP (R117): Vector instruction VRCP computes the correctly rounded reciprocal. -/
  | vrcp (n : Parcel) (u : Fin 8)
  /-- VRSQRT (R117): Vector instruction VRSQRT computes the correctly rounded reciprocal square root. -/
  | vrsqrt (n : Parcel) (u : Fin 8)
  /-- VSQRT (R117): Vector instruction VSQRT computes the correctly rounded square root. -/
  | vsqrt (n : Parcel) (u : Fin 8)
  /-- VDIV (R117): Vector instruction VDIV divides per lane, correctly rounded. -/
  | vdiv (n : Parcel) (u : Fin 8)
  /-- VEXP (R117): Vector instruction VEXP computes the correctly rounded e^a. -/
  | vexp (n : Parcel) (u : Fin 8)
  /-- VEXP2 (R117): Vector instruction VEXP2 computes 2^a. -/
  | vexp2 (n : Parcel) (u : Fin 8)
  /-- VLOG (R117): Vector instruction VLOG computes ln a. -/
  | vlog (n : Parcel) (u : Fin 8)
  /-- VLOG2 (R117): Vector instruction VLOG2 computes log2 a. -/
  | vlog2 (n : Parcel) (u : Fin 8)
  /-- VTANH (R117): Vector instruction VTANH computes tanh a. -/
  | vtanh (n : Parcel) (u : Fin 8)
  /-- VSIG (R117): Vector instruction VSIG computes the logistic sigmoid. -/
  | vsig (n : Parcel) (u : Fin 8)
  /-- VERF (R117): Vector instruction VERF computes erf a. -/
  | verf (n : Parcel) (u : Fin 8)
  /-- VSIN (R117): Vector instruction VSIN computes sin a. -/
  | vsin (n : Parcel) (u : Fin 8)
  /-- VCOS (R117): Vector instruction VCOS computes cos a. -/
  | vcos (n : Parcel) (u : Fin 8)
  /-- VCMPEQ (R111): Vector instruction VCMPEQ writes per-lane equality to a predicate. -/
  | vcmpeq (n : Parcel) (u : Fin 8)
  /-- VCMPLT (R111): Vector instruction VCMPLT writes per-lane less-than to a predicate. -/
  | vcmplt (n : Parcel) (u : Fin 8)
  /-- VCMPLE (R111): Vector instruction VCMPLE writes per-lane less-or-equal to a predicate. -/
  | vcmple (n : Parcel) (u : Fin 8)
  /-- PAND (R111): Vector instruction PAND takes the AND of two predicates. -/
  | pand (n : Parcel) (u : Fin 8)
  /-- POR (R111): Vector instruction POR takes the OR of two predicates. -/
  | por (n : Parcel) (u : Fin 8)
  /-- PNOT (R111): Vector instruction PNOT inverts a predicate. -/
  | pnot (n : Parcel) (u : Fin 8)
  /-- PFIRST (R111): Vector instruction PFIRST turns on the lanes below IMM. -/
  | pfirst (n : Parcel) (u : Fin 8)
  /-- VSEL (R111): Vector instruction VSEL selects lanes from a or b by predicate. -/
  | vsel (n : Parcel) (u : Fin 8)
  /-- VIADD (R111): Vector instruction VIADD adds int32 lanes modulo 2^32. -/
  | viadd (n : Parcel) (u : Fin 8)
  /-- VAND (R111): Vector instruction VAND takes the bitwise AND of lanes. -/
  | vand (n : Parcel) (u : Fin 8)
  /-- VOR (R111): Vector instruction VOR takes the bitwise OR of lanes. -/
  | vor (n : Parcel) (u : Fin 8)
  /-- VXOR (R111): Vector instruction VXOR takes the bitwise XOR of lanes. -/
  | vxor (n : Parcel) (u : Fin 8)
  /-- VSHL (R111): Vector instruction VSHL shifts lanes left. -/
  | vshl (n : Parcel) (u : Fin 8)
  /-- VSHR (R111): Vector instruction VSHR shifts lanes right, logically. -/
  | vshr (n : Parcel) (u : Fin 8)
  /-- VIOTA (R111): Vector instruction VIOTA writes each lane's index. -/
  | viota (n : Parcel) (u : Fin 8)
  /-- VSPLAT (R111): Vector instruction VSPLAT copies a scalar to every lane. -/
  | vsplat (n : Parcel) (u : Fin 8)
  /-- VREDSUM (R113): Vector instruction VREDSUM sums the lanes by a fixed tree into a scalar. -/
  | vredsum (n : Parcel) (u : Fin 8)
  /-- VREDMAX (R113): Vector instruction VREDMAX takes the maximum of the lanes that are on. -/
  | vredmax (n : Parcel) (u : Fin 8)
  /-- VROTL (R111): Vector instruction VROTL rotates the lanes. -/
  | vrotl (n : Parcel) (u : Fin 8)
  /-- PCNT (R111): Vector instruction PCNT counts the lanes that are on. -/
  | pcnt (n : Parcel) (u : Fin 8)
  /-- XST (R116): Vector instruction XST stores a vector to an exchange-buffer slot. -/
  | xst (n : Parcel) (u : Fin 8)
  /-- XLD (R116): Vector instruction XLD reads another unit's exchange slot. -/
  | xld (n : Parcel) (u : Fin 8)
  /-- ATTN (R139): ATTN computes paged softmax attention for its query records and writes final or partial output. -/
  | attn (n : Parcel) (errs terrs : List WordErr)
  /-- ATTN_MERGE (R141): ATTN_MERGE folds partial attention arrays in a fixed order. -/
  | attnMerge (n : Parcel) (errs : List WordErr)
  /-- KV_APPEND (R143): KV_APPEND writes committed or tentative KV entries into a stream. -/
  | kvAppend (n : Parcel) (errs terrs : List WordErr)
  /-- KV_COMMIT (R144): KV_COMMIT copies the accepted tentative entries into place, clears the rest and updates LEN. -/
  | kvCommit (n : Parcel) (errs terrs : List WordErr)
  /-- PROMOTE (R145): KV_MOVE with ACTION PROMOTE copies backing pages into their frames. -/
  | promote (n : Parcel) (errs terrs : List WordErr)
  /-- EVICT (R145): KV_MOVE with ACTION EVICT writes dirty pages back and makes them non-resident. -/
  | evict (n : Parcel) (errs terrs : List WordErr)
  /-- WRITEBACK (R145): KV_MOVE with ACTION WRITEBACK writes dirty pages back and keeps them resident. -/
  | writeback (n : Parcel) (errs terrs : List WordErr)
  /-- SET_FRAME (R145): KV_MOVE with ACTION SET_FRAME sets the frame addresses of pages. -/
  | setFrame (n : Parcel) (errs : List WordErr)
  /-- MIGRATE (R145): KV_MOVE with ACTION MIGRATE copies pages to a new backing location. -/
  | migrate (n : Parcel) (errs terrs : List WordErr)
  /-- KV_PAGE_FETCH (R148): The pager fetches a non-resident page into a staging frame ahead of the engine, once a frame is free. -/
  | kvPageFetch (n : Parcel) (errs terrs : List WordErr)
  /-- ATTN_PARITY_ERROR (R151): A parity error in the attention engine or pager ends the part FENCED and fences the parcel. -/
  | attnParityError (n : Parcel) (pager : Bool)
  /-- KVP_ERR_CLR (R153): A write to KVP_ERR_CLR clears the attention and KV error record. -/
  | kvpErrClr (path : Path) (n : Parcel) (value : Word)
  /-- GW_OPEN (R156): GW_OPEN opens a request slot from a parameter block and a key. -/
  | gwOpen (n : Parcel) (id : Nat) (errs : List WordErr)
  /-- GW_JOIN (R157): GW_JOIN binds a context at this parcel to a request at its home. -/
  | gwJoin (n : Parcel) (id : Nat) (errs : List WordErr)
  /-- GW_LEAVE (R157): GW_JOIN with LEAVE set unbinds the context, clears its scratch and forgets its streams. -/
  | gwLeave (n : Parcel) (id : Nat)
  /-- GW_TREE (R160): GW_TREE opens the next epoch, builds the verification tree and notifies the members. -/
  | gwTree (n : Parcel) (id : Nat) (errs : List WordErr)
  /-- GW_TREE_REPAIR (R174): GW_TREE with REPAIR set builds the chain of the last committed path for a repair round. -/
  | gwTreeRepair (n : Parcel) (id : Nat)
  /-- GW_ACCEPT (R171): GW_ACCEPT performs the acceptance walk over the logits and latches the result. -/
  | gwAccept (n : Parcel) (id : Nat) (errs : List WordErr)
  /-- GW_COMMIT (R173): GW_COMMIT reaches the commit point, journals the tokens and sends APPLY to every member. -/
  | gwCommit (n : Parcel) (id : Nat)
  /-- GW_DISCARD (R175): GW_DISCARD sends DISCARD to every member and closes the open epoch. -/
  | gwDiscard (n : Parcel) (id : Nat)
  /-- GW_CLOSE (R176): GW_CLOSE discards, drains or drops the pacing buffer and frees the slot. -/
  | gwClose (n : Parcel) (id : Nat)
  /-- JOIN (R182): The home receives a JOIN notice from a member and answers it with JOIN_ACK. -/
  | joinNotice (p : Packet)
  /-- JOIN_ACK (R182): A member receives JOIN_ACK, with the result, the epochs and the generation of the request. -/
  | joinAck (p : Packet)
  /-- OPEN (R158): A member receives an OPEN notice and opens the round's epoch. -/
  | openNotice (p : Packet)
  /-- APPLY (R173): A member receives APPLY, runs its KV_COMMITs, releases its held records, starts its deferred parts and acknowledges. -/
  | applyNotice (p : Packet) (errs terrs : List WordErr)
  /-- DISCARD (R175): A member receives DISCARD, drops its deferred parts, releases its records, clears its tentative entries and acknowledges. -/
  | discardNotice (p : Packet) (errs terrs : List WordErr)
  /-- ROLLBACK (R174): A member receives ROLLBACK and writes back each stream's saved LEN. -/
  | rollbackNotice (p : Packet)
  /-- LEAVE (R176): A member receives LEAVE and leaves the request as GW_LEAVE does. -/
  | leaveNotice (p : Packet)
  /-- ACK (R182): The home receives a member's ACK of a notice, with its status and energy. -/
  | ackNotice (p : Packet)
  /-- APPLY_TIMEOUT (R174): GWY_APPLY_TIMEOUT passes without an acknowledgement, so the request enters repair or LOST. -/
  | applyTimeout (n : Parcel) (slot : Fin 64)
  /-- EGRESS_DELIVERY (R178): At each CADENCE_NS delivery time the gangway writes one confirmed token to the output ring, or counts an underrun. -/
  | egressDelivery (n : Parcel) (slot : Fin 64)
  /-- GWY_ERR_CLR (R183): A write to GWY_ERR_CLR clears the gangway error record. -/
  | gwyErrClr (path : Path) (n : Parcel) (value : Word)
  /-- NT_TRACT_OWNER_WRITE (R188): A write to NT_TRACT_OWNER applies a tract ownership transition, or is dropped. -/
  | ntTractOwnerWrite (path : Path) (n : Parcel) (t : Fin 48) (value : Word)
  /-- FT_TRACT_OWNER_WRITE (R188): A write to FT_TRACT_OWNER applies a far-tier tract ownership transition, or is dropped. -/
  | ftTractOwnerWrite (path : Path) (q : Fin 4) (t : Fin 512) (value : Word)
  /-- TRACT_CLEAR_DONE (R188): A tract clear finishes, and the waiting accesses proceed. -/
  | tractClearDone (far : Bool) (unit : Fin 12) (t : Fin 512)
  /-- NT_SCRUB_STEP (R191): Patrol scrub reads one word per channel every INTERVAL times 64 CCLK. -/
  | ntScrubStep (n : Parcel) (terrs : List WordErr)
  /-- STACK_FAILURE (R192): A stack-level failure or over-temperature raises events on the sources of every parcel that uses the stack. -/
  | stackFailure (stack : Fin 12)
  /-- NT_MARGIN_CHECK (R196): Every 10 ms each channel measures its eye margin into MARGIN_NOW. -/
  | ntMarginCheck (n : Parcel) (margins : List Byte) (tempC : Byte)
  /-- NT_RETRAIN_REQ (R197): A write to NT_RETRAIN_REQ makes a channel due for retraining. -/
  | ntRetrainReq (path : Path) (n : Parcel) (value : Word)
  /-- NT_RETRAIN_START (R198): The lowest due channel starts retraining once no other channel of the parcel retrains. -/
  | ntRetrainStart (n : Parcel)
  /-- NT_RETRAIN_SLICE (R198): After at least 20 µs of service, a retrain slice of up to 1.5 µs trains one group of lanes. -/
  | ntRetrainSlice (n : Parcel)
  /-- NT_RETRAIN_DONE (R198): The last slice ends; the new values and tag are applied, or the retrain fails. -/
  | ntRetrainDone (n : Parcel) (ok : Bool) (tempC : Byte) (load : Fin 4) (margin : Byte)
  /-- NT_ERR_CLR (R204): A write to NT_ERR_CLR clears the near-tier counts and error record. -/
  | ntErrClr (path : Path) (n : Parcel) (value : Word)
  /-- NT_RESET_RETURN (R195): After a parcel reset each channel leaves self-refresh and writes its poison list. -/
  | ntResetReturn (n : Parcel) (listed : List Nat) (lost : List (Fin 32))
  /-- CXL_ENUMERATE (R201): A CXL port trains, reads the device's DVSECs and capacity, programs its decoder and comes UP, or refuses the device. -/
  | cxlEnumerate (q : Fin 4) (dev : Option CxlDevice)
  /-- FT_RESET (R202): FT_PORT_CTRL.RESET resets the port and enumerates it again. -/
  | ftReset (path : Path) (q : Fin 4)
  /-- ACCEPT_STALE (R202): FT_PORT_CTRL.ACCEPT_STALE clears STALE on the port. -/
  | acceptStale (path : Path) (q : Fin 4)
  /-- FT_REQUEST_TIMEOUT (R202): A far-tier request unanswered for FT_PORT_TIMEOUT fails with FAR_ERROR. -/
  | ftRequestTimeout (q : Fin 4) (n : Parcel)
  /-- CXL_VIRAL (R202): The expander signals viral or a fatal error, so the port enters VIRAL and every request fails. -/
  | cxlViral (q : Fin 4)
  /-- CXL_LINK_DOWN (R202): The CXL link fails; outstanding requests fail and the port retrains. -/
  | cxlLinkDown (q : Fin 4)
  /-- APERTURE_ACCESS (R208): A BAR4 aperture access is checked as function 0 and performed, or refused and recorded. -/
  | apertureAccess (off len : Nat) (data : Option (List Byte)) (errs : List WordErr)
  /-- ATS_INVALIDATE (R210): An ATS Invalidate Request completes its dependent requests, then the Invalidate Completion is sent. -/
  | atsInvalidate (tag : Nat) (users : List Nat)
  /-- HOST_READ_COMPLETION (R210): A host read completion arrives, with data, or with UR, CA or poison, which fails the access. -/
  | hostReadCompletion (id : Nat) (answer : HostAnswer)
  /-- HOST_READ_TIMEOUT (R210): A host read receives no completion within the programmed timeout and fails with ACCESS_VIOLATION. -/
  | hostReadTimeout (id : Nat)
  /-- CREATE (R212): Context command CREATE checks the fields, binds mark sets and moves the context to STOPPED. -/
  | ctxCreate (path : Path)
  /-- START (R212): Context command START checks the fields again, rebinds mark sets and moves the context to RUNNING. -/
  | ctxStart (path : Path)
  /-- STOP (R212): Context command STOP halts fetching and lets fetched descriptors run to their ends. -/
  | ctxStop (path : Path)
  /-- ABORT (R212): Context command ABORT stops fetching and ends queued and running parts ABORTED. -/
  | ctxAbort (path : Path)
  /-- DESTROY (R212): Context command DESTROY unbinds the mark sets and frees the context. -/
  | ctxDestroy (path : Path)
  /-- REWIND (R212): Context command REWIND sets every ring position of a stopped context to 0. -/
  | ctxRewind (path : Path)
  /-- STOPPING_DRAINED (R212): The last fetched descriptor of a STOPPING context ends, so the context becomes STOPPED. -/
  | stoppingDrained (c : Fin 4096)
  /-- CONTEXT_CONFIG_WRITE (R214): A write to a context's configuration register takes effect while the context is FREE or STOPPED, and is dropped otherwise. -/
  | contextConfigWrite (path : Path) (off : Nat) (value : Word)
  /-- FLR (R222): A function-level reset disables the function through the sequence of Table 7. -/
  | flr (fn : Fin 1024)
  /-- FUNCTION_DISABLE_DONE (R222): The function's engines have ended its parts, so the disable sequence completes. -/
  | functionDisableDone (fn : Fin 1024)
  /-- BME_CLEAR (R224): Bus Master Enable is cleared, so the function's host traffic waits. -/
  | bmeClear (fn : Fin 1024)
  /-- BME_SET (R223): Bus Master Enable is set, which stops the limit count or re-enables a function disabled under R224. -/
  | bmeSet (fn : Fin 1024)
  /-- BME_LIMIT_EXPIRY (R224): Bus Master Enable stays clear for HIF_BME_LIMIT after traffic first waits, so the function is disabled. -/
  | bmeLimitExpiry (fn : Fin 1024)
  /-- VF_DISABLE (R222): VF Enable is cleared or NumVFs is lowered, which disables the VFs concerned. -/
  | vfDisable (vfEnable : Bool) (numVfs : Fin 1024)
  /-- VF_ENABLE (R223): VF Enable is set with NumVFs covering the function, which enables the function again. -/
  | vfEnable (numVfs : Fin 1024)
  /-- HIF_ERR_CLR (R238): A write to HIF_ERR_CLR clears HIF_ERR_INFO and HIF_ERR_ADDR. -/
  | hifErrClr (path : Path) (value : Word)
  /-- CLAIM (R226): Ownership command CLAIM makes the writer owner when there is no owner. -/
  | ownClaim (path : Path)
  /-- RELEASE (R226): Ownership command RELEASE leaves the device with no owner. -/
  | ownRelease (path : Path)
  /-- HANDOVER (R226): Ownership command HANDOVER starts a hand-over to a target claimant and its timer. -/
  | ownHandover (path : Path) (target : Fin 4)
  /-- ACCEPT (R226): Ownership command ACCEPT makes the pending successor owner. -/
  | ownAccept (path : Path)
  /-- LOCK (R226): Ownership command LOCK closes the register lock. -/
  | ownLock (path : Path)
  /-- UNLOCK (R226): Ownership command UNLOCK opens the register lock. -/
  | ownUnlock (path : Path)
  /-- FORCE (R226): Ownership command FORCE, in the safe state, makes the tray manager owner. -/
  | ownForce (path : Path)
  /-- CANCEL (R226): Ownership command CANCEL ends a pending hand-over. -/
  | ownCancel (path : Path)
  /-- HANDOVER_EXPIRY (R226): A hand-over timer reaches 25,000,000 MCLK, so the hand-over ends with the owner unchanged. -/
  | handoverExpiry
  /-- OWN_RECORD_COMMIT (R228): The ownership record commits in eMRAM, the command takes effect, and BUSY clears. -/
  | ownRecordCommit
  /-- OWN_VIOL_CLR (R239): An accepted write of 1 to OWN_VIOL_CLR clears OWN_VIOL_INFO and OWN_VIOL_ADDR. -/
  | ownViolClr (path : Path) (value : Word)
  /-- ETH_QUEUE_ENABLE (R232): Writing 1 to ETH_Q_CTRL.STATE checks the queue and enables it at the current mark position. -/
  | ethQueueEnable (path : Path) (e : Fin 2)
  /-- ETH_QUEUE_DISABLE (R240): Writing 0 to ETH_Q_CTRL.STATE disables the queue after the frame in progress. -/
  | ethQueueDisable (path : Path) (e : Fin 2)
  /-- ETH_TX_DESCRIPTOR (R232): A transmit queue processes its next descriptor while MARK_P is ahead of its position and its priority is not paused. -/
  | ethTxDescriptor (e : Fin 2) (errs : List WordErr)
  /-- ETH_FRAME_RECEIVE (R234): A received frame is checked, matched to a filter and placed in a receive queue slot, or dropped. -/
  | ethFrameReceive (e : Fin 2) (frame : List Byte) (fcsOk : Bool)
  /-- ETH_PAUSE_RELEASE (R236): Every queue of a paused priority falls to XON or below, so the port sends a time-0 frame. -/
  | ethPauseRelease (e : Fin 2)
  /-- PAUSE_REFRESH (R236): Every REFRESH_US while a priority is paused, the port resends its pause frame. -/
  | pauseRefresh (e : Fin 2)
  /-- MAC_CONTROL_RECEIVE (R237): A received MAC control frame sets the pause timers of the priorities it names, or is dropped. -/
  | macControlReceive (e : Fin 2) (frame : List Byte) (fcsOk : Bool)
  /-- PAUSE_TIMER_EXPIRY (R237): A pause timer set by the peer runs out, and the priority may send again. -/
  | pauseTimerExpiry (e : Fin 2) (prio : Fin 8)
  /-- ETH_LINK_DOWN (R230): An Ethernet port loses its link, and an event is raised on source 58. -/
  | ethLinkDown (e : Fin 2)
  /-- RX_HEADER (R248): A header unit arrives and is accepted, dropped as a duplicate, NAKed as a gap or found a violation. -/
  | rxHeader (p : Port) (unit : List Byte) (fecOk : Bool)
  /-- RX_TAIL (R248): A tail unit ends a packet, which is accepted and delivered or forwarded, discarded if stomped, or NAKed. -/
  | rxTail (p : Port) (payload tail : List Byte) (fecOk : Bool)
  /-- LCTL (R246): A link-control field arrives and updates the acknowledged packets and the credits, or triggers a replay on NAK. -/
  | lctlUnit (p : Port) (unit : List Byte)
  /-- LCTL_SEND (R247): A port sends an LCTL unit every 1 µs and after any change its tail units have not carried. -/
  | lctlSend (p : Port)
  /-- REPLAY_TIMEOUT (R249): REPLAY_NS passes without O being acknowledged, so the sender replays, or enters RESTART at the limit. -/
  | replayTimeout (p : Port)
  /-- NAK_RESEND (R248): An outstanding NAK goes unanswered for REPLAY_NS, so the receiver sends it again. -/
  | nakResend (p : Port)
  /-- HELLO (R257): A HELLO unit arrives in INIT and may move the port to UP, to REFUSED or back to TRAIN. -/
  | helloUnit (p : Port) (unit : List Byte)
  /-- HELLO_SEND (R257): A port in INIT sends HELLO every 1 µs. -/
  | helloSend (p : Port)
  /-- RESTART (R254): A RESTART control unit arrives, so the port enters RESTART. -/
  | restartUnit (p : Port) (unit : List Byte)
  /-- RESTART_END (R254): RESTART units have been sent for 1 µs, so the port enters INIT. -/
  | restartEnd (p : Port)
  /-- SIGNAL_DETECT (R254): A signal appears on a lane in DETECT, so the port enters TRAIN. -/
  | signalDetect (p : Port)
  /-- TRAIN_DONE (R255): Training ends on the lanes not excluded, the width is chosen, and the port enters ALIGN. -/
  | trainDone (p : Port) (trained : BitVec 4) (tempC : Byte) (load : Fin 4)
  /-- TRAIN_TIMEOUT (R254): TRAIN, ALIGN or INIT exceeds its bound, so the port returns to DETECT or TRAIN. -/
  | trainTimeout (p : Port)
  /-- ALIGN_LOCK (R254): PCS, alignment-marker and FEC lock are reached, so the port enters INIT. -/
  | alignLock (p : Port)
  /-- FEC_LOCK_LOST (R254): FEC lock is lost or no codeword arrives for 10 µs, so an UP port returns to TRAIN. -/
  | fecLockLost (p : Port)
  /-- REFUSED_EXPIRY (R254): 100 ms in REFUSED pass, so the port trains again. -/
  | refusedExpiry (p : Port)
  /-- RETRAIN (R254): LNK_CTRL.RETRAIN clears LANE_EXCL and enters TRAIN. -/
  | retrain (p : Port)
  /-- LNK_RESTART (R254): LNK_CTRL.RESTART puts the port in RESTART. -/
  | lnkRestart (p : Port)
  /-- LANE_REQ (R264): LNK_CTRL.LANE_REQ makes a lane due for retraining. -/
  | laneReq (p : Port) (lane : Fin 4)
  /-- LNK_VIOL_CLR (R269): A write to LNK_VIOL_CLR clears LNK_VIOL_INFO. -/
  | lnkViolClr (path : Path) (p : Port) (value : Word)
  /-- CSYM_WINDOW (R263): Every 10 ms the port counts each lane's corrected symbols and checks whether a lane is due. -/
  | csymWindow (p : Port) (counts : List Nat) (tempC : Byte)
  /-- RETRAIN_REQ (R265): A RETRAIN_REQ unit from the peer is answered, with collisions decided by serial. -/
  | retrainReq (p : Port) (unit : List Byte)
  /-- RETRAIN_ACK (R266): A RETRAIN_ACK arrives and the lane retrain proceeds with a WIDTH exchange. -/
  | retrainAck (p : Port) (unit : List Byte)
  /-- WIDTH (R266): A WIDTH control unit changes the link to the named width and lanes. -/
  | widthUnit (p : Port) (unit : List Byte)
  /-- LANE_RETRAIN_DONE (R266): Training of the lane alone ends, and the link returns to x4 or the lane is excluded. -/
  | laneRetrainDone (p : Port) (ok : Bool) (tempC : Byte) (load : Fin 4)
  /-- TRAVERSE_TRIGGER (R273): A device starts a traverse with a new epoch and sends START and EXCHANGE on its port set. -/
  | traverseTrigger
  /-- TRAV_START (R273): FAB_TRAV_CTRL.START requests a traverse now or after the current one. -/
  | travStart
  /-- TRAVERSE_START_RECEIVE (R273): A START packet makes the device join, abandon for, record or ignore an epoch. -/
  | traverseStartReceive (p : Port) (pk : Packet)
  /-- EXCHANGE (R274): An EXCHANGE packet from a peer is recorded for the port checks. -/
  | exchange (p : Port) (pk : Packet)
  /-- EXCHANGE_DEADLINE (R274): At t0 + 2 ms ports without EXCHANGE become ABSENT, the cabling is checked and DATUM is flooded. -/
  | exchangeDeadline
  /-- DATUM (R275): A DATUM packet may lower the held datum and distance, which changes the berth. -/
  | datum (p : Port) (pk : Packet)
  /-- BERTH_FIX (R274): At t0 + 8 ms the berth is fixed and CONFIRM is sent. -/
  | berthFix
  /-- CONFIRM (R276): A CONFIRM packet is counted toward the berth vote and checked for miscabling. -/
  | confirm (p : Port) (pk : Packet)
  /-- CONFIRM_DEADLINE (R276): At step 4 the device settles its berth by the CONFIRM count and marks miscabled ports. -/
  | confirmDeadline
  /-- LAND_REQ (R277): At step 5 the datum sends LAND_REQ to the fabric manager. -/
  | landReq
  /-- LAND_GRANT (R277): The datum accepts a LAND_GRANT and sends LANDING on every mesh port. -/
  | landGrant (p : Port) (pk : Packet)
  /-- LANDING (R277): A device takes the landing number from the first LANDING of the epoch and passes it on. -/
  | landing (p : Port) (pk : Packet)
  /-- LANDING_DEADLINE (R277): No LANDING is held at t0 + 18 ms, so the device keeps or drops its landing and sets LANDING_LOST. -/
  | landingDeadline
  /-- TRAVERSE_APPLY (R278): At t0 + 20 ms the landing, berth and port states change at one MCLK edge. -/
  | traverseApply
  /-- REG_ACCESS (R285): A REG_ACCESS from the fabric manager reads or writes one BAR0 word and is answered with REG_REPLY. -/
  | regAccess (p : Port) (pk : Packet)
  /-- WINDOW (R288): A WINDOW grant with a newer generation sets the source's window to that destination. -/
  | windowGrant (pk : Packet)
  /-- WINDOW_RECOMPUTE (R288): A destination's count of active sources changes, so it grants a new window where the value changes. -/
  | windowRecompute (n : Parcel)
  /-- TIME_REQUEST_SEND (R290): Every INTERVAL_US the device sends a TIME request on its source port. -/
  | timeRequestSend
  /-- TIME_REQUEST (R290): A TIME request arrives and is answered with T2 and T3. -/
  | timeRequest (p : Port) (pk : Packet)
  /-- TIME_RESPONSE (R290): A TIME response gives the offset, which slews or steps FAB_TIME and updates SYNCED. -/
  | timeResponse (p : Port) (pk : Packet)
  /-- TIME_HOLDOVER (R291): No valid time exchange arrives for 10 ms, so the device free-runs in holdover. -/
  | timeHoldover
  /-- GROUP_SET_DEFINE (R295): GROUP_SET defines this parcel's membership of a group and computes the digest. -/
  | groupSetDefine (n : Parcel) (id : Nat) (errs : List WordErr)
  /-- GROUP_SET_FREE (R294): GROUP_SET with FREE set removes the member record. -/
  | groupSetFree (n : Parcel) (id : Nat)
  /-- ALL_REDUCE (R303): An ALL_REDUCE member starts; its leg sends COUNT and PART and arms its leg timer. -/
  | allReduce (n : Parcel) (id : Nat) (errs : List WordErr)
  /-- COUNT (R304): A COUNT packet from a leg is compared with the owner's own, which may abort the operation. -/
  | collCount (p : Packet) (errs : List WordErr)
  /-- PART (R303): A PART packet delivers level-1 sums to the owning leg for its slice. -/
  | collPart (p : Packet) (errs : List WordErr)
  /-- RESULT (R303): A RESULT packet is written to every member's destination by OPN broadcast. -/
  | collResult (p : Packet)
  /-- COLL_ABORT (R305): An ABORT packet ends every member of the leg whose part has not yet ended. -/
  | collAbort (p : Packet)
  /-- LEG_TIMEOUT (R307): A leg timer expires before every result is written, so the operation aborts with TIMEOUT. -/
  | legTimeout (n : Parcel) (c : Fin 4096) (g : Fin 16)
  /-- COL_ABORT_CLR (R310): A write to COL_ABORT_CLR clears the abort record. -/
  | colAbortClr (path : Path) (value : Word)
  /-- TICK (R311): At each 1 ms tick boundary the Toll latches the counts, settles, and applies the budget, allowance, refills and gate levels. -/
  | tick (uses : List AccountUse) (device : List Nat) (idle : Bool)
  /-- FORECAST (R334): Every tenth tick the Toll builds the forecast record and hands it to the management port. -/
  | forecast (means : List Nat) (active : Nat)
  /-- TELEMETRY_SWEEP (R325): Every 100 µs the Toll reads every rail's voltage and current and sums the sweep energy. -/
  | telemetrySweep (reads : List (Option RailRead)) (modelUj : Nat)
  /-- GATE_WINDOW (R321): Each 1,024-CCLK window opens or closes a parcel's tile starts by its gate level. -/
  | gateWindow (n : Parcel) (j : Nat)
  /-- TILE_RAMP (R320): A parcel turns its tile enables on or off in 8 steps of 6 tiles, 8 CCLK apart. -/
  | tileRamp (n : Parcel)
  /-- THERMAL_SAMPLE (R330): Every 10 µs the Toll reads the junction sensors and takes Tj. -/
  | thermalSample (temps : List (Option Int))
  /-- THERMTRIP (R331): A sensor reaches 115 °C, so the comparator asserts THERMTRIP_N and stops every clock except AOSC. -/
  | thermtrip (temps : List (Option Int))
  /-- COOLANT_STALE (R333): TOL_COOLANT_AGE reaches 2,000 ms, so COOLANT_STALE is set and the last limit kept. -/
  | coolantStale
  /-- TOL_JOB_FREE (R329): A write to TOL_JOB_FREE frees the selected job entry and zeroes its counter. -/
  | tolJobFree (path : Path) (value : Word)
  /-- REF_MEASURE (R339): Every 10,000 AOSC cycles the monitor writes the REFCLK_PCIE edge count and may mark the reference lost. -/
  | refMeasure (edges : BitVec 20)
  /-- PLL_LOCK_LOST (R339): The PLL loses lock or its reference, so the core clocks stop, MCLK runs from AOSC and the safe state begins. -/
  | pllLockLost
  /-- PLL_RELOCK (R339): The PLL locks again and the core clocks restart at a frame boundary. -/
  | pllRelock
  /-- CROSSING_WAKE (R341): A datum at a crossing into a gated clock wakes that clock at the next frame boundary. -/
  | crossingWake (unit : Nat)
  /-- POWER_ON (R344): VDD_AON falls below 0.72 V, so a reset of everything is asserted, released 2 ms after it rises. -/
  | powerOn
  /-- PERST (R344): PERST_N falls, so a device reset is asserted. -/
  | perst
  /-- SYS_RESET (R344): SYS_RESET_N falls, so a device reset is asserted. -/
  | sysReset
  /-- GO (R344): A write of 1 to RST_DEVICE.GO asserts a device reset with cause OWNER_REG. -/
  | rstGo (path : Path) (value : Word)
  /-- WATCHDOG (R352): The management-core watchdog count reaches 0, so a device reset is asserted. -/
  | watchdog
  /-- KICK (R352): A management-core write of 1 to RST_WDT_KICK restarts the watchdog count. -/
  | wdtKick (path : Path) (value : Word)
  /-- DEVICE_RESET_ASSERT (R347): A device reset asserts in every non-always-on domain at one AOSC edge, after any eMRAM pulse hold-off. -/
  | deviceResetAssert (pulse : Option Bool)
  /-- RESET_RELEASE_STEP (R351): After each 256-cycle gap, or on PLL lock, the next release step of a device reset is taken. -/
  | resetReleaseStep (ready : Bool)
  /-- LNK_BLOCK_RESET (R353): An RST_BLOCK0 bit resets one link port and discards its replay state. -/
  | lnkBlockReset (path : Path) (p : Port)
  /-- ETH_BLOCK_RESET (R353): An RST_BLOCK1 ETH bit resets one Ethernet port. -/
  | ethBlockReset (path : Path) (e : Fin 2) (sending : Bool)
  /-- FT_BLOCK_RESET (R353): An RST_BLOCK1 FT bit resets one CXL port, which then enumerates again. -/
  | ftBlockReset (path : Path) (q : Fin 4)
  /-- FAB_BLOCK_RESET (R353): The RST_BLOCK1 FAB bit resets traverse state, windows and fabric time. -/
  | fabBlockReset (path : Path)
  /-- COL_BLOCK_RESET (R353): The RST_BLOCK1 COL bit resets the collective engine's running state. -/
  | colBlockReset (path : Path)
  /-- BLOCK_RESET_RELEASE (R353): A block's reset is released by 10 µs after its write, and the bit reads 0. -/
  | blockResetRelease (k : Fin 40)
  /-- UNDERWAY (R366): PWR_CMD with TARGET Underway wakes the device from Moored or Laid-up. -/
  | underway (path : Path)
  /-- MOORED (R358): PWR_CMD with TARGET Moored starts the entry handshake toward Moored. -/
  | moored (path : Path)
  /-- LAID_UP (R358): PWR_CMD with TARGET Laid-up starts the entry handshake toward Laid-up. -/
  | laidUp (path : Path)
  /-- OFF (R358): PWR_CMD with TARGET Off starts the entry handshake toward Off. -/
  | pwrOff (path : Path)
  /-- ENTRY_ANSWER (R359): A block answers the entry request with GRANT, BUSY or REFUSE. -/
  | entryAnswer (block : Fin 11) (n : Parcel) (transfer : Bool)
  /-- ENTRY_REASK (R359): Every 10 µs the controller asks a BUSY block again. -/
  | entryReask (n : Parcel)
  /-- ENTRY_TIMEOUT (R359): PWR_ENTRY_LIMIT passes without every grant, so the entry is abandoned. -/
  | entryTimeout
  /-- ENTRY_COMMIT (R361): The last grant arrives and the controller commits the entry, writing the save image or stopping clocks. -/
  | entryCommit
  /-- WAKE_EVENT (R365): A doorbell, fabric packet or management wake for a powered-down parcel wakes the device or abandons an entry. -/
  | wakeEvent (cause : Fin 5) (n : Parcel)
  /-- WAKE_STEP (R366): Each step of the wake from Laid-up starts when the previous step's ready signal arrives. -/
  | wakeStep (imageOk : Bool)
  /-- PAD_RELEASE (R367): PWR_PAD_RELEASE.GO releases the latched pads, and the stacks leave self-refresh. -/
  | padRelease (path : Path) (value : Word)
  /-- PARCEL_DOWN_ACCESS (R364): An access to a powered-down parcel's registers reads 0, drops writes and is counted. -/
  | parcelDownAccess (path : Path) (off : Nat) (isRead : Bool)
  /-- SOURCE_EVENT (R372): An event on a fault input is latched, classed, logged and reacted to by its severity. -/
  | sourceEvent (inputs : List FaultInput)
  /-- COUNT_WINDOW_EXPIRY (R374): WINDOW_MS passes since a count-mode window opened, so WIN_COUNT returns to 0. -/
  | countWindowExpiry (src : Nat)
  /-- GRACE_EXPIRY (R377): A major source's grace timer expires, so it escalates and the device enters the safe state. -/
  | graceExpiry (src : Nat)
  /-- STATUS_CLEAR (R378): A write of 1 to an FCU_STAT bit clears it when the condition has gone. -/
  | statusClear (path : Path) (w : Fin 4) (mask : Word)
  /-- FCU_FORCE_SAFE (R381): FCU_FORCE_SAFE.GO enters the safe state with cause 0x7D. -/
  | fcuForceSafe (path : Path) (value : Word)
  /-- COLLECTOR_SELF_FAULT (R384): A shadow mismatch or parity error in the collector enters the safe state with cause 0x7F. -/
  | collectorSelfFault
  /-- FAULT_ESC (R383): ESC_RESET_MS passes in the safe state, so a device reset with cause FAULT_ESC is asserted. -/
  | faultEsc
  /-- FCU_CFG_WRITE (R383): A write of ESC_RESET_MS in the safe state re-arms or cancels the escalation reset. -/
  | fcuCfgWrite (path : Path) (value : Word)
  /-- FAULT_PULSE_END (R380): A G4-mode FAULT_N pulse ends and the pin takes SW_LEVEL, or the next pulse follows. -/
  | faultPulseEnd
  /-- FCU_LOG_POP (R387): A write to FCU_LOG_POP removes the oldest log records. -/
  | fcuLogPop (path : Path) (value : Word)
  /-- FCU_FIRST_CLR (R390): A write to FCU_FIRST_CLR clears the first-fault record. -/
  | fcuFirstClr (path : Path) (value : Word)
  /-- BELL_RING (R391): A hart writes its REC_BELL bit, which arms or restarts its bell. -/
  | bellRing (path : Path) (n : Parcel) (value : Word)
  /-- BELL_EXPIRY (R392): A bell goes 10 ms without a ring, so its event is raised and the parcel casts off, resets or waits. -/
  | bellExpiry (n : Parcel) (runs : List (Option Nat))
  /-- PARCEL_FENCE (R393): REC_PARCEL_CMD FENCE fences a parcel, which stays FENCED. -/
  | parcelFence (path : Path) (n : Parcel)
  /-- PARCEL_RESET (R393): REC_PARCEL_CMD RESET fences a parcel and resets it. -/
  | parcelReset (path : Path) (n : Parcel)
  /-- FENCE_COMPLETE (R394): The parcel's running parts have ended, so it becomes FENCED and its reset is asserted where required. -/
  | fenceComplete (n : Parcel)
  /-- PARCEL_RESET_RELEASE (R394): The parcel's reset is released and it enters RETURNING. -/
  | parcelResetRelease (n : Parcel)
  /-- SEQ_IMAGE_RELOAD (R419): The management core reloads the verified sequencer copy into a returning parcel. -/
  | seqImageReload (n : Parcel)
  /-- PARCEL_BENCH_DONE (R423): A returning parcel's benchmark run ends, so it enters SERVICE or REPLACE. -/
  | parcelBenchDone (n : Parcel) (found : BenchRun)
  /-- ARM_ACTIVE (R399): REC_RLF_CMD ARM_ACTIVE sends a BEACON and arms the active binding on acknowledgement. -/
  | armActive (path : Path)
  /-- ARM_ACTIVE_TIMEOUT (R399): No BEACON acknowledgement arrives within 10 ms, so ARM_ACTIVE is refused. -/
  | armActiveTimeout (b : Fin 16)
  /-- ARM_RELIEF (R399): REC_RLF_CMD ARM_RELIEF arms a relief binding with a new BGEN. -/
  | armRelief (path : Path)
  /-- DISARM (R399): REC_RLF_CMD DISARM returns a binding to FREE. -/
  | disarm (path : Path)
  /-- CASTOFF (R404): REC_RLF_CMD CASTOFF casts off the active side with cause COMMAND. -/
  | castoff (path : Path)
  /-- SURVEY (R410): REC_RLF_CMD SURVEY runs the relief survey on an armed relief binding. -/
  | survey (path : Path)
  /-- SURVEY_DONE (R410): The relief survey finishes and its result is written to REC_RLF_SURVEY. -/
  | surveyDone (b : Fin 16) (engines : Bool) (terrs : List WordErr) (paths : Bool)
  /-- TOKEN (R403): A journal TOKEN record is accepted and its tokens written into the relief's pacing area. -/
  | tokenRecord (p : Packet)
  /-- KV (R403): A journal KV record is accepted and its frame lines written to the relief's near-tier mirror. -/
  | kvRecord (p : Packet)
  /-- BEACON (R402): A BEACON journal record reports the active parcel's state to the relief. -/
  | beaconRecord (p : Packet)
  /-- BEACON_SEND (R402): Every 1 ms REC sends a BEACON for each active parcel. -/
  | beaconSend (b : Fin 16)
  /-- JOURNAL_ACK (R402): A journal ACK frees records, confirms tokens and releases a member's apply acknowledgement. -/
  | journalAck (p : Packet)
  /-- JOURNAL_RESEND (R402): 100 µs pass without journal progress, so the unacknowledged records are resent. -/
  | journalResend (b : Fin 16) (n : Parcel)
  /-- RELIEF_LOST (R403): An active binding has unacknowledged records for SILENCE_MS, so it becomes RELIEF_LOST. -/
  | reliefLost (b : Fin 16)
  /-- SILENCE (R404): The relief hears nothing from the paired active parcels for SILENCE_MS and starts a takeover. -/
  | silence (b : Fin 16)
  /-- CASTOFF_RECEIVE (R405): A CASTOFF packet with current BGEN and job tag starts a takeover at the relief. -/
  | castoffReceive (p : Packet)
  /-- FENCE_ORDER (R407): A FENCE_ORDER fences the old active parcels into CAST and is answered FENCE_ACK. -/
  | fenceOrder (p : Packet)
  /-- FENCE_ACK (R405): A FENCE_ACK from the old active side arrives at the relief. -/
  | fenceAck (p : Packet)
  /-- FENCE_WAIT_EXPIRY (R405): FENCE_WAIT_MS passes during a takeover, ending step 2 or failing the wait for TAKEN_ACK. -/
  | fenceWaitExpiry (b : Fin 16)
  /-- TAKEN (R405): The request home receives TAKEN, raises the generation, drops the failed members and answers TAKEN_ACK. -/
  | taken (p : Packet)
  /-- TAKEN_ACK (R405): TAKEN_ACK arrives at the relief, which then starts the takeover context. -/
  | takenAck (p : Packet)
  /-- TAKEOVER_DONE (R405): The takeover mark reaches its value, so the binding becomes TAKEN. -/
  | takeoverDone (b : Fin 16)
  /-- CHAIN_TIMEOUT (R405): CHAIN_MS passes before the takeover mark is reached, so the takeover fails. -/
  | chainTimeout (b : Fin 16)
  /-- TRAIN (R416): BRU command TRAIN trains every near-tier stack and starts the link wait. -/
  | bruTrain (path : Path)
  /-- STACK_TRAIN_DONE (R416): A stack finishes identification, repair and training, and its parcels' near tier becomes ready. -/
  | stackTrainDone (stack : Fin 12) (supported : Bool) (tempC : Byte) (margins : Vector (Option Byte) 32)
  /-- LINK_WAIT_EXPIRY (R417): LINK_WAIT_MS passes or every expected port is ADMITTED, so the link phase ends. -/
  | linkWaitExpiry
  /-- LOAD (R418): BRU command LOAD verifies the sequencer image and broadcasts it to the parcels. -/
  | bruLoad (path : Path) (mask bad : BitVec 12)
  /-- BENCH (R421): BRU command BENCH runs the benchmark run on the named parcels and the device checks. -/
  | bruBench (path : Path) (mask : BitVec 12)
  /-- BENCH_RUN_DONE (R423): A BENCH ends; the losses are written to the field plan and the parcels move to SERVICE or FENCED. -/
  | benchRunDone (found : Vector BenchRun 12) (colOk : Bool) (loopFail : BitVec 20)
  /-- COMPUTE_RESET (R424): BRU command COMPUTE_RESET resets the named parcels at once. -/
  | computeReset (path : Path) (mask : BitVec 12)
  /-- FP_RESTORE (R420): BRU command FP_RESTORE rewrites the field plan as all-good. -/
  | fpRestore (path : Path)
  /-- PWR_FAIL (R466): PWR_FAIL_N falls; the NV write hold begins, a severe event enters the safe state, and active bindings cast off. -/
  | pwrFail
  /-- PWR_FAIL_RISE (R432): PWR_FAIL_N rises while power holds, so PF_HOLD clears and the waiting writes proceed. -/
  | pwrFailRise
  /-- COMPACT (R439): NVS_CMD.COMPACT, or a shortage of free pages, copies the live records into the other region. -/
  | compact (path : Path)
  /-- COMPACTION_DONE (R439): The other region's header is written and that region comes into force. -/
  | compactionDone
  /-- BEGIN (R443): FWU command BEGIN starts an update session for one kind. -/
  | fwuBegin (path : Path) (kind : Fin 8)
  /-- BLOCK (R444): FWU command BLOCK reads a 64 KiB unit from host memory and programs it into staging. -/
  | fwuBlock (path : Path)
  /-- VERIFY (R445): FWU command VERIFY checks the staged package and writes the target slot. -/
  | fwuVerify (path : Path) (norOk : Bool)
  /-- ACTIVATE (R447): FWU command ACTIVATE activates the verified image now or schedules it. -/
  | fwuActivate (path : Path) (resetOnAct : Bool)
  /-- FWU_ABORT (R443): FWU command ABORT stops the session and returns it to IDLE. -/
  | fwuAbort (path : Path)
  /-- SWITCH (R448): FWU command SWITCH makes the kind's other slot active. -/
  | fwuSwitch (path : Path) (kind : Fin 8)
  /-- SCHEDULED_ACTIVATION (R447): FAB_TIME reaches FWU_ACT_TIME, so the scheduled activation runs. -/
  | scheduledActivation
  /-- FWU_CONFIRM (R450): The management core confirms its boot, which clears BOOTS and TRIAL. -/
  | fwuConfirm (path : Path) (value : Word)
  /-- ENTDAA (R455): The I3C controller assigns the port's dynamic address. -/
  | entdaa (addr : BitVec 7)
  /-- RSTDAA (R455): The I3C controller withdraws the dynamic address. -/
  | rstdaa
  /-- SET_ENDPOINT_ID (R456): MCTP Set Endpoint ID sets the device's Endpoint ID. -/
  | setEndpointId (tr : Transport) (eid : BitVec 8)
  /-- MCTP_REASSEMBLY_TIMEOUT (R456): A message still incomplete 100 ms after its first packet is discarded and counted. -/
  | mctpReassemblyTimeout (tr : Transport)
  /-- GET_TID (R458): PLDM GetTID returns the terminus ID. -/
  | getTid (tr : Transport)
  /-- SET_TID (R458): PLDM SetTID sets the terminus ID. -/
  | setTid (tr : Transport) (tid : BitVec 8)
  /-- GET_PLDM_VERSION (R458): PLDM GetPLDMVersion returns the supported version. -/
  | getPldmVersion (tr : Transport) (typ : BitVec 8)
  /-- GET_PLDM_TYPES (R458): PLDM GetPLDMTypes returns the supported types. -/
  | getPldmTypes (tr : Transport)
  /-- GET_PLDM_COMMANDS (R458): PLDM GetPLDMCommands returns the supported commands. -/
  | getPldmCommands (tr : Transport) (typ : BitVec 8)
  /-- GET_PDR_REPOSITORY_INFO (R458): PLDM GetPDRRepositoryInfo describes the PDR repository. -/
  | getPdrRepositoryInfo (tr : Transport)
  /-- GET_PDR (R458): PLDM GetPDR returns a PDR. -/
  | getPdr (tr : Transport) (record : BitVec 32)
  /-- GET_SENSOR_READING (R462): PLDM GetSensorReading returns a numeric sensor image. -/
  | getSensorReading (tr : Transport) (sensor : Sensor)
  /-- GET_STATE_SENSOR_READINGS (R462): PLDM GetStateSensorReadings returns state sensor images. -/
  | getStateSensorReadings (tr : Transport) (sensor : Sensor)
  /-- GET_NUMERIC_EFFECTER_VALUE (R458): PLDM GetNumericEffecterValue returns a numeric effecter value. -/
  | getNumericEffecterValue (tr : Transport) (id : BitVec 16)
  /-- GET_STATE_EFFECTER_STATES (R458): PLDM GetStateEffecterStates returns the state effecter states. -/
  | getStateEffecterStates (tr : Transport) (id : BitVec 16)
  /-- SET_EVENT_RECEIVER (R465): PLDM SetEventReceiver names the tray manager as the event receiver. -/
  | setEventReceiver (tr : Transport) (eid : BitVec 8)
  /-- POLL_FOR_PLATFORM_EVENT_MESSAGE (R463): PLDM PollForPlatformEventMessage returns the oldest queued event or the newest forecast. -/
  | pollForPlatformEventMessage (tr : Transport) (ack : Bool)
  /-- BUDGET (R461): Effecter 1 sets TOL_TRAY_BUDGET. -/
  | budget (tr : Transport) (value : BitVec 32)
  /-- COOLANT_INLET (R461): Effecter 2 sets TOL_COOLANT_IN and resets its age. -/
  | coolantInlet (tr : Transport) (value : BitVec 32)
  /-- COOLANT_OUTLET (R461): Effecter 3 sets TOL_COOLANT_OUT. -/
  | coolantOutlet (tr : Transport) (value : BitVec 32)
  /-- COOLANT_FLOW (R461): Effecter 4 sets TOL_COOLANT_FLOW. -/
  | coolantFlow (tr : Transport) (value : BitVec 32)
  /-- BACKUP_ENERGY_STORE (R461): Effecter 5 reports the backup energy store as NORMAL or LOW. -/
  | backupEnergyStore (tr : Transport) (value : BitVec 8)
  /-- LEAK (R466): Effecter 6 written as LEAK raises a severe event and enters the safe state. -/
  | leak (tr : Transport) (value : BitVec 8)
  /-- PREPARE_SWAP (R468): Effecter 7 written as PREPARE_SWAP sets SWAP_REQ and queues SWAP_ACK. -/
  | prepareSwap (tr : Transport)
  /-- SWAP_CANCEL (R468): Effecter 7 written as CANCEL clears SWAP_REQ and queues SWAP_ACK. -/
  | swapCancel (tr : Transport) (value : BitVec 8)
  /-- WAKE (R461): Effecter 8 written as WAKE is the management wake command. -/
  | mgpWake (tr : Transport) (value : BitVec 8)
  /-- MGMT_CMD (R344): Effecter 8 written as DEVICE_RESET asserts a device reset after the response is sent. -/
  | mgmtCmd (tr : Transport)
  /-- QUERY_DEVICE_IDENTIFIERS (R458): PLDM QueryDeviceIdentifiers returns the device identifiers. -/
  | queryDeviceIdentifiers (tr : Transport)
  /-- GET_FIRMWARE_PARAMETERS (R458): PLDM GetFirmwareParameters returns the firmware parameters. -/
  | getFirmwareParameters (tr : Transport)
  /-- REQUEST_UPDATE (R459): PLDM RequestUpdate starts an update, and is refused unless the session is IDLE. -/
  | requestUpdate (tr : Transport)
  /-- PASS_COMPONENT_TABLE (R458): PLDM PassComponentTable passes the component table. -/
  | passComponentTable (tr : Transport) (last : Bool)
  /-- UPDATE_COMPONENT (R459): PLDM UpdateComponent acts as BEGIN for the named kind. -/
  | updateComponent (tr : Transport) (component : BitVec 16) (size : BitVec 32)
  /-- REQUEST_FIRMWARE_DATA (R459): A RequestFirmwareData reply adds 1,024 B to a staging unit, and a full unit is processed as a BLOCK. -/
  | requestFirmwareData (cc : BitVec 8) (bytes : List Byte)
  /-- TRANSFER_COMPLETE (R459): PLDM TransferComplete follows the last unit. -/
  | transferComplete
  /-- VERIFY_COMPLETE (R459): PLDM VerifyComplete reports the outcome of VERIFY. -/
  | verifyComplete (norOk : Bool)
  /-- APPLY_COMPLETE (R459): PLDM ApplyComplete follows READY. -/
  | applyComplete
  /-- ACTIVATE_FIRMWARE (R459): PLDM ActivateFirmware acts as an immediate ACTIVATE. -/
  | activateFirmware (tr : Transport)
  /-- GET_STATUS (R458): PLDM GetStatus returns the update status. -/
  | getStatus (tr : Transport)
  /-- CANCEL_UPDATE_COMPONENT (R458): PLDM CancelUpdateComponent cancels the current component. -/
  | cancelUpdateComponent (tr : Transport)
  /-- CANCEL_UPDATE (R459): PLDM CancelUpdate acts as FWU ABORT. -/
  | cancelUpdate (tr : Transport)
  /-- GET_VERSION (R460): SPDM GET_VERSION returns the version and restarts SPDM state. -/
  | getVersion (tr : Transport)
  /-- GET_CAPABILITIES (R460): SPDM GET_CAPABILITIES returns the capabilities. -/
  | getCapabilities (tr : Transport)
  /-- NEGOTIATE_ALGORITHMS (R460): SPDM NEGOTIATE_ALGORITHMS selects P-384 and SHA-384. -/
  | negotiateAlgorithms (tr : Transport) (p384 sha384 : Bool)
  /-- GET_DIGESTS (R460): SPDM GET_DIGESTS returns the certificate chain digest. -/
  | getDigests (tr : Transport)
  /-- GET_CERTIFICATE (R460): SPDM GET_CERTIFICATE returns the slot 0 chain. -/
  | getCertificate (tr : Transport) (slot : BitVec 8) (off len : BitVec 16)
  /-- CHALLENGE (R460): SPDM CHALLENGE returns a signed challenge response. -/
  | challenge (tr : Transport) (slot : BitVec 8) (nonce : List Byte)
  /-- GET_MEASUREMENTS (R460): SPDM GET_MEASUREMENTS returns the signed measurements. -/
  | getMeasurements (tr : Transport) (index : BitVec 8) (sign : Bool) (nonce : List Byte)
  /-- REG_READ (R458): Vendor REG_READ reads one BAR0 word, checked as REG_ACCESS. -/
  | regRead (tr : Transport) (off : BitVec 32)
  /-- REG_WRITE (R458): Vendor REG_WRITE writes one BAR0 word, checked as REG_ACCESS. -/
  | regWrite (tr : Transport) (off value : Word)
  /-- IBI_RETRY (R464): Every 10 ms while the event queue stays non-empty and unacknowledged, the IBI is raised again. -/
  | ibiRetry
  /-- TRAY_ABSENT (R465): MGP_TRAY_AGE reaches ABSENT_MS, so the tray manager is absent and an event is raised. -/
  | trayAbsent
  /-- BACKUP_STALE (R446): The backup report is more than 2,000 ms old, so the backup state becomes unknown. -/
  | backupStale
  /-- IDCODE (R484): JTAG IDCODE returns the device IDCODE. -/
  | idcode
  /-- BYPASS (R484): JTAG BYPASS selects the bypass register. -/
  | bypass (tdi : List Bool)
  /-- SAMPLE_PRELOAD (R484): JTAG SAMPLE/PRELOAD samples or preloads the boundary scan. -/
  | samplePreload (pins tdi : List Bool)
  /-- EXTEST (R484): JTAG EXTEST drives the pins only while the device is held in reset, and acts as BYPASS otherwise. -/
  | extest (pins tdi : List Bool)
  /-- LANE_RETRAIN_START (R265): A fabric port whose lane is due, including one due again after its 1 s back-off, starts the retrain by sending RETRAIN_REQ once fewer than two ports of the device are retraining. -/
  | laneRetrainStart (p : Port)
  /-- ETH_LINK_UP (R230): An Ethernet port completes auto-negotiation and link training, and LINK_UP becomes 1. -/
  | ethLinkUp (e : Fin 2)
  /-- HOST_LINK_TRAINING (R206): The host PCIe link trains to a width and speed, or forms only below x8 and is held in Detect with an event on source 56. -/
  | hostLinkTraining (width speed : Nat) (flit : Bool)
  /-- AER_UNCORRECTABLE (R206): The host port detects an uncorrectable PCIe error under AER and raises an event on fault source 56. -/
  | aerUncorrectable
  /-- CXL_LINK_RETRAIN (R202): A CXL port whose link is DOWN attempts to retrain at most every 100 ms, and returns to UP when the link trains. -/
  | cxlLinkRetrain (q : Fin 4) (ok : Bool) (wide : Bool) (fast : Bool)
  /-- FT_PORT_RTT_UPDATE (R205): Every 10 ms each CXL port measures its read round trip into FT_PORT_RTT. -/
  | ftPortRttUpdate (q : Fin 4) (ns : BitVec 16)
  /-- TRAVERSE_PEER_ABSENT (R274): 2 ms after a peer's link leaves UP during a traverse, the port is marked ABSENT and drops out of the flood. -/
  | traversePeerAbsent (p : Port)
  /-- TARGET_RESET_ACTION (R455): An I3C target reset action makes the management port give up its dynamic address. -/
  | targetResetAction
  /-- UNSUPPORTED_COMMAND (R458): A management message that carries a command outside Table 2, or a non-permitted one over PCIe VDM, is refused under its specification or dropped. -/
  | unsupportedCommand (tr : Transport) (msgType typ cmd : BitVec 8)
  /-- RESET_DEASSERTED (R351): The last asserted reset source goes away (PERST_N or SYS_RESET_N rises, or VDD_AON has been above 0.76 V for 2 ms), so release may begin at step 1 of Table 5. -/
  | resetDeasserted (source : Fin 4)
  deriving DecidableEq, Repr

end Sys2Proof
end

