-- ==== Sys2Proof/Config.lean ====
section
/-! DEFINITION. The values the spec leaves open: constants with no body, so that nothing can evaluate one of them or
prove a value of it. Each is named in a row of the assumption log. -/

namespace Sys2Proof.Config

/-- A fresh free value: what the machine produces where the spec states no value. The argument is the state's counter
`freeCtr`, read and advanced by the step that needs the value (log entry 4). -/
opaque freeNat : Nat → Nat

/-- Which of the FP32 values inside the error bound of R117 a transcendental function of the vector units returns:
the function's number, its operand's bits, and how many candidates there are (log entry 5). -/
opaque ulpChoice : Nat → Nat → Nat → Nat

/-- The bytes of a signature, certificate, nonce or digest that the spec does not spell out: what it is for, and the
bytes it is made over (log entry 6). -/
opaque crypto : Nat → List (BitVec 8) → List (BitVec 8)

/-- The result of a check of a signature or certificate over the given bytes (log entry 6). -/
opaque cryptoOk : Nat → List (BitVec 8) → Bool

/-- The time, in CCLK, that the sequencer takes for a COPY of so many bytes at the host port's or a CXL port's rate: the
spec gives no figure (Table 13 of 04_operators_and_tiles; log entry 9). -/
opaque portCclk : Nat → Nat

/-- The data of a management message that only the cited DMTF specification fixes: which data (1 the PLDM base version,
2 the PDR repository's description, 3 a PDR, 4 the device identifiers, 10 SPDM versions, 11 SPDM capabilities, 12 SPDM
algorithms), and its argument (log entry 10). -/
opaque reply : Nat → Nat → List (BitVec 8)

/-- The record handle of the PDR that describes a tray effecter (log entry 10). -/
opaque pdrHandle : Nat → Nat

end Sys2Proof.Config
end

