-- ==== Sys2Proof/Machine/Bits.lean ====
section
/-! DEFINITION. Bit fields of numbers, little-endian bytes, sign extension, canonical sparse stores, and the status
codes of R12. Everything a meaning uses to take words apart and put them together. -/

namespace Sys2Proof.Machine

/-! ## Bit fields of natural numbers -/

/-- Bits hi down to lo of v. -/
def bitsOf (v hi lo : Nat) : Nat := v / 2 ^ lo % 2 ^ (hi + 1 - lo)

/-- Bit i of v, as a truth value. -/
def bitAt (v i : Nat) : Bool := v / 2 ^ i % 2 == 1

/-- v with bits hi down to lo replaced by x. -/
def setBitsOf (v hi lo x : Nat) : Nat :=
  v / 2 ^ (hi + 1) * 2 ^ (hi + 1) + x % 2 ^ (hi + 1 - lo) * 2 ^ lo + v % 2 ^ lo

/-- 1 for true, 0 for false. -/
def b2n (b : Bool) : Nat := if b then 1 else 0

/-- The numbers of the set bits of v below n, ascending. -/
def setBits (v n : Nat) : List Nat := (List.range n).filter (bitAt v)

/-- The word whose set bits are the members of the list. -/
def maskOf (l : List Nat) : Nat := l.foldl (fun m i => if bitAt m i then m else m + 2 ^ i) 0

/-- How many bits of v below n are set. -/
def popcount (v n : Nat) : Nat := (setBits v n).length

/-- v read as a signed number of w bits. -/
def toSigned (w v : Nat) : Int :=
  if v % 2 ^ w < 2 ^ (w - 1) then (v % 2 ^ w : Nat) else ((v % 2 ^ w : Nat) : Int) - (2 ^ w : Nat)

/-- The w-bit image of an integer. -/
def ofSigned (w : Nat) (i : Int) : Nat := (i % (2 ^ w : Nat)).toNat

/-- Rounded-up quotient. -/
def ceilDiv (a b : Nat) : Nat := (a + b - 1) / b

/-- (i32)(a - b), modulo 2^32 (R80). -/
def i32Diff (a b : Nat) : Int := toSigned 32 (a + 2 ^ 32 - b % 2 ^ 32)

/-! ## Bytes, little-endian (R9) -/

/-- The n bytes of v, least significant first. -/
def leBytes : Nat → Nat → List Byte
  | 0, _ => []
  | n + 1, v => BitVec.ofNat 8 v :: leBytes n (v / 256)

/-- The number a byte list spells, least significant byte first. -/
def leNat : List Byte → Nat
  | [] => 0
  | b :: r => b.toNat + 256 * leNat r

/-- The number a byte list spells, most significant byte first. -/
def beNat (l : List Byte) : Nat := leNat l.reverse

/-- The n bytes of v, most significant first. -/
def beBytes (n v : Nat) : List Byte := (leBytes n v).reverse

/-- n bytes of l from offset o, zero where l ends. -/
def sliceB (l : List Byte) (o n : Nat) : List Byte :=
  let t := (l.drop o).take n
  t ++ List.replicate (n - t.length) 0#8

/-- The little-endian number in n bytes of l from offset o. -/
def leAt (l : List Byte) (o n : Nat) : Nat := leNat (sliceB l o n)

/-- l cut into runs of n (n > 0). -/
def chunksAux {α : Type} (n : Nat) : Nat → List α → List (List α)
  | 0, _ => []
  | _ + 1, [] => []
  | f + 1, l => l.take n :: chunksAux n f (l.drop n)

/-- l cut into runs of n elements, the last one possibly shorter. -/
def chunks {α : Type} (n : Nat) (l : List α) : List (List α) := chunksAux n l.length l

/-! ## Sparse stores in canonical form: addresses strictly rising, no entry equal to its default -/

/-- A sparse map from addresses to words: the entries that differ from their default. -/
abbrev Store (w : Nat) := List (Nat × BitVec w)

/-- The value at an address: the entry, or the default. -/
def storeRead {w : Nat} (d : Nat → BitVec w) : Store w → Nat → BitVec w
  | [], a => d a
  | (k, v) :: r, a => if k = a then v else storeRead d r a

/-- Write a value: the entry is put in its place, or taken out when the value is the default. -/
def storeWrite {w : Nat} (d : Nat → BitVec w) : Store w → Nat → BitVec w → Store w
  | [], a, v => if v = d a then [] else [(a, v)]
  | (k, x) :: r, a, v =>
    if a < k then (if v = d a then (k, x) :: r else (a, v) :: (k, x) :: r)
    else if k = a then (if v = d a then r else (a, v) :: r)
    else (k, x) :: storeWrite d r a v

/-- The canonical form of a store. -/
def storeWf {w : Nat} (d : Nat → BitVec w) : Store w → Bool
  | [] => true
  | [(k, v)] => decide (v ≠ d k)
  | (k, v) :: (k', v') :: r => decide (v ≠ d k) && decide (k < k') && storeWf d ((k', v') :: r)

/-- The default of byte memories: an unlisted byte reads as zero (R35 for the hold; log entry 7 for the others). -/
def zeroByte (_ : Nat) : Byte := 0#8

/-- Read n bytes from a on. -/
def memRead (m : Store 8) (a n : Nat) : List Byte := (List.range n).map fun i => storeRead zeroByte m (a + i)

/-- Write a list of bytes from a on. -/
def memWrite (m : Store 8) : Nat → List Byte → Store 8
  | _, [] => m
  | a, b :: r => memWrite (storeWrite zeroByte m a b) (a + 1) r

/-- Set n bytes from a on to zero: the entries of the range are taken out. -/
def memClear (m : Store 8) (a n : Nat) : Store 8 := m.filter fun p => decide (p.1 < a ∨ a + n ≤ p.1)

/-! ## Maps and sets of plain data -/

/-- A map from numbers to records, in ascending order of its keys. -/
abbrev AMap (α : Type) := List (Nat × α)

/-- The record at a key. -/
def amGet {α : Type} : AMap α → Nat → Option α
  | [], _ => none
  | (k, v) :: r, a => if k = a then some v else amGet r a

/-- Put a record at a key. -/
def amSet {α : Type} : AMap α → Nat → α → AMap α
  | [], a, v => [(a, v)]
  | (k, x) :: r, a, v =>
    if a < k then (a, v) :: (k, x) :: r else if k = a then (a, v) :: r else (k, x) :: amSet r a v

/-- Take the record at a key out. -/
def amDel {α : Type} : AMap α → Nat → AMap α
  | [], _ => []
  | (k, x) :: r, a => if k = a then r else (k, x) :: amDel r a

/-- Put in or take out, as the value is present or absent. -/
def amPut {α : Type} (m : AMap α) (k : Nat) : Option α → AMap α
  | some v => amSet m k v
  | none => amDel m k

/-- Change every record of a map. -/
def amMap {α : Type} (f : Nat → α → α) (m : AMap α) : AMap α := m.map fun e => (e.1, f e.1 e.2)

/-- The record at a key changed by a function, where there is one. -/
def amUpd {α : Type} (m : AMap α) (k : Nat) (f : α → α) : AMap α :=
  m.map fun e => if e.1 = k then (e.1, f e.2) else e

/-- Put a number into an ascending list without repeats. -/
def setIns : List Nat → Nat → List Nat
  | [], a => [a]
  | k :: r, a => if a < k then a :: k :: r else if k = a then k :: r else k :: setIns r a

/-- Take a number out of a list. -/
def setDel (l : List Nat) (a : Nat) : List Nat := l.filter (fun x => !(x == a))

/-- Replace the element at index i, if there is one. -/
def listSet {α : Type} : List α → Nat → α → List α
  | [], _, _ => []
  | _ :: r, 0, v => v :: r
  | x :: r, i + 1, v => x :: listSet r i v

/-! ## Status codes (R12, Table 5) -/

namespace Status
def OK : Nat := 0x00
def ABORTED : Nat := 0x01
def FENCED : Nat := 0x02
def FUNCTION_DISABLED : Nat := 0x03
def BAD_DESCRIPTOR : Nat := 0x04
def ACCESS_VIOLATION : Nat := 0x05
def HOLD_UNCORRECTABLE : Nat := 0x06
def NEAR_UNCORRECTABLE : Nat := 0x07
def FAR_ERROR : Nat := 0x08
def UNREACHABLE : Nat := 0x09
def COLLECTIVE_TIMEOUT : Nat := 0x0A
def PEER_PROTOCOL : Nat := 0x0B
def SPECULATION_DISCARDED : Nat := 0x0C
def LEASE_DENIED : Nat := 0x0D
def PARTIAL : Nat := 0x0E
def TAKEN_OVER : Nat := 0x0F
def HANG : Nat := 0x10
end Status

/-- The status and part bitmap that R15 gives a record from the statuses of its parts in order: OK when no part
failed, the common status when every part failed alike, PARTIAL otherwise; bit i is 1 when part i failed. -/
def combineParts (l : List Nat) : Nat × Nat :=
  let failed := (List.range l.length).filter fun i => !(l.getD i 0 == Status.OK)
  let bm := maskOf failed
  match l with
  | [] => (Status.OK, 0)
  | x :: _ =>
    if failed.isEmpty then (Status.OK, 0)
    else if l.all (· == x) then (x, bm)
    else (Status.PARTIAL, bm)

end Sys2Proof.Machine
end

