-- ==== Sys2Proof/Machine/RegTable.lean ====
section
/-! DEFINITION. The register map of the spec, written out from its register tables (00 Table 3, R49, R69, R106,
R107, R128, R153, R183, R204, R205, R238-R240, R269, R292, R310, R335, R354, R371, R390, R411, R427, R453, R454,
R469): the BAR0 offset of every register (namespace Reg), the place of every field (namespace F), and for each
register what a write may reach: the masks of its access types and its reset value. -/

namespace Sys2Proof.Machine

/-- A field of a register: the BAR0 offset of the register and the field's highest and lowest bit. -/
structure Fld where
  off : Nat
  hi : Nat
  lo : Nat
  deriving DecidableEq, Repr

/-- One row of a register table: its offset in its block, how often it repeats and at what stride, the bits of each
access type of R9, whether its writes follow the RWL rule as a whole, whether each access path keeps its own copy
(R11), whether it is the low word of a 64-bit value, and its reset value. -/
structure RegRow where
  name : String
  off : Nat
  count : Nat
  stride : Nat
  rw : Nat
  rwl : Nat
  w1c : Nat
  w1s : Nat
  wo : Nat
  rwlRule : Bool
  perPath : Bool
  wide : Bool
  reset : Nat
  deriving DecidableEq, Repr

namespace Reg
/-- CAP_ID, R8. -/
def CAP_ID : Nat := 0x0
/-- CAP_VARIANT, R8. -/
def CAP_VARIANT : Nat := 0x4
/-- CAP_GRADE, R8. -/
def CAP_GRADE : Nat := 0x8
/-- CAP_PORTS, R8. -/
def CAP_PORTS : Nat := 0xC
/-- CAP_SERIAL_LO, R8. -/
def CAP_SERIAL_LO : Nat := 0x10
/-- CAP_SERIAL_HI, R8. -/
def CAP_SERIAL_HI : Nat := 0x14
/-- HLD_STATUS, R49. -/
def HLD_STATUS (n : Nat) : Nat := 0x1010000 + 0x100000 * n
/-- HLD_BANK_GOOD_LO, R49. -/
def HLD_BANK_GOOD_LO (n : Nat) : Nat := 0x1010008 + 0x100000 * n
/-- HLD_BANK_GOOD_HI, R49. -/
def HLD_BANK_GOOD_HI (n : Nat) : Nat := 0x101000C + 0x100000 * n
/-- HLD_ARB, R49. -/
def HLD_ARB (n : Nat) : Nat := 0x1010010 + 0x100000 * n
/-- HLD_SCRUB, R49. -/
def HLD_SCRUB (n : Nat) : Nat := 0x1010014 + 0x100000 * n
/-- HLD_SCRUB_PASS, R49. -/
def HLD_SCRUB_PASS (n : Nat) : Nat := 0x1010018 + 0x100000 * n
/-- HLD_CE_LIMIT, R49. -/
def HLD_CE_LIMIT (n : Nat) : Nat := 0x101001C + 0x100000 * n
/-- HLD_CE_COUNT, R49. -/
def HLD_CE_COUNT (n : Nat) : Nat := 0x1010020 + 0x100000 * n
/-- HLD_UE_COUNT, R49. -/
def HLD_UE_COUNT (n : Nat) : Nat := 0x1010024 + 0x100000 * n
/-- HLD_ERR_ADDR, R49. -/
def HLD_ERR_ADDR (n : Nat) : Nat := 0x1010028 + 0x100000 * n
/-- HLD_ERR_INFO, R49. -/
def HLD_ERR_INFO (n : Nat) : Nat := 0x101002C + 0x100000 * n
/-- HLD_EVENT, R49. -/
def HLD_EVENT (n : Nat) : Nat := 0x1010030 + 0x100000 * n
/-- HLD_ERR_CLR, R49. -/
def HLD_ERR_CLR (n : Nat) : Nat := 0x1010034 + 0x100000 * n
/-- HLD_PLOT_OWNER, R49. -/
def HLD_PLOT_OWNER (n p : Nat) : Nat := 0x1010100 + 0x100000 * n + 4 * p
/-- WDC_STATUS, R69. -/
def WDC_STATUS (n : Nat) : Nat := 0x1070000 + 0x100000 * n
/-- WDC_LIVE_TAG, R69. -/
def WDC_LIVE_TAG (n : Nat) : Nat := 0x1070004 + 0x100000 * n
/-- WDC_STAGE_TAG, R69. -/
def WDC_STAGE_TAG (n : Nat) : Nat := 0x1070008 + 0x100000 * n
/-- WDC_COMMIT, R69. -/
def WDC_COMMIT (n : Nat) : Nat := 0x107000C + 0x100000 * n
/-- WDC_EVENT, R69. -/
def WDC_EVENT (n : Nat) : Nat := 0x1070010 + 0x100000 * n
/-- WDC_ERR_INFO, R69. -/
def WDC_ERR_INFO (n : Nat) : Nat := 0x1070014 + 0x100000 * n
/-- WDC_ERR_ADDR, R69. -/
def WDC_ERR_ADDR (n : Nat) : Nat := 0x1070018 + 0x100000 * n
/-- WDC_ERR_CLR, R69. -/
def WDC_ERR_CLR (n : Nat) : Nat := 0x107001C + 0x100000 * n
/-- WDC_ELEMS_LO, R69. -/
def WDC_ELEMS_LO (n : Nat) : Nat := 0x1070020 + 0x100000 * n
/-- WDC_ELEMS_HI, R69. -/
def WDC_ELEMS_HI (n : Nat) : Nat := 0x1070024 + 0x100000 * n
/-- WDC_STAGE_TABLE_LO, R69. -/
def WDC_STAGE_TABLE_LO (n t : Nat) : Nat := 0x1070100 + 0x100000 * n + 8 * t
/-- WDC_STAGE_TABLE_HI, R69. -/
def WDC_STAGE_TABLE_HI (n t : Nat) : Nat := 0x1070104 + 0x100000 * n + 8 * t
/-- WDC_LIVE_TABLE_LO, R69. -/
def WDC_LIVE_TABLE_LO (n t : Nat) : Nat := 0x1070180 + 0x100000 * n + 8 * t
/-- WDC_LIVE_TABLE_HI, R69. -/
def WDC_LIVE_TABLE_HI (n t : Nat) : Nat := 0x1070184 + 0x100000 * n + 8 * t
/-- MT_STATUS, R106. -/
def MT_STATUS (n : Nat) : Nat := 0x1020000 + 0x100000 * n
/-- MT_TILE_GOOD_LO, R106. -/
def MT_TILE_GOOD_LO (n : Nat) : Nat := 0x1020008 + 0x100000 * n
/-- MT_TILE_GOOD_HI, R106. -/
def MT_TILE_GOOD_HI (n : Nat) : Nat := 0x102000C + 0x100000 * n
/-- MT_TILE_WITHDRAWN_LO, R106. -/
def MT_TILE_WITHDRAWN_LO (n : Nat) : Nat := 0x1020010 + 0x100000 * n
/-- MT_TILE_WITHDRAWN_HI, R106. -/
def MT_TILE_WITHDRAWN_HI (n : Nat) : Nat := 0x1020014 + 0x100000 * n
/-- MT_ERR_INFO, R106. -/
def MT_ERR_INFO (n : Nat) : Nat := 0x1020018 + 0x100000 * n
/-- MT_ERR_CLR, R106. -/
def MT_ERR_CLR (n : Nat) : Nat := 0x102001C + 0x100000 * n
/-- MT_BLOCKS_LO, R106. -/
def MT_BLOCKS_LO (n : Nat) : Nat := 0x1020020 + 0x100000 * n
/-- MT_BLOCKS_HI, R106. -/
def MT_BLOCKS_HI (n : Nat) : Nat := 0x1020024 + 0x100000 * n
/-- MT_ROWBLK_LO, R106. -/
def MT_ROWBLK_LO (n : Nat) : Nat := 0x1020028 + 0x100000 * n
/-- MT_ROWBLK_HI, R106. -/
def MT_ROWBLK_HI (n : Nat) : Nat := 0x102002C + 0x100000 * n
/-- SEQ_MARK_SEL, R107. -/
def SEQ_MARK_SEL (n : Nat) : Nat := 0x1000400 + 0x100000 * n
/-- SEQ_MARK_VALUE, R107. -/
def SEQ_MARK_VALUE (n : Nat) : Nat := 0x1000404 + 0x100000 * n
/-- SEQ_MARK_FLAGS, R107. -/
def SEQ_MARK_FLAGS (n : Nat) : Nat := 0x1000408 + 0x100000 * n
/-- SEQ_ADMIT_EVENT, R107. -/
def SEQ_ADMIT_EVENT (n : Nat) : Nat := 0x100040C + 0x100000 * n
/-- SEQ_CLASS_RAISED_COUNT, R107. -/
def SEQ_CLASS_RAISED_COUNT (n : Nat) : Nat := 0x1000410 + 0x100000 * n
/-- SEQ_INFLIGHT, R107. -/
def SEQ_INFLIGHT (n : Nat) : Nat := 0x1000414 + 0x100000 * n
/-- VU_STATUS, R128. -/
def VU_STATUS (n : Nat) : Nat := 0x1030000 + 0x100000 * n
/-- VU_WITHDRAWN, R128. -/
def VU_WITHDRAWN (n : Nat) : Nat := 0x1030004 + 0x100000 * n
/-- VU_SLOT_FREE, R128. -/
def VU_SLOT_FREE (n : Nat) : Nat := 0x1030008 + 0x100000 * n
/-- VU_ERR_INFO, R128. -/
def VU_ERR_INFO (n : Nat) : Nat := 0x1030010 + 0x100000 * n
/-- VU_ERR_CODE, R128. -/
def VU_ERR_CODE (n : Nat) : Nat := 0x1030014 + 0x100000 * n
/-- VU_ERR_CLR, R128. -/
def VU_ERR_CLR (n : Nat) : Nat := 0x1030018 + 0x100000 * n
/-- VU_CE_COUNT, R128. -/
def VU_CE_COUNT (n : Nat) : Nat := 0x103001C + 0x100000 * n
/-- VU_LANEOPS_LO, R128. -/
def VU_LANEOPS_LO (n : Nat) : Nat := 0x1030020 + 0x100000 * n
/-- VU_LANEOPS_HI, R128. -/
def VU_LANEOPS_HI (n : Nat) : Nat := 0x1030024 + 0x100000 * n
/-- VU_SLOT, R128. -/
def VU_SLOT (n s : Nat) : Nat := 0x1030100 + 0x100000 * n + 8 * s
/-- VU_SLOT_WORDS, R128. -/
def VU_SLOT_WORDS (n s : Nat) : Nat := 0x1030104 + 0x100000 * n + 8 * s
/-- KVP_STATUS, R153. -/
def KVP_STATUS (n : Nat) : Nat := 0x1040000 + 0x100000 * n
/-- KVP_EVENT, R153. -/
def KVP_EVENT (n : Nat) : Nat := 0x1040004 + 0x100000 * n
/-- KVP_ERR_INFO, R153. -/
def KVP_ERR_INFO (n : Nat) : Nat := 0x1040008 + 0x100000 * n
/-- KVP_ERR_PAGE, R153. -/
def KVP_ERR_PAGE (n : Nat) : Nat := 0x104000C + 0x100000 * n
/-- KVP_ERR_ADDR, R153. -/
def KVP_ERR_ADDR (n : Nat) : Nat := 0x1040010 + 0x100000 * n
/-- KVP_ERR_CLR, R153. -/
def KVP_ERR_CLR (n : Nat) : Nat := 0x1040014 + 0x100000 * n
/-- KVP_DOTS_LO, R153. -/
def KVP_DOTS_LO (n : Nat) : Nat := 0x1040018 + 0x100000 * n
/-- KVP_DOTS_HI, R153. -/
def KVP_DOTS_HI (n : Nat) : Nat := 0x104001C + 0x100000 * n
/-- KVP_FETCH_NEAR_LO, R153. -/
def KVP_FETCH_NEAR_LO (n : Nat) : Nat := 0x1040020 + 0x100000 * n
/-- KVP_FETCH_NEAR_HI, R153. -/
def KVP_FETCH_NEAR_HI (n : Nat) : Nat := 0x1040024 + 0x100000 * n
/-- KVP_FETCH_FAR_LO, R153. -/
def KVP_FETCH_FAR_LO (n : Nat) : Nat := 0x1040028 + 0x100000 * n
/-- KVP_FETCH_FAR_HI, R153. -/
def KVP_FETCH_FAR_HI (n : Nat) : Nat := 0x104002C + 0x100000 * n
/-- KVP_SKIP_COUNT, R153. -/
def KVP_SKIP_COUNT (n : Nat) : Nat := 0x1040030 + 0x100000 * n
/-- KVP_POISON_COUNT, R153. -/
def KVP_POISON_COUNT (n : Nat) : Nat := 0x1040034 + 0x100000 * n
/-- GWY_STATUS, R183. -/
def GWY_STATUS (n : Nat) : Nat := 0x1050000 + 0x100000 * n
/-- GWY_EVENT, R183. -/
def GWY_EVENT (n : Nat) : Nat := 0x1050004 + 0x100000 * n
/-- GWY_APPLY_TIMEOUT, R183. -/
def GWY_APPLY_TIMEOUT (n : Nat) : Nat := 0x1050008 + 0x100000 * n
/-- GWY_ERR_INFO, R183. -/
def GWY_ERR_INFO (n : Nat) : Nat := 0x105000C + 0x100000 * n
/-- GWY_ERR_STATION, R183. -/
def GWY_ERR_STATION (n : Nat) : Nat := 0x1050010 + 0x100000 * n
/-- GWY_ERR_CLR, R183. -/
def GWY_ERR_CLR (n : Nat) : Nat := 0x1050014 + 0x100000 * n
/-- GWY_STALE_COUNT, R183. -/
def GWY_STALE_COUNT (n : Nat) : Nat := 0x1050018 + 0x100000 * n
/-- GWY_REQ_SEL, R183. -/
def GWY_REQ_SEL (n : Nat) : Nat := 0x1050020 + 0x100000 * n
/-- GWY_REQ_STATE, R183. -/
def GWY_REQ_STATE (n : Nat) : Nat := 0x1050024 + 0x100000 * n
/-- GWY_REQ_MEMBERS, R183. -/
def GWY_REQ_MEMBERS (n : Nat) : Nat := 0x1050028 + 0x100000 * n
/-- GWY_REQ_BUFFERED, R183. -/
def GWY_REQ_BUFFERED (n : Nat) : Nat := 0x105002C + 0x100000 * n
/-- GWY_REQ_LEAD, R183. -/
def GWY_REQ_LEAD (n : Nat) : Nat := 0x1050030 + 0x100000 * n
/-- GWY_REQ_UNDERRUNS, R183. -/
def GWY_REQ_UNDERRUNS (n : Nat) : Nat := 0x1050034 + 0x100000 * n
/-- GWY_REQ_TOKENS_LO, R183. -/
def GWY_REQ_TOKENS_LO (n : Nat) : Nat := 0x1050038 + 0x100000 * n
/-- GWY_REQ_TOKENS_HI, R183. -/
def GWY_REQ_TOKENS_HI (n : Nat) : Nat := 0x105003C + 0x100000 * n
/-- GWY_REQ_SPEC_UJ_LO, R183. -/
def GWY_REQ_SPEC_UJ_LO (n : Nat) : Nat := 0x1050040 + 0x100000 * n
/-- GWY_REQ_SPEC_UJ_HI, R183. -/
def GWY_REQ_SPEC_UJ_HI (n : Nat) : Nat := 0x1050044 + 0x100000 * n
/-- GWY_REQ_REJECT_UJ_LO, R183. -/
def GWY_REQ_REJECT_UJ_LO (n : Nat) : Nat := 0x1050048 + 0x100000 * n
/-- GWY_REQ_REJECT_UJ_HI, R183. -/
def GWY_REQ_REJECT_UJ_HI (n : Nat) : Nat := 0x105004C + 0x100000 * n
/-- GWY_REQ_COMMITS, R183. -/
def GWY_REQ_COMMITS (n : Nat) : Nat := 0x1050050 + 0x100000 * n
/-- GWY_REQ_DISCARDS, R183. -/
def GWY_REQ_DISCARDS (n : Nat) : Nat := 0x1050054 + 0x100000 * n
/-- NT_STATUS, R204. -/
def NT_STATUS (n : Nat) : Nat := 0x1060000 + 0x100000 * n
/-- NT_CH_FAILED, R204. -/
def NT_CH_FAILED (n : Nat) : Nat := 0x1060004 + 0x100000 * n
/-- NT_TEMP, R204. -/
def NT_TEMP (n : Nat) : Nat := 0x1060008 + 0x100000 * n
/-- NT_RETRAIN, R204. -/
def NT_RETRAIN (n : Nat) : Nat := 0x106000C + 0x100000 * n
/-- NT_RETRAIN_REQ, R204. -/
def NT_RETRAIN_REQ (n : Nat) : Nat := 0x1060010 + 0x100000 * n
/-- NT_SCRUB, R204. -/
def NT_SCRUB (n : Nat) : Nat := 0x1060014 + 0x100000 * n
/-- NT_CE_LIMIT, R204. -/
def NT_CE_LIMIT (n : Nat) : Nat := 0x1060018 + 0x100000 * n
/-- NT_CE_COUNT, R204. -/
def NT_CE_COUNT (n : Nat) : Nat := 0x106001C + 0x100000 * n
/-- NT_UE_COUNT, R204. -/
def NT_UE_COUNT (n : Nat) : Nat := 0x1060020 + 0x100000 * n
/-- NT_ERR_ADDR_LO, R204. -/
def NT_ERR_ADDR_LO (n : Nat) : Nat := 0x1060024 + 0x100000 * n
/-- NT_ERR_ADDR_HI, R204. -/
def NT_ERR_ADDR_HI (n : Nat) : Nat := 0x1060028 + 0x100000 * n
/-- NT_ERR_INFO, R204. -/
def NT_ERR_INFO (n : Nat) : Nat := 0x106002C + 0x100000 * n
/-- NT_ERR_CLR, R204. -/
def NT_ERR_CLR (n : Nat) : Nat := 0x1060030 + 0x100000 * n
/-- NT_RETRAIN_COUNT, R204. -/
def NT_RETRAIN_COUNT (n : Nat) : Nat := 0x1060034 + 0x100000 * n
/-- NT_EVENT, R204. -/
def NT_EVENT (n : Nat) : Nat := 0x1060038 + 0x100000 * n
/-- NT_TRACT_OWNER, R204. -/
def NT_TRACT_OWNER (n t : Nat) : Nat := 0x1060100 + 0x100000 * n + 4 * t
/-- NT_CH_TAG, R204. -/
def NT_CH_TAG (n c : Nat) : Nat := 0x1060200 + 0x100000 * n + 4 * c
/-- FT_PORT_STATE, R205. -/
def FT_PORT_STATE (q : Nat) : Nat := 0xE00100 + 0x40 * q
/-- FT_PORT_CAP, R205. -/
def FT_PORT_CAP (q : Nat) : Nat := 0xE00104 + 0x40 * q
/-- FT_PORT_CTRL, R205. -/
def FT_PORT_CTRL (q : Nat) : Nat := 0xE00108 + 0x40 * q
/-- FT_PORT_TIMEOUT, R205. -/
def FT_PORT_TIMEOUT (q : Nat) : Nat := 0xE0010C + 0x40 * q
/-- FT_PORT_RTT, R205. -/
def FT_PORT_RTT (q : Nat) : Nat := 0xE00110 + 0x40 * q
/-- FT_PORT_POISON_COUNT, R205. -/
def FT_PORT_POISON_COUNT (q : Nat) : Nat := 0xE00114 + 0x40 * q
/-- FT_PORT_ERR_COUNT, R205. -/
def FT_PORT_ERR_COUNT (q : Nat) : Nat := 0xE00118 + 0x40 * q
/-- FT_PORT_STALE_RSP, R205. -/
def FT_PORT_STALE_RSP (q : Nat) : Nat := 0xE0011C + 0x40 * q
/-- FT_PORT_EVENT, R205. -/
def FT_PORT_EVENT (q : Nat) : Nat := 0xE00120 + 0x40 * q
/-- HIF_LINK, R238. -/
def HIF_LINK : Nat := 0x100000
/-- HIF_CFG, R238. -/
def HIF_CFG : Nat := 0x100004
/-- HIF_EVENT, R238. -/
def HIF_EVENT : Nat := 0x100008
/-- HIF_ERR_INFO, R238. -/
def HIF_ERR_INFO : Nat := 0x10000C
/-- HIF_ERR_ADDR_LO, R238. -/
def HIF_ERR_ADDR_LO : Nat := 0x100010
/-- HIF_ERR_ADDR_HI, R238. -/
def HIF_ERR_ADDR_HI : Nat := 0x100014
/-- HIF_ERR_CLR, R238. -/
def HIF_ERR_CLR : Nat := 0x100018
/-- HIF_DB_STALE, R238. -/
def HIF_DB_STALE : Nat := 0x10001C
/-- HIF_DB_BAD, R238. -/
def HIF_DB_BAD : Nat := 0x100020
/-- HIF_FN_SEL, R238. -/
def HIF_FN_SEL : Nat := 0x100024
/-- HIF_FN_STATUS, R238. -/
def HIF_FN_STATUS : Nat := 0x100028
/-- HIF_AP_REFUSED, R238. -/
def HIF_AP_REFUSED : Nat := 0x10002C
/-- HIF_BAR0_BAD, R238. -/
def HIF_BAR0_BAD : Nat := 0x100030
/-- HIF_CTX_SEL, R238. -/
def HIF_CTX_SEL : Nat := 0x100100
/-- HIF_CTX_CMD, R238. -/
def HIF_CTX_CMD : Nat := 0x100104
/-- HIF_CTX_RESULT, R238. -/
def HIF_CTX_RESULT : Nat := 0x100108
/-- HIF_CTX_STATE, R238. -/
def HIF_CTX_STATE : Nat := 0x10010C
/-- HIF_CTX_FN, R238. -/
def HIF_CTX_FN : Nat := 0x100110
/-- HIF_CTX_PARCELS, R238. -/
def HIF_CTX_PARCELS : Nat := 0x100114
/-- HIF_CTX_JOB_TAG, R238. -/
def HIF_CTX_JOB_TAG : Nat := 0x100118
/-- HIF_CTX_RINGS, R238. -/
def HIF_CTX_RINGS : Nat := 0x10011C
/-- HIF_CTX_DRING_LO, R238. -/
def HIF_CTX_DRING_LO : Nat := 0x100120
/-- HIF_CTX_DRING_HI, R238. -/
def HIF_CTX_DRING_HI : Nat := 0x100124
/-- HIF_CTX_CRING_LO, R238. -/
def HIF_CTX_CRING_LO : Nat := 0x100128
/-- HIF_CTX_CRING_HI, R238. -/
def HIF_CTX_CRING_HI : Nat := 0x10012C
/-- HIF_CTX_FSHADOW_LO, R238. -/
def HIF_CTX_FSHADOW_LO : Nat := 0x100130
/-- HIF_CTX_FSHADOW_HI, R238. -/
def HIF_CTX_FSHADOW_HI : Nat := 0x100134
/-- HIF_CTX_IRQ, R238. -/
def HIF_CTX_IRQ : Nat := 0x100138
/-- HIF_CTX_IRQ_US, R238. -/
def HIF_CTX_IRQ_US : Nat := 0x10013C
/-- HIF_CTX_FETCH_POS, R238. -/
def HIF_CTX_FETCH_POS : Nat := 0x100140
/-- HIF_CTX_DB_POS, R238. -/
def HIF_CTX_DB_POS : Nat := 0x100144
/-- HIF_CTX_REC_POS, R238. -/
def HIF_CTX_REC_POS : Nat := 0x100148
/-- HIF_CTX_HEAD_POS, R238. -/
def HIF_CTX_HEAD_POS : Nat := 0x10014C
/-- OWN_STATUS, R239. -/
def OWN_STATUS : Nat := 0x200000
/-- OWN_CMD, R239. -/
def OWN_CMD : Nat := 0x200004
/-- OWN_RESULT, R239. -/
def OWN_RESULT : Nat := 0x200008
/-- OWN_HANDOVER_LEFT, R239. -/
def OWN_HANDOVER_LEFT : Nat := 0x20000C
/-- OWN_GEN, R239. -/
def OWN_GEN : Nat := 0x200010
/-- OWN_VIOL_COUNT, R239. -/
def OWN_VIOL_COUNT : Nat := 0x200014
/-- OWN_VIOL_INFO, R239. -/
def OWN_VIOL_INFO : Nat := 0x200018
/-- OWN_VIOL_ADDR, R239. -/
def OWN_VIOL_ADDR : Nat := 0x20001C
/-- OWN_VIOL_CLR, R239. -/
def OWN_VIOL_CLR : Nat := 0x200020
/-- ETH_PORT_CFG, R240. -/
def ETH_PORT_CFG (e : Nat) : Nat := 0xB00000 + 0x40000 * e
/-- ETH_PORT_STATUS, R240. -/
def ETH_PORT_STATUS (e : Nat) : Nat := 0xB00004 + 0x40000 * e
/-- ETH_EVENT, R240. -/
def ETH_EVENT (e : Nat) : Nat := 0xB00008 + 0x40000 * e
/-- ETH_MAC_LO, R240. -/
def ETH_MAC_LO (e : Nat) : Nat := 0xB0000C + 0x40000 * e
/-- ETH_MAC_HI, R240. -/
def ETH_MAC_HI (e : Nat) : Nat := 0xB00010 + 0x40000 * e
/-- ETH_Q_SEL, R240. -/
def ETH_Q_SEL (e : Nat) : Nat := 0xB00100 + 0x40000 * e
/-- ETH_Q_CTRL, R240. -/
def ETH_Q_CTRL (e : Nat) : Nat := 0xB00104 + 0x40000 * e
/-- ETH_Q_CTX, R240. -/
def ETH_Q_CTX (e : Nat) : Nat := 0xB00108 + 0x40000 * e
/-- ETH_Q_RING, R240. -/
def ETH_Q_RING (e : Nat) : Nat := 0xB0010C + 0x40000 * e
/-- ETH_Q_FMT, R240. -/
def ETH_Q_FMT (e : Nat) : Nat := 0xB00110 + 0x40000 * e
/-- ETH_Q_FC, R240. -/
def ETH_Q_FC (e : Nat) : Nat := 0xB00114 + 0x40000 * e
/-- ETH_Q_POS, R240. -/
def ETH_Q_POS (e : Nat) : Nat := 0xB00118 + 0x40000 * e
/-- ETH_FILT_MAC_LO, R240. -/
def ETH_FILT_MAC_LO (e f : Nat) : Nat := 0xB01000 + 0x40000 * e + 16 * f
/-- ETH_FILT_MAC_HI, R240. -/
def ETH_FILT_MAC_HI (e f : Nat) : Nat := 0xB01004 + 0x40000 * e + 16 * f
/-- ETH_FILT_TGT, R240. -/
def ETH_FILT_TGT (e f : Nat) : Nat := 0xB01008 + 0x40000 * e + 16 * f
/-- LNK_STATUS, R269. -/
def LNK_STATUS (p : Nat) : Nat := 0x2000000 + 0x40000 * p
/-- LNK_CTRL, R269. -/
def LNK_CTRL (p : Nat) : Nat := 0x2000004 + 0x40000 * p
/-- LNK_PEER_SERIAL_LO, R269. -/
def LNK_PEER_SERIAL_LO (p : Nat) : Nat := 0x2000008 + 0x40000 * p
/-- LNK_PEER_SERIAL_HI, R269. -/
def LNK_PEER_SERIAL_HI (p : Nat) : Nat := 0x200000C + 0x40000 * p
/-- LNK_PEER, R269. -/
def LNK_PEER (p : Nat) : Nat := 0x2000010 + 0x40000 * p
/-- LNK_EPOCH, R269. -/
def LNK_EPOCH (p : Nat) : Nat := 0x2000014 + 0x40000 * p
/-- LNK_SEQ, R269. -/
def LNK_SEQ (p : Nat) : Nat := 0x2000018 + 0x40000 * p
/-- LNK_REPLAY, R269. -/
def LNK_REPLAY (p : Nat) : Nat := 0x200001C + 0x40000 * p
/-- LNK_CFG, R269. -/
def LNK_CFG (p : Nat) : Nat := 0x2000020 + 0x40000 * p
/-- LNK_RETRAIN, R269. -/
def LNK_RETRAIN (p : Nat) : Nat := 0x2000024 + 0x40000 * p
/-- LNK_CSYM_MAX, R269. -/
def LNK_CSYM_MAX (p : Nat) : Nat := 0x2000028 + 0x40000 * p
/-- LNK_EVENT, R269. -/
def LNK_EVENT (p : Nat) : Nat := 0x2000030 + 0x40000 * p
/-- LNK_VIOL_INFO, R269. -/
def LNK_VIOL_INFO (p : Nat) : Nat := 0x2000034 + 0x40000 * p
/-- LNK_VIOL_CLR, R269. -/
def LNK_VIOL_CLR (p : Nat) : Nat := 0x2000038 + 0x40000 * p
/-- LNK_VIOL_COUNT, R269. -/
def LNK_VIOL_COUNT (p : Nat) : Nat := 0x200003C + 0x40000 * p
/-- LNK_CREDIT, R269. -/
def LNK_CREDIT (p v : Nat) : Nat := 0x2000040 + 0x40000 * p + 4 * v
/-- LNK_CRC_ERR, R269. -/
def LNK_CRC_ERR (p : Nat) : Nat := 0x2000050 + 0x40000 * p
/-- LNK_FEC_UNCORR, R269. -/
def LNK_FEC_UNCORR (p : Nat) : Nat := 0x2000054 + 0x40000 * p
/-- LNK_REPLAYS, R269. -/
def LNK_REPLAYS (p : Nat) : Nat := 0x2000058 + 0x40000 * p
/-- LNK_RESTARTS, R269. -/
def LNK_RESTARTS (p : Nat) : Nat := 0x200005C + 0x40000 * p
/-- LNK_STALE, R269. -/
def LNK_STALE (p : Nat) : Nat := 0x2000060 + 0x40000 * p
/-- LNK_DISCARDED, R269. -/
def LNK_DISCARDED (p : Nat) : Nat := 0x2000064 + 0x40000 * p
/-- LNK_STOMPED, R269. -/
def LNK_STOMPED (p : Nat) : Nat := 0x2000068 + 0x40000 * p
/-- LNK_RETRAIN_COUNT, R269. -/
def LNK_RETRAIN_COUNT (p : Nat) : Nat := 0x200006C + 0x40000 * p
/-- LNK_UNITS_LO, R269. -/
def LNK_UNITS_LO (p : Nat) : Nat := 0x2000070 + 0x40000 * p
/-- LNK_UNITS_HI, R269. -/
def LNK_UNITS_HI (p : Nat) : Nat := 0x2000074 + 0x40000 * p
/-- LNK_LANE_TAG, R269. -/
def LNK_LANE_TAG (p l : Nat) : Nat := 0x2000100 + 0x40000 * p + 16 * l
/-- LNK_LANE_TAG_CSYM, R269. -/
def LNK_LANE_TAG_CSYM (p l : Nat) : Nat := 0x2000104 + 0x40000 * p + 16 * l
/-- LNK_LANE_CSYM, R269. -/
def LNK_LANE_CSYM (p l : Nat) : Nat := 0x2000108 + 0x40000 * p + 16 * l
/-- FAB_STATION, R292. -/
def FAB_STATION : Nat := 0xC00000
/-- FAB_MODE, R292. -/
def FAB_MODE : Nat := 0xC00004
/-- FAB_TRAV_STATUS, R292. -/
def FAB_TRAV_STATUS : Nat := 0xC00008
/-- FAB_TRAV_CTRL, R292. -/
def FAB_TRAV_CTRL : Nat := 0xC0000C
/-- FAB_DATUM_SERIAL_LO, R292. -/
def FAB_DATUM_SERIAL_LO : Nat := 0xC00010
/-- FAB_DATUM_SERIAL_HI, R292. -/
def FAB_DATUM_SERIAL_HI : Nat := 0xC00014
/-- FAB_EVENT, R292. -/
def FAB_EVENT : Nat := 0xC00018
/-- FAB_UNREACH, R292. -/
def FAB_UNREACH : Nat := 0xC00020
/-- FAB_HOP_DROP, R292. -/
def FAB_HOP_DROP : Nat := 0xC00024
/-- FAB_LATE_RSP, R292. -/
def FAB_LATE_RSP : Nat := 0xC00028
/-- FAB_TRAV_BAD, R292. -/
def FAB_TRAV_BAD : Nat := 0xC0002C
/-- FAB_PORT_STATE, R292. -/
def FAB_PORT_STATE (p : Nat) : Nat := 0xC00100 + 4 * p
/-- FAB_ROUTE, R292. -/
def FAB_ROUTE : Nat := 0xC00200
/-- FAB_E2E, R292. -/
def FAB_E2E : Nat := 0xC00204
/-- FAB_E2E_BUDGET, R292. -/
def FAB_E2E_BUDGET : Nat := 0xC00208
/-- FAB_RSP_TIMEOUT, R292. -/
def FAB_RSP_TIMEOUT : Nat := 0xC0020C
/-- FAB_TIME_LO, R292. -/
def FAB_TIME_LO : Nat := 0xC00300
/-- FAB_TIME_HI, R292. -/
def FAB_TIME_HI : Nat := 0xC00304
/-- FAB_TIME_STATUS, R292. -/
def FAB_TIME_STATUS : Nat := 0xC00308
/-- FAB_TIME_CFG, R292. -/
def FAB_TIME_CFG : Nat := 0xC0030C
/-- COL_STATUS, R310. -/
def COL_STATUS : Nat := 0xD00000
/-- COL_CFG, R310. -/
def COL_CFG : Nat := 0xD00004
/-- COL_EVENT, R310. -/
def COL_EVENT : Nat := 0xD00008
/-- COL_ABORT_INFO, R310. -/
def COL_ABORT_INFO : Nat := 0xD0000C
/-- COL_ABORT_TAG_LO, R310. -/
def COL_ABORT_TAG_LO : Nat := 0xD00010
/-- COL_ABORT_TAG_HI, R310. -/
def COL_ABORT_TAG_HI : Nat := 0xD00014
/-- COL_ABORT_ORIGIN, R310. -/
def COL_ABORT_ORIGIN : Nat := 0xD00018
/-- COL_ABORT_CLR, R310. -/
def COL_ABORT_CLR : Nat := 0xD0001C
/-- COL_STRAY, R310. -/
def COL_STRAY : Nat := 0xD00020
/-- COL_ABORTS, R310. -/
def COL_ABORTS : Nat := 0xD00024
/-- COL_ADDS_LO, R310. -/
def COL_ADDS_LO : Nat := 0xD00028
/-- COL_ADDS_HI, R310. -/
def COL_ADDS_HI : Nat := 0xD0002C
/-- TOL_STATUS, R335. -/
def TOL_STATUS : Nat := 0x500000
/-- TOL_TRAY_BUDGET, R335. -/
def TOL_TRAY_BUDGET : Nat := 0x500004
/-- TOL_CAP, R335. -/
def TOL_CAP : Nat := 0x500008
/-- TOL_SHARE0, R335. -/
def TOL_SHARE0 : Nat := 0x50000C
/-- TOL_SHARE1, R335. -/
def TOL_SHARE1 : Nat := 0x500010
/-- TOL_COL_POOL, R335. -/
def TOL_COL_POOL : Nat := 0x500014
/-- TOL_DENY, R335. -/
def TOL_DENY : Nat := 0x500018
/-- TOL_CLASS_W0, R335. -/
def TOL_CLASS_W0 : Nat := 0x50001C
/-- TOL_CLASS_W1, R335. -/
def TOL_CLASS_W1 : Nat := 0x500020
/-- TOL_GUARD, R335. -/
def TOL_GUARD : Nat := 0x500024
/-- TOL_TJ, R335. -/
def TOL_TJ : Nat := 0x500028
/-- TOL_STATIC, R335. -/
def TOL_STATIC : Nat := 0x50002C
/-- TOL_STATIC_ADJ, R335. -/
def TOL_STATIC_ADJ : Nat := 0x500030
/-- TOL_EVENT, R335. -/
def TOL_EVENT : Nat := 0x500034
/-- TOL_DENIED, R335. -/
def TOL_DENIED : Nat := 0x500038
/-- TOL_AVS_ERR, R335. -/
def TOL_AVS_ERR : Nat := 0x50003C
/-- TOL_POWER, R335. -/
def TOL_POWER : Nat := 0x500040
/-- TOL_TOTAL_UJ_LO, R335. -/
def TOL_TOTAL_UJ_LO : Nat := 0x500048
/-- TOL_TOTAL_UJ_HI, R335. -/
def TOL_TOTAL_UJ_HI : Nat := 0x50004C
/-- TOL_DEV_UJ_LO, R335. -/
def TOL_DEV_UJ_LO : Nat := 0x500050
/-- TOL_DEV_UJ_HI, R335. -/
def TOL_DEV_UJ_HI : Nat := 0x500054
/-- TOL_JOB_OVF_UJ_LO, R335. -/
def TOL_JOB_OVF_UJ_LO : Nat := 0x500058
/-- TOL_JOB_OVF_UJ_HI, R335. -/
def TOL_JOB_OVF_UJ_HI : Nat := 0x50005C
/-- TOL_COOLANT_IN, R335. -/
def TOL_COOLANT_IN : Nat := 0x500060
/-- TOL_COOLANT_OUT, R335. -/
def TOL_COOLANT_OUT : Nat := 0x500064
/-- TOL_COOLANT_FLOW, R335. -/
def TOL_COOLANT_FLOW : Nat := 0x500068
/-- TOL_COOLANT_AGE, R335. -/
def TOL_COOLANT_AGE : Nat := 0x50006C
/-- TOL_FLOW_MIN, R335. -/
def TOL_FLOW_MIN : Nat := 0x500070
/-- TOL_FN_SEL, R335. -/
def TOL_FN_SEL : Nat := 0x500080
/-- TOL_FN_UJ_LO, R335. -/
def TOL_FN_UJ_LO : Nat := 0x500084
/-- TOL_FN_UJ_HI, R335. -/
def TOL_FN_UJ_HI : Nat := 0x500088
/-- TOL_JOB_SEL, R335. -/
def TOL_JOB_SEL : Nat := 0x500090
/-- TOL_JOB_TAG, R335. -/
def TOL_JOB_TAG : Nat := 0x500094
/-- TOL_JOB_STATE, R335. -/
def TOL_JOB_STATE : Nat := 0x500098
/-- TOL_JOB_UJ_LO, R335. -/
def TOL_JOB_UJ_LO : Nat := 0x50009C
/-- TOL_JOB_UJ_HI, R335. -/
def TOL_JOB_UJ_HI : Nat := 0x5000A0
/-- TOL_JOB_FREE, R335. -/
def TOL_JOB_FREE : Nat := 0x5000A4
/-- TOL_RAIL_V, R335. -/
def TOL_RAIL_V (k : Nat) : Nat := 0x500100 + 4 * k
/-- TOL_RAIL_I, R335. -/
def TOL_RAIL_I (k : Nat) : Nat := 0x500140 + 4 * k
/-- TOL_COEF, R335. -/
def TOL_COEF (k : Nat) : Nat := 0x500180 + 4 * k
/-- TOL_GATE, R335. -/
def TOL_GATE (n : Nat) : Nat := 0x500200 + 4 * n
/-- TOL_BUCKET, R335. -/
def TOL_BUCKET (n : Nat) : Nat := 0x500240 + 4 * n
/-- TOL_POOL, R335. -/
def TOL_POOL : Nat := 0x500280
/-- TOL_FCAST, R335. -/
def TOL_FCAST (w : Nat) : Nat := 0x500300 + 4 * w
/-- CLK_STATUS, R354. -/
def CLK_STATUS : Nat := 0x300000
/-- CLK_EVENT, R354. -/
def CLK_EVENT : Nat := 0x300004
/-- CLK_LOCK_LOSSES, R354. -/
def CLK_LOCK_LOSSES : Nat := 0x300008
/-- CLK_REF_MEAS, R354. -/
def CLK_REF_MEAS : Nat := 0x30000C
/-- RST_LAST_CAUSE, R354. -/
def RST_LAST_CAUSE : Nat := 0x300100
/-- RST_LAST_FTIME_LO, R354. -/
def RST_LAST_FTIME_LO : Nat := 0x300104
/-- RST_LAST_FTIME_HI, R354. -/
def RST_LAST_FTIME_HI : Nat := 0x300108
/-- RST_DEVICE, R354. -/
def RST_DEVICE : Nat := 0x300110
/-- RST_BLOCK0, R354. -/
def RST_BLOCK0 : Nat := 0x300114
/-- RST_BLOCK1, R354. -/
def RST_BLOCK1 : Nat := 0x300118
/-- RST_STATE, R354. -/
def RST_STATE : Nat := 0x30011C
/-- RST_WDT_CFG, R354. -/
def RST_WDT_CFG : Nat := 0x300120
/-- RST_WDT_KICK, R354. -/
def RST_WDT_KICK : Nat := 0x300124
/-- RST_WDT_LEFT, R354. -/
def RST_WDT_LEFT : Nat := 0x300128
/-- PWR_STATUS, R371. -/
def PWR_STATUS : Nat := 0x400000
/-- PWR_CMD, R371. -/
def PWR_CMD : Nat := 0x400004
/-- PWR_RESULT, R371. -/
def PWR_RESULT : Nat := 0x400008
/-- PWR_PAD_RELEASE, R371. -/
def PWR_PAD_RELEASE : Nat := 0x40000C
/-- PWR_WAKE_EN, R371. -/
def PWR_WAKE_EN : Nat := 0x400010
/-- PWR_ENTRY_LIMIT, R371. -/
def PWR_ENTRY_LIMIT : Nat := 0x400014
/-- PWR_EVENT, R371. -/
def PWR_EVENT : Nat := 0x400018
/-- PWR_IMAGE, R371. -/
def PWR_IMAGE : Nat := 0x40001C
/-- PWR_DOWN_ACCESS, R371. -/
def PWR_DOWN_ACCESS : Nat := 0x400020
/-- PWR_WAKE_CAUSE, R371. -/
def PWR_WAKE_CAUSE : Nat := 0x400024
/-- FCU_STATUS, R390. -/
def FCU_STATUS : Nat := 0x600000
/-- FCU_CFG, R390. -/
def FCU_CFG : Nat := 0x600004
/-- FCU_PIN, R390. -/
def FCU_PIN : Nat := 0x600008
/-- FCU_IRQ, R390. -/
def FCU_IRQ : Nat := 0x60000C
/-- FCU_STAT_W, R390. -/
def FCU_STAT_W (w : Nat) : Nat := 0x600010 + 4 * w
/-- FCU_FORCE_SAFE, R390. -/
def FCU_FORCE_SAFE : Nat := 0x600020
/-- FCU_LOG_COUNT, R390. -/
def FCU_LOG_COUNT : Nat := 0x600024
/-- FCU_LOG_LOST, R390. -/
def FCU_LOG_LOST : Nat := 0x600028
/-- FCU_LOG_SEL, R390. -/
def FCU_LOG_SEL : Nat := 0x60002C
/-- FCU_LOG_POP, R390. -/
def FCU_LOG_POP : Nat := 0x600030
/-- FCU_LOG_WORD, R390. -/
def FCU_LOG_WORD (w : Nat) : Nat := 0x600040 + 4 * w
/-- FCU_SERVICE, R390. -/
def FCU_SERVICE : Nat := 0x600060
/-- FCU_FIRST_INFO, R390. -/
def FCU_FIRST_INFO : Nat := 0x600070
/-- FCU_FIRST_FTIME_LO, R390. -/
def FCU_FIRST_FTIME_LO : Nat := 0x600074
/-- FCU_FIRST_FTIME_HI, R390. -/
def FCU_FIRST_FTIME_HI : Nat := 0x600078
/-- FCU_FIRST_CLR, R390. -/
def FCU_FIRST_CLR : Nat := 0x60007C
/-- FCU_SRC_CFG, R390. -/
def FCU_SRC_CFG (s : Nat) : Nat := 0x600100 + 4 * s
/-- FCU_SRC_STATE, R390. -/
def FCU_SRC_STATE (s : Nat) : Nat := 0x600300 + 4 * s
/-- REC_CFG, R411. -/
def REC_CFG : Nat := 0x700000
/-- REC_EVENT, R411. -/
def REC_EVENT : Nat := 0x700004
/-- REC_STALE_COUNT, R411. -/
def REC_STALE_COUNT : Nat := 0x700008
/-- REC_STATUS, R411. -/
def REC_STATUS : Nat := 0x70000C
/-- REC_PARCEL_CMD, R411. -/
def REC_PARCEL_CMD (n : Nat) : Nat := 0x700100 + 32 * n
/-- REC_PARCEL_STATE, R411. -/
def REC_PARCEL_STATE (n : Nat) : Nat := 0x700104 + 32 * n
/-- REC_BELL, R411. -/
def REC_BELL (n : Nat) : Nat := 0x700108 + 32 * n
/-- REC_BELL_CFG, R411. -/
def REC_BELL_CFG (n : Nat) : Nat := 0x70010C + 32 * n
/-- REC_BELL_LEFT, R411. -/
def REC_BELL_LEFT (n : Nat) : Nat := 0x700110 + 32 * n
/-- REC_RESETS, R411. -/
def REC_RESETS (n : Nat) : Nat := 0x700114 + 32 * n
/-- REC_RLF_SEL, R411. -/
def REC_RLF_SEL : Nat := 0x700400
/-- REC_RLF_CMD, R411. -/
def REC_RLF_CMD : Nat := 0x700404
/-- REC_RLF_RESULT, R411. -/
def REC_RLF_RESULT : Nat := 0x700408
/-- REC_RLF_STATE, R411. -/
def REC_RLF_STATE : Nat := 0x70040C
/-- REC_RLF_MASKS, R411. -/
def REC_RLF_MASKS : Nat := 0x700410
/-- REC_RLF_PEER, R411. -/
def REC_RLF_PEER : Nat := 0x700414
/-- REC_RLF_JOB, R411. -/
def REC_RLF_JOB : Nat := 0x700418
/-- REC_RLF_CTX, R411. -/
def REC_RLF_CTX : Nat := 0x70041C
/-- REC_RLF_TK_VALUE, R411. -/
def REC_RLF_TK_VALUE : Nat := 0x700420
/-- REC_RLF_REQ, R411. -/
def REC_RLF_REQ : Nat := 0x700424
/-- REC_RLF_PARAM_ADDR, R411. -/
def REC_RLF_PARAM_ADDR : Nat := 0x700428
/-- REC_RLF_KEY_ADDR, R411. -/
def REC_RLF_KEY_ADDR : Nat := 0x70042C
/-- REC_RLF_STREAMS, R411. -/
def REC_RLF_STREAMS : Nat := 0x700430
/-- REC_RLF_MIRROR, R411. -/
def REC_RLF_MIRROR : Nat := 0x700434
/-- REC_RLF_JSEQ, R411. -/
def REC_RLF_JSEQ : Nat := 0x700438
/-- REC_RLF_SURVEY, R411. -/
def REC_RLF_SURVEY : Nat := 0x70043C
/-- REC_RLF_TAKEOVER_US, R411. -/
def REC_RLF_TAKEOVER_US : Nat := 0x700440
/-- BRU_STATUS, R427. -/
def BRU_STATUS : Nat := 0x800000
/-- BRU_CMD, R427. -/
def BRU_CMD : Nat := 0x800004
/-- BRU_RESULT, R427. -/
def BRU_RESULT : Nat := 0x800008
/-- BRU_CFG, R427. -/
def BRU_CFG : Nat := 0x80000C
/-- BRU_LINK_EXPECT, R427. -/
def BRU_LINK_EXPECT : Nat := 0x800010
/-- BRU_EVENT, R427. -/
def BRU_EVENT : Nat := 0x800014
/-- BRU_READY, R427. -/
def BRU_READY : Nat := 0x800018
/-- BRU_LINK_RESULT, R427. -/
def BRU_LINK_RESULT : Nat := 0x80001C
/-- BRU_LOOP_FAIL, R427. -/
def BRU_LOOP_FAIL : Nat := 0x800020
/-- BRU_IMAGE, R427. -/
def BRU_IMAGE : Nat := 0x800024
/-- BRU_FP_GEN, R427. -/
def BRU_FP_GEN : Nat := 0x800028
/-- BRU_PARCEL, R427. -/
def BRU_PARCEL (n : Nat) : Nat := 0x800100 + 32 * n
/-- BRU_FP_TILE_LO, R427. -/
def BRU_FP_TILE_LO (n : Nat) : Nat := 0x800104 + 32 * n
/-- BRU_FP_TILE_HI, R427. -/
def BRU_FP_TILE_HI (n : Nat) : Nat := 0x800108 + 32 * n
/-- BRU_FP_BANK_LO, R427. -/
def BRU_FP_BANK_LO (n : Nat) : Nat := 0x80010C + 32 * n
/-- BRU_FP_BANK_HI, R427. -/
def BRU_FP_BANK_HI (n : Nat) : Nat := 0x800110 + 32 * n
/-- NVS_STATUS, R453. -/
def NVS_STATUS : Nat := 0x900000
/-- NVS_EVENT, R453. -/
def NVS_EVENT : Nat := 0x900004
/-- NVS_JGEN, R453. -/
def NVS_JGEN : Nat := 0x900008
/-- NVS_KEYGEN, R453. -/
def NVS_KEYGEN : Nat := 0x90000C
/-- NVS_KEYVER, R453. -/
def NVS_KEYVER : Nat := 0x900010
/-- NVS_CE_COUNT, R453. -/
def NVS_CE_COUNT : Nat := 0x900014
/-- NVS_UE_COUNT, R453. -/
def NVS_UE_COUNT : Nat := 0x900018
/-- NVS_CMD, R453. -/
def NVS_CMD : Nat := 0x90001C
/-- NVS_FLOOR, R453. -/
def NVS_FLOOR (k : Nat) : Nat := 0x900020 + 4 * (k - 1)
/-- FWU_STATUS, R454. -/
def FWU_STATUS : Nat := 0x900100
/-- FWU_CMD, R454. -/
def FWU_CMD : Nat := 0x900104
/-- FWU_RESULT, R454. -/
def FWU_RESULT : Nat := 0x900108
/-- FWU_PKG_LEN, R454. -/
def FWU_PKG_LEN : Nat := 0x90010C
/-- FWU_BLK_OFF, R454. -/
def FWU_BLK_OFF : Nat := 0x900110
/-- FWU_BLK_LEN, R454. -/
def FWU_BLK_LEN : Nat := 0x900114
/-- FWU_BLK_ADDR_LO, R454. -/
def FWU_BLK_ADDR_LO : Nat := 0x900118
/-- FWU_BLK_ADDR_HI, R454. -/
def FWU_BLK_ADDR_HI : Nat := 0x90011C
/-- FWU_ACT_TIME_LO, R454. -/
def FWU_ACT_TIME_LO : Nat := 0x900120
/-- FWU_ACT_TIME_HI, R454. -/
def FWU_ACT_TIME_HI : Nat := 0x900124
/-- FWU_RCVD, R454. -/
def FWU_RCVD (w : Nat) : Nat := 0x900128 + 4 * w
/-- FWU_EVENT, R454. -/
def FWU_EVENT : Nat := 0x900148
/-- FWU_BOOT, R454. -/
def FWU_BOOT : Nat := 0x90014C
/-- FWU_CONFIRM, R454. -/
def FWU_CONFIRM : Nat := 0x900150
/-- FWU_SLOT, R454. -/
def FWU_SLOT (k : Nat) : Nat := 0x900160 + 16 * (k - 1)
/-- FWU_SLOT_VER_A, R454. -/
def FWU_SLOT_VER_A (k : Nat) : Nat := 0x900164 + 16 * (k - 1)
/-- FWU_SLOT_VER_B, R454. -/
def FWU_SLOT_VER_B (k : Nat) : Nat := 0x900168 + 16 * (k - 1)
/-- MGP_STATUS, R469. -/
def MGP_STATUS : Nat := 0xA00000
/-- MGP_CFG, R469. -/
def MGP_CFG : Nat := 0xA00004
/-- MGP_EVENT, R469. -/
def MGP_EVENT : Nat := 0xA00008
/-- MGP_TRAY_AGE, R469. -/
def MGP_TRAY_AGE : Nat := 0xA0000C
/-- MGP_BACKUP_AGE, R469. -/
def MGP_BACKUP_AGE : Nat := 0xA00010
/-- MGP_EVQ, R469. -/
def MGP_EVQ : Nat := 0xA00014
/-- MGP_EVQ_LOST, R469. -/
def MGP_EVQ_LOST : Nat := 0xA00018
/-- MGP_BAD_MSG, R469. -/
def MGP_BAD_MSG : Nat := 0xA0001C
/-- FT_TRACT_OWNER, R205. -/
def FT_TRACT_OWNER (t : Nat) : Nat := 0xE01000 + 4 * t
/-- ETH_TX_FRAMES, R240. -/
def ETH_TX_FRAMES (e : Nat) : Nat := 0xB00040 + 0x40000 * e
/-- ETH_TX_DROP, R240. -/
def ETH_TX_DROP (e : Nat) : Nat := 0xB00044 + 0x40000 * e
/-- ETH_RX_FRAMES, R240. -/
def ETH_RX_FRAMES (e : Nat) : Nat := 0xB00048 + 0x40000 * e
/-- ETH_RX_FCS, R240. -/
def ETH_RX_FCS (e : Nat) : Nat := 0xB0004C + 0x40000 * e
/-- ETH_RX_FULL, R240. -/
def ETH_RX_FULL (e : Nat) : Nat := 0xB00050 + 0x40000 * e
/-- ETH_RX_NOMATCH, R240. -/
def ETH_RX_NOMATCH (e : Nat) : Nat := 0xB00054 + 0x40000 * e
/-- ETH_RX_SIZE, R240. -/
def ETH_RX_SIZE (e : Nat) : Nat := 0xB00058 + 0x40000 * e
/-- ETH_PAUSE_RX, R240. -/
def ETH_PAUSE_RX (e : Nat) : Nat := 0xB0005C + 0x40000 * e
/-- ETH_PAUSE_TX, R240. -/
def ETH_PAUSE_TX (e : Nat) : Nat := 0xB00060 + 0x40000 * e
/-- ETH_MACCTL_DROP, R240. -/
def ETH_MACCTL_DROP (e : Nat) : Nat := 0xB00064 + 0x40000 * e
end Reg

namespace F
def CAP_ID_MAKER : Fld := ⟨Reg.CAP_ID, 31, 16⟩
def CAP_ID_PART : Fld := ⟨Reg.CAP_ID, 15, 4⟩
def CAP_ID_STEP : Fld := ⟨Reg.CAP_ID, 3, 0⟩
def CAP_VARIANT_STACKS : Fld := ⟨Reg.CAP_VARIANT, 3, 0⟩
def CAP_VARIANT_IODIES : Fld := ⟨Reg.CAP_VARIANT, 5, 4⟩
def CAP_VARIANT_GRADE : Fld := ⟨Reg.CAP_VARIANT, 6, 6⟩
def CAP_VARIANT_PARCELS : Fld := ⟨Reg.CAP_VARIANT, 11, 8⟩
def CAP_VARIANT_DECKS : Fld := ⟨Reg.CAP_VARIANT, 15, 12⟩
def CAP_VARIANT_NT_GIB_PER_STACK : Fld := ⟨Reg.CAP_VARIANT, 21, 16⟩
def CAP_GRADE_MIN_TILES : Fld := ⟨Reg.CAP_GRADE, 5, 0⟩
def CAP_GRADE_MIN_BANKS : Fld := ⟨Reg.CAP_GRADE, 13, 8⟩
def CAP_GRADE_TILES_PER_PARCEL : Fld := ⟨Reg.CAP_GRADE, 21, 16⟩
def CAP_GRADE_BANKS_PER_PARCEL : Fld := ⟨Reg.CAP_GRADE, 30, 24⟩
def CAP_PORTS_FAB_PORTS : Fld := ⟨Reg.CAP_PORTS, 4, 0⟩
def CAP_PORTS_MESH_PORTS : Fld := ⟨Reg.CAP_PORTS, 9, 5⟩
def CAP_PORTS_TREE_PORTS : Fld := ⟨Reg.CAP_PORTS, 12, 10⟩
def CAP_PORTS_ETH_PORTS : Fld := ⟨Reg.CAP_PORTS, 14, 13⟩
def CAP_PORTS_CXL_PORTS : Fld := ⟨Reg.CAP_PORTS, 17, 15⟩
def CAP_PORTS_HOST_X16 : Fld := ⟨Reg.CAP_PORTS, 18, 18⟩
def CAP_SERIAL_LO_SERIAL_LO : Fld := ⟨Reg.CAP_SERIAL_LO, 31, 0⟩
def CAP_SERIAL_HI_SERIAL_HI : Fld := ⟨Reg.CAP_SERIAL_HI, 31, 0⟩
def HLD_STATUS_GOOD_BANKS (n : Nat) : Fld := ⟨Reg.HLD_STATUS n, 6, 0⟩
def HLD_STATUS_USABLE_PLOTS (n : Nat) : Fld := ⟨Reg.HLD_STATUS n, 14, 8⟩
def HLD_STATUS_TRANSIT_PLOT (n : Nat) : Fld := ⟨Reg.HLD_STATUS n, 22, 16⟩
def HLD_STATUS_REMAP_ACTIVE (n : Nat) : Fld := ⟨Reg.HLD_STATUS n, 24, 24⟩
def HLD_BANK_GOOD_LO_GOOD_LO (n : Nat) : Fld := ⟨Reg.HLD_BANK_GOOD_LO n, 31, 0⟩
def HLD_BANK_GOOD_HI_GOOD_HI (n : Nat) : Fld := ⟨Reg.HLD_BANK_GOOD_HI n, 31, 0⟩
def HLD_ARB_G_FAB (n : Nat) : Fld := ⟨Reg.HLD_ARB n, 5, 0⟩
def HLD_ARB_G_DMA (n : Nat) : Fld := ⟨Reg.HLD_ARB n, 13, 8⟩
def HLD_ARB_G_MAINT (n : Nat) : Fld := ⟨Reg.HLD_ARB n, 21, 16⟩
def HLD_SCRUB_ENABLE (n : Nat) : Fld := ⟨Reg.HLD_SCRUB n, 0, 0⟩
def HLD_SCRUB_INTERVAL (n : Nat) : Fld := ⟨Reg.HLD_SCRUB n, 27, 16⟩
def HLD_SCRUB_PASS_PASSES (n : Nat) : Fld := ⟨Reg.HLD_SCRUB_PASS n, 31, 0⟩
def HLD_CE_LIMIT_LIMIT (n : Nat) : Fld := ⟨Reg.HLD_CE_LIMIT n, 15, 0⟩
def HLD_CE_COUNT_COUNT (n : Nat) : Fld := ⟨Reg.HLD_CE_COUNT n, 31, 0⟩
def HLD_UE_COUNT_COUNT (n : Nat) : Fld := ⟨Reg.HLD_UE_COUNT n, 31, 0⟩
def HLD_ERR_ADDR_ADDR (n : Nat) : Fld := ⟨Reg.HLD_ERR_ADDR n, 31, 0⟩
def HLD_ERR_INFO_VALID (n : Nat) : Fld := ⟨Reg.HLD_ERR_INFO n, 0, 0⟩
def HLD_ERR_INFO_CLASS (n : Nat) : Fld := ⟨Reg.HLD_ERR_INFO n, 2, 1⟩
def HLD_ERR_INFO_SCRUB (n : Nat) : Fld := ⟨Reg.HLD_ERR_INFO n, 3, 3⟩
def HLD_ERR_INFO_FN (n : Nat) : Fld := ⟨Reg.HLD_ERR_INFO n, 25, 16⟩
def HLD_EVENT_PLOT_WRITE_DROPPED (n : Nat) : Fld := ⟨Reg.HLD_EVENT n, 0, 0⟩
def HLD_EVENT_ARB_WRITE_DROPPED (n : Nat) : Fld := ⟨Reg.HLD_EVENT n, 1, 1⟩
def HLD_ERR_CLR_CLEAR (n : Nat) : Fld := ⟨Reg.HLD_ERR_CLR n, 0, 0⟩
def HLD_PLOT_OWNER_KIND (n p : Nat) : Fld := ⟨Reg.HLD_PLOT_OWNER n p, 1, 0⟩
def HLD_PLOT_OWNER_READERS (n p : Nat) : Fld := ⟨Reg.HLD_PLOT_OWNER n p, 2, 2⟩
def HLD_PLOT_OWNER_CLEARING (n p : Nat) : Fld := ⟨Reg.HLD_PLOT_OWNER n p, 3, 3⟩
def HLD_PLOT_OWNER_OWNER_FN (n p : Nat) : Fld := ⟨Reg.HLD_PLOT_OWNER n p, 25, 16⟩
def WDC_STATUS_BUSY (n : Nat) : Fld := ⟨Reg.WDC_STATUS n, 0, 0⟩
def WDC_STATUS_STAGE_BAD (n : Nat) : Fld := ⟨Reg.WDC_STATUS n, 19, 4⟩
def WDC_LIVE_TAG_TAG (n : Nat) : Fld := ⟨Reg.WDC_LIVE_TAG n, 15, 0⟩
def WDC_STAGE_TAG_TAG (n : Nat) : Fld := ⟨Reg.WDC_STAGE_TAG n, 15, 0⟩
def WDC_COMMIT_COMMIT (n : Nat) : Fld := ⟨Reg.WDC_COMMIT n, 0, 0⟩
def WDC_EVENT_COMMIT_REJECTED (n : Nat) : Fld := ⟨Reg.WDC_EVENT n, 0, 0⟩
def WDC_ERR_INFO_VALID (n : Nat) : Fld := ⟨Reg.WDC_ERR_INFO n, 0, 0⟩
def WDC_ERR_INFO_KIND (n : Nat) : Fld := ⟨Reg.WDC_ERR_INFO n, 3, 1⟩
def WDC_ERR_INFO_SEG (n : Nat) : Fld := ⟨Reg.WDC_ERR_INFO n, 7, 4⟩
def WDC_ERR_INFO_DECODER (n : Nat) : Fld := ⟨Reg.WDC_ERR_INFO n, 13, 8⟩
def WDC_ERR_INFO_FN (n : Nat) : Fld := ⟨Reg.WDC_ERR_INFO n, 25, 16⟩
def WDC_ERR_ADDR_ADDR (n : Nat) : Fld := ⟨Reg.WDC_ERR_ADDR n, 31, 0⟩
def WDC_ERR_CLR_CLEAR (n : Nat) : Fld := ⟨Reg.WDC_ERR_CLR n, 0, 0⟩
def WDC_ELEMS_LO_ELEMS_LO (n : Nat) : Fld := ⟨Reg.WDC_ELEMS_LO n, 31, 0⟩
def WDC_ELEMS_HI_ELEMS_HI (n : Nat) : Fld := ⟨Reg.WDC_ELEMS_HI n, 31, 0⟩
def WDC_STAGE_TABLE_LO_LEN_LO (n t : Nat) : Fld := ⟨Reg.WDC_STAGE_TABLE_LO n t, 31, 0⟩
def WDC_STAGE_TABLE_HI_LEN_HI (n t : Nat) : Fld := ⟨Reg.WDC_STAGE_TABLE_HI n t, 31, 0⟩
def WDC_LIVE_TABLE_LO_LEN_LO (n t : Nat) : Fld := ⟨Reg.WDC_LIVE_TABLE_LO n t, 31, 0⟩
def WDC_LIVE_TABLE_HI_LEN_HI (n t : Nat) : Fld := ⟨Reg.WDC_LIVE_TABLE_HI n t, 31, 0⟩
def MT_STATUS_GOOD_TILES (n : Nat) : Fld := ⟨Reg.MT_STATUS n, 5, 0⟩
def MT_STATUS_IN_SERVICE (n : Nat) : Fld := ⟨Reg.MT_STATUS n, 13, 8⟩
def MT_STATUS_BUSY (n : Nat) : Fld := ⟨Reg.MT_STATUS n, 16, 16⟩
def MT_TILE_GOOD_LO_GOOD_LO (n : Nat) : Fld := ⟨Reg.MT_TILE_GOOD_LO n, 31, 0⟩
def MT_TILE_GOOD_HI_GOOD_HI (n : Nat) : Fld := ⟨Reg.MT_TILE_GOOD_HI n, 15, 0⟩
def MT_TILE_WITHDRAWN_LO_WD_LO (n : Nat) : Fld := ⟨Reg.MT_TILE_WITHDRAWN_LO n, 31, 0⟩
def MT_TILE_WITHDRAWN_HI_WD_HI (n : Nat) : Fld := ⟨Reg.MT_TILE_WITHDRAWN_HI n, 15, 0⟩
def MT_ERR_INFO_VALID (n : Nat) : Fld := ⟨Reg.MT_ERR_INFO n, 0, 0⟩
def MT_ERR_INFO_TILE (n : Nat) : Fld := ⟨Reg.MT_ERR_INFO n, 6, 1⟩
def MT_ERR_INFO_REPEAT (n : Nat) : Fld := ⟨Reg.MT_ERR_INFO n, 7, 7⟩
def MT_ERR_INFO_FN (n : Nat) : Fld := ⟨Reg.MT_ERR_INFO n, 25, 16⟩
def MT_ERR_CLR_CLEAR (n : Nat) : Fld := ⟨Reg.MT_ERR_CLR n, 0, 0⟩
def MT_BLOCKS_LO_BLOCKS_LO (n : Nat) : Fld := ⟨Reg.MT_BLOCKS_LO n, 31, 0⟩
def MT_BLOCKS_HI_BLOCKS_HI (n : Nat) : Fld := ⟨Reg.MT_BLOCKS_HI n, 31, 0⟩
def MT_ROWBLK_LO_ROWBLK_LO (n : Nat) : Fld := ⟨Reg.MT_ROWBLK_LO n, 31, 0⟩
def MT_ROWBLK_HI_ROWBLK_HI (n : Nat) : Fld := ⟨Reg.MT_ROWBLK_HI n, 31, 0⟩
def SEQ_MARK_SEL_MARK (n : Nat) : Fld := ⟨Reg.SEQ_MARK_SEL n, 4, 0⟩
def SEQ_MARK_SEL_SET (n : Nat) : Fld := ⟨Reg.SEQ_MARK_SEL n, 16, 8⟩
def SEQ_MARK_VALUE_VALUE (n : Nat) : Fld := ⟨Reg.SEQ_MARK_VALUE n, 31, 0⟩
def SEQ_MARK_FLAGS_ERROR (n : Nat) : Fld := ⟨Reg.SEQ_MARK_FLAGS n, 0, 0⟩
def SEQ_MARK_FLAGS_BOUND (n : Nat) : Fld := ⟨Reg.SEQ_MARK_FLAGS n, 1, 1⟩
def SEQ_MARK_FLAGS_CONTEXT (n : Nat) : Fld := ⟨Reg.SEQ_MARK_FLAGS n, 27, 16⟩
def SEQ_ADMIT_EVENT_CLASS_RAISED (n : Nat) : Fld := ⟨Reg.SEQ_ADMIT_EVENT n, 0, 0⟩
def SEQ_CLASS_RAISED_COUNT_COUNT (n : Nat) : Fld := ⟨Reg.SEQ_CLASS_RAISED_COUNT n, 31, 0⟩
def SEQ_INFLIGHT_COUNT (n : Nat) : Fld := ⟨Reg.SEQ_INFLIGHT n, 8, 0⟩
def VU_STATUS_GOOD (n : Nat) : Fld := ⟨Reg.VU_STATUS n, 7, 0⟩
def VU_STATUS_IN_SERVICE (n : Nat) : Fld := ⟨Reg.VU_STATUS n, 15, 8⟩
def VU_STATUS_BUSY (n : Nat) : Fld := ⟨Reg.VU_STATUS n, 16, 16⟩
def VU_WITHDRAWN_WD (n : Nat) : Fld := ⟨Reg.VU_WITHDRAWN n, 7, 0⟩
def VU_SLOT_FREE_FREE (n : Nat) : Fld := ⟨Reg.VU_SLOT_FREE n, 3, 0⟩
def VU_ERR_INFO_VALID (n : Nat) : Fld := ⟨Reg.VU_ERR_INFO n, 0, 0⟩
def VU_ERR_INFO_KIND (n : Nat) : Fld := ⟨Reg.VU_ERR_INFO n, 4, 1⟩
def VU_ERR_INFO_UNIT (n : Nat) : Fld := ⟨Reg.VU_ERR_INFO n, 7, 5⟩
def VU_ERR_INFO_WORD (n : Nat) : Fld := ⟨Reg.VU_ERR_INFO n, 17, 8⟩
def VU_ERR_INFO_FN (n : Nat) : Fld := ⟨Reg.VU_ERR_INFO n, 27, 18⟩
def VU_ERR_CODE_CODE (n : Nat) : Fld := ⟨Reg.VU_ERR_CODE n, 31, 0⟩
def VU_ERR_CLR_CLEAR (n : Nat) : Fld := ⟨Reg.VU_ERR_CLR n, 0, 0⟩
def VU_CE_COUNT_COUNT (n : Nat) : Fld := ⟨Reg.VU_CE_COUNT n, 31, 0⟩
def VU_LANEOPS_LO_OPS_LO (n : Nat) : Fld := ⟨Reg.VU_LANEOPS_LO n, 31, 0⟩
def VU_LANEOPS_HI_OPS_HI (n : Nat) : Fld := ⟨Reg.VU_LANEOPS_HI n, 31, 0⟩
def VU_SLOT_TAG (n s : Nat) : Fld := ⟨Reg.VU_SLOT n s, 15, 0⟩
def VU_SLOT_OWNER_FN (n s : Nat) : Fld := ⟨Reg.VU_SLOT n s, 25, 16⟩
def VU_SLOT_SHARED (n s : Nat) : Fld := ⟨Reg.VU_SLOT n s, 26, 26⟩
def VU_SLOT_LOADED (n s : Nat) : Fld := ⟨Reg.VU_SLOT n s, 27, 27⟩
def VU_SLOT_WORDS_WORDS (n s : Nat) : Fld := ⟨Reg.VU_SLOT_WORDS n s, 10, 0⟩
def KVP_STATUS_ATTN_BUSY (n : Nat) : Fld := ⟨Reg.KVP_STATUS n, 0, 0⟩
def KVP_STATUS_PAGER_BUSY (n : Nat) : Fld := ⟨Reg.KVP_STATUS n, 1, 1⟩
def KVP_STATUS_STAGED (n : Nat) : Fld := ⟨Reg.KVP_STATUS n, 13, 8⟩
def KVP_EVENT_TENT_SKIP (n : Nat) : Fld := ⟨Reg.KVP_EVENT n, 0, 0⟩
def KVP_EVENT_POISON_FALLBACK (n : Nat) : Fld := ⟨Reg.KVP_EVENT n, 1, 1⟩
def KVP_ERR_INFO_VALID (n : Nat) : Fld := ⟨Reg.KVP_ERR_INFO n, 0, 0⟩
def KVP_ERR_INFO_OP (n : Nat) : Fld := ⟨Reg.KVP_ERR_INFO n, 3, 1⟩
def KVP_ERR_INFO_TIER (n : Nat) : Fld := ⟨Reg.KVP_ERR_INFO n, 5, 4⟩
def KVP_ERR_INFO_STATUS (n : Nat) : Fld := ⟨Reg.KVP_ERR_INFO n, 15, 8⟩
def KVP_ERR_INFO_FN (n : Nat) : Fld := ⟨Reg.KVP_ERR_INFO n, 25, 16⟩
def KVP_ERR_PAGE_PAGE (n : Nat) : Fld := ⟨Reg.KVP_ERR_PAGE n, 15, 0⟩
def KVP_ERR_ADDR_ADDR (n : Nat) : Fld := ⟨Reg.KVP_ERR_ADDR n, 31, 0⟩
def KVP_ERR_CLR_CLEAR (n : Nat) : Fld := ⟨Reg.KVP_ERR_CLR n, 0, 0⟩
def KVP_DOTS_LO_DOTS_LO (n : Nat) : Fld := ⟨Reg.KVP_DOTS_LO n, 31, 0⟩
def KVP_DOTS_HI_DOTS_HI (n : Nat) : Fld := ⟨Reg.KVP_DOTS_HI n, 31, 0⟩
def KVP_FETCH_NEAR_LO_PAGES_LO (n : Nat) : Fld := ⟨Reg.KVP_FETCH_NEAR_LO n, 31, 0⟩
def KVP_FETCH_NEAR_HI_PAGES_HI (n : Nat) : Fld := ⟨Reg.KVP_FETCH_NEAR_HI n, 31, 0⟩
def KVP_FETCH_FAR_LO_PAGES_LO (n : Nat) : Fld := ⟨Reg.KVP_FETCH_FAR_LO n, 31, 0⟩
def KVP_FETCH_FAR_HI_PAGES_HI (n : Nat) : Fld := ⟨Reg.KVP_FETCH_FAR_HI n, 31, 0⟩
def KVP_SKIP_COUNT_COUNT (n : Nat) : Fld := ⟨Reg.KVP_SKIP_COUNT n, 31, 0⟩
def KVP_POISON_COUNT_COUNT (n : Nat) : Fld := ⟨Reg.KVP_POISON_COUNT n, 31, 0⟩
def GWY_STATUS_OPEN (n : Nat) : Fld := ⟨Reg.GWY_STATUS n, 6, 0⟩
def GWY_STATUS_BOUND (n : Nat) : Fld := ⟨Reg.GWY_STATUS n, 16, 8⟩
def GWY_EVENT_NAN_LOGITS (n : Nat) : Fld := ⟨Reg.GWY_EVENT n, 0, 0⟩
def GWY_EVENT_DEFER_LIMIT (n : Nat) : Fld := ⟨Reg.GWY_EVENT n, 1, 1⟩
def GWY_EVENT_REPAIR (n : Nat) : Fld := ⟨Reg.GWY_EVENT n, 2, 2⟩
def GWY_EVENT_UNDERRUN (n : Nat) : Fld := ⟨Reg.GWY_EVENT n, 3, 3⟩
def GWY_EVENT_STALE_NOTICE (n : Nat) : Fld := ⟨Reg.GWY_EVENT n, 4, 4⟩
def GWY_APPLY_TIMEOUT_US (n : Nat) : Fld := ⟨Reg.GWY_APPLY_TIMEOUT n, 15, 0⟩
def GWY_ERR_INFO_VALID (n : Nat) : Fld := ⟨Reg.GWY_ERR_INFO n, 0, 0⟩
def GWY_ERR_INFO_KIND (n : Nat) : Fld := ⟨Reg.GWY_ERR_INFO n, 3, 1⟩
def GWY_ERR_INFO_REQ (n : Nat) : Fld := ⟨Reg.GWY_ERR_INFO n, 9, 4⟩
def GWY_ERR_INFO_FN (n : Nat) : Fld := ⟨Reg.GWY_ERR_INFO n, 25, 16⟩
def GWY_ERR_STATION_STATION (n : Nat) : Fld := ⟨Reg.GWY_ERR_STATION n, 23, 0⟩
def GWY_ERR_CLR_CLEAR (n : Nat) : Fld := ⟨Reg.GWY_ERR_CLR n, 0, 0⟩
def GWY_STALE_COUNT_COUNT (n : Nat) : Fld := ⟨Reg.GWY_STALE_COUNT n, 31, 0⟩
def GWY_REQ_SEL_REQ (n : Nat) : Fld := ⟨Reg.GWY_REQ_SEL n, 5, 0⟩
def GWY_REQ_STATE_STATE (n : Nat) : Fld := ⟨Reg.GWY_REQ_STATE n, 2, 0⟩
def GWY_REQ_STATE_OPEN_EPOCH (n : Nat) : Fld := ⟨Reg.GWY_REQ_STATE n, 15, 8⟩
def GWY_REQ_STATE_LAST_EPOCH (n : Nat) : Fld := ⟨Reg.GWY_REQ_STATE n, 23, 16⟩
def GWY_REQ_STATE_GENERATION (n : Nat) : Fld := ⟨Reg.GWY_REQ_STATE n, 31, 24⟩
def GWY_REQ_MEMBERS_MEMBERS (n : Nat) : Fld := ⟨Reg.GWY_REQ_MEMBERS n, 8, 0⟩
def GWY_REQ_MEMBERS_PENDING (n : Nat) : Fld := ⟨Reg.GWY_REQ_MEMBERS n, 24, 16⟩
def GWY_REQ_BUFFERED_TOKENS (n : Nat) : Fld := ⟨Reg.GWY_REQ_BUFFERED n, 16, 0⟩
def GWY_REQ_LEAD_US (n : Nat) : Fld := ⟨Reg.GWY_REQ_LEAD n, 31, 0⟩
def GWY_REQ_UNDERRUNS_COUNT (n : Nat) : Fld := ⟨Reg.GWY_REQ_UNDERRUNS n, 31, 0⟩
def GWY_REQ_TOKENS_LO_TOKENS_LO (n : Nat) : Fld := ⟨Reg.GWY_REQ_TOKENS_LO n, 31, 0⟩
def GWY_REQ_TOKENS_HI_TOKENS_HI (n : Nat) : Fld := ⟨Reg.GWY_REQ_TOKENS_HI n, 31, 0⟩
def GWY_REQ_SPEC_UJ_LO_UJ_LO (n : Nat) : Fld := ⟨Reg.GWY_REQ_SPEC_UJ_LO n, 31, 0⟩
def GWY_REQ_SPEC_UJ_HI_UJ_HI (n : Nat) : Fld := ⟨Reg.GWY_REQ_SPEC_UJ_HI n, 31, 0⟩
def GWY_REQ_REJECT_UJ_LO_UJ_LO (n : Nat) : Fld := ⟨Reg.GWY_REQ_REJECT_UJ_LO n, 31, 0⟩
def GWY_REQ_REJECT_UJ_HI_UJ_HI (n : Nat) : Fld := ⟨Reg.GWY_REQ_REJECT_UJ_HI n, 31, 0⟩
def GWY_REQ_COMMITS_COUNT (n : Nat) : Fld := ⟨Reg.GWY_REQ_COMMITS n, 31, 0⟩
def GWY_REQ_DISCARDS_COUNT (n : Nat) : Fld := ⟨Reg.GWY_REQ_DISCARDS n, 31, 0⟩
def NT_STATUS_CHANNELS (n : Nat) : Fld := ⟨Reg.NT_STATUS n, 5, 0⟩
def NT_STATUS_READY (n : Nat) : Fld := ⟨Reg.NT_STATUS n, 8, 8⟩
def NT_STATUS_RETRAINING (n : Nat) : Fld := ⟨Reg.NT_STATUS n, 9, 9⟩
def NT_STATUS_RT_CH (n : Nat) : Fld := ⟨Reg.NT_STATUS n, 14, 10⟩
def NT_STATUS_TRACTS (n : Nat) : Fld := ⟨Reg.NT_STATUS n, 21, 16⟩
def NT_CH_FAILED_FAILED (n : Nat) : Fld := ⟨Reg.NT_CH_FAILED n, 31, 0⟩
def NT_TEMP_STACK_C (n : Nat) : Fld := ⟨Reg.NT_TEMP n, 7, 0⟩
def NT_RETRAIN_DRIFT_C (n : Nat) : Fld := ⟨Reg.NT_RETRAIN n, 7, 0⟩
def NT_RETRAIN_MARGIN_MIN (n : Nat) : Fld := ⟨Reg.NT_RETRAIN n, 15, 8⟩
def NT_RETRAIN_CHECKS (n : Nat) : Fld := ⟨Reg.NT_RETRAIN n, 19, 16⟩
def NT_RETRAIN_AUTO (n : Nat) : Fld := ⟨Reg.NT_RETRAIN n, 24, 24⟩
def NT_RETRAIN_REQ_CH (n : Nat) : Fld := ⟨Reg.NT_RETRAIN_REQ n, 4, 0⟩
def NT_RETRAIN_REQ_GO (n : Nat) : Fld := ⟨Reg.NT_RETRAIN_REQ n, 8, 8⟩
def NT_SCRUB_ENABLE (n : Nat) : Fld := ⟨Reg.NT_SCRUB n, 0, 0⟩
def NT_SCRUB_INTERVAL (n : Nat) : Fld := ⟨Reg.NT_SCRUB n, 27, 16⟩
def NT_CE_LIMIT_LIMIT (n : Nat) : Fld := ⟨Reg.NT_CE_LIMIT n, 15, 0⟩
def NT_CE_COUNT_COUNT (n : Nat) : Fld := ⟨Reg.NT_CE_COUNT n, 31, 0⟩
def NT_UE_COUNT_COUNT (n : Nat) : Fld := ⟨Reg.NT_UE_COUNT n, 31, 0⟩
def NT_ERR_ADDR_LO_ADDR_LO (n : Nat) : Fld := ⟨Reg.NT_ERR_ADDR_LO n, 31, 0⟩
def NT_ERR_ADDR_HI_ADDR_HI (n : Nat) : Fld := ⟨Reg.NT_ERR_ADDR_HI n, 31, 0⟩
def NT_ERR_INFO_VALID (n : Nat) : Fld := ⟨Reg.NT_ERR_INFO n, 0, 0⟩
def NT_ERR_INFO_SCRUB (n : Nat) : Fld := ⟨Reg.NT_ERR_INFO n, 1, 1⟩
def NT_ERR_INFO_RESET_LIST (n : Nat) : Fld := ⟨Reg.NT_ERR_INFO n, 2, 2⟩
def NT_ERR_INFO_CH (n : Nat) : Fld := ⟨Reg.NT_ERR_INFO n, 7, 3⟩
def NT_ERR_INFO_FN (n : Nat) : Fld := ⟨Reg.NT_ERR_INFO n, 25, 16⟩
def NT_ERR_CLR_CLEAR (n : Nat) : Fld := ⟨Reg.NT_ERR_CLR n, 0, 0⟩
def NT_RETRAIN_COUNT_COUNT (n : Nat) : Fld := ⟨Reg.NT_RETRAIN_COUNT n, 31, 0⟩
def NT_EVENT_RETRAIN_FAILED (n : Nat) : Fld := ⟨Reg.NT_EVENT n, 0, 0⟩
def NT_EVENT_OWNER_WRITE_DROPPED (n : Nat) : Fld := ⟨Reg.NT_EVENT n, 1, 1⟩
def NT_TRACT_OWNER_KIND (n t : Nat) : Fld := ⟨Reg.NT_TRACT_OWNER n t, 1, 0⟩
def NT_TRACT_OWNER_READERS (n t : Nat) : Fld := ⟨Reg.NT_TRACT_OWNER n t, 2, 2⟩
def NT_TRACT_OWNER_CLEARING (n t : Nat) : Fld := ⟨Reg.NT_TRACT_OWNER n t, 3, 3⟩
def NT_TRACT_OWNER_OWNER_FN (n t : Nat) : Fld := ⟨Reg.NT_TRACT_OWNER n t, 25, 16⟩
def NT_CH_TAG_TEMP_C (n c : Nat) : Fld := ⟨Reg.NT_CH_TAG n c, 7, 0⟩
def NT_CH_TAG_LOAD (n c : Nat) : Fld := ⟨Reg.NT_CH_TAG n c, 9, 8⟩
def NT_CH_TAG_MARGIN (n c : Nat) : Fld := ⟨Reg.NT_CH_TAG n c, 23, 16⟩
def NT_CH_TAG_MARGIN_NOW (n c : Nat) : Fld := ⟨Reg.NT_CH_TAG n c, 31, 24⟩
def FT_PORT_STATE_STATE (q : Nat) : Fld := ⟨Reg.FT_PORT_STATE q, 2, 0⟩
def FT_PORT_STATE_STALE (q : Nat) : Fld := ⟨Reg.FT_PORT_STATE q, 3, 3⟩
def FT_PORT_STATE_WIDTH (q : Nat) : Fld := ⟨Reg.FT_PORT_STATE q, 8, 4⟩
def FT_PORT_STATE_SPEED (q : Nat) : Fld := ⟨Reg.FT_PORT_STATE q, 10, 9⟩
def FT_PORT_CAP_GIB (q : Nat) : Fld := ⟨Reg.FT_PORT_CAP q, 9, 0⟩
def FT_PORT_CAP_EXCESS (q : Nat) : Fld := ⟨Reg.FT_PORT_CAP q, 10, 10⟩
def FT_PORT_CTRL_RESET (q : Nat) : Fld := ⟨Reg.FT_PORT_CTRL q, 0, 0⟩
def FT_PORT_CTRL_ACCEPT_STALE (q : Nat) : Fld := ⟨Reg.FT_PORT_CTRL q, 1, 1⟩
def FT_PORT_TIMEOUT_US (q : Nat) : Fld := ⟨Reg.FT_PORT_TIMEOUT q, 15, 0⟩
def FT_PORT_RTT_NS (q : Nat) : Fld := ⟨Reg.FT_PORT_RTT q, 15, 0⟩
def FT_PORT_POISON_COUNT_COUNT (q : Nat) : Fld := ⟨Reg.FT_PORT_POISON_COUNT q, 31, 0⟩
def FT_PORT_ERR_COUNT_COUNT (q : Nat) : Fld := ⟨Reg.FT_PORT_ERR_COUNT q, 31, 0⟩
def FT_PORT_STALE_RSP_COUNT (q : Nat) : Fld := ⟨Reg.FT_PORT_STALE_RSP q, 31, 0⟩
def FT_PORT_EVENT_LINK_DOWN (q : Nat) : Fld := ⟨Reg.FT_PORT_EVENT q, 0, 0⟩
def FT_PORT_EVENT_VIRAL (q : Nat) : Fld := ⟨Reg.FT_PORT_EVENT q, 1, 1⟩
def FT_PORT_EVENT_TIMEOUT (q : Nat) : Fld := ⟨Reg.FT_PORT_EVENT q, 2, 2⟩
def FT_PORT_EVENT_REFUSED (q : Nat) : Fld := ⟨Reg.FT_PORT_EVENT q, 3, 3⟩
def FT_PORT_EVENT_OWNER_WRITE_DROPPED (q : Nat) : Fld := ⟨Reg.FT_PORT_EVENT q, 4, 4⟩
def HIF_LINK_WIDTH : Fld := ⟨Reg.HIF_LINK, 4, 0⟩
def HIF_LINK_SPEED : Fld := ⟨Reg.HIF_LINK, 7, 5⟩
def HIF_LINK_FLIT : Fld := ⟨Reg.HIF_LINK, 8, 8⟩
def HIF_CFG_BAR4_EN : Fld := ⟨Reg.HIF_CFG, 0, 0⟩
def HIF_CFG_APERTURE_PARCEL : Fld := ⟨Reg.HIF_CFG, 7, 4⟩
def HIF_CFG_BME_LIMIT_MS : Fld := ⟨Reg.HIF_CFG, 25, 16⟩
def HIF_EVENT_CTX_CMD_REJECTED : Fld := ⟨Reg.HIF_EVENT, 0, 0⟩
def HIF_EVENT_CTX_WRITE_DROPPED : Fld := ⟨Reg.HIF_EVENT, 1, 1⟩
def HIF_EVENT_RING_OVERFLOW : Fld := ⟨Reg.HIF_EVENT, 2, 2⟩
def HIF_EVENT_FETCH_FAILED : Fld := ⟨Reg.HIF_EVENT, 3, 3⟩
def HIF_EVENT_HOST_ERR : Fld := ⟨Reg.HIF_EVENT, 4, 4⟩
def HIF_ERR_INFO_VALID : Fld := ⟨Reg.HIF_ERR_INFO, 0, 0⟩
def HIF_ERR_INFO_CAUSE : Fld := ⟨Reg.HIF_ERR_INFO, 4, 1⟩
def HIF_ERR_INFO_FN : Fld := ⟨Reg.HIF_ERR_INFO, 25, 16⟩
def HIF_ERR_ADDR_LO_ADDR_LO : Fld := ⟨Reg.HIF_ERR_ADDR_LO, 31, 0⟩
def HIF_ERR_ADDR_HI_ADDR_HI : Fld := ⟨Reg.HIF_ERR_ADDR_HI, 31, 0⟩
def HIF_ERR_CLR_CLEAR : Fld := ⟨Reg.HIF_ERR_CLR, 0, 0⟩
def HIF_DB_STALE_COUNT : Fld := ⟨Reg.HIF_DB_STALE, 31, 0⟩
def HIF_DB_BAD_COUNT : Fld := ⟨Reg.HIF_DB_BAD, 31, 0⟩
def HIF_FN_SEL_FN : Fld := ⟨Reg.HIF_FN_SEL, 9, 0⟩
def HIF_FN_STATUS_ENABLED : Fld := ⟨Reg.HIF_FN_STATUS, 0, 0⟩
def HIF_FN_STATUS_DISABLING : Fld := ⟨Reg.HIF_FN_STATUS, 1, 1⟩
def HIF_FN_STATUS_BME : Fld := ⟨Reg.HIF_FN_STATUS, 2, 2⟩
def HIF_FN_STATUS_CONTEXTS : Fld := ⟨Reg.HIF_FN_STATUS, 23, 16⟩
def HIF_AP_REFUSED_COUNT : Fld := ⟨Reg.HIF_AP_REFUSED, 31, 0⟩
def HIF_BAR0_BAD_COUNT : Fld := ⟨Reg.HIF_BAR0_BAD, 31, 0⟩
def HIF_CTX_SEL_CTX : Fld := ⟨Reg.HIF_CTX_SEL, 11, 0⟩
def HIF_CTX_CMD_CMD : Fld := ⟨Reg.HIF_CTX_CMD, 2, 0⟩
def HIF_CTX_RESULT_CODE : Fld := ⟨Reg.HIF_CTX_RESULT, 2, 0⟩
def HIF_CTX_STATE_STATE : Fld := ⟨Reg.HIF_CTX_STATE, 1, 0⟩
def HIF_CTX_STATE_JOINED : Fld := ⟨Reg.HIF_CTX_STATE, 2, 2⟩
def HIF_CTX_FN_FN : Fld := ⟨Reg.HIF_CTX_FN, 9, 0⟩
def HIF_CTX_FN_SLOT : Fld := ⟨Reg.HIF_CTX_FN, 22, 16⟩
def HIF_CTX_PARCELS_HOME : Fld := ⟨Reg.HIF_CTX_PARCELS, 3, 0⟩
def HIF_CTX_PARCELS_MASK : Fld := ⟨Reg.HIF_CTX_PARCELS, 27, 16⟩
def HIF_CTX_JOB_TAG_TAG : Fld := ⟨Reg.HIF_CTX_JOB_TAG, 31, 0⟩
def HIF_CTX_RINGS_DRING_LOG2 : Fld := ⟨Reg.HIF_CTX_RINGS, 4, 0⟩
def HIF_CTX_RINGS_CRING_LOG2 : Fld := ⟨Reg.HIF_CTX_RINGS, 12, 8⟩
def HIF_CTX_DRING_LO_BASE_LO : Fld := ⟨Reg.HIF_CTX_DRING_LO, 31, 0⟩
def HIF_CTX_DRING_HI_BASE_HI : Fld := ⟨Reg.HIF_CTX_DRING_HI, 31, 0⟩
def HIF_CTX_CRING_LO_BASE_LO : Fld := ⟨Reg.HIF_CTX_CRING_LO, 31, 0⟩
def HIF_CTX_CRING_HI_BASE_HI : Fld := ⟨Reg.HIF_CTX_CRING_HI, 31, 0⟩
def HIF_CTX_FSHADOW_LO_ADDR_LO : Fld := ⟨Reg.HIF_CTX_FSHADOW_LO, 31, 0⟩
def HIF_CTX_FSHADOW_HI_ADDR_HI : Fld := ⟨Reg.HIF_CTX_FSHADOW_HI, 31, 0⟩
def HIF_CTX_IRQ_VEC : Fld := ⟨Reg.HIF_CTX_IRQ, 10, 0⟩
def HIF_CTX_IRQ_CO_N : Fld := ⟨Reg.HIF_CTX_IRQ, 24, 16⟩
def HIF_CTX_IRQ_US_CO_US : Fld := ⟨Reg.HIF_CTX_IRQ_US, 9, 0⟩
def HIF_CTX_FETCH_POS_POS : Fld := ⟨Reg.HIF_CTX_FETCH_POS, 19, 0⟩
def HIF_CTX_DB_POS_POS : Fld := ⟨Reg.HIF_CTX_DB_POS, 19, 0⟩
def HIF_CTX_REC_POS_POS : Fld := ⟨Reg.HIF_CTX_REC_POS, 19, 0⟩
def HIF_CTX_HEAD_POS_POS : Fld := ⟨Reg.HIF_CTX_HEAD_POS, 19, 0⟩
def OWN_STATUS_OWNER : Fld := ⟨Reg.OWN_STATUS, 1, 0⟩
def OWN_STATUS_LOCKED : Fld := ⟨Reg.OWN_STATUS, 2, 2⟩
def OWN_STATUS_PENDING : Fld := ⟨Reg.OWN_STATUS, 3, 3⟩
def OWN_STATUS_SUCCESSOR : Fld := ⟨Reg.OWN_STATUS, 5, 4⟩
def OWN_STATUS_BUSY : Fld := ⟨Reg.OWN_STATUS, 6, 6⟩
def OWN_STATUS_SAFE : Fld := ⟨Reg.OWN_STATUS, 7, 7⟩
def OWN_CMD_CODE : Fld := ⟨Reg.OWN_CMD, 3, 0⟩
def OWN_CMD_TARGET : Fld := ⟨Reg.OWN_CMD, 5, 4⟩
def OWN_RESULT_CODE : Fld := ⟨Reg.OWN_RESULT, 2, 0⟩
def OWN_HANDOVER_LEFT_MS : Fld := ⟨Reg.OWN_HANDOVER_LEFT, 6, 0⟩
def OWN_GEN_GEN : Fld := ⟨Reg.OWN_GEN, 31, 0⟩
def OWN_VIOL_COUNT_COUNT : Fld := ⟨Reg.OWN_VIOL_COUNT, 31, 0⟩
def OWN_VIOL_INFO_VALID : Fld := ⟨Reg.OWN_VIOL_INFO, 0, 0⟩
def OWN_VIOL_INFO_PATH : Fld := ⟨Reg.OWN_VIOL_INFO, 3, 1⟩
def OWN_VIOL_ADDR_OFFSET : Fld := ⟨Reg.OWN_VIOL_ADDR, 25, 0⟩
def OWN_VIOL_CLR_CLEAR : Fld := ⟨Reg.OWN_VIOL_CLR, 0, 0⟩
def ETH_PORT_CFG_ENABLE (e : Nat) : Fld := ⟨Reg.ETH_PORT_CFG e, 0, 0⟩
def ETH_PORT_CFG_FC_MODE (e : Nat) : Fld := ⟨Reg.ETH_PORT_CFG e, 2, 1⟩
def ETH_PORT_CFG_REFRESH_US (e : Nat) : Fld := ⟨Reg.ETH_PORT_CFG e, 25, 16⟩
def ETH_PORT_STATUS_LINK_UP (e : Nat) : Fld := ⟨Reg.ETH_PORT_STATUS e, 0, 0⟩
def ETH_PORT_STATUS_RX_PAUSED (e : Nat) : Fld := ⟨Reg.ETH_PORT_STATUS e, 8, 1⟩
def ETH_PORT_STATUS_TX_PAUSED (e : Nat) : Fld := ⟨Reg.ETH_PORT_STATUS e, 16, 9⟩
def ETH_EVENT_LINK_DOWN (e : Nat) : Fld := ⟨Reg.ETH_EVENT e, 0, 0⟩
def ETH_EVENT_Q_ERROR (e : Nat) : Fld := ⟨Reg.ETH_EVENT e, 1, 1⟩
def ETH_MAC_LO_MAC_LO (e : Nat) : Fld := ⟨Reg.ETH_MAC_LO e, 31, 0⟩
def ETH_MAC_HI_MAC_HI (e : Nat) : Fld := ⟨Reg.ETH_MAC_HI e, 15, 0⟩
def ETH_Q_SEL_Q (e : Nat) : Fld := ⟨Reg.ETH_Q_SEL e, 6, 0⟩
def ETH_Q_CTRL_STATE (e : Nat) : Fld := ⟨Reg.ETH_Q_CTRL e, 1, 0⟩
def ETH_Q_CTX_CTX (e : Nat) : Fld := ⟨Reg.ETH_Q_CTX e, 11, 0⟩
def ETH_Q_CTX_MARK_P (e : Nat) : Fld := ⟨Reg.ETH_Q_CTX e, 20, 16⟩
def ETH_Q_CTX_MARK_C (e : Nat) : Fld := ⟨Reg.ETH_Q_CTX e, 28, 24⟩
def ETH_Q_RING_BASE (e : Nat) : Fld := ⟨Reg.ETH_Q_RING e, 31, 0⟩
def ETH_Q_FMT_RING_LOG2 (e : Nat) : Fld := ⟨Reg.ETH_Q_FMT e, 3, 0⟩
def ETH_Q_FMT_BUF_LOG2 (e : Nat) : Fld := ⟨Reg.ETH_Q_FMT e, 7, 4⟩
def ETH_Q_FMT_PRIO (e : Nat) : Fld := ⟨Reg.ETH_Q_FMT e, 10, 8⟩
def ETH_Q_FC_XOFF (e : Nat) : Fld := ⟨Reg.ETH_Q_FC e, 11, 0⟩
def ETH_Q_FC_XON (e : Nat) : Fld := ⟨Reg.ETH_Q_FC e, 27, 16⟩
def ETH_Q_POS_K (e : Nat) : Fld := ⟨Reg.ETH_Q_POS e, 31, 0⟩
def ETH_FILT_MAC_LO_MAC_LO (e f : Nat) : Fld := ⟨Reg.ETH_FILT_MAC_LO e f, 31, 0⟩
def ETH_FILT_MAC_HI_MAC_HI (e f : Nat) : Fld := ⟨Reg.ETH_FILT_MAC_HI e f, 15, 0⟩
def ETH_FILT_MAC_HI_VLAN_ID (e f : Nat) : Fld := ⟨Reg.ETH_FILT_MAC_HI e f, 27, 16⟩
def ETH_FILT_MAC_HI_VLAN_EN (e f : Nat) : Fld := ⟨Reg.ETH_FILT_MAC_HI e f, 28, 28⟩
def ETH_FILT_TGT_VALID (e f : Nat) : Fld := ⟨Reg.ETH_FILT_TGT e f, 0, 0⟩
def ETH_FILT_TGT_QBASE (e f : Nat) : Fld := ⟨Reg.ETH_FILT_TGT e f, 13, 8⟩
def ETH_FILT_TGT_QCNT_LOG2 (e f : Nat) : Fld := ⟨Reg.ETH_FILT_TGT e f, 18, 16⟩
def LNK_STATUS_STATE (p : Nat) : Fld := ⟨Reg.LNK_STATUS p, 3, 0⟩
def LNK_STATUS_WIDTH (p : Nat) : Fld := ⟨Reg.LNK_STATUS p, 5, 4⟩
def LNK_STATUS_LANES (p : Nat) : Fld := ⟨Reg.LNK_STATUS p, 9, 6⟩
def LNK_STATUS_LANE_EXCL (p : Nat) : Fld := ⟨Reg.LNK_STATUS p, 13, 10⟩
def LNK_STATUS_VC3_ONLY_RX (p : Nat) : Fld := ⟨Reg.LNK_STATUS p, 14, 14⟩
def LNK_STATUS_RETRAINING (p : Nat) : Fld := ⟨Reg.LNK_STATUS p, 15, 15⟩
def LNK_STATUS_RT_LANE (p : Nat) : Fld := ⟨Reg.LNK_STATUS p, 17, 16⟩
def LNK_CTRL_ENABLE (p : Nat) : Fld := ⟨Reg.LNK_CTRL p, 0, 0⟩
def LNK_CTRL_RETRAIN (p : Nat) : Fld := ⟨Reg.LNK_CTRL p, 1, 1⟩
def LNK_CTRL_RESTART (p : Nat) : Fld := ⟨Reg.LNK_CTRL p, 2, 2⟩
def LNK_CTRL_LANE (p : Nat) : Fld := ⟨Reg.LNK_CTRL p, 5, 4⟩
def LNK_CTRL_LANE_REQ (p : Nat) : Fld := ⟨Reg.LNK_CTRL p, 6, 6⟩
def LNK_PEER_SERIAL_LO_SERIAL_LO (p : Nat) : Fld := ⟨Reg.LNK_PEER_SERIAL_LO p, 31, 0⟩
def LNK_PEER_SERIAL_HI_SERIAL_HI (p : Nat) : Fld := ⟨Reg.LNK_PEER_SERIAL_HI p, 31, 0⟩
def LNK_PEER_PORT (p : Nat) : Fld := ⟨Reg.LNK_PEER p, 4, 0⟩
def LNK_PEER_VERSION (p : Nat) : Fld := ⟨Reg.LNK_PEER p, 15, 8⟩
def LNK_PEER_VALID (p : Nat) : Fld := ⟨Reg.LNK_PEER p, 16, 16⟩
def LNK_EPOCH_TX_EPOCH (p : Nat) : Fld := ⟨Reg.LNK_EPOCH p, 15, 0⟩
def LNK_EPOCH_RX_EPOCH (p : Nat) : Fld := ⟨Reg.LNK_EPOCH p, 31, 16⟩
def LNK_SEQ_TX_NEXT (p : Nat) : Fld := ⟨Reg.LNK_SEQ p, 11, 0⟩
def LNK_SEQ_RX_EXPECT (p : Nat) : Fld := ⟨Reg.LNK_SEQ p, 27, 16⟩
def LNK_REPLAY_UNACKED (p : Nat) : Fld := ⟨Reg.LNK_REPLAY p, 10, 0⟩
def LNK_CFG_REPLAY_NS (p : Nat) : Fld := ⟨Reg.LNK_CFG p, 15, 0⟩
def LNK_CFG_REPLAY_LIMIT (p : Nat) : Fld := ⟨Reg.LNK_CFG p, 19, 16⟩
def LNK_RETRAIN_DRIFT_C (p : Nat) : Fld := ⟨Reg.LNK_RETRAIN p, 7, 0⟩
def LNK_RETRAIN_CHECKS (p : Nat) : Fld := ⟨Reg.LNK_RETRAIN p, 11, 8⟩
def LNK_RETRAIN_AUTO (p : Nat) : Fld := ⟨Reg.LNK_RETRAIN p, 12, 12⟩
def LNK_CSYM_MAX_MAX (p : Nat) : Fld := ⟨Reg.LNK_CSYM_MAX p, 31, 0⟩
def LNK_EVENT_VIOLATION (p : Nat) : Fld := ⟨Reg.LNK_EVENT p, 0, 0⟩
def LNK_EVENT_RESTART (p : Nat) : Fld := ⟨Reg.LNK_EVENT p, 1, 1⟩
def LNK_EVENT_DOWN (p : Nat) : Fld := ⟨Reg.LNK_EVENT p, 2, 2⟩
def LNK_EVENT_DEGRADED (p : Nat) : Fld := ⟨Reg.LNK_EVENT p, 3, 3⟩
def LNK_EVENT_RETRAIN_FAILED (p : Nat) : Fld := ⟨Reg.LNK_EVENT p, 4, 4⟩
def LNK_EVENT_STALE_DISCARD (p : Nat) : Fld := ⟨Reg.LNK_EVENT p, 5, 5⟩
def LNK_EVENT_PEER_CHANGED (p : Nat) : Fld := ⟨Reg.LNK_EVENT p, 6, 6⟩
def LNK_EVENT_REFUSED (p : Nat) : Fld := ⟨Reg.LNK_EVENT p, 7, 7⟩
def LNK_VIOL_INFO_VALID (p : Nat) : Fld := ⟨Reg.LNK_VIOL_INFO p, 0, 0⟩
def LNK_VIOL_INFO_KIND (p : Nat) : Fld := ⟨Reg.LNK_VIOL_INFO p, 4, 1⟩
def LNK_VIOL_INFO_VC (p : Nat) : Fld := ⟨Reg.LNK_VIOL_INFO p, 9, 8⟩
def LNK_VIOL_INFO_PTYPE (p : Nat) : Fld := ⟨Reg.LNK_VIOL_INFO p, 23, 16⟩
def LNK_VIOL_CLR_CLEAR (p : Nat) : Fld := ⟨Reg.LNK_VIOL_CLR p, 0, 0⟩
def LNK_VIOL_COUNT_COUNT (p : Nat) : Fld := ⟨Reg.LNK_VIOL_COUNT p, 31, 0⟩
def LNK_CREDIT_AVAIL (p v : Nat) : Fld := ⟨Reg.LNK_CREDIT p v, 11, 0⟩
def LNK_CREDIT_GRANTED_FREE (p v : Nat) : Fld := ⟨Reg.LNK_CREDIT p v, 27, 16⟩
def LNK_CRC_ERR_COUNT (p : Nat) : Fld := ⟨Reg.LNK_CRC_ERR p, 31, 0⟩
def LNK_FEC_UNCORR_COUNT (p : Nat) : Fld := ⟨Reg.LNK_FEC_UNCORR p, 31, 0⟩
def LNK_REPLAYS_COUNT (p : Nat) : Fld := ⟨Reg.LNK_REPLAYS p, 31, 0⟩
def LNK_RESTARTS_COUNT (p : Nat) : Fld := ⟨Reg.LNK_RESTARTS p, 31, 0⟩
def LNK_STALE_COUNT (p : Nat) : Fld := ⟨Reg.LNK_STALE p, 31, 0⟩
def LNK_DISCARDED_COUNT (p : Nat) : Fld := ⟨Reg.LNK_DISCARDED p, 31, 0⟩
def LNK_STOMPED_COUNT (p : Nat) : Fld := ⟨Reg.LNK_STOMPED p, 31, 0⟩
def LNK_RETRAIN_COUNT_COUNT (p : Nat) : Fld := ⟨Reg.LNK_RETRAIN_COUNT p, 31, 0⟩
def LNK_UNITS_LO_UNITS_LO (p : Nat) : Fld := ⟨Reg.LNK_UNITS_LO p, 31, 0⟩
def LNK_UNITS_HI_UNITS_HI (p : Nat) : Fld := ⟨Reg.LNK_UNITS_HI p, 31, 0⟩
def LNK_LANE_TAG_TEMP_C (p l : Nat) : Fld := ⟨Reg.LNK_LANE_TAG p l, 7, 0⟩
def LNK_LANE_TAG_LOAD (p l : Nat) : Fld := ⟨Reg.LNK_LANE_TAG p l, 9, 8⟩
def LNK_LANE_TAG_CSYM_CSYM (p l : Nat) : Fld := ⟨Reg.LNK_LANE_TAG_CSYM p l, 31, 0⟩
def LNK_LANE_CSYM_CSYM (p l : Nat) : Fld := ⟨Reg.LNK_LANE_CSYM p l, 31, 0⟩
def FAB_STATION_LANDING : Fld := ⟨Reg.FAB_STATION, 11, 0⟩
def FAB_STATION_BERTH : Fld := ⟨Reg.FAB_STATION, 15, 12⟩
def FAB_STATION_VALID : Fld := ⟨Reg.FAB_STATION, 16, 16⟩
def FAB_STATION_DATUM : Fld := ⟨Reg.FAB_STATION, 17, 17⟩
def FAB_MODE_MODE : Fld := ⟨Reg.FAB_MODE, 0, 0⟩
def FAB_TRAV_STATUS_EPOCH : Fld := ⟨Reg.FAB_TRAV_STATUS, 15, 0⟩
def FAB_TRAV_STATUS_PHASE : Fld := ⟨Reg.FAB_TRAV_STATUS, 18, 16⟩
def FAB_TRAV_STATUS_NEXT_DUE : Fld := ⟨Reg.FAB_TRAV_STATUS, 19, 19⟩
def FAB_TRAV_CTRL_START : Fld := ⟨Reg.FAB_TRAV_CTRL, 0, 0⟩
def FAB_DATUM_SERIAL_LO_SERIAL_LO : Fld := ⟨Reg.FAB_DATUM_SERIAL_LO, 31, 0⟩
def FAB_DATUM_SERIAL_HI_SERIAL_HI : Fld := ⟨Reg.FAB_DATUM_SERIAL_HI, 31, 0⟩
def FAB_EVENT_TRAV_DONE : Fld := ⟨Reg.FAB_EVENT, 0, 0⟩
def FAB_EVENT_BERTH_CHANGED : Fld := ⟨Reg.FAB_EVENT, 1, 1⟩
def FAB_EVENT_MISCABLED : Fld := ⟨Reg.FAB_EVENT, 2, 2⟩
def FAB_EVENT_LANDING_LOST : Fld := ⟨Reg.FAB_EVENT, 3, 3⟩
def FAB_EVENT_TIME_LOST : Fld := ⟨Reg.FAB_EVENT, 4, 4⟩
def FAB_EVENT_WINDOW_FULL : Fld := ⟨Reg.FAB_EVENT, 5, 5⟩
def FAB_UNREACH_COUNT : Fld := ⟨Reg.FAB_UNREACH, 31, 0⟩
def FAB_HOP_DROP_COUNT : Fld := ⟨Reg.FAB_HOP_DROP, 31, 0⟩
def FAB_LATE_RSP_COUNT : Fld := ⟨Reg.FAB_LATE_RSP, 31, 0⟩
def FAB_TRAV_BAD_COUNT : Fld := ⟨Reg.FAB_TRAV_BAD, 31, 0⟩
def FAB_PORT_STATE_STATE (p : Nat) : Fld := ⟨Reg.FAB_PORT_STATE p, 2, 0⟩
def FAB_PORT_STATE_TREE (p : Nat) : Fld := ⟨Reg.FAB_PORT_STATE p, 3, 3⟩
def FAB_PORT_STATE_PEER_BERTH (p : Nat) : Fld := ⟨Reg.FAB_PORT_STATE p, 11, 8⟩
def FAB_PORT_STATE_DEPTH (p : Nat) : Fld := ⟨Reg.FAB_PORT_STATE p, 31, 16⟩
def FAB_ROUTE_BIAS : Fld := ⟨Reg.FAB_ROUTE, 15, 0⟩
def FAB_ROUTE_HOP_LIMIT : Fld := ⟨Reg.FAB_ROUTE, 19, 16⟩
def FAB_ROUTE_RELAY_EN : Fld := ⟨Reg.FAB_ROUTE, 20, 20⟩
def FAB_E2E_DEFAULT : Fld := ⟨Reg.FAB_E2E, 13, 0⟩
def FAB_E2E_BUDGET_BUDGET : Fld := ⟨Reg.FAB_E2E_BUDGET, 15, 0⟩
def FAB_RSP_TIMEOUT_US : Fld := ⟨Reg.FAB_RSP_TIMEOUT, 15, 0⟩
def FAB_TIME_LO_NS_LO : Fld := ⟨Reg.FAB_TIME_LO, 31, 0⟩
def FAB_TIME_HI_NS_HI : Fld := ⟨Reg.FAB_TIME_HI, 31, 0⟩
def FAB_TIME_STATUS_SYNCED : Fld := ⟨Reg.FAB_TIME_STATUS, 0, 0⟩
def FAB_TIME_STATUS_HOLDOVER : Fld := ⟨Reg.FAB_TIME_STATUS, 1, 1⟩
def FAB_TIME_STATUS_SRC_PORT : Fld := ⟨Reg.FAB_TIME_STATUS, 6, 2⟩
def FAB_TIME_STATUS_GRADE : Fld := ⟨Reg.FAB_TIME_STATUS, 15, 8⟩
def FAB_TIME_STATUS_OFFSET : Fld := ⟨Reg.FAB_TIME_STATUS, 31, 16⟩
def FAB_TIME_CFG_ROOT : Fld := ⟨Reg.FAB_TIME_CFG, 0, 0⟩
def FAB_TIME_CFG_INTERVAL_US : Fld := ⟨Reg.FAB_TIME_CFG, 15, 8⟩
def COL_STATUS_RECORDS : Fld := ⟨Reg.COL_STATUS, 10, 0⟩
def COL_STATUS_RUNNING : Fld := ⟨Reg.COL_STATUS, 25, 16⟩
def COL_CFG_TIMEOUT_US : Fld := ⟨Reg.COL_CFG, 15, 0⟩
def COL_EVENT_ABORT_SENT : Fld := ⟨Reg.COL_EVENT, 0, 0⟩
def COL_EVENT_ABORT_RCVD : Fld := ⟨Reg.COL_EVENT, 1, 1⟩
def COL_EVENT_STRAY : Fld := ⟨Reg.COL_EVENT, 2, 2⟩
def COL_ABORT_INFO_VALID : Fld := ⟨Reg.COL_ABORT_INFO, 0, 0⟩
def COL_ABORT_INFO_CAUSE : Fld := ⟨Reg.COL_ABORT_INFO, 3, 1⟩
def COL_ABORT_INFO_STATUS : Fld := ⟨Reg.COL_ABORT_INFO, 15, 8⟩
def COL_ABORT_INFO_FN : Fld := ⟨Reg.COL_ABORT_INFO, 25, 16⟩
def COL_ABORT_TAG_LO_OP_SEQ : Fld := ⟨Reg.COL_ABORT_TAG_LO, 31, 0⟩
def COL_ABORT_TAG_HI_DIGEST : Fld := ⟨Reg.COL_ABORT_TAG_HI, 31, 0⟩
def COL_ABORT_ORIGIN_STATION : Fld := ⟨Reg.COL_ABORT_ORIGIN, 23, 0⟩
def COL_ABORT_CLR_CLEAR : Fld := ⟨Reg.COL_ABORT_CLR, 0, 0⟩
def COL_STRAY_COUNT : Fld := ⟨Reg.COL_STRAY, 31, 0⟩
def COL_ABORTS_COUNT : Fld := ⟨Reg.COL_ABORTS, 31, 0⟩
def COL_ADDS_LO_ADDS_LO : Fld := ⟨Reg.COL_ADDS_LO, 31, 0⟩
def COL_ADDS_HI_ADDS_HI : Fld := ⟨Reg.COL_ADDS_HI, 31, 0⟩
def TOL_STATUS_BUDGET_W : Fld := ⟨Reg.TOL_STATUS, 10, 0⟩
def TOL_STATUS_THROTTLE : Fld := ⟨Reg.TOL_STATUS, 11, 11⟩
def TOL_STATUS_EXCURSION : Fld := ⟨Reg.TOL_STATUS, 12, 12⟩
def TOL_STATUS_TELEM_LOST : Fld := ⟨Reg.TOL_STATUS, 13, 13⟩
def TOL_STATUS_COOLANT_STALE : Fld := ⟨Reg.TOL_STATUS, 14, 14⟩
def TOL_STATUS_FLOOR : Fld := ⟨Reg.TOL_STATUS, 15, 15⟩
def TOL_STATUS_ALLOW_W : Fld := ⟨Reg.TOL_STATUS, 31, 16⟩
def TOL_TRAY_BUDGET_W : Fld := ⟨Reg.TOL_TRAY_BUDGET, 10, 0⟩
def TOL_CAP_W : Fld := ⟨Reg.TOL_CAP, 10, 0⟩
def TOL_SHARE0_W_P0_7 : Fld := ⟨Reg.TOL_SHARE0, 31, 0⟩
def TOL_SHARE1_W_P8_11 : Fld := ⟨Reg.TOL_SHARE1, 15, 0⟩
def TOL_COL_POOL_POOL_W : Fld := ⟨Reg.TOL_COL_POOL, 7, 0⟩
def TOL_DENY_MS : Fld := ⟨Reg.TOL_DENY, 15, 0⟩
def TOL_CLASS_W0_C0_C3 : Fld := ⟨Reg.TOL_CLASS_W0, 31, 0⟩
def TOL_CLASS_W1_C4_C7 : Fld := ⟨Reg.TOL_CLASS_W1, 31, 0⟩
def TOL_GUARD_MV : Fld := ⟨Reg.TOL_GUARD, 7, 0⟩
def TOL_TJ_TJ_C : Fld := ⟨Reg.TOL_TJ, 7, 0⟩
def TOL_TJ_THROTTLE_C : Fld := ⟨Reg.TOL_TJ, 15, 8⟩
def TOL_TJ_TRIP_C : Fld := ⟨Reg.TOL_TJ, 23, 16⟩
def TOL_STATIC_LEAK85_W : Fld := ⟨Reg.TOL_STATIC, 10, 0⟩
def TOL_STATIC_FIXED_W : Fld := ⟨Reg.TOL_STATIC, 27, 16⟩
def TOL_STATIC_ADJ_ADJ_W : Fld := ⟨Reg.TOL_STATIC_ADJ, 15, 0⟩
def TOL_STATIC_ADJ_EST_W : Fld := ⟨Reg.TOL_STATIC_ADJ, 31, 16⟩
def TOL_EVENT_LEASE_DENIED : Fld := ⟨Reg.TOL_EVENT, 0, 0⟩
def TOL_EVENT_BELOW_FLOOR : Fld := ⟨Reg.TOL_EVENT, 1, 1⟩
def TOL_EVENT_CUT : Fld := ⟨Reg.TOL_EVENT, 2, 2⟩
def TOL_EVENT_TELEM_LOST : Fld := ⟨Reg.TOL_EVENT, 3, 3⟩
def TOL_EVENT_REG_FAULT : Fld := ⟨Reg.TOL_EVENT, 4, 4⟩
def TOL_EVENT_THROTTLE : Fld := ⟨Reg.TOL_EVENT, 5, 5⟩
def TOL_EVENT_SENSOR : Fld := ⟨Reg.TOL_EVENT, 6, 6⟩
def TOL_EVENT_STACK_HOT : Fld := ⟨Reg.TOL_EVENT, 7, 7⟩
def TOL_EVENT_COOLANT_HOT : Fld := ⟨Reg.TOL_EVENT, 8, 8⟩
def TOL_EVENT_COOLANT_STALE : Fld := ⟨Reg.TOL_EVENT, 9, 9⟩
def TOL_DENIED_COUNT : Fld := ⟨Reg.TOL_DENIED, 31, 0⟩
def TOL_AVS_ERR_COUNT : Fld := ⟨Reg.TOL_AVS_ERR, 31, 0⟩
def TOL_POWER_TICK_W : Fld := ⟨Reg.TOL_POWER, 15, 0⟩
def TOL_POWER_MEAN100_W : Fld := ⟨Reg.TOL_POWER, 31, 16⟩
def TOL_TOTAL_UJ_LO_UJ_LO : Fld := ⟨Reg.TOL_TOTAL_UJ_LO, 31, 0⟩
def TOL_TOTAL_UJ_HI_UJ_HI : Fld := ⟨Reg.TOL_TOTAL_UJ_HI, 31, 0⟩
def TOL_DEV_UJ_LO_UJ_LO : Fld := ⟨Reg.TOL_DEV_UJ_LO, 31, 0⟩
def TOL_DEV_UJ_HI_UJ_HI : Fld := ⟨Reg.TOL_DEV_UJ_HI, 31, 0⟩
def TOL_JOB_OVF_UJ_LO_UJ_LO : Fld := ⟨Reg.TOL_JOB_OVF_UJ_LO, 31, 0⟩
def TOL_JOB_OVF_UJ_HI_UJ_HI : Fld := ⟨Reg.TOL_JOB_OVF_UJ_HI, 31, 0⟩
def TOL_COOLANT_IN_DC : Fld := ⟨Reg.TOL_COOLANT_IN, 10, 0⟩
def TOL_COOLANT_OUT_DC : Fld := ⟨Reg.TOL_COOLANT_OUT, 10, 0⟩
def TOL_COOLANT_FLOW_DLPM : Fld := ⟨Reg.TOL_COOLANT_FLOW, 15, 0⟩
def TOL_COOLANT_AGE_MS : Fld := ⟨Reg.TOL_COOLANT_AGE, 15, 0⟩
def TOL_FLOW_MIN_DLPM : Fld := ⟨Reg.TOL_FLOW_MIN, 15, 0⟩
def TOL_FN_SEL_FN : Fld := ⟨Reg.TOL_FN_SEL, 9, 0⟩
def TOL_FN_UJ_LO_UJ_LO : Fld := ⟨Reg.TOL_FN_UJ_LO, 31, 0⟩
def TOL_FN_UJ_HI_UJ_HI : Fld := ⟨Reg.TOL_FN_UJ_HI, 31, 0⟩
def TOL_JOB_SEL_ENTRY : Fld := ⟨Reg.TOL_JOB_SEL, 7, 0⟩
def TOL_JOB_TAG_TAG : Fld := ⟨Reg.TOL_JOB_TAG, 31, 0⟩
def TOL_JOB_STATE_VALID : Fld := ⟨Reg.TOL_JOB_STATE, 0, 0⟩
def TOL_JOB_UJ_LO_UJ_LO : Fld := ⟨Reg.TOL_JOB_UJ_LO, 31, 0⟩
def TOL_JOB_UJ_HI_UJ_HI : Fld := ⟨Reg.TOL_JOB_UJ_HI, 31, 0⟩
def TOL_JOB_FREE_FREE : Fld := ⟨Reg.TOL_JOB_FREE, 0, 0⟩
def TOL_RAIL_V_MV (k : Nat) : Fld := ⟨Reg.TOL_RAIL_V k, 15, 0⟩
def TOL_RAIL_V_SET_MV (k : Nat) : Fld := ⟨Reg.TOL_RAIL_V k, 31, 16⟩
def TOL_RAIL_I_CA (k : Nat) : Fld := ⟨Reg.TOL_RAIL_I k, 15, 0⟩
def TOL_RAIL_I_TEMP_C (k : Nat) : Fld := ⟨Reg.TOL_RAIL_I k, 23, 16⟩
def TOL_RAIL_I_STALE (k : Nat) : Fld := ⟨Reg.TOL_RAIL_I k, 24, 24⟩
def TOL_RAIL_I_FAULT (k : Nat) : Fld := ⟨Reg.TOL_RAIL_I k, 25, 25⟩
def TOL_COEF_PJ (k : Nat) : Fld := ⟨Reg.TOL_COEF k, 19, 0⟩
def TOL_GATE_LEVEL (n : Nat) : Fld := ⟨Reg.TOL_GATE n, 4, 0⟩
def TOL_GATE_THERMAL (n : Nat) : Fld := ⟨Reg.TOL_GATE n, 8, 8⟩
def TOL_GATE_TELEM (n : Nat) : Fld := ⟨Reg.TOL_GATE n, 9, 9⟩
def TOL_GATE_STACK (n : Nat) : Fld := ⟨Reg.TOL_GATE n, 10, 10⟩
def TOL_GATE_CUT (n : Nat) : Fld := ⟨Reg.TOL_GATE n, 11, 11⟩
def TOL_BUCKET_UJ (n : Nat) : Fld := ⟨Reg.TOL_BUCKET n, 31, 0⟩
def TOL_POOL_UJ : Fld := ⟨Reg.TOL_POOL, 31, 0⟩
def TOL_FCAST_WORD (w : Nat) : Fld := ⟨Reg.TOL_FCAST w, 31, 0⟩
def CLK_STATUS_LOCKED : Fld := ⟨Reg.CLK_STATUS, 0, 0⟩
def CLK_STATUS_REF_OK : Fld := ⟨Reg.CLK_STATUS, 1, 1⟩
def CLK_STATUS_AOSC_MODE : Fld := ⟨Reg.CLK_STATUS, 2, 2⟩
def CLK_EVENT_LOCK_LOST : Fld := ⟨Reg.CLK_EVENT, 0, 0⟩
def CLK_EVENT_REF_LOST : Fld := ⟨Reg.CLK_EVENT, 1, 1⟩
def CLK_LOCK_LOSSES_COUNT : Fld := ⟨Reg.CLK_LOCK_LOSSES, 31, 0⟩
def CLK_REF_MEAS_EDGES : Fld := ⟨Reg.CLK_REF_MEAS, 19, 0⟩
def RST_LAST_CAUSE_CAUSE : Fld := ⟨Reg.RST_LAST_CAUSE, 3, 0⟩
def RST_LAST_CAUSE_UNIT : Fld := ⟨Reg.RST_LAST_CAUSE, 8, 4⟩
def RST_LAST_FTIME_LO_NS_LO : Fld := ⟨Reg.RST_LAST_FTIME_LO, 31, 0⟩
def RST_LAST_FTIME_HI_NS_HI : Fld := ⟨Reg.RST_LAST_FTIME_HI, 31, 0⟩
def RST_DEVICE_GO : Fld := ⟨Reg.RST_DEVICE, 0, 0⟩
def RST_BLOCK0_LNK : Fld := ⟨Reg.RST_BLOCK0, 19, 0⟩
def RST_BLOCK1_ETH : Fld := ⟨Reg.RST_BLOCK1, 1, 0⟩
def RST_BLOCK1_FT : Fld := ⟨Reg.RST_BLOCK1, 5, 2⟩
def RST_BLOCK1_FAB : Fld := ⟨Reg.RST_BLOCK1, 6, 6⟩
def RST_BLOCK1_COL : Fld := ⟨Reg.RST_BLOCK1, 7, 7⟩
def RST_STATE_STEP : Fld := ⟨Reg.RST_STATE, 3, 0⟩
def RST_STATE_HELD_OFF : Fld := ⟨Reg.RST_STATE, 4, 4⟩
def RST_WDT_CFG_MS : Fld := ⟨Reg.RST_WDT_CFG, 15, 0⟩
def RST_WDT_CFG_EN : Fld := ⟨Reg.RST_WDT_CFG, 16, 16⟩
def RST_WDT_KICK_KICK : Fld := ⟨Reg.RST_WDT_KICK, 0, 0⟩
def RST_WDT_LEFT_MS : Fld := ⟨Reg.RST_WDT_LEFT, 15, 0⟩
def PWR_STATUS_STATE : Fld := ⟨Reg.PWR_STATUS, 1, 0⟩
def PWR_STATUS_BUSY : Fld := ⟨Reg.PWR_STATUS, 2, 2⟩
def PWR_STATUS_LOGIC_READY : Fld := ⟨Reg.PWR_STATUS, 3, 3⟩
def PWR_STATUS_PADS_HELD : Fld := ⟨Reg.PWR_STATUS, 4, 4⟩
def PWR_STATUS_WAKE_PENDING : Fld := ⟨Reg.PWR_STATUS, 5, 5⟩
def PWR_STATUS_FROM_OFF : Fld := ⟨Reg.PWR_STATUS, 6, 6⟩
def PWR_CMD_TARGET : Fld := ⟨Reg.PWR_CMD, 1, 0⟩
def PWR_RESULT_CODE : Fld := ⟨Reg.PWR_RESULT, 2, 0⟩
def PWR_RESULT_BLOCK : Fld := ⟨Reg.PWR_RESULT, 11, 8⟩
def PWR_RESULT_PARCEL : Fld := ⟨Reg.PWR_RESULT, 15, 12⟩
def PWR_RESULT_CAUSE : Fld := ⟨Reg.PWR_RESULT, 18, 16⟩
def PWR_PAD_RELEASE_GO : Fld := ⟨Reg.PWR_PAD_RELEASE, 0, 0⟩
def PWR_WAKE_EN_DOORBELL : Fld := ⟨Reg.PWR_WAKE_EN, 0, 0⟩
def PWR_WAKE_EN_FABRIC : Fld := ⟨Reg.PWR_WAKE_EN, 1, 1⟩
def PWR_WAKE_EN_MGMT : Fld := ⟨Reg.PWR_WAKE_EN, 2, 2⟩
def PWR_ENTRY_LIMIT_MS : Fld := ⟨Reg.PWR_ENTRY_LIMIT, 15, 0⟩
def PWR_EVENT_ENTRY_REFUSED : Fld := ⟨Reg.PWR_EVENT, 0, 0⟩
def PWR_EVENT_ENTRY_TIMEOUT : Fld := ⟨Reg.PWR_EVENT, 1, 1⟩
def PWR_EVENT_IMAGE_BAD : Fld := ⟨Reg.PWR_EVENT, 2, 2⟩
def PWR_EVENT_EARLY_RELEASE : Fld := ⟨Reg.PWR_EVENT, 3, 3⟩
def PWR_EVENT_DOWN_ACCESS : Fld := ⟨Reg.PWR_EVENT, 4, 4⟩
def PWR_IMAGE_BYTES : Fld := ⟨Reg.PWR_IMAGE, 16, 0⟩
def PWR_IMAGE_VALID : Fld := ⟨Reg.PWR_IMAGE, 31, 31⟩
def PWR_DOWN_ACCESS_COUNT : Fld := ⟨Reg.PWR_DOWN_ACCESS, 31, 0⟩
def PWR_WAKE_CAUSE_CAUSE : Fld := ⟨Reg.PWR_WAKE_CAUSE, 2, 0⟩
def FCU_STATUS_SAFE : Fld := ⟨Reg.FCU_STATUS, 0, 0⟩
def FCU_STATUS_SAFE_CAUSE : Fld := ⟨Reg.FCU_STATUS, 7, 1⟩
def FCU_STATUS_HIGHEST : Fld := ⟨Reg.FCU_STATUS, 9, 8⟩
def FCU_STATUS_SELF : Fld := ⟨Reg.FCU_STATUS, 10, 10⟩
def FCU_STATUS_UNCLEARED : Fld := ⟨Reg.FCU_STATUS, 22, 16⟩
def FCU_CFG_GRACE_US : Fld := ⟨Reg.FCU_CFG, 15, 0⟩
def FCU_CFG_ESC_RESET_MS : Fld := ⟨Reg.FCU_CFG, 31, 16⟩
def FCU_PIN_MODE : Fld := ⟨Reg.FCU_PIN, 0, 0⟩
def FCU_PIN_THRESHOLD : Fld := ⟨Reg.FCU_PIN, 2, 1⟩
def FCU_PIN_SW_LEVEL : Fld := ⟨Reg.FCU_PIN, 3, 3⟩
def FCU_PIN_PULSE_US : Fld := ⟨Reg.FCU_PIN, 23, 16⟩
def FCU_IRQ_VEC : Fld := ⟨Reg.FCU_IRQ, 10, 0⟩
def FCU_IRQ_EN : Fld := ⟨Reg.FCU_IRQ, 11, 11⟩
def FCU_IRQ_THRESHOLD : Fld := ⟨Reg.FCU_IRQ, 13, 12⟩
def FCU_STAT_W_SRC (w : Nat) : Fld := ⟨Reg.FCU_STAT_W w, 31, 0⟩
def FCU_FORCE_SAFE_GO : Fld := ⟨Reg.FCU_FORCE_SAFE, 0, 0⟩
def FCU_LOG_COUNT_COUNT : Fld := ⟨Reg.FCU_LOG_COUNT, 8, 0⟩
def FCU_LOG_LOST_COUNT : Fld := ⟨Reg.FCU_LOG_LOST, 31, 0⟩
def FCU_LOG_SEL_ENTRY : Fld := ⟨Reg.FCU_LOG_SEL, 7, 0⟩
def FCU_LOG_POP_N : Fld := ⟨Reg.FCU_LOG_POP, 8, 0⟩
def FCU_LOG_WORD_WORD (w : Nat) : Fld := ⟨Reg.FCU_LOG_WORD w, 31, 0⟩
def FCU_SERVICE_TILES : Fld := ⟨Reg.FCU_SERVICE, 0, 0⟩
def FCU_SERVICE_BANKS : Fld := ⟨Reg.FCU_SERVICE, 1, 1⟩
def FCU_SERVICE_VECTOR : Fld := ⟨Reg.FCU_SERVICE, 2, 2⟩
def FCU_SERVICE_NEAR : Fld := ⟨Reg.FCU_SERVICE, 3, 3⟩
def FCU_SERVICE_PORT : Fld := ⟨Reg.FCU_SERVICE, 4, 4⟩
def FCU_SERVICE_PARCELS : Fld := ⟨Reg.FCU_SERVICE, 19, 8⟩
def FCU_FIRST_INFO_SOURCE : Fld := ⟨Reg.FCU_FIRST_INFO, 6, 0⟩
def FCU_FIRST_INFO_SEV : Fld := ⟨Reg.FCU_FIRST_INFO, 8, 7⟩
def FCU_FIRST_INFO_VALID : Fld := ⟨Reg.FCU_FIRST_INFO, 9, 9⟩
def FCU_FIRST_FTIME_LO_NS_LO : Fld := ⟨Reg.FCU_FIRST_FTIME_LO, 31, 0⟩
def FCU_FIRST_FTIME_HI_NS_HI : Fld := ⟨Reg.FCU_FIRST_FTIME_HI, 31, 0⟩
def FCU_FIRST_CLR_CLEAR : Fld := ⟨Reg.FCU_FIRST_CLR, 0, 0⟩
def FCU_SRC_CFG_SEV (s : Nat) : Fld := ⟨Reg.FCU_SRC_CFG s, 1, 0⟩
def FCU_SRC_CFG_COUNT_MODE (s : Nat) : Fld := ⟨Reg.FCU_SRC_CFG s, 2, 2⟩
def FCU_SRC_CFG_N (s : Nat) : Fld := ⟨Reg.FCU_SRC_CFG s, 15, 8⟩
def FCU_SRC_CFG_WINDOW_MS (s : Nat) : Fld := ⟨Reg.FCU_SRC_CFG s, 31, 16⟩
def FCU_SRC_STATE_EVENTS (s : Nat) : Fld := ⟨Reg.FCU_SRC_STATE s, 15, 0⟩
def FCU_SRC_STATE_WIN_COUNT (s : Nat) : Fld := ⟨Reg.FCU_SRC_STATE s, 23, 16⟩
def FCU_SRC_STATE_PIN (s : Nat) : Fld := ⟨Reg.FCU_SRC_STATE s, 24, 24⟩
def FCU_SRC_STATE_GRACE (s : Nat) : Fld := ⟨Reg.FCU_SRC_STATE s, 25, 25⟩
def FCU_SRC_STATE_LATCHED_SEV (s : Nat) : Fld := ⟨Reg.FCU_SRC_STATE s, 27, 26⟩
def REC_CFG_SILENCE_MS : Fld := ⟨Reg.REC_CFG, 7, 0⟩
def REC_CFG_FENCE_WAIT_MS : Fld := ⟨Reg.REC_CFG, 15, 8⟩
def REC_CFG_RESET_LIMIT : Fld := ⟨Reg.REC_CFG, 19, 16⟩
def REC_EVENT_HANG : Fld := ⟨Reg.REC_EVENT, 0, 0⟩
def REC_EVENT_CASTOFF_SENT : Fld := ⟨Reg.REC_EVENT, 1, 1⟩
def REC_EVENT_CASTOFF_RCVD : Fld := ⟨Reg.REC_EVENT, 2, 2⟩
def REC_EVENT_TAKEOVER_DONE : Fld := ⟨Reg.REC_EVENT, 3, 3⟩
def REC_EVENT_TAKEOVER_FAILED : Fld := ⟨Reg.REC_EVENT, 4, 4⟩
def REC_EVENT_STALE_JOURNAL : Fld := ⟨Reg.REC_EVENT, 5, 5⟩
def REC_EVENT_FENCE_ORDER_RCVD : Fld := ⟨Reg.REC_EVENT, 6, 6⟩
def REC_EVENT_RELIEF_LOST : Fld := ⟨Reg.REC_EVENT, 7, 7⟩
def REC_EVENT_SURVEY_DONE : Fld := ⟨Reg.REC_EVENT, 8, 8⟩
def REC_EVENT_REPLACE : Fld := ⟨Reg.REC_EVENT, 9, 9⟩
def REC_STALE_COUNT_COUNT : Fld := ⟨Reg.REC_STALE_COUNT, 31, 0⟩
def REC_STATUS_REPLACE : Fld := ⟨Reg.REC_STATUS, 11, 0⟩
def REC_STATUS_CAST : Fld := ⟨Reg.REC_STATUS, 27, 16⟩
def REC_PARCEL_CMD_CMD (n : Nat) : Fld := ⟨Reg.REC_PARCEL_CMD n, 1, 0⟩
def REC_PARCEL_STATE_STATE (n : Nat) : Fld := ⟨Reg.REC_PARCEL_STATE n, 2, 0⟩
def REC_PARCEL_STATE_CAUSE (n : Nat) : Fld := ⟨Reg.REC_PARCEL_STATE n, 7, 4⟩
def REC_PARCEL_STATE_HUNG (n : Nat) : Fld := ⟨Reg.REC_PARCEL_STATE n, 11, 8⟩
def REC_BELL_RING (n : Nat) : Fld := ⟨Reg.REC_BELL n, 3, 0⟩
def REC_BELL_CFG_AUTO_RESET (n : Nat) : Fld := ⟨Reg.REC_BELL_CFG n, 0, 0⟩
def REC_BELL_CFG_ARMED (n : Nat) : Fld := ⟨Reg.REC_BELL_CFG n, 7, 4⟩
def REC_BELL_LEFT_US (n : Nat) : Fld := ⟨Reg.REC_BELL_LEFT n, 13, 0⟩
def REC_RESETS_COUNT (n : Nat) : Fld := ⟨Reg.REC_RESETS n, 31, 0⟩
def REC_RLF_SEL_BIND : Fld := ⟨Reg.REC_RLF_SEL, 3, 0⟩
def REC_RLF_CMD_CMD : Fld := ⟨Reg.REC_RLF_CMD, 2, 0⟩
def REC_RLF_RESULT_CODE : Fld := ⟨Reg.REC_RLF_RESULT, 1, 0⟩
def REC_RLF_STATE_STATE : Fld := ⟨Reg.REC_RLF_STATE, 2, 0⟩
def REC_RLF_STATE_MIRROR_BAD : Fld := ⟨Reg.REC_RLF_STATE, 3, 3⟩
def REC_RLF_STATE_BGEN : Fld := ⟨Reg.REC_RLF_STATE, 15, 8⟩
def REC_RLF_STATE_LAST_EPOCH : Fld := ⟨Reg.REC_RLF_STATE, 23, 16⟩
def REC_RLF_STATE_CAUSE : Fld := ⟨Reg.REC_RLF_STATE, 26, 24⟩
def REC_RLF_MASKS_LOCAL : Fld := ⟨Reg.REC_RLF_MASKS, 11, 0⟩
def REC_RLF_MASKS_PEER : Fld := ⟨Reg.REC_RLF_MASKS, 27, 16⟩
def REC_RLF_PEER_STATION : Fld := ⟨Reg.REC_RLF_PEER, 23, 0⟩
def REC_RLF_JOB_TAG : Fld := ⟨Reg.REC_RLF_JOB, 31, 0⟩
def REC_RLF_CTX_CONTEXT : Fld := ⟨Reg.REC_RLF_CTX, 11, 0⟩
def REC_RLF_CTX_TK_MARK : Fld := ⟨Reg.REC_RLF_CTX, 20, 16⟩
def REC_RLF_CTX_CHAIN_MS : Fld := ⟨Reg.REC_RLF_CTX, 31, 24⟩
def REC_RLF_TK_VALUE_VALUE : Fld := ⟨Reg.REC_RLF_TK_VALUE, 31, 0⟩
def REC_RLF_REQ_REQ : Fld := ⟨Reg.REC_RLF_REQ, 5, 0⟩
def REC_RLF_REQ_HOME : Fld := ⟨Reg.REC_RLF_REQ, 6, 6⟩
def REC_RLF_PARAM_ADDR_ADDR : Fld := ⟨Reg.REC_RLF_PARAM_ADDR, 31, 0⟩
def REC_RLF_KEY_ADDR_ADDR : Fld := ⟨Reg.REC_RLF_KEY_ADDR, 31, 0⟩
def REC_RLF_STREAMS_BASE : Fld := ⟨Reg.REC_RLF_STREAMS, 31, 0⟩
def REC_RLF_MIRROR_T0 : Fld := ⟨Reg.REC_RLF_MIRROR, 8, 0⟩
def REC_RLF_MIRROR_NT : Fld := ⟨Reg.REC_RLF_MIRROR, 21, 16⟩
def REC_RLF_MIRROR_R0 : Fld := ⟨Reg.REC_RLF_MIRROR, 29, 24⟩
def REC_RLF_JSEQ_JSEQ : Fld := ⟨Reg.REC_RLF_JSEQ, 31, 0⟩
def REC_RLF_SURVEY_DONE : Fld := ⟨Reg.REC_RLF_SURVEY, 0, 0⟩
def REC_RLF_SURVEY_ENGINES_OK : Fld := ⟨Reg.REC_RLF_SURVEY, 1, 1⟩
def REC_RLF_SURVEY_NEAR_OK : Fld := ⟨Reg.REC_RLF_SURVEY, 2, 2⟩
def REC_RLF_SURVEY_PATHS_OK : Fld := ⟨Reg.REC_RLF_SURVEY, 3, 3⟩
def REC_RLF_SURVEY_ABORTED : Fld := ⟨Reg.REC_RLF_SURVEY, 4, 4⟩
def REC_RLF_SURVEY_UE : Fld := ⟨Reg.REC_RLF_SURVEY, 31, 16⟩
def REC_RLF_TAKEOVER_US_US : Fld := ⟨Reg.REC_RLF_TAKEOVER_US, 31, 0⟩
def BRU_STATUS_TRAIN : Fld := ⟨Reg.BRU_STATUS, 1, 0⟩
def BRU_STATUS_LOAD : Fld := ⟨Reg.BRU_STATUS, 3, 2⟩
def BRU_STATUS_BENCH : Fld := ⟨Reg.BRU_STATUS, 5, 4⟩
def BRU_STATUS_RESET_NEEDED : Fld := ⟨Reg.BRU_STATUS, 6, 6⟩
def BRU_CMD_CMD : Fld := ⟨Reg.BRU_CMD, 2, 0⟩
def BRU_CMD_MASK : Fld := ⟨Reg.BRU_CMD, 27, 16⟩
def BRU_RESULT_CODE : Fld := ⟨Reg.BRU_RESULT, 1, 0⟩
def BRU_RESULT_CAUSE : Fld := ⟨Reg.BRU_RESULT, 6, 4⟩
def BRU_CFG_LINK_WAIT_MS : Fld := ⟨Reg.BRU_CFG, 15, 0⟩
def BRU_LINK_EXPECT_PORTS : Fld := ⟨Reg.BRU_LINK_EXPECT, 19, 0⟩
def BRU_EVENT_TRAIN_DONE : Fld := ⟨Reg.BRU_EVENT, 0, 0⟩
def BRU_EVENT_LOAD_DONE : Fld := ⟨Reg.BRU_EVENT, 1, 1⟩
def BRU_EVENT_BENCH_DONE : Fld := ⟨Reg.BRU_EVENT, 2, 2⟩
def BRU_EVENT_LINKS_DONE : Fld := ⟨Reg.BRU_EVENT, 3, 3⟩
def BRU_EVENT_FP_WRITTEN : Fld := ⟨Reg.BRU_EVENT, 4, 4⟩
def BRU_EVENT_FP_FIELD_BAD : Fld := ⟨Reg.BRU_EVENT, 5, 5⟩
def BRU_EVENT_LOAD_FAILED : Fld := ⟨Reg.BRU_EVENT, 6, 6⟩
def BRU_EVENT_CMD_REFUSED : Fld := ⟨Reg.BRU_EVENT, 7, 7⟩
def BRU_READY_READY : Fld := ⟨Reg.BRU_READY, 0, 0⟩
def BRU_READY_COMPUTE : Fld := ⟨Reg.BRU_READY, 1, 1⟩
def BRU_READY_NEAR : Fld := ⟨Reg.BRU_READY, 2, 2⟩
def BRU_READY_FAR : Fld := ⟨Reg.BRU_READY, 3, 3⟩
def BRU_READY_LINKS : Fld := ⟨Reg.BRU_READY, 4, 4⟩
def BRU_READY_COL_OK : Fld := ⟨Reg.BRU_READY, 5, 5⟩
def BRU_READY_SERVICE : Fld := ⟨Reg.BRU_READY, 27, 16⟩
def BRU_LINK_RESULT_NOPEER : Fld := ⟨Reg.BRU_LINK_RESULT, 19, 0⟩
def BRU_LOOP_FAIL_PORTS : Fld := ⟨Reg.BRU_LOOP_FAIL, 19, 0⟩
def BRU_IMAGE_IMAGE_VER : Fld := ⟨Reg.BRU_IMAGE, 31, 0⟩
def BRU_FP_GEN_GENERATION : Fld := ⟨Reg.BRU_FP_GEN, 31, 0⟩
def BRU_PARCEL_LOAD (n : Nat) : Fld := ⟨Reg.BRU_PARCEL n, 1, 0⟩
def BRU_PARCEL_BENCH (n : Nat) : Fld := ⟨Reg.BRU_PARCEL n, 3, 2⟩
def BRU_PARCEL_ENGINE (n : Nat) : Fld := ⟨Reg.BRU_PARCEL n, 7, 4⟩
def BRU_PARCEL_UNIT (n : Nat) : Fld := ⟨Reg.BRU_PARCEL n, 13, 8⟩
def BRU_PARCEL_FP_PENDING (n : Nat) : Fld := ⟨Reg.BRU_PARCEL n, 14, 14⟩
def BRU_FP_TILE_LO_TILES_LO (n : Nat) : Fld := ⟨Reg.BRU_FP_TILE_LO n, 31, 0⟩
def BRU_FP_TILE_HI_TILES_HI (n : Nat) : Fld := ⟨Reg.BRU_FP_TILE_HI n, 15, 0⟩
def BRU_FP_TILE_HI_VU (n : Nat) : Fld := ⟨Reg.BRU_FP_TILE_HI n, 23, 16⟩
def BRU_FP_BANK_LO_BANKS_LO (n : Nat) : Fld := ⟨Reg.BRU_FP_BANK_LO n, 31, 0⟩
def BRU_FP_BANK_HI_BANKS_HI (n : Nat) : Fld := ⟨Reg.BRU_FP_BANK_HI n, 31, 0⟩
def NVS_STATUS_EMRAM_OK : Fld := ⟨Reg.NVS_STATUS, 0, 0⟩
def NVS_STATUS_NOR_OK : Fld := ⟨Reg.NVS_STATUS, 1, 1⟩
def NVS_STATUS_BUSY : Fld := ⟨Reg.NVS_STATUS, 2, 2⟩
def NVS_STATUS_COMPACTING : Fld := ⟨Reg.NVS_STATUS, 3, 3⟩
def NVS_STATUS_REGION : Fld := ⟨Reg.NVS_STATUS, 4, 4⟩
def NVS_STATUS_PF_HOLD : Fld := ⟨Reg.NVS_STATUS, 5, 5⟩
def NVS_STATUS_FREE_PAGES : Fld := ⟨Reg.NVS_STATUS, 26, 16⟩
def NVS_EVENT_KEY_FALLBACK : Fld := ⟨Reg.NVS_EVENT, 0, 0⟩
def NVS_EVENT_OWN_FALLBACK : Fld := ⟨Reg.NVS_EVENT, 1, 1⟩
def NVS_EVENT_ACT_FALLBACK : Fld := ⟨Reg.NVS_EVENT, 2, 2⟩
def NVS_EVENT_JOURNAL_TORN : Fld := ⟨Reg.NVS_EVENT, 3, 3⟩
def NVS_EVENT_UE : Fld := ⟨Reg.NVS_EVENT, 4, 4⟩
def NVS_EVENT_NOR_ERR : Fld := ⟨Reg.NVS_EVENT, 5, 5⟩
def NVS_JGEN_RGEN : Fld := ⟨Reg.NVS_JGEN, 31, 0⟩
def NVS_KEYGEN_GEN : Fld := ⟨Reg.NVS_KEYGEN, 31, 0⟩
def NVS_KEYVER_KEY_VER : Fld := ⟨Reg.NVS_KEYVER, 31, 0⟩
def NVS_CE_COUNT_COUNT : Fld := ⟨Reg.NVS_CE_COUNT, 31, 0⟩
def NVS_UE_COUNT_COUNT : Fld := ⟨Reg.NVS_UE_COUNT, 31, 0⟩
def NVS_CMD_COMPACT : Fld := ⟨Reg.NVS_CMD, 0, 0⟩
def NVS_FLOOR_SVN (k : Nat) : Fld := ⟨Reg.NVS_FLOOR k, 31, 0⟩
def FWU_STATUS_STATE : Fld := ⟨Reg.FWU_STATUS, 2, 0⟩
def FWU_STATUS_RECOVERY : Fld := ⟨Reg.FWU_STATUS, 3, 3⟩
def FWU_STATUS_KIND : Fld := ⟨Reg.FWU_STATUS, 6, 4⟩
def FWU_STATUS_BACKUP_LOW : Fld := ⟨Reg.FWU_STATUS, 8, 8⟩
def FWU_STATUS_MIGRATING : Fld := ⟨Reg.FWU_STATUS, 9, 9⟩
def FWU_STATUS_ALL_RCVD : Fld := ⟨Reg.FWU_STATUS, 10, 10⟩
def FWU_CMD_CMD : Fld := ⟨Reg.FWU_CMD, 2, 0⟩
def FWU_CMD_KIND : Fld := ⟨Reg.FWU_CMD, 6, 4⟩
def FWU_CMD_RESET_ON_ACT : Fld := ⟨Reg.FWU_CMD, 7, 7⟩
def FWU_RESULT_CODE : Fld := ⟨Reg.FWU_RESULT, 3, 0⟩
def FWU_RESULT_CAUSE : Fld := ⟨Reg.FWU_RESULT, 5, 4⟩
def FWU_PKG_LEN_BYTES : Fld := ⟨Reg.FWU_PKG_LEN, 24, 0⟩
def FWU_BLK_OFF_OFF : Fld := ⟨Reg.FWU_BLK_OFF, 23, 0⟩
def FWU_BLK_LEN_LEN : Fld := ⟨Reg.FWU_BLK_LEN, 16, 0⟩
def FWU_BLK_ADDR_LO_ADDR_LO : Fld := ⟨Reg.FWU_BLK_ADDR_LO, 31, 0⟩
def FWU_BLK_ADDR_HI_ADDR_HI : Fld := ⟨Reg.FWU_BLK_ADDR_HI, 31, 0⟩
def FWU_ACT_TIME_LO_NS_LO : Fld := ⟨Reg.FWU_ACT_TIME_LO, 31, 0⟩
def FWU_ACT_TIME_HI_NS_HI : Fld := ⟨Reg.FWU_ACT_TIME_HI, 31, 0⟩
def FWU_RCVD_UNITS (w : Nat) : Fld := ⟨Reg.FWU_RCVD w, 31, 0⟩
def FWU_EVENT_BLOCK_DONE : Fld := ⟨Reg.FWU_EVENT, 0, 0⟩
def FWU_EVENT_VERIFY_DONE : Fld := ⟨Reg.FWU_EVENT, 1, 1⟩
def FWU_EVENT_ACTIVATED : Fld := ⟨Reg.FWU_EVENT, 2, 2⟩
def FWU_EVENT_ACT_REFUSED : Fld := ⟨Reg.FWU_EVENT, 3, 3⟩
def FWU_EVENT_FELL_BACK : Fld := ⟨Reg.FWU_EVENT, 4, 4⟩
def FWU_BOOT_BOOTS : Fld := ⟨Reg.FWU_BOOT, 1, 0⟩
def FWU_BOOT_RCAUSE : Fld := ⟨Reg.FWU_BOOT, 3, 2⟩
def FWU_CONFIRM_GO : Fld := ⟨Reg.FWU_CONFIRM, 0, 0⟩
def FWU_SLOT_ACTIVE (k : Nat) : Fld := ⟨Reg.FWU_SLOT k, 0, 0⟩
def FWU_SLOT_TRIAL (k : Nat) : Fld := ⟨Reg.FWU_SLOT k, 1, 1⟩
def FWU_SLOT_FELL_BACK (k : Nat) : Fld := ⟨Reg.FWU_SLOT k, 2, 2⟩
def FWU_SLOT_VALID_A (k : Nat) : Fld := ⟨Reg.FWU_SLOT k, 3, 3⟩
def FWU_SLOT_VALID_B (k : Nat) : Fld := ⟨Reg.FWU_SLOT k, 4, 4⟩
def FWU_SLOT_VER_A_VER (k : Nat) : Fld := ⟨Reg.FWU_SLOT_VER_A k, 31, 0⟩
def FWU_SLOT_VER_B_VER (k : Nat) : Fld := ⟨Reg.FWU_SLOT_VER_B k, 31, 0⟩
def MGP_STATUS_DYN_ADDR : Fld := ⟨Reg.MGP_STATUS, 6, 0⟩
def MGP_STATUS_ADDR_VALID : Fld := ⟨Reg.MGP_STATUS, 7, 7⟩
def MGP_STATUS_EID : Fld := ⟨Reg.MGP_STATUS, 15, 8⟩
def MGP_STATUS_TRAY_PRESENT : Fld := ⟨Reg.MGP_STATUS, 16, 16⟩
def MGP_STATUS_LEAK : Fld := ⟨Reg.MGP_STATUS, 17, 17⟩
def MGP_STATUS_BACKUP : Fld := ⟨Reg.MGP_STATUS, 19, 18⟩
def MGP_STATUS_SWAP_REQ : Fld := ⟨Reg.MGP_STATUS, 20, 20⟩
def MGP_STATUS_ALERT : Fld := ⟨Reg.MGP_STATUS, 21, 21⟩
def MGP_CFG_ABSENT_MS : Fld := ⟨Reg.MGP_CFG, 15, 0⟩
def MGP_CFG_VDM_EN : Fld := ⟨Reg.MGP_CFG, 16, 16⟩
def MGP_CFG_IBI_EN : Fld := ⟨Reg.MGP_CFG, 17, 17⟩
def MGP_EVENT_ABSENT : Fld := ⟨Reg.MGP_EVENT, 0, 0⟩
def MGP_EVENT_LEAK : Fld := ⟨Reg.MGP_EVENT, 1, 1⟩
def MGP_EVENT_SWAP_REQ : Fld := ⟨Reg.MGP_EVENT, 2, 2⟩
def MGP_EVENT_BAD_MSG : Fld := ⟨Reg.MGP_EVENT, 3, 3⟩
def MGP_EVENT_EVQ_LOST : Fld := ⟨Reg.MGP_EVENT, 4, 4⟩
def MGP_TRAY_AGE_MS : Fld := ⟨Reg.MGP_TRAY_AGE, 15, 0⟩
def MGP_BACKUP_AGE_MS : Fld := ⟨Reg.MGP_BACKUP_AGE, 15, 0⟩
def MGP_EVQ_COUNT : Fld := ⟨Reg.MGP_EVQ, 5, 0⟩
def MGP_EVQ_LOST_COUNT : Fld := ⟨Reg.MGP_EVQ_LOST, 31, 0⟩
def MGP_BAD_MSG_COUNT : Fld := ⟨Reg.MGP_BAD_MSG, 31, 0⟩
def FT_TRACT_OWNER_KIND (t : Nat) : Fld := ⟨Reg.FT_TRACT_OWNER t, 1, 0⟩
def FT_TRACT_OWNER_READERS (t : Nat) : Fld := ⟨Reg.FT_TRACT_OWNER t, 2, 2⟩
def FT_TRACT_OWNER_CLEARING (t : Nat) : Fld := ⟨Reg.FT_TRACT_OWNER t, 3, 3⟩
def FT_TRACT_OWNER_OWNER_FN (t : Nat) : Fld := ⟨Reg.FT_TRACT_OWNER t, 25, 16⟩
def ETH_TX_FRAMES_COUNT (e : Nat) : Fld := ⟨Reg.ETH_TX_FRAMES e, 31, 0⟩
def ETH_TX_DROP_COUNT (e : Nat) : Fld := ⟨Reg.ETH_TX_DROP e, 31, 0⟩
def ETH_RX_FRAMES_COUNT (e : Nat) : Fld := ⟨Reg.ETH_RX_FRAMES e, 31, 0⟩
def ETH_RX_FCS_COUNT (e : Nat) : Fld := ⟨Reg.ETH_RX_FCS e, 31, 0⟩
def ETH_RX_FULL_COUNT (e : Nat) : Fld := ⟨Reg.ETH_RX_FULL e, 31, 0⟩
def ETH_RX_NOMATCH_COUNT (e : Nat) : Fld := ⟨Reg.ETH_RX_NOMATCH e, 31, 0⟩
def ETH_RX_SIZE_COUNT (e : Nat) : Fld := ⟨Reg.ETH_RX_SIZE e, 31, 0⟩
def ETH_PAUSE_RX_COUNT (e : Nat) : Fld := ⟨Reg.ETH_PAUSE_RX e, 31, 0⟩
def ETH_PAUSE_TX_COUNT (e : Nat) : Fld := ⟨Reg.ETH_PAUSE_TX e, 31, 0⟩
def ETH_MACCTL_DROP_COUNT (e : Nat) : Fld := ⟨Reg.ETH_MACCTL_DROP e, 31, 0⟩
end F

/-- The rows of block CAP. -/
def rowsCap : List RegRow := [
  ⟨"CAP_ID", 0x0, 1, 4, 0x0, 0x0, 0x0, 0x0, 0x0, false, false, false, 0x50424120⟩,
  ⟨"CAP_VARIANT", 0x4, 1, 4, 0x0, 0x0, 0x0, 0x0, 0x0, false, false, false, 0x304C00⟩,
  ⟨"CAP_GRADE", 0x8, 1, 4, 0x0, 0x0, 0x0, 0x0, 0x0, false, false, false, 0x40300000⟩,
  ⟨"CAP_PORTS", 0xC, 1, 4, 0x0, 0x0, 0x0, 0x0, 0x0, false, false, false, 0x40000⟩,
  ⟨"CAP_SERIAL_LO", 0x10, 1, 4, 0x0, 0x0, 0x0, 0x0, 0x0, false, false, true, 0x0⟩,
  ⟨"CAP_SERIAL_HI", 0x14, 1, 4, 0x0, 0x0, 0x0, 0x0, 0x0, false, false, false, 0x0⟩]

/-- The rows of block HLD. -/
def rowsHld : List RegRow := [
  ⟨"HLD_STATUS", 0x0, 1, 4, 0x0, 0x0, 0x0, 0x0, 0x0, false, false, false, 0x0⟩,
  ⟨"HLD_BANK_GOOD_LO", 0x8, 1, 4, 0x0, 0x0, 0x0, 0x0, 0x0, false, false, true, 0x0⟩,
  ⟨"HLD_BANK_GOOD_HI", 0xC, 1, 4, 0x0, 0x0, 0x0, 0x0, 0x0, false, false, false, 0x0⟩,
  ⟨"HLD_ARB", 0x10, 1, 4, 0x0, 0x3F3F3F, 0x0, 0x0, 0x0, true, false, false, 0x10408⟩,
  ⟨"HLD_SCRUB", 0x14, 1, 4, 0x0, 0xFFF0001, 0x0, 0x0, 0x0, true, false, false, 0x1000001⟩,
  ⟨"HLD_SCRUB_PASS", 0x18, 1, 4, 0x0, 0x0, 0x0, 0x0, 0x0, false, false, false, 0x0⟩,
  ⟨"HLD_CE_LIMIT", 0x1C, 1, 4, 0x0, 0xFFFF, 0x0, 0x0, 0x0, true, false, false, 0x40⟩,
  ⟨"HLD_CE_COUNT", 0x20, 1, 4, 0x0, 0x0, 0x0, 0x0, 0x0, false, false, false, 0x0⟩,
  ⟨"HLD_UE_COUNT", 0x24, 1, 4, 0x0, 0x0, 0x0, 0x0, 0x0, false, false, false, 0x0⟩,
  ⟨"HLD_ERR_ADDR", 0x28, 1, 4, 0x0, 0x0, 0x0, 0x0, 0x0, false, false, false, 0x0⟩,
  ⟨"HLD_ERR_INFO", 0x2C, 1, 4, 0x0, 0x0, 0x0, 0x0, 0x0, false, false, false, 0x0⟩,
  ⟨"HLD_EVENT", 0x30, 1, 4, 0x0, 0x0, 0x3, 0x0, 0x0, false, false, false, 0x0⟩,
  ⟨"HLD_ERR_CLR", 0x34, 1, 4, 0x0, 0x0, 0x0, 0x0, 0x1, true, false, false, 0x0⟩,
  ⟨"HLD_PLOT_OWNER", 0x100, 96, 4, 0x0, 0x3FF0007, 0x0, 0x0, 0x0, false, false, false, 0x0⟩]

/-- The rows of block WDC. -/
def rowsWdc : List RegRow := [
  ⟨"WDC_STATUS", 0x0, 1, 4, 0x0, 0x0, 0x0, 0x0, 0x0, false, false, false, 0x0⟩,
  ⟨"WDC_LIVE_TAG", 0x4, 1, 4, 0x0, 0x0, 0x0, 0x0, 0x0, false, false, false, 0x0⟩,
  ⟨"WDC_STAGE_TAG", 0x8, 1, 4, 0x0, 0xFFFF, 0x0, 0x0, 0x0, false, false, false, 0x0⟩,
  ⟨"WDC_COMMIT", 0xC, 1, 4, 0x0, 0x0, 0x0, 0x0, 0x1, false, false, false, 0x0⟩,
  ⟨"WDC_EVENT", 0x10, 1, 4, 0x0, 0x0, 0x1, 0x0, 0x0, false, false, false, 0x0⟩,
  ⟨"WDC_ERR_INFO", 0x14, 1, 4, 0x0, 0x0, 0x0, 0x0, 0x0, false, false, false, 0x0⟩,
  ⟨"WDC_ERR_ADDR", 0x18, 1, 4, 0x0, 0x0, 0x0, 0x0, 0x0, false, false, false, 0x0⟩,
  ⟨"WDC_ERR_CLR", 0x1C, 1, 4, 0x0, 0x0, 0x0, 0x0, 0x1, false, false, false, 0x0⟩,
  ⟨"WDC_ELEMS_LO", 0x20, 1, 4, 0x0, 0x0, 0x0, 0x0, 0x0, false, false, true, 0x0⟩,
  ⟨"WDC_ELEMS_HI", 0x24, 1, 4, 0x0, 0x0, 0x0, 0x0, 0x0, false, false, false, 0x0⟩,
  ⟨"WDC_STAGE_TABLE_LO", 0x100, 16, 8, 0x0, 0xFFFFFFFF, 0x0, 0x0, 0x0, false, false, true, 0x0⟩,
  ⟨"WDC_STAGE_TABLE_HI", 0x104, 16, 8, 0x0, 0xFFFFFFFF, 0x0, 0x0, 0x0, false, false, false, 0x0⟩,
  ⟨"WDC_LIVE_TABLE_LO", 0x180, 16, 8, 0x0, 0x0, 0x0, 0x0, 0x0, false, false, true, 0x0⟩,
  ⟨"WDC_LIVE_TABLE_HI", 0x184, 16, 8, 0x0, 0x0, 0x0, 0x0, 0x0, false, false, false, 0x0⟩]

/-- The rows of block MT. -/
def rowsMt : List RegRow := [
  ⟨"MT_STATUS", 0x0, 1, 4, 0x0, 0x0, 0x0, 0x0, 0x0, false, false, false, 0x0⟩,
  ⟨"MT_TILE_GOOD_LO", 0x8, 1, 4, 0x0, 0x0, 0x0, 0x0, 0x0, false, false, true, 0x0⟩,
  ⟨"MT_TILE_GOOD_HI", 0xC, 1, 4, 0x0, 0x0, 0x0, 0x0, 0x0, false, false, false, 0x0⟩,
  ⟨"MT_TILE_WITHDRAWN_LO", 0x10, 1, 4, 0x0, 0x0, 0x0, 0x0, 0x0, false, false, true, 0x0⟩,
  ⟨"MT_TILE_WITHDRAWN_HI", 0x14, 1, 4, 0x0, 0x0, 0x0, 0x0, 0x0, false, false, false, 0x0⟩,
  ⟨"MT_ERR_INFO", 0x18, 1, 4, 0x0, 0x0, 0x0, 0x0, 0x0, false, false, false, 0x0⟩,
  ⟨"MT_ERR_CLR", 0x1C, 1, 4, 0x0, 0x0, 0x0, 0x0, 0x1, true, false, false, 0x0⟩,
  ⟨"MT_BLOCKS_LO", 0x20, 1, 4, 0x0, 0x0, 0x0, 0x0, 0x0, false, false, true, 0x0⟩,
  ⟨"MT_BLOCKS_HI", 0x24, 1, 4, 0x0, 0x0, 0x0, 0x0, 0x0, false, false, false, 0x0⟩,
  ⟨"MT_ROWBLK_LO", 0x28, 1, 4, 0x0, 0x0, 0x0, 0x0, 0x0, false, false, true, 0x0⟩,
  ⟨"MT_ROWBLK_HI", 0x2C, 1, 4, 0x0, 0x0, 0x0, 0x0, 0x0, false, false, false, 0x0⟩]

/-- The rows of block SEQ. -/
def rowsSeq : List RegRow := [
  ⟨"SEQ_MARK_SEL", 0x400, 1, 4, 0x1FF1F, 0x0, 0x0, 0x0, 0x0, false, true, false, 0x0⟩,
  ⟨"SEQ_MARK_VALUE", 0x404, 1, 4, 0x0, 0x0, 0x0, 0x0, 0x0, false, false, false, 0x0⟩,
  ⟨"SEQ_MARK_FLAGS", 0x408, 1, 4, 0x0, 0x0, 0x0, 0x0, 0x0, false, false, false, 0x0⟩,
  ⟨"SEQ_ADMIT_EVENT", 0x40C, 1, 4, 0x0, 0x0, 0x1, 0x0, 0x0, false, false, false, 0x0⟩,
  ⟨"SEQ_CLASS_RAISED_COUNT", 0x410, 1, 4, 0x0, 0x0, 0x0, 0x0, 0x0, false, false, false, 0x0⟩,
  ⟨"SEQ_INFLIGHT", 0x414, 1, 4, 0x0, 0x0, 0x0, 0x0, 0x0, false, false, false, 0x0⟩]

/-- The rows of block VU. -/
def rowsVu : List RegRow := [
  ⟨"VU_STATUS", 0x0, 1, 4, 0x0, 0x0, 0x0, 0x0, 0x0, false, false, false, 0x0⟩,
  ⟨"VU_WITHDRAWN", 0x4, 1, 4, 0x0, 0x0, 0x0, 0x0, 0x0, false, false, false, 0x0⟩,
  ⟨"VU_SLOT_FREE", 0x8, 1, 4, 0x0, 0x0, 0x0, 0x0, 0xF, true, false, false, 0x0⟩,
  ⟨"VU_ERR_INFO", 0x10, 1, 4, 0x0, 0x0, 0x0, 0x0, 0x0, false, false, false, 0x0⟩,
  ⟨"VU_ERR_CODE", 0x14, 1, 4, 0x0, 0x0, 0x0, 0x0, 0x0, false, false, false, 0x0⟩,
  ⟨"VU_ERR_CLR", 0x18, 1, 4, 0x0, 0x0, 0x0, 0x0, 0x1, true, false, false, 0x0⟩,
  ⟨"VU_CE_COUNT", 0x1C, 1, 4, 0x0, 0x0, 0x0, 0x0, 0x0, false, false, false, 0x0⟩,
  ⟨"VU_LANEOPS_LO", 0x20, 1, 4, 0x0, 0x0, 0x0, 0x0, 0x0, false, false, true, 0x0⟩,
  ⟨"VU_LANEOPS_HI", 0x24, 1, 4, 0x0, 0x0, 0x0, 0x0, 0x0, false, false, false, 0x0⟩,
  ⟨"VU_SLOT", 0x100, 4, 8, 0x0, 0x0, 0x0, 0x0, 0x0, false, false, false, 0x0⟩,
  ⟨"VU_SLOT_WORDS", 0x104, 4, 8, 0x0, 0x0, 0x0, 0x0, 0x0, false, false, false, 0x0⟩]

/-- The rows of block KVP. -/
def rowsKvp : List RegRow := [
  ⟨"KVP_STATUS", 0x0, 1, 4, 0x0, 0x0, 0x0, 0x0, 0x0, false, false, false, 0x0⟩,
  ⟨"KVP_EVENT", 0x4, 1, 4, 0x0, 0x0, 0x3, 0x0, 0x0, false, false, false, 0x0⟩,
  ⟨"KVP_ERR_INFO", 0x8, 1, 4, 0x0, 0x0, 0x0, 0x0, 0x0, false, false, false, 0x0⟩,
  ⟨"KVP_ERR_PAGE", 0xC, 1, 4, 0x0, 0x0, 0x0, 0x0, 0x0, false, false, false, 0x0⟩,
  ⟨"KVP_ERR_ADDR", 0x10, 1, 4, 0x0, 0x0, 0x0, 0x0, 0x0, false, false, false, 0x0⟩,
  ⟨"KVP_ERR_CLR", 0x14, 1, 4, 0x0, 0x0, 0x0, 0x0, 0x1, true, false, false, 0x0⟩,
  ⟨"KVP_DOTS_LO", 0x18, 1, 4, 0x0, 0x0, 0x0, 0x0, 0x0, false, false, true, 0x0⟩,
  ⟨"KVP_DOTS_HI", 0x1C, 1, 4, 0x0, 0x0, 0x0, 0x0, 0x0, false, false, false, 0x0⟩,
  ⟨"KVP_FETCH_NEAR_LO", 0x20, 1, 4, 0x0, 0x0, 0x0, 0x0, 0x0, false, false, true, 0x0⟩,
  ⟨"KVP_FETCH_NEAR_HI", 0x24, 1, 4, 0x0, 0x0, 0x0, 0x0, 0x0, false, false, false, 0x0⟩,
  ⟨"KVP_FETCH_FAR_LO", 0x28, 1, 4, 0x0, 0x0, 0x0, 0x0, 0x0, false, false, true, 0x0⟩,
  ⟨"KVP_FETCH_FAR_HI", 0x2C, 1, 4, 0x0, 0x0, 0x0, 0x0, 0x0, false, false, false, 0x0⟩,
  ⟨"KVP_SKIP_COUNT", 0x30, 1, 4, 0x0, 0x0, 0x0, 0x0, 0x0, false, false, false, 0x0⟩,
  ⟨"KVP_POISON_COUNT", 0x34, 1, 4, 0x0, 0x0, 0x0, 0x0, 0x0, false, false, false, 0x0⟩]

/-- The rows of block GWY. -/
def rowsGwy : List RegRow := [
  ⟨"GWY_STATUS", 0x0, 1, 4, 0x0, 0x0, 0x0, 0x0, 0x0, false, false, false, 0x0⟩,
  ⟨"GWY_EVENT", 0x4, 1, 4, 0x0, 0x0, 0x1F, 0x0, 0x0, false, false, false, 0x0⟩,
  ⟨"GWY_APPLY_TIMEOUT", 0x8, 1, 4, 0x0, 0xFFFF, 0x0, 0x0, 0x0, true, false, false, 0x7D0⟩,
  ⟨"GWY_ERR_INFO", 0xC, 1, 4, 0x0, 0x0, 0x0, 0x0, 0x0, false, false, false, 0x0⟩,
  ⟨"GWY_ERR_STATION", 0x10, 1, 4, 0x0, 0x0, 0x0, 0x0, 0x0, false, false, false, 0x0⟩,
  ⟨"GWY_ERR_CLR", 0x14, 1, 4, 0x0, 0x0, 0x0, 0x0, 0x1, true, false, false, 0x0⟩,
  ⟨"GWY_STALE_COUNT", 0x18, 1, 4, 0x0, 0x0, 0x0, 0x0, 0x0, false, false, false, 0x0⟩,
  ⟨"GWY_REQ_SEL", 0x20, 1, 4, 0x3F, 0x0, 0x0, 0x0, 0x0, false, true, false, 0x0⟩,
  ⟨"GWY_REQ_STATE", 0x24, 1, 4, 0x0, 0x0, 0x0, 0x0, 0x0, false, false, false, 0x0⟩,
  ⟨"GWY_REQ_MEMBERS", 0x28, 1, 4, 0x0, 0x0, 0x0, 0x0, 0x0, false, false, false, 0x0⟩,
  ⟨"GWY_REQ_BUFFERED", 0x2C, 1, 4, 0x0, 0x0, 0x0, 0x0, 0x0, false, false, false, 0x0⟩,
  ⟨"GWY_REQ_LEAD", 0x30, 1, 4, 0x0, 0x0, 0x0, 0x0, 0x0, false, false, false, 0x0⟩,
  ⟨"GWY_REQ_UNDERRUNS", 0x34, 1, 4, 0x0, 0x0, 0x0, 0x0, 0x0, false, false, false, 0x0⟩,
  ⟨"GWY_REQ_TOKENS_LO", 0x38, 1, 4, 0x0, 0x0, 0x0, 0x0, 0x0, false, false, true, 0x0⟩,
  ⟨"GWY_REQ_TOKENS_HI", 0x3C, 1, 4, 0x0, 0x0, 0x0, 0x0, 0x0, false, false, false, 0x0⟩,
  ⟨"GWY_REQ_SPEC_UJ_LO", 0x40, 1, 4, 0x0, 0x0, 0x0, 0x0, 0x0, false, false, true, 0x0⟩,
  ⟨"GWY_REQ_SPEC_UJ_HI", 0x44, 1, 4, 0x0, 0x0, 0x0, 0x0, 0x0, false, false, false, 0x0⟩,
  ⟨"GWY_REQ_REJECT_UJ_LO", 0x48, 1, 4, 0x0, 0x0, 0x0, 0x0, 0x0, false, false, true, 0x0⟩,
  ⟨"GWY_REQ_REJECT_UJ_HI", 0x4C, 1, 4, 0x0, 0x0, 0x0, 0x0, 0x0, false, false, false, 0x0⟩,
  ⟨"GWY_REQ_COMMITS", 0x50, 1, 4, 0x0, 0x0, 0x0, 0x0, 0x0, false, false, false, 0x0⟩,
  ⟨"GWY_REQ_DISCARDS", 0x54, 1, 4, 0x0, 0x0, 0x0, 0x0, 0x0, false, false, false, 0x0⟩]

/-- The rows of block NT. -/
def rowsNt : List RegRow := [
  ⟨"NT_STATUS", 0x0, 1, 4, 0x0, 0x0, 0x0, 0x0, 0x0, false, false, false, 0x0⟩,
  ⟨"NT_CH_FAILED", 0x4, 1, 4, 0x0, 0x0, 0x0, 0x0, 0x0, false, false, false, 0x0⟩,
  ⟨"NT_TEMP", 0x8, 1, 4, 0x0, 0x0, 0x0, 0x0, 0x0, false, false, false, 0x0⟩,
  ⟨"NT_RETRAIN", 0xC, 1, 4, 0x0, 0x10FFFFF, 0x0, 0x0, 0x0, true, false, false, 0x108080F⟩,
  ⟨"NT_RETRAIN_REQ", 0x10, 1, 4, 0x0, 0x0, 0x0, 0x0, 0x11F, true, false, false, 0x0⟩,
  ⟨"NT_SCRUB", 0x14, 1, 4, 0x0, 0xFFF0001, 0x0, 0x0, 0x0, true, false, false, 0x200001⟩,
  ⟨"NT_CE_LIMIT", 0x18, 1, 4, 0x0, 0xFFFF, 0x0, 0x0, 0x0, true, false, false, 0x100⟩,
  ⟨"NT_CE_COUNT", 0x1C, 1, 4, 0x0, 0x0, 0x0, 0x0, 0x0, false, false, false, 0x0⟩,
  ⟨"NT_UE_COUNT", 0x20, 1, 4, 0x0, 0x0, 0x0, 0x0, 0x0, false, false, false, 0x0⟩,
  ⟨"NT_ERR_ADDR_LO", 0x24, 1, 4, 0x0, 0x0, 0x0, 0x0, 0x0, false, false, true, 0x0⟩,
  ⟨"NT_ERR_ADDR_HI", 0x28, 1, 4, 0x0, 0x0, 0x0, 0x0, 0x0, false, false, false, 0x0⟩,
  ⟨"NT_ERR_INFO", 0x2C, 1, 4, 0x0, 0x0, 0x0, 0x0, 0x0, false, false, false, 0x0⟩,
  ⟨"NT_ERR_CLR", 0x30, 1, 4, 0x0, 0x0, 0x0, 0x0, 0x1, true, false, false, 0x0⟩,
  ⟨"NT_RETRAIN_COUNT", 0x34, 1, 4, 0x0, 0x0, 0x0, 0x0, 0x0, false, false, false, 0x0⟩,
  ⟨"NT_EVENT", 0x38, 1, 4, 0x0, 0x0, 0x3, 0x0, 0x0, false, false, false, 0x0⟩,
  ⟨"NT_TRACT_OWNER", 0x100, 48, 4, 0x0, 0x3FF0007, 0x0, 0x0, 0x0, true, false, false, 0x0⟩,
  ⟨"NT_CH_TAG", 0x200, 32, 4, 0x0, 0x0, 0x0, 0x0, 0x0, false, false, false, 0x0⟩]

/-- The rows of block FT. -/
def rowsFt : List RegRow := [
  ⟨"FT_PORT_STATE", 0x100, 4, 64, 0x0, 0x0, 0x0, 0x0, 0x0, false, false, false, 0x0⟩,
  ⟨"FT_PORT_CAP", 0x104, 4, 64, 0x0, 0x0, 0x0, 0x0, 0x0, false, false, false, 0x0⟩,
  ⟨"FT_PORT_CTRL", 0x108, 4, 64, 0x0, 0x0, 0x0, 0x0, 0x3, true, false, false, 0x0⟩,
  ⟨"FT_PORT_TIMEOUT", 0x10C, 4, 64, 0x0, 0xFFFF, 0x0, 0x0, 0x0, true, false, false, 0x64⟩,
  ⟨"FT_PORT_RTT", 0x110, 4, 64, 0x0, 0x0, 0x0, 0x0, 0x0, false, false, false, 0x0⟩,
  ⟨"FT_PORT_POISON_COUNT", 0x114, 4, 64, 0x0, 0x0, 0x0, 0x0, 0x0, false, false, false, 0x0⟩,
  ⟨"FT_PORT_ERR_COUNT", 0x118, 4, 64, 0x0, 0x0, 0x0, 0x0, 0x0, false, false, false, 0x0⟩,
  ⟨"FT_PORT_STALE_RSP", 0x11C, 4, 64, 0x0, 0x0, 0x0, 0x0, 0x0, false, false, false, 0x0⟩,
  ⟨"FT_PORT_EVENT", 0x120, 4, 64, 0x0, 0x0, 0x1F, 0x0, 0x0, false, false, false, 0x0⟩,
  ⟨"FT_TRACT_OWNER", 0x1000, 2048, 4, 0x0, 0x3FF0007, 0x0, 0x0, 0x0, true, false, false, 0x0⟩]

/-- The rows of block HIF. -/
def rowsHif : List RegRow := [
  ⟨"HIF_LINK", 0x0, 1, 4, 0x0, 0x0, 0x0, 0x0, 0x0, false, false, false, 0x0⟩,
  ⟨"HIF_CFG", 0x4, 1, 4, 0x0, 0x3FF00F1, 0x0, 0x0, 0x0, false, false, false, 0xA0000⟩,
  ⟨"HIF_EVENT", 0x8, 1, 4, 0x0, 0x0, 0x1F, 0x0, 0x0, false, false, false, 0x0⟩,
  ⟨"HIF_ERR_INFO", 0xC, 1, 4, 0x0, 0x0, 0x0, 0x0, 0x0, false, false, false, 0x0⟩,
  ⟨"HIF_ERR_ADDR_LO", 0x10, 1, 4, 0x0, 0x0, 0x0, 0x0, 0x0, false, false, true, 0x0⟩,
  ⟨"HIF_ERR_ADDR_HI", 0x14, 1, 4, 0x0, 0x0, 0x0, 0x0, 0x0, false, false, false, 0x0⟩,
  ⟨"HIF_ERR_CLR", 0x18, 1, 4, 0x0, 0x0, 0x0, 0x0, 0x1, false, false, false, 0x0⟩,
  ⟨"HIF_DB_STALE", 0x1C, 1, 4, 0x0, 0x0, 0x0, 0x0, 0x0, false, false, false, 0x0⟩,
  ⟨"HIF_DB_BAD", 0x20, 1, 4, 0x0, 0x0, 0x0, 0x0, 0x0, false, false, false, 0x0⟩,
  ⟨"HIF_FN_SEL", 0x24, 1, 4, 0x3FF, 0x0, 0x0, 0x0, 0x0, false, true, false, 0x0⟩,
  ⟨"HIF_FN_STATUS", 0x28, 1, 4, 0x0, 0x0, 0x0, 0x0, 0x0, false, false, false, 0x0⟩,
  ⟨"HIF_AP_REFUSED", 0x2C, 1, 4, 0x0, 0x0, 0x0, 0x0, 0x0, false, false, false, 0x0⟩,
  ⟨"HIF_BAR0_BAD", 0x30, 1, 4, 0x0, 0x0, 0x0, 0x0, 0x0, false, false, false, 0x0⟩,
  ⟨"HIF_CTX_SEL", 0x100, 1, 4, 0xFFF, 0x0, 0x0, 0x0, 0x0, false, true, false, 0x0⟩,
  ⟨"HIF_CTX_CMD", 0x104, 1, 4, 0x0, 0x7, 0x0, 0x0, 0x0, false, false, false, 0x0⟩,
  ⟨"HIF_CTX_RESULT", 0x108, 1, 4, 0x0, 0x0, 0x0, 0x0, 0x0, false, true, false, 0x0⟩,
  ⟨"HIF_CTX_STATE", 0x10C, 1, 4, 0x0, 0x0, 0x0, 0x0, 0x0, false, false, false, 0x0⟩,
  ⟨"HIF_CTX_FN", 0x110, 1, 4, 0x0, 0x7F03FF, 0x0, 0x0, 0x0, false, false, false, 0x0⟩,
  ⟨"HIF_CTX_PARCELS", 0x114, 1, 4, 0x0, 0xFFF000F, 0x0, 0x0, 0x0, false, false, false, 0x0⟩,
  ⟨"HIF_CTX_JOB_TAG", 0x118, 1, 4, 0x0, 0xFFFFFFFF, 0x0, 0x0, 0x0, false, false, false, 0x0⟩,
  ⟨"HIF_CTX_RINGS", 0x11C, 1, 4, 0x0, 0x1F1F, 0x0, 0x0, 0x0, false, false, false, 0x0⟩,
  ⟨"HIF_CTX_DRING_LO", 0x120, 1, 4, 0x0, 0xFFFFFFFF, 0x0, 0x0, 0x0, false, false, true, 0x0⟩,
  ⟨"HIF_CTX_DRING_HI", 0x124, 1, 4, 0x0, 0xFFFFFFFF, 0x0, 0x0, 0x0, false, false, false, 0x0⟩,
  ⟨"HIF_CTX_CRING_LO", 0x128, 1, 4, 0x0, 0xFFFFFFFF, 0x0, 0x0, 0x0, false, false, true, 0x0⟩,
  ⟨"HIF_CTX_CRING_HI", 0x12C, 1, 4, 0x0, 0xFFFFFFFF, 0x0, 0x0, 0x0, false, false, false, 0x0⟩,
  ⟨"HIF_CTX_FSHADOW_LO", 0x130, 1, 4, 0x0, 0xFFFFFFFF, 0x0, 0x0, 0x0, false, false, true, 0x0⟩,
  ⟨"HIF_CTX_FSHADOW_HI", 0x134, 1, 4, 0x0, 0xFFFFFFFF, 0x0, 0x0, 0x0, false, false, false, 0x0⟩,
  ⟨"HIF_CTX_IRQ", 0x138, 1, 4, 0x0, 0x1FF07FF, 0x0, 0x0, 0x0, false, false, false, 0x10000⟩,
  ⟨"HIF_CTX_IRQ_US", 0x13C, 1, 4, 0x0, 0x3FF, 0x0, 0x0, 0x0, false, false, false, 0x0⟩,
  ⟨"HIF_CTX_FETCH_POS", 0x140, 1, 4, 0x0, 0x0, 0x0, 0x0, 0x0, false, false, false, 0x0⟩,
  ⟨"HIF_CTX_DB_POS", 0x144, 1, 4, 0x0, 0x0, 0x0, 0x0, 0x0, false, false, false, 0x0⟩,
  ⟨"HIF_CTX_REC_POS", 0x148, 1, 4, 0x0, 0x0, 0x0, 0x0, 0x0, false, false, false, 0x0⟩,
  ⟨"HIF_CTX_HEAD_POS", 0x14C, 1, 4, 0x0, 0x0, 0x0, 0x0, 0x0, false, false, false, 0x0⟩]

/-- The rows of block OWN. -/
def rowsOwn : List RegRow := [
  ⟨"OWN_STATUS", 0x0, 1, 4, 0x0, 0x0, 0x0, 0x0, 0x0, false, false, false, 0x0⟩,
  ⟨"OWN_CMD", 0x4, 1, 4, 0x0, 0x0, 0x0, 0x0, 0x3F, false, false, false, 0x0⟩,
  ⟨"OWN_RESULT", 0x8, 1, 4, 0x0, 0x0, 0x0, 0x0, 0x0, false, true, false, 0x0⟩,
  ⟨"OWN_HANDOVER_LEFT", 0xC, 1, 4, 0x0, 0x0, 0x0, 0x0, 0x0, false, false, false, 0x0⟩,
  ⟨"OWN_GEN", 0x10, 1, 4, 0x0, 0x0, 0x0, 0x0, 0x0, false, false, false, 0x0⟩,
  ⟨"OWN_VIOL_COUNT", 0x14, 1, 4, 0x0, 0x0, 0x0, 0x0, 0x0, false, false, false, 0x0⟩,
  ⟨"OWN_VIOL_INFO", 0x18, 1, 4, 0x0, 0x0, 0x0, 0x0, 0x0, false, false, false, 0x0⟩,
  ⟨"OWN_VIOL_ADDR", 0x1C, 1, 4, 0x0, 0x0, 0x0, 0x0, 0x0, false, false, false, 0x0⟩,
  ⟨"OWN_VIOL_CLR", 0x20, 1, 4, 0x0, 0x0, 0x0, 0x0, 0x1, true, false, false, 0x0⟩]

/-- The rows of block ETH. -/
def rowsEth : List RegRow := [
  ⟨"ETH_PORT_CFG", 0x0, 1, 4, 0x0, 0x3FF0007, 0x0, 0x0, 0x0, false, false, false, 0x280000⟩,
  ⟨"ETH_PORT_STATUS", 0x4, 1, 4, 0x0, 0x0, 0x0, 0x0, 0x0, false, false, false, 0x0⟩,
  ⟨"ETH_EVENT", 0x8, 1, 4, 0x0, 0x0, 0x3, 0x0, 0x0, false, false, false, 0x0⟩,
  ⟨"ETH_MAC_LO", 0xC, 1, 4, 0x0, 0xFFFFFFFF, 0x0, 0x0, 0x0, false, false, false, 0x0⟩,
  ⟨"ETH_MAC_HI", 0x10, 1, 4, 0x0, 0xFFFF, 0x0, 0x0, 0x0, false, false, false, 0x0⟩,
  ⟨"ETH_Q_SEL", 0x100, 1, 4, 0x7F, 0x0, 0x0, 0x0, 0x0, false, true, false, 0x0⟩,
  ⟨"ETH_Q_CTRL", 0x104, 1, 4, 0x0, 0x3, 0x0, 0x0, 0x0, false, false, false, 0x0⟩,
  ⟨"ETH_Q_CTX", 0x108, 1, 4, 0x0, 0x1F1F0FFF, 0x0, 0x0, 0x0, false, false, false, 0x0⟩,
  ⟨"ETH_Q_RING", 0x10C, 1, 4, 0x0, 0xFFFFFFFF, 0x0, 0x0, 0x0, false, false, false, 0x0⟩,
  ⟨"ETH_Q_FMT", 0x110, 1, 4, 0x0, 0x7FF, 0x0, 0x0, 0x0, false, false, false, 0xB6⟩,
  ⟨"ETH_Q_FC", 0x114, 1, 4, 0x0, 0xFFF0FFF, 0x0, 0x0, 0x0, false, false, false, 0x0⟩,
  ⟨"ETH_Q_POS", 0x118, 1, 4, 0x0, 0x0, 0x0, 0x0, 0x0, false, false, false, 0x0⟩,
  ⟨"ETH_FILT_MAC_LO", 0x1000, 64, 16, 0x0, 0xFFFFFFFF, 0x0, 0x0, 0x0, false, false, false, 0x0⟩,
  ⟨"ETH_FILT_MAC_HI", 0x1004, 64, 16, 0x0, 0x1FFFFFFF, 0x0, 0x0, 0x0, false, false, false, 0x0⟩,
  ⟨"ETH_FILT_TGT", 0x1008, 64, 16, 0x0, 0x73F01, 0x0, 0x0, 0x0, false, false, false, 0x0⟩,
  ⟨"ETH_TX_FRAMES", 0x40, 1, 4, 0x0, 0x0, 0x0, 0x0, 0x0, false, false, false, 0x0⟩,
  ⟨"ETH_TX_DROP", 0x44, 1, 4, 0x0, 0x0, 0x0, 0x0, 0x0, false, false, false, 0x0⟩,
  ⟨"ETH_RX_FRAMES", 0x48, 1, 4, 0x0, 0x0, 0x0, 0x0, 0x0, false, false, false, 0x0⟩,
  ⟨"ETH_RX_FCS", 0x4C, 1, 4, 0x0, 0x0, 0x0, 0x0, 0x0, false, false, false, 0x0⟩,
  ⟨"ETH_RX_FULL", 0x50, 1, 4, 0x0, 0x0, 0x0, 0x0, 0x0, false, false, false, 0x0⟩,
  ⟨"ETH_RX_NOMATCH", 0x54, 1, 4, 0x0, 0x0, 0x0, 0x0, 0x0, false, false, false, 0x0⟩,
  ⟨"ETH_RX_SIZE", 0x58, 1, 4, 0x0, 0x0, 0x0, 0x0, 0x0, false, false, false, 0x0⟩,
  ⟨"ETH_PAUSE_RX", 0x5C, 1, 4, 0x0, 0x0, 0x0, 0x0, 0x0, false, false, false, 0x0⟩,
  ⟨"ETH_PAUSE_TX", 0x60, 1, 4, 0x0, 0x0, 0x0, 0x0, 0x0, false, false, false, 0x0⟩,
  ⟨"ETH_MACCTL_DROP", 0x64, 1, 4, 0x0, 0x0, 0x0, 0x0, 0x0, false, false, false, 0x0⟩]

/-- The rows of block LNK. -/
def rowsLnk : List RegRow := [
  ⟨"LNK_STATUS", 0x0, 1, 4, 0x0, 0x0, 0x0, 0x0, 0x0, false, false, false, 0x0⟩,
  ⟨"LNK_CTRL", 0x4, 1, 4, 0x0, 0x1, 0x0, 0x0, 0x76, false, false, false, 0x1⟩,
  ⟨"LNK_PEER_SERIAL_LO", 0x8, 1, 4, 0x0, 0x0, 0x0, 0x0, 0x0, false, false, true, 0x0⟩,
  ⟨"LNK_PEER_SERIAL_HI", 0xC, 1, 4, 0x0, 0x0, 0x0, 0x0, 0x0, false, false, false, 0x0⟩,
  ⟨"LNK_PEER", 0x10, 1, 4, 0x0, 0x0, 0x0, 0x0, 0x0, false, false, false, 0x0⟩,
  ⟨"LNK_EPOCH", 0x14, 1, 4, 0x0, 0x0, 0x0, 0x0, 0x0, false, false, false, 0x0⟩,
  ⟨"LNK_SEQ", 0x18, 1, 4, 0x0, 0x0, 0x0, 0x0, 0x0, false, false, false, 0x0⟩,
  ⟨"LNK_REPLAY", 0x1C, 1, 4, 0x0, 0x0, 0x0, 0x0, 0x0, false, false, false, 0x0⟩,
  ⟨"LNK_CFG", 0x20, 1, 4, 0x0, 0xFFFFF, 0x0, 0x0, 0x0, false, false, false, 0x40FA0⟩,
  ⟨"LNK_RETRAIN", 0x24, 1, 4, 0x0, 0x1FFF, 0x0, 0x0, 0x0, false, false, false, 0x130F⟩,
  ⟨"LNK_CSYM_MAX", 0x28, 1, 4, 0x0, 0xFFFFFFFF, 0x0, 0x0, 0x0, false, false, false, 0x10000⟩,
  ⟨"LNK_EVENT", 0x30, 1, 4, 0x0, 0x0, 0xFF, 0x0, 0x0, false, false, false, 0x0⟩,
  ⟨"LNK_VIOL_INFO", 0x34, 1, 4, 0x0, 0x0, 0x0, 0x0, 0x0, false, false, false, 0x0⟩,
  ⟨"LNK_VIOL_CLR", 0x38, 1, 4, 0x0, 0x0, 0x0, 0x0, 0x1, true, false, false, 0x0⟩,
  ⟨"LNK_VIOL_COUNT", 0x3C, 1, 4, 0x0, 0x0, 0x0, 0x0, 0x0, false, false, false, 0x0⟩,
  ⟨"LNK_CREDIT", 0x40, 4, 4, 0x0, 0x0, 0x0, 0x0, 0x0, false, false, false, 0x0⟩,
  ⟨"LNK_CRC_ERR", 0x50, 1, 4, 0x0, 0x0, 0x0, 0x0, 0x0, false, false, false, 0x0⟩,
  ⟨"LNK_FEC_UNCORR", 0x54, 1, 4, 0x0, 0x0, 0x0, 0x0, 0x0, false, false, false, 0x0⟩,
  ⟨"LNK_REPLAYS", 0x58, 1, 4, 0x0, 0x0, 0x0, 0x0, 0x0, false, false, false, 0x0⟩,
  ⟨"LNK_RESTARTS", 0x5C, 1, 4, 0x0, 0x0, 0x0, 0x0, 0x0, false, false, false, 0x0⟩,
  ⟨"LNK_STALE", 0x60, 1, 4, 0x0, 0x0, 0x0, 0x0, 0x0, false, false, false, 0x0⟩,
  ⟨"LNK_DISCARDED", 0x64, 1, 4, 0x0, 0x0, 0x0, 0x0, 0x0, false, false, false, 0x0⟩,
  ⟨"LNK_STOMPED", 0x68, 1, 4, 0x0, 0x0, 0x0, 0x0, 0x0, false, false, false, 0x0⟩,
  ⟨"LNK_RETRAIN_COUNT", 0x6C, 1, 4, 0x0, 0x0, 0x0, 0x0, 0x0, false, false, false, 0x0⟩,
  ⟨"LNK_UNITS_LO", 0x70, 1, 4, 0x0, 0x0, 0x0, 0x0, 0x0, false, false, true, 0x0⟩,
  ⟨"LNK_UNITS_HI", 0x74, 1, 4, 0x0, 0x0, 0x0, 0x0, 0x0, false, false, false, 0x0⟩,
  ⟨"LNK_LANE_TAG", 0x100, 4, 16, 0x0, 0x0, 0x0, 0x0, 0x0, false, false, false, 0x0⟩,
  ⟨"LNK_LANE_TAG_CSYM", 0x104, 4, 16, 0x0, 0x0, 0x0, 0x0, 0x0, false, false, false, 0x0⟩,
  ⟨"LNK_LANE_CSYM", 0x108, 4, 16, 0x0, 0x0, 0x0, 0x0, 0x0, false, false, false, 0x0⟩]

/-- The rows of block FAB. -/
def rowsFab : List RegRow := [
  ⟨"FAB_STATION", 0x0, 1, 4, 0x0, 0x0, 0x0, 0x0, 0x0, false, false, false, 0xFFF⟩,
  ⟨"FAB_MODE", 0x4, 1, 4, 0x0, 0x1, 0x0, 0x0, 0x0, false, false, false, 0x1⟩,
  ⟨"FAB_TRAV_STATUS", 0x8, 1, 4, 0x0, 0x0, 0x0, 0x0, 0x0, false, false, false, 0x0⟩,
  ⟨"FAB_TRAV_CTRL", 0xC, 1, 4, 0x0, 0x0, 0x0, 0x0, 0x1, false, false, false, 0x0⟩,
  ⟨"FAB_DATUM_SERIAL_LO", 0x10, 1, 4, 0x0, 0x0, 0x0, 0x0, 0x0, false, false, true, 0x0⟩,
  ⟨"FAB_DATUM_SERIAL_HI", 0x14, 1, 4, 0x0, 0x0, 0x0, 0x0, 0x0, false, false, false, 0x0⟩,
  ⟨"FAB_EVENT", 0x18, 1, 4, 0x0, 0x0, 0x3F, 0x0, 0x0, false, false, false, 0x0⟩,
  ⟨"FAB_UNREACH", 0x20, 1, 4, 0x0, 0x0, 0x0, 0x0, 0x0, false, false, false, 0x0⟩,
  ⟨"FAB_HOP_DROP", 0x24, 1, 4, 0x0, 0x0, 0x0, 0x0, 0x0, false, false, false, 0x0⟩,
  ⟨"FAB_LATE_RSP", 0x28, 1, 4, 0x0, 0x0, 0x0, 0x0, 0x0, false, false, false, 0x0⟩,
  ⟨"FAB_TRAV_BAD", 0x2C, 1, 4, 0x0, 0x0, 0x0, 0x0, 0x0, false, false, false, 0x0⟩,
  ⟨"FAB_PORT_STATE", 0x100, 20, 4, 0x0, 0x0, 0x0, 0x0, 0x0, false, false, false, 0x0⟩,
  ⟨"FAB_ROUTE", 0x200, 1, 4, 0x0, 0x1FFFFF, 0x0, 0x0, 0x0, false, false, false, 0x180400⟩,
  ⟨"FAB_E2E", 0x204, 1, 4, 0x0, 0x3FFF, 0x0, 0x0, 0x0, false, false, false, 0x80⟩,
  ⟨"FAB_E2E_BUDGET", 0x208, 1, 4, 0x0, 0xFFFF, 0x0, 0x0, 0x0, false, false, false, 0x800⟩,
  ⟨"FAB_RSP_TIMEOUT", 0x20C, 1, 4, 0x0, 0xFFFF, 0x0, 0x0, 0x0, false, false, false, 0x3E8⟩,
  ⟨"FAB_TIME_LO", 0x300, 1, 4, 0x0, 0x0, 0x0, 0x0, 0x0, false, false, true, 0x0⟩,
  ⟨"FAB_TIME_HI", 0x304, 1, 4, 0x0, 0x0, 0x0, 0x0, 0x0, false, false, false, 0x0⟩,
  ⟨"FAB_TIME_STATUS", 0x308, 1, 4, 0x0, 0x0, 0x0, 0x0, 0x0, false, false, false, 0xFF00⟩,
  ⟨"FAB_TIME_CFG", 0x30C, 1, 4, 0x0, 0xFF01, 0x0, 0x0, 0x0, false, false, false, 0x6400⟩]

/-- The rows of block COL. -/
def rowsCol : List RegRow := [
  ⟨"COL_STATUS", 0x0, 1, 4, 0x0, 0x0, 0x0, 0x0, 0x0, false, false, false, 0x0⟩,
  ⟨"COL_CFG", 0x4, 1, 4, 0x0, 0xFFFF, 0x0, 0x0, 0x0, true, false, false, 0x3E8⟩,
  ⟨"COL_EVENT", 0x8, 1, 4, 0x0, 0x0, 0x7, 0x0, 0x0, false, false, false, 0x0⟩,
  ⟨"COL_ABORT_INFO", 0xC, 1, 4, 0x0, 0x0, 0x0, 0x0, 0x0, false, false, false, 0x0⟩,
  ⟨"COL_ABORT_TAG_LO", 0x10, 1, 4, 0x0, 0x0, 0x0, 0x0, 0x0, false, false, true, 0x0⟩,
  ⟨"COL_ABORT_TAG_HI", 0x14, 1, 4, 0x0, 0x0, 0x0, 0x0, 0x0, false, false, false, 0x0⟩,
  ⟨"COL_ABORT_ORIGIN", 0x18, 1, 4, 0x0, 0x0, 0x0, 0x0, 0x0, false, false, false, 0x0⟩,
  ⟨"COL_ABORT_CLR", 0x1C, 1, 4, 0x0, 0x0, 0x0, 0x0, 0x1, true, false, false, 0x0⟩,
  ⟨"COL_STRAY", 0x20, 1, 4, 0x0, 0x0, 0x0, 0x0, 0x0, false, false, false, 0x0⟩,
  ⟨"COL_ABORTS", 0x24, 1, 4, 0x0, 0x0, 0x0, 0x0, 0x0, false, false, false, 0x0⟩,
  ⟨"COL_ADDS_LO", 0x28, 1, 4, 0x0, 0x0, 0x0, 0x0, 0x0, false, false, true, 0x0⟩,
  ⟨"COL_ADDS_HI", 0x2C, 1, 4, 0x0, 0x0, 0x0, 0x0, 0x0, false, false, false, 0x0⟩]

/-- The rows of block TOL. -/
def rowsTol : List RegRow := [
  ⟨"TOL_STATUS", 0x0, 1, 4, 0x0, 0x0, 0x0, 0x0, 0x0, false, false, false, 0x4B0⟩,
  ⟨"TOL_TRAY_BUDGET", 0x4, 1, 4, 0x0, 0x0, 0x0, 0x0, 0x0, false, false, false, 0x4B0⟩,
  ⟨"TOL_CAP", 0x8, 1, 4, 0x0, 0x7FF, 0x0, 0x0, 0x0, false, false, false, 0x640⟩,
  ⟨"TOL_SHARE0", 0xC, 1, 4, 0x0, 0xFFFFFFFF, 0x0, 0x0, 0x0, false, false, false, 0x11111111⟩,
  ⟨"TOL_SHARE1", 0x10, 1, 4, 0x0, 0xFFFF, 0x0, 0x0, 0x0, false, false, false, 0x1111⟩,
  ⟨"TOL_COL_POOL", 0x14, 1, 4, 0x0, 0xFF, 0x0, 0x0, 0x0, false, false, false, 0x30⟩,
  ⟨"TOL_DENY", 0x18, 1, 4, 0x0, 0xFFFF, 0x0, 0x0, 0x0, false, false, false, 0x64⟩,
  ⟨"TOL_CLASS_W0", 0x1C, 1, 4, 0x0, 0xFFFFFFFF, 0x0, 0x0, 0x0, false, false, false, 0xC080400⟩,
  ⟨"TOL_CLASS_W1", 0x20, 1, 4, 0x0, 0xFFFFFFFF, 0x0, 0x0, 0x0, false, false, false, 0x423C281E⟩,
  ⟨"TOL_GUARD", 0x24, 1, 4, 0x0, 0x0, 0x0, 0x0, 0x0, false, false, false, 0x32⟩,
  ⟨"TOL_TJ", 0x28, 1, 4, 0x0, 0x0, 0x0, 0x0, 0x0, false, false, false, 0x736900⟩,
  ⟨"TOL_STATIC", 0x2C, 1, 4, 0x0, 0xFFF0000, 0x0, 0x0, 0x0, false, false, false, 0x14A0000⟩,
  ⟨"TOL_STATIC_ADJ", 0x30, 1, 4, 0x0, 0x0, 0x0, 0x0, 0x0, false, false, false, 0x0⟩,
  ⟨"TOL_EVENT", 0x34, 1, 4, 0x0, 0x0, 0x3FF, 0x0, 0x0, true, false, false, 0x0⟩,
  ⟨"TOL_DENIED", 0x38, 1, 4, 0x0, 0x0, 0x0, 0x0, 0x0, false, false, false, 0x0⟩,
  ⟨"TOL_AVS_ERR", 0x3C, 1, 4, 0x0, 0x0, 0x0, 0x0, 0x0, false, false, false, 0x0⟩,
  ⟨"TOL_POWER", 0x40, 1, 4, 0x0, 0x0, 0x0, 0x0, 0x0, false, false, false, 0x0⟩,
  ⟨"TOL_TOTAL_UJ_LO", 0x48, 1, 4, 0x0, 0x0, 0x0, 0x0, 0x0, false, false, true, 0x0⟩,
  ⟨"TOL_TOTAL_UJ_HI", 0x4C, 1, 4, 0x0, 0x0, 0x0, 0x0, 0x0, false, false, false, 0x0⟩,
  ⟨"TOL_DEV_UJ_LO", 0x50, 1, 4, 0x0, 0x0, 0x0, 0x0, 0x0, false, false, true, 0x0⟩,
  ⟨"TOL_DEV_UJ_HI", 0x54, 1, 4, 0x0, 0x0, 0x0, 0x0, 0x0, false, false, false, 0x0⟩,
  ⟨"TOL_JOB_OVF_UJ_LO", 0x58, 1, 4, 0x0, 0x0, 0x0, 0x0, 0x0, false, false, true, 0x0⟩,
  ⟨"TOL_JOB_OVF_UJ_HI", 0x5C, 1, 4, 0x0, 0x0, 0x0, 0x0, 0x0, false, false, false, 0x0⟩,
  ⟨"TOL_COOLANT_IN", 0x60, 1, 4, 0x0, 0x0, 0x0, 0x0, 0x0, false, false, false, 0x0⟩,
  ⟨"TOL_COOLANT_OUT", 0x64, 1, 4, 0x0, 0x0, 0x0, 0x0, 0x0, false, false, false, 0x0⟩,
  ⟨"TOL_COOLANT_FLOW", 0x68, 1, 4, 0x0, 0x0, 0x0, 0x0, 0x0, false, false, false, 0x0⟩,
  ⟨"TOL_COOLANT_AGE", 0x6C, 1, 4, 0x0, 0x0, 0x0, 0x0, 0x0, false, false, false, 0x0⟩,
  ⟨"TOL_FLOW_MIN", 0x70, 1, 4, 0x0, 0xFFFF, 0x0, 0x0, 0x0, false, false, false, 0x0⟩,
  ⟨"TOL_FN_SEL", 0x80, 1, 4, 0x3FF, 0x0, 0x0, 0x0, 0x0, false, true, false, 0x0⟩,
  ⟨"TOL_FN_UJ_LO", 0x84, 1, 4, 0x0, 0x0, 0x0, 0x0, 0x0, false, false, true, 0x0⟩,
  ⟨"TOL_FN_UJ_HI", 0x88, 1, 4, 0x0, 0x0, 0x0, 0x0, 0x0, false, false, false, 0x0⟩,
  ⟨"TOL_JOB_SEL", 0x90, 1, 4, 0xFF, 0x0, 0x0, 0x0, 0x0, false, true, false, 0x0⟩,
  ⟨"TOL_JOB_TAG", 0x94, 1, 4, 0x0, 0x0, 0x0, 0x0, 0x0, false, false, false, 0x0⟩,
  ⟨"TOL_JOB_STATE", 0x98, 1, 4, 0x0, 0x0, 0x0, 0x0, 0x0, false, false, false, 0x0⟩,
  ⟨"TOL_JOB_UJ_LO", 0x9C, 1, 4, 0x0, 0x0, 0x0, 0x0, 0x0, false, false, true, 0x0⟩,
  ⟨"TOL_JOB_UJ_HI", 0xA0, 1, 4, 0x0, 0x0, 0x0, 0x0, 0x0, false, false, false, 0x0⟩,
  ⟨"TOL_JOB_FREE", 0xA4, 1, 4, 0x0, 0x0, 0x0, 0x0, 0x1, true, false, false, 0x0⟩,
  ⟨"TOL_RAIL_V", 0x100, 14, 4, 0x0, 0x0, 0x0, 0x0, 0x0, false, false, false, 0x0⟩,
  ⟨"TOL_RAIL_I", 0x140, 14, 4, 0x0, 0x0, 0x0, 0x0, 0x0, false, false, false, 0x0⟩,
  ⟨"TOL_COEF", 0x180, 12, 4, 0x0, 0xFFFFF, 0x0, 0x0, 0x0, false, false, false, 0x0⟩,
  ⟨"TOL_GATE", 0x200, 12, 4, 0x0, 0x0, 0x0, 0x0, 0x0, false, false, false, 0x10⟩,
  ⟨"TOL_BUCKET", 0x240, 12, 4, 0x0, 0x0, 0x0, 0x0, 0x0, false, false, false, 0x0⟩,
  ⟨"TOL_POOL", 0x280, 1, 4, 0x0, 0x0, 0x0, 0x0, 0x0, false, false, false, 0x0⟩,
  ⟨"TOL_FCAST", 0x300, 20, 4, 0x0, 0x0, 0x0, 0x0, 0x0, false, false, false, 0x0⟩]

/-- The rows of block RST. -/
def rowsRst : List RegRow := [
  ⟨"CLK_STATUS", 0x0, 1, 4, 0x0, 0x0, 0x0, 0x0, 0x0, false, false, false, 0x0⟩,
  ⟨"CLK_EVENT", 0x4, 1, 4, 0x0, 0x0, 0x3, 0x0, 0x0, false, false, false, 0x0⟩,
  ⟨"CLK_LOCK_LOSSES", 0x8, 1, 4, 0x0, 0x0, 0x0, 0x0, 0x0, false, false, false, 0x0⟩,
  ⟨"CLK_REF_MEAS", 0xC, 1, 4, 0x0, 0x0, 0x0, 0x0, 0x0, false, false, false, 0x0⟩,
  ⟨"RST_LAST_CAUSE", 0x100, 1, 4, 0x0, 0x0, 0x0, 0x0, 0x0, false, false, false, 0x0⟩,
  ⟨"RST_LAST_FTIME_LO", 0x104, 1, 4, 0x0, 0x0, 0x0, 0x0, 0x0, false, false, true, 0x0⟩,
  ⟨"RST_LAST_FTIME_HI", 0x108, 1, 4, 0x0, 0x0, 0x0, 0x0, 0x0, false, false, false, 0x0⟩,
  ⟨"RST_DEVICE", 0x110, 1, 4, 0x0, 0x0, 0x0, 0x0, 0x1, true, false, false, 0x0⟩,
  ⟨"RST_BLOCK0", 0x114, 1, 4, 0x0, 0x0, 0x0, 0xFFFFF, 0x0, true, false, false, 0x0⟩,
  ⟨"RST_BLOCK1", 0x118, 1, 4, 0x0, 0x0, 0x0, 0xFF, 0x0, true, false, false, 0x0⟩,
  ⟨"RST_STATE", 0x11C, 1, 4, 0x0, 0x0, 0x0, 0x0, 0x0, false, false, false, 0x0⟩,
  ⟨"RST_WDT_CFG", 0x120, 1, 4, 0x1FFFF, 0x0, 0x0, 0x0, 0x0, false, false, false, 0x107D0⟩,
  ⟨"RST_WDT_KICK", 0x124, 1, 4, 0x0, 0x0, 0x0, 0x0, 0x1, false, false, false, 0x0⟩,
  ⟨"RST_WDT_LEFT", 0x128, 1, 4, 0x0, 0x0, 0x0, 0x0, 0x0, false, false, false, 0x7D0⟩]

/-- The rows of block PWR. -/
def rowsPwr : List RegRow := [
  ⟨"PWR_STATUS", 0x0, 1, 4, 0x0, 0x0, 0x0, 0x0, 0x0, false, false, false, 0x8⟩,
  ⟨"PWR_CMD", 0x4, 1, 4, 0x0, 0x0, 0x0, 0x0, 0x3, true, false, false, 0x0⟩,
  ⟨"PWR_RESULT", 0x8, 1, 4, 0x0, 0x0, 0x0, 0x0, 0x0, false, true, false, 0x0⟩,
  ⟨"PWR_PAD_RELEASE", 0xC, 1, 4, 0x0, 0x0, 0x0, 0x0, 0x1, true, false, false, 0x0⟩,
  ⟨"PWR_WAKE_EN", 0x10, 1, 4, 0x0, 0x7, 0x0, 0x0, 0x0, true, false, false, 0x7⟩,
  ⟨"PWR_ENTRY_LIMIT", 0x14, 1, 4, 0x0, 0xFFFF, 0x0, 0x0, 0x0, true, false, false, 0xA⟩,
  ⟨"PWR_EVENT", 0x18, 1, 4, 0x0, 0x0, 0x1F, 0x0, 0x0, false, false, false, 0x0⟩,
  ⟨"PWR_IMAGE", 0x1C, 1, 4, 0x0, 0x0, 0x0, 0x0, 0x0, false, false, false, 0x0⟩,
  ⟨"PWR_DOWN_ACCESS", 0x20, 1, 4, 0x0, 0x0, 0x0, 0x0, 0x0, false, false, false, 0x0⟩,
  ⟨"PWR_WAKE_CAUSE", 0x24, 1, 4, 0x0, 0x0, 0x0, 0x0, 0x0, false, false, false, 0x0⟩]

/-- The rows of block FCU. -/
def rowsFcu : List RegRow := [
  ⟨"FCU_STATUS", 0x0, 1, 4, 0x0, 0x0, 0x0, 0x0, 0x0, false, false, false, 0x0⟩,
  ⟨"FCU_CFG", 0x4, 1, 4, 0x0, 0xFFFFFFFF, 0x0, 0x0, 0x0, true, false, false, 0x7D0⟩,
  ⟨"FCU_PIN", 0x8, 1, 4, 0x0, 0xFF000F, 0x0, 0x0, 0x0, true, false, false, 0xA0004⟩,
  ⟨"FCU_IRQ", 0xC, 1, 4, 0x0, 0x3FFF, 0x0, 0x0, 0x0, true, false, false, 0x1000⟩,
  ⟨"FCU_STAT_W", 0x10, 4, 4, 0x0, 0x0, 0xFFFFFFFF, 0x0, 0x0, true, false, false, 0x0⟩,
  ⟨"FCU_FORCE_SAFE", 0x20, 1, 4, 0x0, 0x0, 0x0, 0x0, 0x1, true, false, false, 0x0⟩,
  ⟨"FCU_LOG_COUNT", 0x24, 1, 4, 0x0, 0x0, 0x0, 0x0, 0x0, false, false, false, 0x0⟩,
  ⟨"FCU_LOG_LOST", 0x28, 1, 4, 0x0, 0x0, 0x0, 0x0, 0x0, false, false, false, 0x0⟩,
  ⟨"FCU_LOG_SEL", 0x2C, 1, 4, 0xFF, 0x0, 0x0, 0x0, 0x0, false, true, false, 0x0⟩,
  ⟨"FCU_LOG_POP", 0x30, 1, 4, 0x0, 0x0, 0x0, 0x0, 0x1FF, true, false, false, 0x0⟩,
  ⟨"FCU_LOG_WORD", 0x40, 8, 4, 0x0, 0x0, 0x0, 0x0, 0x0, false, false, false, 0x0⟩,
  ⟨"FCU_SERVICE", 0x60, 1, 4, 0x0, 0x0, 0x0, 0x0, 0x0, false, false, false, 0x0⟩,
  ⟨"FCU_FIRST_INFO", 0x70, 1, 4, 0x0, 0x0, 0x0, 0x0, 0x0, false, false, false, 0x0⟩,
  ⟨"FCU_FIRST_FTIME_LO", 0x74, 1, 4, 0x0, 0x0, 0x0, 0x0, 0x0, false, false, true, 0x0⟩,
  ⟨"FCU_FIRST_FTIME_HI", 0x78, 1, 4, 0x0, 0x0, 0x0, 0x0, 0x0, false, false, false, 0x0⟩,
  ⟨"FCU_FIRST_CLR", 0x7C, 1, 4, 0x0, 0x0, 0x0, 0x0, 0x1, true, false, false, 0x0⟩,
  ⟨"FCU_SRC_CFG", 0x100, 66, 4, 0x0, 0xFFFFFF07, 0x0, 0x0, 0x0, true, false, false, 0x3E80800⟩,
  ⟨"FCU_SRC_STATE", 0x300, 66, 4, 0x0, 0x0, 0x0, 0x0, 0x0, false, false, false, 0x0⟩]

/-- The rows of block REC. -/
def rowsRec : List RegRow := [
  ⟨"REC_CFG", 0x0, 1, 4, 0x0, 0xFFFFF, 0x0, 0x0, 0x0, true, false, false, 0x30514⟩,
  ⟨"REC_EVENT", 0x4, 1, 4, 0x0, 0x0, 0x3FF, 0x0, 0x0, false, false, false, 0x0⟩,
  ⟨"REC_STALE_COUNT", 0x8, 1, 4, 0x0, 0x0, 0x0, 0x0, 0x0, false, false, false, 0x0⟩,
  ⟨"REC_STATUS", 0xC, 1, 4, 0x0, 0x0, 0x0, 0x0, 0x0, false, false, false, 0x0⟩,
  ⟨"REC_PARCEL_CMD", 0x100, 12, 32, 0x0, 0x0, 0x0, 0x0, 0x3, true, false, false, 0x0⟩,
  ⟨"REC_PARCEL_STATE", 0x104, 12, 32, 0x0, 0x0, 0x0, 0x0, 0x0, false, false, false, 0x4⟩,
  ⟨"REC_BELL", 0x108, 12, 32, 0x0, 0x0, 0x0, 0x0, 0xF, false, false, false, 0x0⟩,
  ⟨"REC_BELL_CFG", 0x10C, 12, 32, 0x0, 0x1, 0x0, 0x0, 0x0, true, false, false, 0x0⟩,
  ⟨"REC_BELL_LEFT", 0x110, 12, 32, 0x0, 0x0, 0x0, 0x0, 0x0, false, false, false, 0x0⟩,
  ⟨"REC_RESETS", 0x114, 12, 32, 0x0, 0x0, 0x0, 0x0, 0x0, false, false, false, 0x0⟩,
  ⟨"REC_RLF_SEL", 0x400, 1, 4, 0xF, 0x0, 0x0, 0x0, 0x0, false, true, false, 0x0⟩,
  ⟨"REC_RLF_CMD", 0x404, 1, 4, 0x0, 0x0, 0x0, 0x0, 0x7, true, false, false, 0x0⟩,
  ⟨"REC_RLF_RESULT", 0x408, 1, 4, 0x0, 0x0, 0x0, 0x0, 0x0, false, true, false, 0x0⟩,
  ⟨"REC_RLF_STATE", 0x40C, 1, 4, 0x0, 0x0, 0x0, 0x0, 0x0, false, false, false, 0x0⟩,
  ⟨"REC_RLF_MASKS", 0x410, 1, 4, 0x0, 0xFFF0FFF, 0x0, 0x0, 0x0, false, false, false, 0x0⟩,
  ⟨"REC_RLF_PEER", 0x414, 1, 4, 0x0, 0xFFFFFF, 0x0, 0x0, 0x0, false, false, false, 0x0⟩,
  ⟨"REC_RLF_JOB", 0x418, 1, 4, 0x0, 0xFFFFFFFF, 0x0, 0x0, 0x0, false, false, false, 0x0⟩,
  ⟨"REC_RLF_CTX", 0x41C, 1, 4, 0x0, 0xFF1F0FFF, 0x0, 0x0, 0x0, false, false, false, 0x1E000000⟩,
  ⟨"REC_RLF_TK_VALUE", 0x420, 1, 4, 0x0, 0xFFFFFFFF, 0x0, 0x0, 0x0, false, false, false, 0x0⟩,
  ⟨"REC_RLF_REQ", 0x424, 1, 4, 0x0, 0x7F, 0x0, 0x0, 0x0, false, false, false, 0x0⟩,
  ⟨"REC_RLF_PARAM_ADDR", 0x428, 1, 4, 0x0, 0xFFFFFFFF, 0x0, 0x0, 0x0, false, false, false, 0x0⟩,
  ⟨"REC_RLF_KEY_ADDR", 0x42C, 1, 4, 0x0, 0xFFFFFFFF, 0x0, 0x0, 0x0, false, false, false, 0x0⟩,
  ⟨"REC_RLF_STREAMS", 0x430, 1, 4, 0x0, 0xFFFFFFFF, 0x0, 0x0, 0x0, false, false, false, 0x0⟩,
  ⟨"REC_RLF_MIRROR", 0x434, 1, 4, 0x0, 0x3F3F01FF, 0x0, 0x0, 0x0, false, false, false, 0x0⟩,
  ⟨"REC_RLF_JSEQ", 0x438, 1, 4, 0x0, 0x0, 0x0, 0x0, 0x0, false, false, false, 0x0⟩,
  ⟨"REC_RLF_SURVEY", 0x43C, 1, 4, 0x0, 0x0, 0x0, 0x0, 0x0, false, false, false, 0x0⟩,
  ⟨"REC_RLF_TAKEOVER_US", 0x440, 1, 4, 0x0, 0x0, 0x0, 0x0, 0x0, false, false, false, 0x0⟩]

/-- The rows of block BRU. -/
def rowsBru : List RegRow := [
  ⟨"BRU_STATUS", 0x0, 1, 4, 0x0, 0x0, 0x0, 0x0, 0x0, false, false, false, 0x0⟩,
  ⟨"BRU_CMD", 0x4, 1, 4, 0x0, 0x0, 0x0, 0x0, 0xFFF0007, true, false, false, 0x0⟩,
  ⟨"BRU_RESULT", 0x8, 1, 4, 0x0, 0x0, 0x0, 0x0, 0x0, false, true, false, 0x0⟩,
  ⟨"BRU_CFG", 0xC, 1, 4, 0x0, 0xFFFF, 0x0, 0x0, 0x0, true, false, false, 0x3E8⟩,
  ⟨"BRU_LINK_EXPECT", 0x10, 1, 4, 0x0, 0xFFFFF, 0x0, 0x0, 0x0, true, false, false, 0x0⟩,
  ⟨"BRU_EVENT", 0x14, 1, 4, 0x0, 0x0, 0xFF, 0x0, 0x0, false, false, false, 0x0⟩,
  ⟨"BRU_READY", 0x18, 1, 4, 0x0, 0x0, 0x0, 0x0, 0x0, false, false, false, 0x0⟩,
  ⟨"BRU_LINK_RESULT", 0x1C, 1, 4, 0x0, 0x0, 0x0, 0x0, 0x0, false, false, false, 0x0⟩,
  ⟨"BRU_LOOP_FAIL", 0x20, 1, 4, 0x0, 0x0, 0x0, 0x0, 0x0, false, false, false, 0x0⟩,
  ⟨"BRU_IMAGE", 0x24, 1, 4, 0x0, 0x0, 0x0, 0x0, 0x0, false, false, false, 0x0⟩,
  ⟨"BRU_FP_GEN", 0x28, 1, 4, 0x0, 0x0, 0x0, 0x0, 0x0, false, false, false, 0x0⟩,
  ⟨"BRU_PARCEL", 0x100, 12, 32, 0x0, 0x0, 0x0, 0x0, 0x0, false, false, false, 0x0⟩,
  ⟨"BRU_FP_TILE_LO", 0x104, 12, 32, 0x0, 0x0, 0x0, 0x0, 0x0, false, false, true, 0x0⟩,
  ⟨"BRU_FP_TILE_HI", 0x108, 12, 32, 0x0, 0x0, 0x0, 0x0, 0x0, false, false, false, 0x0⟩,
  ⟨"BRU_FP_BANK_LO", 0x10C, 12, 32, 0x0, 0x0, 0x0, 0x0, 0x0, false, false, true, 0x0⟩,
  ⟨"BRU_FP_BANK_HI", 0x110, 12, 32, 0x0, 0x0, 0x0, 0x0, 0x0, false, false, false, 0x0⟩]

/-- The rows of block NVS. -/
def rowsNvs : List RegRow := [
  ⟨"NVS_STATUS", 0x0, 1, 4, 0x0, 0x0, 0x0, 0x0, 0x0, false, false, false, 0x0⟩,
  ⟨"NVS_EVENT", 0x4, 1, 4, 0x0, 0x0, 0x3F, 0x0, 0x0, false, false, false, 0x0⟩,
  ⟨"NVS_JGEN", 0x8, 1, 4, 0x0, 0x0, 0x0, 0x0, 0x0, false, false, false, 0x0⟩,
  ⟨"NVS_KEYGEN", 0xC, 1, 4, 0x0, 0x0, 0x0, 0x0, 0x0, false, false, false, 0x0⟩,
  ⟨"NVS_KEYVER", 0x10, 1, 4, 0x0, 0x0, 0x0, 0x0, 0x0, false, false, false, 0x0⟩,
  ⟨"NVS_CE_COUNT", 0x14, 1, 4, 0x0, 0x0, 0x0, 0x0, 0x0, false, false, false, 0x0⟩,
  ⟨"NVS_UE_COUNT", 0x18, 1, 4, 0x0, 0x0, 0x0, 0x0, 0x0, false, false, false, 0x0⟩,
  ⟨"NVS_CMD", 0x1C, 1, 4, 0x0, 0x0, 0x0, 0x0, 0x1, true, false, false, 0x0⟩,
  ⟨"NVS_FLOOR", 0x20, 4, 4, 0x0, 0x0, 0x0, 0x0, 0x0, false, false, false, 0x0⟩,
  ⟨"FWU_STATUS", 0x100, 1, 4, 0x0, 0x0, 0x0, 0x0, 0x0, false, false, false, 0x100⟩,
  ⟨"FWU_CMD", 0x104, 1, 4, 0x0, 0x0, 0x0, 0x0, 0xF7, false, false, false, 0x0⟩,
  ⟨"FWU_RESULT", 0x108, 1, 4, 0x0, 0x0, 0x0, 0x0, 0x0, false, true, false, 0x0⟩,
  ⟨"FWU_PKG_LEN", 0x10C, 1, 4, 0x1FFFFFF, 0x0, 0x0, 0x0, 0x0, false, false, false, 0x0⟩,
  ⟨"FWU_BLK_OFF", 0x110, 1, 4, 0xFFFFFF, 0x0, 0x0, 0x0, 0x0, false, false, false, 0x0⟩,
  ⟨"FWU_BLK_LEN", 0x114, 1, 4, 0x1FFFF, 0x0, 0x0, 0x0, 0x0, false, false, false, 0x0⟩,
  ⟨"FWU_BLK_ADDR_LO", 0x118, 1, 4, 0xFFFFFFFF, 0x0, 0x0, 0x0, 0x0, false, false, true, 0x0⟩,
  ⟨"FWU_BLK_ADDR_HI", 0x11C, 1, 4, 0xFFFFFFFF, 0x0, 0x0, 0x0, 0x0, false, false, false, 0x0⟩,
  ⟨"FWU_ACT_TIME_LO", 0x120, 1, 4, 0xFFFFFFFF, 0x0, 0x0, 0x0, 0x0, false, false, true, 0x0⟩,
  ⟨"FWU_ACT_TIME_HI", 0x124, 1, 4, 0xFFFFFFFF, 0x0, 0x0, 0x0, 0x0, false, false, false, 0x0⟩,
  ⟨"FWU_RCVD", 0x128, 8, 4, 0x0, 0x0, 0x0, 0x0, 0x0, false, false, false, 0x0⟩,
  ⟨"FWU_EVENT", 0x148, 1, 4, 0x0, 0x0, 0x1F, 0x0, 0x0, false, false, false, 0x0⟩,
  ⟨"FWU_BOOT", 0x14C, 1, 4, 0x0, 0x0, 0x0, 0x0, 0x0, false, false, false, 0x0⟩,
  ⟨"FWU_CONFIRM", 0x150, 1, 4, 0x0, 0x0, 0x0, 0x0, 0x1, false, false, false, 0x0⟩,
  ⟨"FWU_SLOT", 0x160, 3, 16, 0x0, 0x0, 0x0, 0x0, 0x0, false, false, false, 0x0⟩,
  ⟨"FWU_SLOT_VER_A", 0x164, 3, 16, 0x0, 0x0, 0x0, 0x0, 0x0, false, false, false, 0x0⟩,
  ⟨"FWU_SLOT_VER_B", 0x168, 3, 16, 0x0, 0x0, 0x0, 0x0, 0x0, false, false, false, 0x0⟩]

/-- The rows of block MGP. -/
def rowsMgp : List RegRow := [
  ⟨"MGP_STATUS", 0x0, 1, 4, 0x0, 0x0, 0x0, 0x0, 0x0, false, false, false, 0x0⟩,
  ⟨"MGP_CFG", 0x4, 1, 4, 0x0, 0x3FFFF, 0x0, 0x0, 0x0, true, false, false, 0x307D0⟩,
  ⟨"MGP_EVENT", 0x8, 1, 4, 0x0, 0x0, 0x1F, 0x0, 0x0, false, false, false, 0x0⟩,
  ⟨"MGP_TRAY_AGE", 0xC, 1, 4, 0x0, 0x0, 0x0, 0x0, 0x0, false, false, false, 0xFFFF⟩,
  ⟨"MGP_BACKUP_AGE", 0x10, 1, 4, 0x0, 0x0, 0x0, 0x0, 0x0, false, false, false, 0xFFFF⟩,
  ⟨"MGP_EVQ", 0x14, 1, 4, 0x0, 0x0, 0x0, 0x0, 0x0, false, false, false, 0x0⟩,
  ⟨"MGP_EVQ_LOST", 0x18, 1, 4, 0x0, 0x0, 0x0, 0x0, 0x0, false, false, false, 0x0⟩,
  ⟨"MGP_BAD_MSG", 0x1C, 1, 4, 0x0, 0x0, 0x0, 0x0, 0x0, false, false, false, 0x0⟩]

/-- The block an offset falls in (R20 Table 4): its rows and the offset inside the block's instance. An offset in no
listed range has no rows. -/
def blockRows (off : Nat) : List RegRow × Nat :=
  if off < 0x100000 then (rowsCap, off)
  else if off < 0x200000 then (rowsHif, off - 0x100000)
  else if off < 0x300000 then (rowsOwn, off - 0x200000)
  else if off < 0x400000 then (rowsRst, off - 0x300000)
  else if off < 0x500000 then (rowsPwr, off - 0x400000)
  else if off < 0x600000 then (rowsTol, off - 0x500000)
  else if off < 0x700000 then (rowsFcu, off - 0x600000)
  else if off < 0x800000 then (rowsRec, off - 0x700000)
  else if off < 0x900000 then (rowsBru, off - 0x800000)
  else if off < 0xA00000 then (rowsNvs, off - 0x900000)
  else if off < 0xB00000 then (rowsMgp, off - 0xA00000)
  else if off < 0xC00000 then (if off < 0xB80000 then rowsEth else [], off % 0x40000)
  else if off < 0xD00000 then (rowsFab, off - 0xC00000)
  else if off < 0xE00000 then (rowsCol, off - 0xD00000)
  else if off < 0xF00000 then (rowsFt, off - 0xE00000)
  else if off < 0x1000000 then ([], 0)
  else if off < 0x1C00000 then
    ((match off % 0x100000 / 0x10000 with
      | 0 => rowsSeq | 1 => rowsHld | 2 => rowsMt | 3 => rowsVu
      | 4 => rowsKvp | 5 => rowsGwy | 6 => rowsNt | 7 => rowsWdc | _ => []), off % 0x10000)
  else if off < 0x2000000 then ([], 0)
  else if off < 0x2500000 then (rowsLnk, off % 0x40000)
  else ([], 0)

/-- Does the row cover the block-local offset? -/
def RegRow.covers (r : RegRow) (lo : Nat) : Bool :=
  r.off ≤ lo && (lo - r.off) % r.stride == 0 && decide ((lo - r.off) / r.stride < r.count)

/-- The row of the register at a BAR0 offset, if the spec defines one there. -/
def regRow (off : Nat) : Option RegRow :=
  let b := blockRows off
  b.1.find? (·.covers b.2)

/-- The numeric reset value that the register tables give the register at an offset (0 where they give none). -/
def regReset (off : Nat) : BitVec 32 :=
  match regRow off with
  | some r => BitVec.ofNat 32 r.reset
  | none => 0#32

end Sys2Proof.Machine
end

