-- ==== Sys2Proof/Machine/State.lean ====
section
/-! DEFINITION. The state of the device, as plain data: every register (one sparse register file, keyed by BAR0 offset
and by access path or selected entry), every memory, queue, timer and record that the spec gives the blocks, and the
queue of the commands that wait. -/

namespace Sys2Proof.Machine

/-! ## Reasons to stop -/

/-- No meaning of this model stops with a fault: the spec gives every command an effect. -/
inductive Fault where
  /-- Raised by nothing; it stands here because the interface asks for a type of faults (safe). -/
  | none
  deriving DecidableEq, Repr

/-- Why a command is not carried out at all. -/
inductive Refusal where
  /-- Answered by an arm of exec for a command that has no meaning yet (safe). -/
  | notModelled (mnemonic : String)
  deriving DecidableEq, Repr

/-! ## What is fixed at assembly (R5, R412) -/

/-- The good units of one parcel in a floor plan: bit i of each mask is 1 when the unit is good. -/
structure ParcelPlan where
  tiles : Nat := 0xFFFFFFFFFFFF
  vus : Nat := 0xFF
  banks : Nat := 0xFFFFFFFFFFFFFFFF
  deriving DecidableEq, Repr

/-- The one-time fuses: the variant, the grade, the serial number, the power figures and the fused floor plan. -/
structure Fuses where
  step : Nat := 1
  stackCount : Nat := 12
  ioDies : Nat := 2
  gradeB : Bool := false
  serial : Nat := 1
  leak85 : Nat := 150
  coefs : List Nat := [590, 2, 7, 100, 48, 48, 1350, 300, 150, 150, 20, 10]
  /-- The fused minimum voltage of the dies, in mV: decks 0-3, holds 0-3, I/O dies 0-1 (R322). -/
  railMin : List Nat := List.replicate 10 700
  plan : List ParcelPlan := List.replicate 12 {}
  rootHash : List Byte := []
  deriving DecidableEq, Repr

/-! ## What leaves the device -/

/-- What the device sends out or drives, oldest first in `State.out`. -/
inductive Output where
  /-- A write to host memory for a function (R210). -/
  | hostWrite (fn addr : Nat) (bytes : List Byte)
  /-- A read request to host memory, by its number in `HostSt.reads`. -/
  | hostRead (fn addr len id : Nat)
  /-- An MSI-X message (R221). -/
  | msix (fn vec : Nat)
  /-- A unit handed to a link port's transmitter: a packet, or the bytes of a control unit (R242). -/
  | linkPacket (port seq : Nat) (p : Packet) (stomp : Bool)
  | linkControl (port kind : Nat) (bytes : List Byte)
  /-- An Ethernet frame, FCS excluded. -/
  | ethFrame (port : Nat) (bytes : List Byte)
  /-- A management-port message to the tray manager. -/
  | mgmt (bytes : List Byte)
  /-- A message over PCIe VDM. -/
  | vdm (bytes : List Byte)
  /-- What JTAG shifts out. -/
  | jtag (bits : List Bool)
  /-- An in-band interrupt, or an alert, of the management port. -/
  | ibi
  /-- An ATS Invalidate Completion. -/
  | atsComplete (tag : Nat)
  /-- A function-level reset is complete. -/
  | flrDone (fn : Nat)
  /-- The data a BAR0 or BAR4 read returns; poisoned completions are marked. -/
  | readData (path : Path) (bytes : List Byte) (poisoned : Bool)
  /-- A request to a far-tier port. -/
  | farRequest (port addr len : Nat) (isWrite : Bool)
  /-- An entry request to a block (R359), a reload order to the management core (R419) and the like, by name. -/
  | signal (name : String) (unit : Nat)
  deriving DecidableEq, Repr

/-! ## Descriptors and their parts (04_operators_and_tiles) -/

/-- Where one part of a descriptor stands (Table 1 of that chapter). -/
inductive PartSt where
  /-- Delivered to the parcel, not yet admitted. -/
  | held
  /-- Admitted: its lease is drawn. -/
  | admitted
  /-- Ready, but deferred by the gangway until its round is applied or discarded (R166). -/
  | deferred
  /-- Running on its engine. -/
  | running
  /-- Ended with a status. -/
  | ended (status : Nat)
  deriving DecidableEq, Repr

/-- One part of a descriptor: the parcel whose engine runs it, the parcel that admits it, and how far it is. -/
structure Part where
  parcel : Nat
  adm : Nat
  st : PartSt := .held
  /-- Its place in the order of admission (R71). -/
  seq : Nat := 0
  /-- Since when admission holds it back, in MCLK (R317). -/
  heldAt : Option Nat := none
  /-- The ERROR bit of the mark it waits on has been 1 since it came to its parcel (R80). -/
  markErr : Bool := false
  deriving DecidableEq, Repr

/-- A fetched descriptor. -/
structure Desc where
  id : Nat
  ctx : Nat
  index : Nat
  raw : BitVec 512
  parts : List Part := []
  /-- BAD_DESCRIPTOR at validation (R74): it runs no part. -/
  invalid : Bool := false
  /-- The class it was admitted at (R77). -/
  klass : Nat := 0
  /-- The remote signal it has sent and whose answer it waits for (R82), by transaction number. -/
  sigTxn : Option Nat := none
  /-- The status that answered its remote signal. -/
  sigAns : Option Nat := none
  /-- A deferred part or signal of a committed round runs as if SPEC were 0 (R166); one of a discarded round is
  dropped. -/
  unspec : Bool := false
  dropped : Bool := false
  /-- The parcels whose ALL_REDUCE part the collective engine has accounted for (R306). -/
  collDone : List Nat := []
  deriving DecidableEq, Repr

/-- One mark: a 32-bit count and an ERROR bit (R79). -/
structure Mark where
  count : BitVec 32 := 0
  error : Bool := false
  deriving DecidableEq, Repr

/-- A request packet that waits for its RESPONSE (R82, R103, R286). -/
structure OutReq where
  txn : Nat
  parcel : Nat
  desc : Nat
  packet : Packet
  deadline : Nat
  deriving DecidableEq, Repr

/-- The sequencers: fetched descriptors in fetch order, marks, and outstanding requests. -/
structure SeqSt where
  descs : List Desc := []
  nextId : Nat := 0
  nextSeq : Nat := 0
  /-- Bound mark sets: key parcel * 512 + set, value the context. -/
  sets : AMap Nat := []
  /-- Marks: key (parcel * 512 + set) * 32 + mark. -/
  marks : AMap Mark := []
  reqs : List OutReq := []
  nextTxn : Nat := 0
  /-- Statuses answered so far for an FXFER's packets: key descriptor id * 16 + parcel, value the first failure. -/
  fxStatus : AMap Nat := []
  /-- Packets of an FXFER not sent yet for want of window: key as in fxStatus, value the next byte offset. -/
  fxNext : AMap Nat := []
  /-- Panels that failed once and were dealt again (R104): key (descriptor id * 16 + parcel) * 2^32 + panel, value the
  tile. -/
  redealt : AMap Nat := []
  deriving DecidableEq, Repr

/-! ## Host interface (09_host_and_network) -/

/-- The states of a queue context. -/
inductive CtxState where
  | free | stopped | running | stopping
  deriving DecidableEq, Repr

/-- A queue context's positions and pending work; its configuration stands in the register file. -/
structure Ctx where
  st : CtxState := .free
  fetch : Nat := 0
  db : Nat := 0
  recPos : Nat := 0
  head : Nat := 0
  reserved : Nat := 0
  /-- A descriptor read is outstanding (its number). -/
  fetching : Option Nat := none
  /-- The held record of an overflow or a failed fetch: its 32 bytes (R217). -/
  heldRec : Option (List Byte) := none
  /-- Records ready to be written that wait for Bus Master Enable (R224), oldest first. -/
  waitRecs : List (List Byte) := []
  /-- Records written since the last message, and the message deadline (R221). -/
  sinceMsg : Nat := 0
  msgDeadline : Option Nat := none
  deriving DecidableEq, Repr

/-- A function's enables (R222-R224). -/
structure FnState where
  enabled : Bool := false
  /-- A disable is in progress; true in the second component when it is an FLR. -/
  disabling : Option Bool := none
  bme : Bool := false
  /-- When the Bus Master Enable limit runs out, once something waits (R224). -/
  bmeDeadline : Option Nat := none
  /-- The disable was by R224, so that setting Bus Master Enable enables again. -/
  byBme : Bool := false
  deriving DecidableEq, Repr

/-- What a host read was issued for. -/
inductive ReadFor where
  | fetch (ctx pos n : Nat)
  | copy (parcel desc : Nat)
  | firmware
  deriving DecidableEq, Repr

/-- An outstanding host read. -/
structure HostRd where
  id : Nat
  fn : Nat
  addr : Nat
  len : Nat
  why : ReadFor
  deriving DecidableEq, Repr

/-- The host interface. -/
structure HostSt where
  ctxs : AMap Ctx := []
  fns : AMap FnState := []
  reads : List HostRd := []
  nextRead : Nat := 0
  /-- VF Enable and NumVFs. -/
  vfEnable : Bool := false
  numVfs : Nat := 0
  /-- MSI-X vectors with their pending bit set: function * 2048 + vector. -/
  msixPending : List Nat := []
  deriving DecidableEq, Repr

/-! ## Ownership (R225-R229) -/

/-- A command whose record commits: code, claimant and path. -/
structure OwnCommit where
  code : Nat
  claimant : Nat
  path : Path
  deriving DecidableEq, Repr

/-- The ownership record in eMRAM and the hand-over in progress. -/
structure OwnSt where
  owner : Nat := 0
  locked : Bool := false
  gen : Nat := 0
  successor : Option Nat := none
  handoverDeadline : Option Nat := none
  busy : Option OwnCommit := none
  deriving DecidableEq, Repr

/-! ## Fault collector (16_fault_collection) -/

/-- A fault record (Table 4). -/
structure FaultRec where
  seq : Nat
  source : Nat
  sev : Nat
  escalated : Bool := false
  counted : Bool := false
  attr : Bool := false
  safe : Bool := false
  fn : Nat := 0
  ctx : Nat := 0
  index : Nat := 0
  status : Nat := 0
  kind : Nat := 0
  detail : Nat := 0
  ftime : Nat := 0
  events : Nat := 0
  deriving DecidableEq, Repr

/-- Attribution sent with an event (R386). -/
structure Attr where
  fn : Nat
  ctx : Nat
  index : Nat
  status : Nat := 0
  deriving DecidableEq, Repr

/-- The collector's timers and log; its status, counts and settings stand in the register file. -/
structure FcuSt where
  log : List FaultRec := []
  seq : Nat := 0
  /-- No record has been logged since FCU_FIRST_CLR or reset: the next one is copied (R385). -/
  firstArmed : Bool := true
  /-- Running grace timers: source to deadline (R377). -/
  grace : AMap Nat := []
  /-- Open count windows: source to deadline (R374). -/
  window : AMap Nat := []
  /-- The safe state: when step 2 of Table 3 happened. -/
  safeAt : Option Nat := none
  /-- The escalation reset's deadline (R383). -/
  escDeadline : Option Nat := none
  /-- A G4 pulse in progress or due: its start and end; and whether one further pulse follows (R380). -/
  pulse : Option (Nat × Nat) := none
  pulseMore : Bool := false
  /-- The mode the pin follows; a change of MODE waits for the end of a pulse (R380). -/
  pinMode : Nat := 0
  deriving DecidableEq, Repr

/-! ## Recovery and relief (17_recovery_and_relief) -/

/-- What recovery keeps of one parcel beyond its registers. -/
structure ParcelRt where
  /-- The fence goes on to a reset (R393). -/
  toReset : Bool := false
  /-- The reset was caused by a self-fence or a bell expiry (R398). -/
  selfCaused : Bool := false
  /-- The parcel was cast off: it is held in CAST after its fence or reset (R404). -/
  castOff : Bool := false
  /-- The safe state was entered during the parcel's reset: it stays FENCED afterwards (R397). -/
  safeHold : Bool := false
  /-- The near tier is out of self-refresh and its poison list written (step 6). -/
  nearReady : Bool := false
  /-- A verified sequencer image is loaded (step 7). -/
  imageLoaded : Bool := false
  /-- When the last resets with a cause that counts under R398 began. -/
  resetTimes : List Nat := []
  /-- The descriptor ids the hung harts were running (R392). -/
  hung : List Nat := []
  /-- The parcel returns from a parcel reset, not from a device reset; its benchmark run of step 8 is in progress. -/
  fromReset : Bool := false
  running : Bool := false
  deriving DecidableEq, Repr

/-- A journal record that waits for its acknowledgement. -/
structure JRec where
  jseq : Nat
  kind : Nat
  body : List Byte
  /-- When the record was made, in MCLK. -/
  made : Nat
  deriving DecidableEq, Repr

/-- The states of a relief binding. -/
inductive BindState where
  | free | activeArmed | reliefArmed | taking | taken | cast | failed | reliefLost
  deriving DecidableEq, Repr

/-- One journal stream of a binding: of the parcel's number at the active side. -/
structure JStream where
  parcel : Nat
  /-- Next JSEQ to send (active) or expected (relief). -/
  next : Nat := 0
  unacked : List JRec := []
  /-- The newest epoch for which a LAST record has been accepted, and the last BEACON's JOINED (relief). -/
  lastEpoch : Option Nat := none
  joined : Bool := false
  /-- When progress was last made. -/
  progressAt : Nat := 0
  deriving DecidableEq, Repr

/-- A relief binding beyond its configuration registers. -/
structure BindSt where
  st : BindState := .free
  mirrorBad : Bool := false
  bgen : Nat := 0
  lastEpoch : Option Nat := none
  cause : Nat := 0
  streams : List JStream := []
  /-- The binding's number at the other device, once a journal packet has named it. -/
  peerNum : Nat := 0
  /-- ARM_ACTIVE waits for the BEACON's acknowledgement: the path that asked and the deadline. -/
  arming : Option (Path × Nat) := none
  /-- The relief's deadline of silence. -/
  silenceDeadline : Option Nat := none
  /-- The takeover: its step (2 fence orders, 3 TAKEN sent, 4 chain running), when it began and the step's deadline. -/
  step : Nat := 0
  trigAt : Nat := 0
  stepDeadline : Option Nat := none
  /-- Active stations still to answer FENCE_ORDER. -/
  awaitFence : List Nat := []
  /-- The last TOKEN record accepted (R401): its bytes; CONSUMED as journaled last; and the tokens accepted last, the
  root and history of the request. -/
  tokRec : Option (List Byte) := none
  consumed : Option Nat := none
  tokens : List Nat := []
  /-- The path that asked for the survey in progress. -/
  surveying : Option Path := none
  /-- Fence orders to be answered once the active mask is fenced (R407). -/
  orders : List Packet := []
  deriving DecidableEq, Repr

/-- Recovery. -/
structure RecSt where
  rt : AMap ParcelRt := []
  /-- Armed bells: key 4 * parcel + hart, value the expiry time. -/
  bells : AMap Nat := []
  binds : AMap BindSt := []
  deriving DecidableEq, Repr

/-! ## The hold (02_hold) -/

/-- A hold slice beyond its registers: the scrub row, the correctable errors since the pass began, and whether the
pass's event has been raised (R46); HLD_SCRUB as it took effect at the last step. -/
structure HoldSt where
  row : Nat := 0
  ceSince : Nat := 0
  raised : Bool := false
  scrubOn : Bool := true
  deriving DecidableEq, Repr



/-! ## Vector units (05_vector_microprograms) -/

/-- One vector unit during an invocation (R108): the program counter, V (key 64 * register + lane), S and P1-P7, and
whether it has ended or waits at a SYNC. -/
structure UnitSt where
  pc : Nat := 0
  v : Store 32 := []
  sr : Store 32 := []
  p : Store 64 := []
  halted : Bool := false
  atSync : Bool := false
  deriving DecidableEq, Repr

/-- A VRUN in progress: its descriptor, its slot, when its cycle limit runs out, the units in service in ascending
physical order, and each unit's state by its number (R109). -/
structure VuRun where
  id : Nat
  slot : Nat
  deadline : Nat
  phys : List Nat
  units : AMap UnitSt
  deriving DecidableEq, Repr

/-- A parcel's vector units: the images in the instruction store by slot, the invocation, and the exchange buffers as
written and as of the last SYNC (key (physical unit * 8 + slot) * 64 + lane). -/
structure VuSt where
  images : AMap (List Nat) := []
  run : Option VuRun := none
  xw : Store 32 := []
  xr : Store 32 := []
  deriving DecidableEq, Repr


/-! ## KV pager (06_attention_and_kv) -/

/-- What the pager holds for the ATTN part of a parcel: its descriptor, LEN as latched at its start, the pages staged
ahead (page to staging frame) and the next staging frame. -/
structure KvpSt where
  desc : Nat
  len : Option Nat := none
  staged : AMap Nat := []
  next : Nat := 0
  deriving DecidableEq, Repr

/-! ## Gangway (07_gangway_speculation) -/

/-- A notice sent to a member and not acknowledged yet: its kind (Table 16), number, epoch and the acknowledgement
limit (R174). -/
structure GwPend where
  kind : Nat
  nseq : Nat
  epoch : Nat := 0
  deadline : Option Nat := none
  deriving DecidableEq, Repr

/-- A member as the home keeps it: its station and context, the next notice number, what it has to acknowledge, and
whether it has applied the last commit. -/
structure GwMember where
  station : Nat
  ctx : Nat
  next : Nat := 0
  pend : List GwPend := []
  applied : Bool := false
  deriving DecidableEq, Repr

/-- What GW_ACCEPT latched (R169): nodes kept and tokens emitted. -/
structure GwLatch where
  epoch : Nat
  nodes : List Nat
  toks : List Nat
  deriving DecidableEq, Repr

/-- The last committed path, from which a repair round is built (R174): its tokens (the previous root first) and the
position of the first. -/
structure GwPath where
  toks : List Nat
  pos : Nat
  deriving DecidableEq, Repr

/-- A token in the pacing buffer: none: confirmed; else the journal record (JSEQ) whose acknowledgement confirms it. -/
structure GwTok where
  tok : Nat
  wait : Option Nat
  deriving DecidableEq, Repr

/-- A request at its home (R156): key parcel * 64 + slot. st is GWY_REQ_STATE.STATE; a FREE slot has no entry. -/
structure GwReq where
  st : Nat := 1
  ctx : Nat
  params : List Byte
  key : List Byte
  nonce : Nat
  rootTok : Nat
  rootPos : Nat
  hist : List Nat
  openEpoch : Nat := 0
  lastEpoch : Nat := 0
  gen : Nat := 0
  members : List GwMember := []
  /-- The open round is a repair; its tree's node count. -/
  repair : Bool := false
  nodes : Nat := 1
  latch : Option GwLatch := none
  path : Option GwPath := none
  /-- Nodes and kept nodes of the round whose applies are outstanding, for billing (R179), and whether it repaired. -/
  billN : Nat := 1
  billA : Nat := 0
  billRepair : Bool := false
  /-- The GW_TREE and the GW_DISCARD or GW_CLOSE descriptors that wait for acknowledgements. -/
  treeDesc : Option Nat := none
  endDesc : Option Nat := none
  /-- Where GW_DISCARD's report goes, and the members that failed it. -/
  report : Option Nat := none
  failed : List Nat := []
  /-- GW_CLOSE: deliver the buffered tokens first; LEAVE has been sent. -/
  drain : Bool := false
  left : Bool := false
  /-- The pacing buffer: its tokens, the INDEX of the first, the consumed index, delivery started, the fabric time of the
  next delivery, and an underrun that the next confirmed token ends. -/
  buf : List GwTok := []
  index : Nat
  consumed : Nat
  started : Bool := false
  nextAt : Nat := 0
  owed : Bool := false
  underruns : Nat := 0
  tokens : Nat := 0
  specUj : Nat := 0
  rejectUj : Nat := 0
  commits : Nat := 0
  discards : Nat := 0
  deriving DecidableEq, Repr

/-- A completion record held at a member (R167): the descriptor with its status, part bitmap and energy. -/
structure GwHeld where
  desc : Desc
  status : Nat
  bitmap : Nat
  energy : Nat
  deriving DecidableEq, Repr

/-- A context's membership at a parcel (R157): key parcel * 4096 + context. -/
structure GwBind where
  req : Nat
  home : Nat
  homeCtx : Nat
  streams : List Nat := []
  plot : Nat := 0
  plots : Nat := 0
  /-- The JOIN is answered; the GW_JOIN or GW_LEAVE descriptor that waits for JOIN_ACK. -/
  bound : Bool := false
  joinDesc : Option Nat := none
  leaving : Bool := false
  lost : Bool := false
  openEpoch : Nat := 0
  lastEpoch : Nat := 0
  gen : Nat := 0
  /-- The next notice number, and notices taken ahead of their turn. -/
  expect : Nat := 0
  early : List Packet := []
  /-- LEN of each stream as saved before the last apply, by record address. -/
  saved : List (Nat × Nat) := []
  held : List GwHeld := []
  /-- An acknowledgement that waits for the relief (R402): the JSEQ of the LAST record, and the notice to send. -/
  ackWait : Option (Nat × Packet) := none
  deriving DecidableEq, Repr

/-- The gangways: requests, memberships, and notices that wait for their window with the parcel that sends them. -/
structure GwSt where
  reqs : AMap GwReq := []
  binds : AMap GwBind := []
  waiting : List (Nat × Packet) := []
  deriving DecidableEq, Repr


/-! ## Near and far tier (08_memory_tiers) -/

/-- A parcel's near-tier controllers beyond their registers: the patrol scrub's word, corrected errors of the pass and
whether its event was raised; channels that are due, low margins in a row, back-offs, and the retrain in progress. -/
structure NearSt where
  word : Nat := 0
  ceSince : Nat := 0
  raised : Bool := false
  due : List Nat := []
  low : AMap Nat := []
  backoff : AMap Nat := []
  /-- The channel that retrains with its slices done, and when its last slice ended. -/
  retrain : Option (Nat × Nat) := none
  sliceAt : Nat := 0
  deriving DecidableEq, Repr

/-- A CXL port beyond its registers: enumeration is due, viral has been seen, and when a DOWN link may retrain. -/
structure FarSt where
  enumDue : Bool := true
  viralSeen : Bool := false
  retrainAt : Option Nat := none
  deriving DecidableEq, Repr

/-- The external memories: near tier by parcel * 2^36 + offset, far tier by port * 2^39 + offset, and the poisoned 64 B
words of each by address. -/
structure TierSt where
  near : Store 8 := []
  nearPoison : List Nat := []
  far : Store 8 := []
  farPoison : List Nat := []
  ctl : AMap NearSt := []
  ports : AMap FarSt := []
  deriving DecidableEq, Repr



/-! ## Ethernet (09_host_and_network) -/

/-- An Ethernet port beyond its registers and counters: the peer's pause timers by priority, when the port's own pause
frame is sent again, and the transmit queue that sent last. -/
structure EthSt where
  timers : AMap Nat := []
  refreshAt : Option Nat := none
  lastTx : Nat := 63
  deriving DecidableEq, Repr


/-! ## Hereth links (10_hereth_link) -/

/-- A packet in a port's transmitter: where it came from (a port it arrived on, or this device), and whether the copy
is stomped. -/
structure TxEnt where
  pkt : Packet
  fromPort : Option Nat := none
  stomp : Bool := false
  /-- The copy carries its link sequence number once it is sent. -/
  seq : Nat := 0
  deriving DecidableEq, Repr

/-- The packet a receiver is in the middle of: its header unit, the packet it spells, whether it will be taken, the
violation it already shows, and the port a cut-through copy leaves by. -/
structure RxCur where
  header : List Byte
  pkt : Packet
  plen : Nat
  viol : Option Nat := none
  cut : Option Nat := none
  deriving DecidableEq, Repr

/-- A link port beyond its registers. -/
structure LinkSt where
  /-- Packets not acknowledged, oldest (number O) first; and packets that wait for credits, admission or UP. -/
  unacked : List TxEnt := []
  queue : List TxEnt := []
  /-- O, the oldest unacknowledged number. -/
  oldest : Nat := 0
  /-- Times O has been replayed; a replay for this number runs (R249); when O times out. -/
  replays : Nat := 0
  replaying : Option Nat := none
  replayDeadline : Option Nat := none
  /-- Receiver: a NAK is outstanding, and when it is sent again (R248). -/
  nakSent : Bool := false
  nakDeadline : Option Nat := none
  cur : Option RxCur := none
  /-- The header of the last link-level acknowledgement carried is out of date: an LCTL is due (R247). -/
  lctlDue : Bool := false
  /-- Credits returned on each VC since the epoch began, and the peer's last counts (R246). -/
  crOut : List Nat := [0, 0, 0, 0]
  crIn : List Nat := [0, 0, 0, 0]
  /-- The grant of the peer's HELLO on each VC (R253). -/
  grant : List Nat := [0, 0, 0, 0]
  /-- Room units held on each VC by packets received and not yet delivered or forwarded on. -/
  held : List Nat := [0, 0, 0, 0]
  /-- This port's previous transmit epoch, and the epoch and number of the peer stream whose receive state is kept. -/
  prevTx : Nat := 0
  keptEpoch : Nat := 0
  keptLast : Option Nat := none
  /-- Some packet has been accepted in the receive epoch. -/
  rxAny : Bool := false
  /-- INIT: a valid HELLO has been received in this attempt. -/
  seen : Bool := false
  /-- Deadlines of the state machine: the state's bound, RESTART's end, REFUSED's end. -/
  stateDeadline : Option Nat := none
  /-- The KIND a RESTART carries. -/
  restartKind : Nat := 0
  restartTimes : List Nat := []
  /-- In-service retraining: lanes due, consecutive windows over the limit per lane, the exchange in progress
  (1 REQ sent, 2 narrowed, 3 lane training, as answerer 4), and when abandoned lanes become due again. -/
  due : List Nat := []
  overRuns : List Nat := [0, 0, 0, 0]
  exch : Nat := 0
  exchLane : Nat := 0
  backoff : AMap Nat := []
  /-- The first window after training fills the tag's CSYM (R263). -/
  tagFresh : List Nat := []
  deriving DecidableEq, Repr


/-! ## Fabric: traverse, windows and time (11_fabric_topology_and_routing) -/

/-- What a peer's EXCHANGE said: its serial, role and landing size. -/
structure Exchange where
  serial : Nat
  role : Nat
  size : Nat
  deriving DecidableEq, Repr

/-- A traverse in progress (R274). -/
structure Traverse where
  epoch : Nat
  t0 : Nat
  ports : List Nat
  /-- Steps of Table 4 done: 1 to 6. -/
  phase : Nat := 1
  ds : Nat := 0
  b : Nat := 0
  dist : Nat := 0
  exchanges : AMap Exchange := []
  absent : List Nat := []
  miscabled : List Nat := []
  /-- CONFIRMs: port to datum serial and berth. -/
  confirms : AMap (Nat × Nat) := []
  /-- The CONFIRM count of R276 has been made. -/
  counted : Bool := false
  landing : Option Nat := none
  landSent : Bool := false
  /-- Ports whose link left UP during the run, and when they become ABSENT. -/
  leaving : AMap Nat := []
  deriving DecidableEq, Repr

/-- A source's window to one destination (R286-R288). -/
structure WinSt where
  window : Nat
  outstanding : Nat := 0
  gen : Nat := 0
  used : Nat := 0
  deriving DecidableEq, Repr

/-- A destination's record of one source (R288). -/
structure SrcSt where
  last : Nat
  granted : Nat
  gen : Nat := 0
  deriving DecidableEq, Repr

/-- The fabric's state beyond its registers. -/
structure FabSt where
  trav : Option Traverse := none
  /-- The newest epoch run or received; whether any traverse has started since reset; when the last one ended. -/
  newest : Nat := 0
  started : Bool := false
  endedAt : Nat := 0
  /-- The datum serial of the previous epoch, if one completed. -/
  prevDs : Option Nat := none
  /-- Source windows: key parcel * 2^24 + destination station. -/
  wins : AMap WinSt := []
  /-- Active sources: key parcel * 2^24 + source station. -/
  srcs : AMap SrcSt := []
  /-- Time: peers' grades by port, good exchanges in a row, when the exchange expires, the single step is spent. -/
  grades : AMap Nat := []
  streak : Nat := 0
  timeDeadline : Option Nat := none
  stepped : Bool := false
  deriving DecidableEq, Repr


/-! ## Collectives (12_collectives) -/

/-- An abort that waits for the operation it ends (R306), and what is recorded when it is applied. -/
structure CollAbort where
  seq : Nat
  cause : Nat
  status : Nat
  origin : Nat
  recvd : Bool
  deriving DecidableEq, Repr

/-- One member record (R294, R295): the members in rank order (station, context), and what GROUP_SET gave. -/
structure GroupRec where
  members : List (Nat × Nat)
  w : Nat
  grid : Nat
  stage : Nat
  digest : Nat
  opSeq : Nat := 0
  aborts : List CollAbort := []
  deriving DecidableEq, Repr

/-- What a COUNT says of its leg (Table 4 of that chapter). -/
structure CollCount where
  largest : Nat
  grid : Nat
  dtype : Nat
  outFp32 : Bool
  spec : Bool
  epoch : Nat
  digest : Nat
  home : Nat
  slot : Nat
  deriving DecidableEq, Repr

/-- One operation at one leg of this device (R303): the leg timer, the members that have started (rank to descriptor),
the COUNTs by leg, the ranges of the own slice that have arrived (leg, first, count), results that wait to be written
or are written, and whether the own slice is reduced. -/
structure LegOp where
  seq : Nat
  deadline : Option Nat := none
  started : AMap Nat := []
  exchanged : Bool := false
  counts : AMap CollCount := []
  got : List (Nat × Nat × Nat) := []
  results : List (Nat × List Byte) := []
  written : List (Nat × Nat) := []
  reduced : Bool := false
  deriving DecidableEq, Repr

/-- The collective engine: member records by (parcel * 4096 + context) * 16 + GIDX, and the operations of the legs by
twice the key of the leg's first member plus the parity of OP_SEQ. -/
structure CollSt where
  groups : AMap GroupRec := []
  ops : AMap LegOp := []
  deriving DecidableEq, Repr


/-! ## Toll (13_toll_energy_and_thermal) -/

/-- An entry of the job counters (R329). -/
structure JobEnt where
  tag : Nat
  uj : Nat
  deriving DecidableEq, Repr

/-- The Toll beyond its registers. -/
structure TolSt where
  /-- Measured energies of the last ticks, newest first, in microjoules, and of the sweeps of this tick. -/
  energies : List Nat := []
  sweeps : List Nat := []
  overRun : Nat := 0
  rearmed : Bool := true
  /-- Ticks since reset. -/
  ticks : Nat := 0
  /-- The thermal level of R330, the parcels whose stack is hot (R332), sweeps failed in a row by rail (R325). -/
  therm : Nat := 16
  stackHot : List Nat := []
  fails : AMap Nat := []
  /-- The dynamic refill of the tick in force is 0; a cut holds admission (R317, R321). -/
  noRefill : Bool := false
  cut : Bool := false
  /-- Function counters and job entries (R327, R329), in microjoules. -/
  fnUj : AMap Nat := []
  jobs : AMap JobEnt := []
  /-- The last settled tick: dynamic, modelled and static energy, in microjoules (R328). -/
  lastDyn : Nat := 0
  lastModel : Nat := 0
  lastStatic : Nat := 0
  /-- Coolant: whether the tray manager has written a report, and when the inlet was last written (R333). -/
  coolantSet : Bool := false
  inletAt : Nat := 0
  fcastSeq : Nat := 0
  /-- Operations whose pool draw is made, by the key of the device's first member: the last few OP_SEQs (R318). -/
  drawn : AMap (List Nat) := []
  /-- Parcels whose gate window is open, and the ramp step 0-8 of each parcel (R320, R321). -/
  windowOpen : List Nat := []
  ramp : AMap Nat := []
  deriving DecidableEq, Repr


/-! ## Clocks and resets (14_clocks_resets_crossings) -/

/-- The reset controller and the clock controller beyond their registers. -/
structure RstSt where
  /-- Level sources asserted now: 1 POWER_ON, 2 PERST, 3 SYS_RESET (R344). -/
  levels : List Nat := []
  /-- A device reset is recognised and not yet asserted: its cause (R347 steps 1 and 2). -/
  request : Option Nat := none
  /-- A device reset is asserted and its release has not begun: when it asserted, and its recorded cause; the
  machine begins in the power-on reset. -/
  asserted : Option (Nat × Nat) := some (0, 1)
  /-- FAB_TIME at assertion, written with the cause at step 1 of the release. -/
  ftime : Nat := 0
  /-- Block resets in progress: bit number (LNK 0-19, 32 + bit of RST_BLOCK1) to the release time (R353). -/
  blocks : AMap Nat := []
  /-- The watchdog's deadline, while it runs (R352). -/
  wdt : Option Nat := none
  /-- The THERMTRIP_N latch (R331). -/
  thermtrip : Bool := false
  /-- Core clocks run; the PLL has locked once since the device reset (R337). -/
  coreClocks : Bool := false
  /-- Clock domains opened by a crossing's wake request (R341), as unit numbers. -/
  woken : List Nat := []
  /-- The ROM of the management core is in recovery mode (R451). -/
  recovery : Bool := false
  deriving DecidableEq, Repr


/-! ## Power (15_power_states) -/

/-- The power controller beyond its registers. -/
structure PwrSt where
  /-- The command in progress: the path that gave it (none: a wake without a command) and its target. -/
  path : Option Path := none
  target : Nat := 0
  /-- The block that the entry asks now, 1-10 (Table 3); 0: no entry; 11: every block has granted. -/
  block : Nat := 0
  /-- Its instances (parcels; 0 for one of a kind) that have not answered the present ask. -/
  asked : List Nat := []
  /-- Its instances that answered BUSY, with the time of their next ask. -/
  busy : AMap Nat := []
  /-- Instances that have given a first answer, as 16 * block + parcel: they accept no new work of their kind. -/
  answered : List Nat := []
  /-- The last instance that answered BUSY. -/
  lastBusy : Nat := 0
  /-- When the entry is abandoned. -/
  limit : Option Nat := none
  /-- The step of the wake from Laid-up that is done next, 1-6 (Table 5); 0: no wake. -/
  wake : Nat := 0
  /-- The device is Off: it leaves only by a device reset (R370). -/
  off : Bool := false
  deriving DecidableEq, Repr


/-! ## Bring-up (18_bringup) -/

/-- A loss that a benchmark run found (R421): its parcel, what was lost (1 tile, 2 vector unit, 3 bank) and its number. -/
structure Loss where
  parcel : Nat
  what : Nat
  unit : Nat
  deriving DecidableEq, Repr

/-- Bring-up beyond its registers: stacks still in training, the link wait, the verified sequencer copy with the hash of
its slot, the parcels' code stores, the parcels of the running BENCH that have not ended, its losses, and whether the
floor plan is loaded. -/
structure BruSt where
  training : List Nat := []
  linkWait : Option Nat := none
  copy : Option (List Byte) := none
  copyHash : List Byte := []
  code : AMap (List Byte) := []
  bench : List Nat := []
  losses : List Loss := []
  planLoaded : Bool := false
  deriving DecidableEq, Repr


/-! ## NV store and firmware (19_nv_store_and_firmware) -/

/-- A record kept in two slots and two commit words (R434): each slot's generation and value, where its CRC holds, and
each commit word's generation, where the word is whole. -/
structure TwoSlot (α : Type) where
  slot0 : Option (Nat × α) := none
  slot1 : Option (Nat × α) := none
  commit0 : Option Nat := none
  commit1 : Option Nat := none
  deriving DecidableEq, Repr

/-- The value of a key-store slot (R435). -/
structure KeyRec where
  pub : List Byte := []
  enc : List Byte := []
  floors : List Nat := [0, 0, 0, 0]
  ver : Nat := 0
  deriving DecidableEq, Repr

/-- The activation record (R436): per kind MGMT, SEQ, ROT; BOOTS and RCAUSE. -/
structure ActRec where
  active : List Nat := [0, 0, 0]
  trial : List Bool := [false, false, false]
  fellBack : List Bool := [false, false, false]
  boots : Nat := 0
  rcause : Nat := 0
  deriving DecidableEq, Repr

/-- A copy of the field plan whose CRC holds (R413). -/
structure FieldCopy where
  gen : Nat
  plan : List ParcelPlan
  deriving DecidableEq, Repr

/-- A record of the configuration journal (Table 5): TYPE, KEY and the payload words. -/
structure JEntry where
  typ : Nat
  key : Nat
  payload : List Nat
  deriving DecidableEq, Repr

/-- A journal region: the RGEN of its header where that is valid, and its records in order. -/
structure JRegion where
  rgen : Option Nat := none
  recs : List JEntry := []
  deriving DecidableEq, Repr

/-- An image slot of the NOR whose header is written (R429): the manifest's 68 bytes, the plaintext image, and whether
the stored ciphertext decrypts with a valid tag. -/
structure SlotImg where
  manifest : List Byte
  plain : List Byte
  good : Bool := true
  deriving DecidableEq, Repr

/-- A write to the eMRAM that waits while PF_HOLD is 1 (R432). -/
inductive NvWrite where
  | record (e : JEntry)
  | plan (p : List ParcelPlan)
  | act (r : ActRec)
  | key (r : KeyRec)
  deriving DecidableEq, Repr

/-- The NV store: the eMRAM's structures, the NOR's slots (key 2 * kind + slot) and staging units. -/
structure NvSt where
  /-- The NV write hold of a power failure (R432), and the writes that wait for its end, oldest first. -/
  pfHold : Bool := false
  waiting : List NvWrite := []
  keys : TwoSlot KeyRec := {}
  act : TwoSlot ActRec := {}
  field0 : Option FieldCopy := none
  field1 : Option FieldCopy := none
  region0 : JRegion := { rgen := some 0 }
  region1 : JRegion := {}
  slots : AMap SlotImg := []
  staging : AMap (List Byte) := []
  /-- A compaction runs (R439). -/
  compacting : Bool := false
  deriving DecidableEq, Repr

/-- The update session beyond its registers (R443): what BEGIN and ACTIVATE latched, the unit whose host read is
outstanding with the path that asked. -/
structure FwuSt where
  pkgLen : Nat := 0
  resetOnAct : Bool := false
  actTime : Nat := 0
  reading : Option (Path × Nat) := none
  /-- The kinds' slots that passed their last check, as 2 * kind + slot. -/
  valid : List Nat := []
  deriving DecidableEq, Repr


/-! ## Management port (20_management_port) -/

/-- A queued PLDM event: its class and data (R463, Table 5). -/
structure MgmtEvent where
  cls : Nat
  data : List Byte
  deriving DecidableEq, Repr

/-- A firmware update over PLDM: the state of the firmware device (DSP0267: 0 IDLE, 1 LEARN COMPONENTS, 2 READY XFER,
3 DOWNLOAD, 4 VERIFY, 5 APPLY), the bytes gathered for the staging unit that fills, and the offset in the package of the
next byte asked for. -/
structure PldmUpd where
  phase : Nat := 0
  buf : List Byte := []
  off : Nat := 0
  deriving DecidableEq, Repr

/-- The management port's event queue, forecast slot, reports and endpoint state. -/
structure MgmtSt where
  evq : List MgmtEvent := []
  /-- The newest forecast record not yet returned. -/
  forecast : Option (List Byte) := none
  /-- An IBI is raised and not acknowledged: when it is raised again (R464). -/
  ibiDeadline : Option Nat := none
  /-- An event returned by a poll and waiting for its acknowledgement (R463). -/
  polled : Bool := false
  /-- When the tray manager last wrote an effecter; whether it counts as present (R465). -/
  trayAt : Option Nat := none
  present : Bool := false
  /-- When the backup energy store was last reported (R446). -/
  backupAt : Option Nat := none
  /-- The state effecters' values as last written, by number (5-8). -/
  effecters : AMap Nat := []
  /-- The terminus ID, and the Endpoint ID of the event receiver. -/
  tid : Nat := 0
  receiver : Option Nat := none
  /-- The SPDM connection of each transport (0 I3C, 1 PCIe VDM): 0 none, 1 after VERSION, 2 after CAPABILITIES, 3
  after ALGORITHMS. -/
  spdm : AMap Nat := []
  upd : PldmUpd := {}
  deriving DecidableEq, Repr


/-! ## JTAG (21_package_and_electrical R484) -/

/-- The boundary scan: the values preloaded for the pins, and those that EXTEST drives onto them. -/
structure JtagSt where
  preload : List Bool := []
  driven : Option (List Bool) := none
  deriving DecidableEq, Repr



/-! ## The machine -/

/-- The whole device. -/
structure State where
  /-- The commands that wait, first in, first out. -/
  pending : List Instr := []
  /-- What the device has sent out, oldest first. -/
  out : List Output := []
  /-- The model's own counter for free values (log entry 4). -/
  freeCtr : Nat := 0
  /-- MCLK cycles since the first power-on: the model's clock for its timers (log entry 3). -/
  mclk : Nat := 0
  /-- Fabric time in ns, modulo 2^64 (R289), and whether it advances. -/
  fabTime : Nat := 0
  fabRunning : Bool := false
  /-- The slew of fabric time still to be made, in ns (R289). -/
  fabSlew : Int := 0
  fuses : Fuses := {}
  /-- The register file: key offset + 2^26 * bank. -/
  regs : Store 32 := []
  /-- The 64-bit read latches of R11: key path number * 2^26 + offset of the high word. -/
  latches : AMap (BitVec 32) := []
  /-- The hold: key hold address (R26). -/
  hold : Store 8 := []
  /-- Poisoned 16 B hold words, by address (R43). -/
  holdPoison : List Nat := []
  /-- Packets delivered to this device and not yet taken by their receivers: the port of arrival (none: the OPN). -/
  inbox : List (Option Nat × Packet) := []
  seq : SeqSt := {}
  host : HostSt := {}
  own : OwnSt := {}
  fcu : FcuSt := {}
  rcv : RecSt := {}
  slices : AMap HoldSt := []
  vus : AMap VuSt := []
  kvp : AMap KvpSt := []
  gw : GwSt := {}
  tier : TierSt := {}
  eth : AMap EthSt := []
  links : AMap LinkSt := []
  fab : FabSt := {}
  coll : CollSt := {}
  tol : TolSt := {}
  rst : RstSt := {}
  pwr : PwrSt := {}
  bru : BruSt := {}
  nv : NvSt := {}
  fwu : FwuSt := {}
  mgmt : MgmtSt := {}
  jtag : JtagSt := {}
  deriving DecidableEq, Repr

/-- The machine right after reset: every register at its reset value, no memory written, nothing waiting. -/
def State.reset : State := {}

end Sys2Proof.Machine
end

