-- ==== Sys2Proof/Machine/Ops.lean ====
section
/-! DEFINITION. The named operations over the state that the meanings share: time and timers, the register file,
output, parts of descriptors, marks, interrupts and alerts, the fault collector's latch with the safe state, and the
start of a parcel's fence. -/

namespace Sys2Proof.Machine

/-! ## Time -/

/-- MCLK cycles in a microsecond and in a millisecond (MCLK runs at 250 MHz, R21). -/
def perUs : Nat := 250
def perMs : Nat := 250000

/-- The slew made while e ns pass: at most one ns in every 1,000 (R289). -/
def slewOf (slew : Int) (e : Nat) : Int := max (-((e / 1000 : Nat) : Int)) (min slew ((e / 1000 : Nat) : Int))

/-- The clock moves on to t (never back); fabric time, where it runs, moves by 4 ns a cycle and by its slew (R289). -/
def State.advanceTo (s : State) (t : Nat) : State :=
  let e := 4 * (t - s.mclk)
  let k := if s.fabRunning then slewOf s.fabSlew e else 0
  { s with
    mclk := max s.mclk t
    fabTime := if s.fabRunning then ((s.fabTime + e : Nat) + k).toNat % 2 ^ 64 else s.fabTime
    fabSlew := s.fabSlew - k }

/-- A timer's expiry: where the timer runs, the clock moves on to its deadline and the effect follows; where it does
not run, nothing happens. -/
def State.atDeadline (s : State) (d : Option Nat) (k : State → State) : State :=
  match d with
  | some t => k (s.advanceTo t)
  | none => s

/-! ## The register file -/

/-- The number of an access path: 0 is the shared copy. -/
def pathNo : Path → Nat
  | .pf0 => 1
  | .mgmtCore => 2
  | .mgmtPort => 3
  | .fabMgr => 4
  | .hart n h => 5 + 4 * n.val + h.val

/-- The key of a register in the file: its offset in the bank's copy. -/
def regKey (bank off : Nat) : Nat := off + 2 ^ 26 * bank

/-- The bank of entry i of a table that a selector register selects: context, request, binding, queue or vector. -/
def entryBank (i : Nat) : Nat := 64 + i

/-- Default classing of a fault source (R373, Table 1): severity in bits 1:0, COUNT_MODE in bit 2. -/
def sourceClass (src : Nat) : Nat :=
  if src < 24 then 5
  else if src < 36 then 2
  else if src < 56 then 5
  else if src = 56 then 2
  else if src = 57 ∨ src = 58 then 5
  else if src = 59 then 1
  else if src = 60 then 2
  else if src = 61 then 1
  else if src = 62 then 3
  else if src = 63 then 2
  else if src = 64 then 1
  else 3

/-- The value a register holds when nothing has written it: its reset value of the register tables; the defaults that
Table 1 of R373, the fuses and the PCIe specification give (an MSI-X vector starts masked). -/
def regDefault (f : Fuses) (key : Nat) : BitVec 32 :=
  let off := key % 2 ^ 26
  if off ≥ 0x600100 ∧ off < 0x600208 then
    BitVec.ofNat 32 (0x03E80800 + sourceClass ((off - 0x600100) / 4))
  else if off ≥ 0x500180 ∧ off < 0x5001B0 then BitVec.ofNat 32 (f.coefs.getD ((off - 0x500180) / 4) 0)
  else if off = 0x50002C then BitVec.ofNat 32 (0x14A0000 + f.leak85 % 2048)
  else if off = 0x800010 then (if f.ioDies = 2 then 0xFFFFF#32 else 0x3FF#32)
  else if off ≥ 0x1000000 ∧ off % 0x100000 = 0x60000 then
    (if f.stackCount = 12 then 0x300020#32 else 0x180010#32)
  else if off ≥ 0x1000000 ∧ off % 0x100000 ≥ 0x60160 ∧ off % 0x100000 < 0x601C0 ∧ f.stackCount ≠ 12 then 3#32
  else if off ≥ 0x180000 ∧ off < 0x188000 then (if off % 16 = 12 then 1#32 else 0#32)
  else regReset off

/-- A register's word in a bank. -/
def State.rdB (s : State) (bank off : Nat) : BitVec 32 := storeRead (regDefault s.fuses) s.regs (regKey bank off)

/-- A register's word. -/
def State.rd (s : State) (off : Nat) : BitVec 32 := s.rdB 0 off

/-- A field's value in a bank, and in the shared copy. -/
def State.fldB (s : State) (bank : Nat) (f : Fld) : Nat := bitsOf (s.rdB bank f.off).toNat f.hi f.lo
def State.fld (s : State) (f : Fld) : Nat := s.fldB 0 f

/-- Write a register's word in a bank, and in the shared copy. -/
def State.setRdB (s : State) (bank off : Nat) (v : BitVec 32) : State :=
  { s with regs := storeWrite (regDefault s.fuses) s.regs (regKey bank off) v }
def State.setRd (s : State) (off : Nat) (v : BitVec 32) : State := s.setRdB 0 off v

/-- Write a field in a bank, and in the shared copy; the register's other bits stay. -/
def State.setFldB (s : State) (bank : Nat) (f : Fld) (v : Nat) : State :=
  s.setRdB bank f.off (BitVec.ofNat 32 (setBitsOf (s.rdB bank f.off).toNat f.hi f.lo v))
def State.setFld (s : State) (f : Fld) (v : Nat) : State := s.setFldB 0 f v

/-- Set a one-bit field. -/
def State.setBit (s : State) (f : Fld) : State := s.setFld f 1

/-- Add to a saturating count. -/
def State.addSat (s : State) (f : Fld) (n : Nat := 1) : State :=
  s.setFld f (min (s.fld f + n) (2 ^ (f.hi + 1 - f.lo) - 1))

/-- Add to a wrapping count. -/
def State.addWrap (s : State) (f : Fld) (n : Nat := 1) : State := s.setFld f (s.fld f + n)

/-- A 64-bit value in two consecutive words, low word first (R11). -/
def State.rd64 (s : State) (lo : Nat) : Nat := (s.rd lo).toNat + 2 ^ 32 * (s.rd (lo + 4)).toNat
def State.setRd64 (s : State) (lo v : Nat) : State :=
  (s.setRd lo (BitVec.ofNat 32 v)).setRd (lo + 4) (BitVec.ofNat 32 (v / 2 ^ 32))
def State.add64 (s : State) (lo n : Nat) : State := s.setRd64 lo (s.rd64 lo + n)

/-! ## Output and free values -/

/-- The device sends something out. -/
def State.emit (s : State) (o : Output) : State := { s with out := s.out ++ [o] }

/-- A fresh free value of w bits: the value, and the state with its counter advanced (log entry 4). -/
def State.free (s : State) (w : Nat) : Nat × State :=
  (Config.freeNat s.freeCtr % 2 ^ w, { s with freeCtr := s.freeCtr + 1 })

/-! ## Variants (R2, R3) -/

/-- The variant has the second I/O die: fabric ports 10-19, Ethernet port 1, CXL ports 2 and 3. -/
def Fuses.x2 (f : Fuses) : Bool := f.ioDies == 2
def Fuses.ports (f : Fuses) : Nat := if f.x2 then 20 else 10
def Fuses.meshPorts (f : Fuses) : Nat := if f.x2 then 15 else 7
def Fuses.ethPorts (f : Fuses) : Nat := if f.x2 then 2 else 1
def Fuses.cxlPorts (f : Fuses) : Nat := if f.x2 then 4 else 2
def Fuses.landingSize (f : Fuses) : Nat := if f.x2 then 16 else 8
def Fuses.minTiles (f : Fuses) : Nat := if f.gradeB then 0x2A else 0x2E
def Fuses.minBanks (f : Fuses) : Nat := if f.gradeB then 0x3E else 0x3F
/-- Near-tier channels of a parcel: 32, or 16 on H6 variants. -/
def Fuses.channels (f : Fuses) : Nat := if f.stackCount = 12 then 32 else 16
def Fuses.tracts (f : Fuses) : Nat := if f.stackCount = 12 then 48 else 24

/-! ## Parcels -/

/-- REC_PARCEL_STATE.STATE: 0 SERVICE, 1 FENCING, 2 FENCED, 3 RESETTING, 4 RETURNING, 5 CAST, 6 REPLACE (R411). -/
def State.parcelState (s : State) (n : Nat) : Nat := s.fld (F.REC_PARCEL_STATE_STATE n)

/-- The parcels' logic is up: their domains are neither off nor being woken (R356, R366). -/
def State.logicUp (s : State) : Bool := s.fld F.PWR_STATUS_LOGIC_READY == 1

/-- The parcel takes work: it is neither fencing, fenced nor in reset, and its domain is on. -/
def State.inService (s : State) (n : Nat) : Bool := s.parcelState n == 0 && s.logicUp

/-- A block's instance has answered the power entry in progress: it accepts no new work of its kind (R359). -/
def State.entryHolds (s : State) (block n : Nat) : Bool := s.pwr.answered.contains (16 * block + n)

/-- The sequencer of a parcel fetches: the device is Underway, and the sequencer has not answered an entry. -/
def State.fetches (s : State) (n : Nat) : Bool :=
  s.inService n && s.fld F.PWR_STATUS_STATE == 0 && !s.entryHolds 4 n

/-- The sequencer of a parcel admits: it fetches, and no pads are held (R367). -/
def State.admits (s : State) (n : Nat) : Bool := s.fetches n && s.fld F.PWR_STATUS_PADS_HELD == 0

/-- A block is in a reset of its own (R353): bit p of RST_BLOCK0, or 32 plus a bit of RST_BLOCK1. -/
def State.inBlockReset (s : State) (k : Nat) : Bool := (amGet s.rst.blocks k).isSome

/-- The device is in the safe state. -/
def State.safe (s : State) : Bool := s.fld F.FCU_STATUS_SAFE == 1

/-- What recovery keeps of a parcel. -/
def State.rt (s : State) (n : Nat) : ParcelRt := (amGet s.rcv.rt n).getD {}
def State.setRt (s : State) (n : Nat) (r : ParcelRt) : State :=
  { s with rcv := { s.rcv with rt := amSet s.rcv.rt n r } }

/-! ## The power controller (R359, R361, R365) -/

/-- PWR_RESULT of the path whose command is in progress. -/
def State.pwrResult (s : State) (code block parcel cause : Nat) : State :=
  match s.pwr.path with
  | some p => s.setRdB (pathNo p) Reg.PWR_RESULT
      (BitVec.ofNat 32 (code + 256 * block + 4096 * parcel + 65536 * cause))
  | none => s

/-- The command in progress ends: BUSY clears, and nothing is left of it. -/
def State.pwrIdle (s : State) : State := { s.setFld F.PWR_STATUS_BUSY 0 with pwr := { off := s.pwr.off } }

/-- An entry that has not reached its commit point is abandoned with a code; every block resumes (R359, Table 4). -/
def State.abandonEntry (s : State) (code : Nat) : State :=
  if s.pwr.block = 0 then s else (s.pwrResult code 0 0 0).pwrIdle

/-- PWR_WAKE_EN has the event's bit: 2 doorbell, 3 fabric, 4 management port. -/
def State.wakeEnabled (s : State) (cause : Nat) : Bool := bitAt (s.rd Reg.PWR_WAKE_EN).toNat (cause - 2)

/-- The wake begins (R366, R368): from Moored the device is Underway at once; from Laid-up step 1 of the wake is done. -/
def State.beginWake (s : State) (cause : Nat) : State :=
  let s1 := s.setFld F.PWR_WAKE_CAUSE_CAUSE cause
  if s.fld F.PWR_STATUS_STATE = 1 then ((s1.setFld F.PWR_STATUS_STATE 0).pwrResult 1 0 0 0).pwrIdle
  else
    let s2 := s1.setBit F.PWR_STATUS_BUSY
    { s2 with pwr := { s2.pwr with wake := 2 } }

/-- A wake event (R365): it abandons an entry with code 5 where it is enabled, and wakes the device from Moored
whatever PWR_WAKE_EN holds, from Laid-up where it is enabled; one that is not enabled is recorded. In the safe state
the wake is refused (Table 4). -/
def State.wakeEvent (s : State) (cause : Nat) : State :=
  if s.pwr.block ≠ 0 then
    let st := s.fld F.PWR_STATUS_STATE
    if st ≠ 1 ∧ !s.wakeEnabled cause then s.setBit F.PWR_STATUS_WAKE_PENDING
    else
      let s1 := (s.setFld F.PWR_WAKE_CAUSE_CAUSE cause).abandonEntry 5
      if st = 0 then s1 else s1.beginWake cause
  else if s.safe ∨ s.pwr.wake ≠ 0 ∨ s.pwr.off then s
  else if s.fld F.PWR_STATUS_STATE = 1 then s.beginWake cause
  else if s.fld F.PWR_STATUS_STATE = 2 then
    if s.wakeEnabled cause then s.beginWake cause else s.setBit F.PWR_STATUS_WAKE_PENDING
  else s

/-- A doorbell that advances a context wakes for its home parcel, where that is down or has answered an entry. -/
def State.doorbellWake (s : State) (home : Nat) : State :=
  if s.fld F.PWR_STATUS_STATE ≠ 0 ∨ s.entryHolds 4 home then s.wakeEvent 2 else s

/-! ## Functions, messages and alerts -/

/-- A function's state: PF0 is enabled from reset on. -/
def State.fn (s : State) (f : Nat) : FnState := (amGet s.host.fns f).getD { enabled := f == 0 }
def State.setFn (s : State) (f : Nat) (v : FnState) : State :=
  { s with host := { s.host with fns := amSet s.host.fns f v } }

/-- Something of the function waits for Bus Master Enable: the limit's count starts, if it does not run (R224). -/
def State.bmeWaits (s : State) (f : Nat) : State :=
  let v := s.fn f
  if v.bme || v.bmeDeadline.isSome || !v.enabled then s
  else s.setFn f { v with bmeDeadline := some (s.mclk + max 1 (s.fld F.HIF_CFG_BME_LIMIT_MS) * perMs) }

/-- A vector's mask bit in its MSI-X table entry. -/
def State.vecMasked (s : State) (f v : Nat) : Bool :=
  bitAt (s.rdB (entryBank f) (0x180000 + 16 * v + 12)).toNat 0

/-- An MSI-X message on a vector of a function (R221): sent, or left pending while the vector is masked or the
function's Bus Master Enable is clear; a disabled function sends none (R222). Pending messages merge. -/
def State.msix (s : State) (f v : Nat) : State :=
  if !(s.fn f).enabled then s
  else if s.vecMasked f v then
    { s with host := { s.host with msixPending := setIns s.host.msixPending (f * 2048 + v) } }
  else if !(s.fn f).bme then
    ({ s with host := { s.host with msixPending := setIns s.host.msixPending (f * 2048 + v) } }).bmeWaits f
  else s.emit (.msix f v)

/-- An event joins the management port's queue of 32; a new event at a full queue is lost and counted; an event that
enters an empty queue raises an IBI where IBI_EN is 1 (R463, R464). -/
def State.mgmtEvent (s : State) (cls : Nat) (data : List Byte) : State :=
  if s.mgmt.evq.length ≥ 32 then (s.addSat F.MGP_EVQ_LOST_COUNT).setBit F.MGP_EVENT_EVQ_LOST
  else
    let s1 := { s with mgmt := { s.mgmt with evq := s.mgmt.evq ++ [⟨cls, data⟩] } }
    if s.mgmt.evq.isEmpty && s.fld F.MGP_CFG_IBI_EN == 1 then
      { s1.emit .ibi with mgmt := { s1.mgmt with ibiDeadline := some (s.mclk + 10 * perMs) } }
    else s1

/-! ## Parts of descriptors -/

/-- A part becomes ended with a status, if it has not ended yet. -/
def Part.fail (p : Part) (st : Nat) : Part :=
  match p.st with
  | .ended _ => p
  | _ => { p with st := .ended st }

/-- The part is over. -/
def Part.isOver (p : Part) : Bool :=
  match p.st with
  | .ended _ => true
  | _ => false

/-- Change the parts of descriptors. -/
def State.mapParts (s : State) (f : Desc → Part → Part) : State :=
  { s with seq := { s.seq with descs := s.seq.descs.map fun d => { d with parts := d.parts.map (f d) } } }

/-- The descriptor with a number. -/
def State.desc (s : State) (id : Nat) : Option Desc := s.seq.descs.find? (·.id == id)

/-- A part of descriptor id at parcel n ends with a status. -/
def State.endPart (s : State) (n id st : Nat) : State :=
  s.mapParts fun d p => if d.id == id && p.parcel == n then p.fail st else p

/-- The function of a context, from its configuration. -/
def State.ctxFn (s : State) (c : Nat) : Nat := s.fldB (entryBank c) F.HIF_CTX_FN_FN
def State.ctxMask (s : State) (c : Nat) : Nat := s.fldB (entryBank c) F.HIF_CTX_PARCELS_MASK
def State.ctxHome (s : State) (c : Nat) : Nat := s.fldB (entryBank c) F.HIF_CTX_PARCELS_HOME
def State.ctxTag (s : State) (c : Nat) : Nat := s.fldB (entryBank c) F.HIF_CTX_JOB_TAG_TAG

/-- A context's positions and pending work. -/
def State.ctx (s : State) (c : Nat) : Ctx := (amGet s.host.ctxs c).getD {}
def State.setCtx (s : State) (c : Nat) (x : Ctx) : State :=
  { s with host := { s.host with ctxs := amSet s.host.ctxs c x } }

/-- The running part of a parcel whose descriptor satisfies a test: the oldest fetched. -/
def State.runningPart (s : State) (n : Nat) (op : Desc → Bool) : Option Desc :=
  s.seq.descs.find? fun d =>
    op d && d.parts.any fun p => p.parcel == n && decide (p.st = .running)

/-- Attribution of a descriptor's work (R386). -/
def State.attrOf (s : State) (d : Desc) (st : Nat := 0) : Attr := ⟨s.ctxFn d.ctx, d.ctx, d.index, st⟩

/-! ## Marks (R79-R81) -/

/-- The mark set that a context has bound at a parcel. -/
def State.markSet (s : State) (n c : Nat) : Option Nat :=
  (s.seq.sets.find? fun e => e.2 == c && e.1 / 512 == n).map (·.1)

/-- A mark by the number of its set (parcel * 512 + set) and its index. -/
def State.markAt (s : State) (set m : Nat) : Mark := (amGet s.seq.marks (set * 32 + m)).getD {}

/-- A context's mark at a parcel. -/
def State.mark (s : State) (n c m : Nat) : Option Mark := (s.markSet n c).map fun k => s.markAt k m

/-- A signal: the increment, and the ERROR bit where asked (R81). -/
def Mark.signal (m : Mark) (inc : Nat) (err : Bool) : Mark :=
  ⟨m.count + BitVec.ofNat 32 inc, m.error || err⟩

/-! ## The start of a fence (R393, R394 steps 1 and 2) -/

/-- The bells of a parcel are stopped and disarmed (R391). -/
def State.disarmBells (s : State) (n : Nat) : State :=
  { s.setFld (F.REC_BELL_CFG_ARMED n) 0 with
    rcv := { s.rcv with bells := s.rcv.bells.filter fun e => !(e.1 / 4 == n) } }

/-- The grace timers of sources n, 12 + n and 24 + n stop (R377, R394). -/
def State.stopGrace (s : State) (n : Nat) : State :=
  { s with fcu := { s.fcu with
      grace := s.fcu.grace.filter fun e => !(e.1 == n || e.1 == 12 + n || e.1 == 24 + n) } }

/-- A parcel's benchmark run is in progress: of a BENCH, or of step 8 of a parcel reset. -/
def State.benchRuns (s : State) (n : Nat) : Bool := (s.rt n).running || s.bru.bench.contains n

/-- A benchmark run that a fence ends: the BENCH field reads ABORTED (R425). -/
def State.abortBench (s : State) (n : Nat) : State :=
  if s.benchRuns n then
    let s1 := (s.setFld (F.BRU_PARCEL_BENCH n) 3).setRt n { s.rt n with running := false, fromReset := false }
    { s1 with bru := { s1.bru with bench := setDel s1.bru.bench n } }
  else s

/-- A trigger fences a parcel (R393, R397): from SERVICE, or from RETURNING after a device reset, the fence begins, and
fetched parts not yet started end FENCED; a trigger during FENCING or FENCED joins it and may widen it into a reset; in a
parcel reset, its return or REPLACE it is ignored, but a bell expiry or self-fence in the benchmark run fences anew
(R425) and the safe state is remembered. cause is REC_PARCEL_STATE.CAUSE. -/
def State.beginFence (s : State) (n cause : Nat) (toReset selfCaused castOff : Bool) : State :=
  let st := s.parcelState n
  let r := s.rt n
  let anew := !r.fromReset || (s.benchRuns n && (cause == 2 || cause == 3))
  if st = 0 ∨ (st = 4 ∧ anew) then
    let s1 := (((s.abortBench n).setFld (F.REC_PARCEL_STATE_STATE n) 1).setFld (F.REC_PARCEL_STATE_CAUSE n) cause)
    let s2 := ((s1.disarmBells n).stopGrace n).setRt n
      { r with toReset := toReset, selfCaused := selfCaused, castOff := castOff || (decide (st = 4) && r.castOff),
               safeHold := false, fromReset := false, running := false }
    s2.mapParts fun _ p =>
      if (p.parcel == n || p.adm == n) && !decide (p.st = .running) then p.fail Status.FENCED else p
  else if st = 1 ∨ st = 2 then
    let s1 := s.setRt n { r with toReset := r.toReset || toReset, selfCaused := r.selfCaused || selfCaused,
                                 castOff := r.castOff || castOff }
    if st = 2 ∧ castOff ∧ !r.toReset then s1.setFld (F.REC_PARCEL_STATE_STATE n) 5 else s1
  else if cause = 5 then s.setRt n { r with safeHold := true }
  else if castOff then s.setRt n { r with castOff := true }
  else s

/-! ## Cast-off messages of the active side (R404) -/

/-- A relief binding. -/
def State.bind (s : State) (i : Nat) : BindSt := (amGet s.rcv.binds i).getD {}
def State.setBind (s : State) (i : Nat) (b : BindSt) : State :=
  { s with rcv := { s.rcv with binds := amSet s.rcv.binds i b } }

/-- Does an armed active binding cover the parcel? The binding's number. -/
def State.activeBinding (s : State) (n : Nat) : Option Nat :=
  (s.rcv.binds.find? fun e =>
    decide (e.2.st = .activeArmed) && bitAt (s.fldB (entryBank e.1) F.REC_RLF_MASKS_LOCAL) n).map (·.1)

end Sys2Proof.Machine
end

