-- ==== Sys2Proof/Machine/Rwl.lean ====
section
/-! DEFINITION. Who may write: the owner, the register lock and the count of ownership violations (R9, R225, R229). -/

namespace Sys2Proof.Machine

/-- The claimant of an access path (R225, Table 8): 0 for device firmware. -/
def pathClaimant : Path → Nat
  | .pf0 => 1
  | .mgmtPort => 2
  | .fabMgr => 3
  | .mgmtCore => 0
  | .hart _ _ => 0

/-- OWN_VIOL_INFO.PATH of an access path (R239). -/
def violPath : Path → Nat
  | .pf0 => 0
  | .mgmtPort => 2
  | .fabMgr => 3
  | .mgmtCore => 4
  | .hart _ _ => 5

/-- A write under the RWL rule takes effect: the lock is open and the writer is the owner or device firmware. -/
def State.mayRwl (s : State) (p : Path) : Bool :=
  !s.own.locked && (pathClaimant p == 0 || pathClaimant p == s.own.owner)

/-- A refused RWL write or ownership command is counted and, when none is held, recorded (R229). -/
def State.violation (s : State) (p : Path) (off : Nat) : State :=
  let s1 := s.addSat F.OWN_VIOL_COUNT_COUNT
  if s.fld F.OWN_VIOL_INFO_VALID = 1 then s1
  else ((s1.setBit F.OWN_VIOL_INFO_VALID).setFld F.OWN_VIOL_INFO_PATH (violPath p)).setFld F.OWN_VIOL_ADDR_OFFSET off

/-- A write that follows the RWL rule: its effect, or a counted violation. -/
def State.rwl (s : State) (p : Path) (off : Nat) (k : State → State) : State :=
  if s.mayRwl p then k s else s.violation p off

/-- Release step k of a device reset is done (R351): the domains of the steps up to k run. -/
def State.up (s : State) (k : Nat) : Bool := decide (k ≤ s.fld F.RST_STATE_STEP)

end Sys2Proof.Machine
end

