-- ==== Sys2Proof/Machine/Transmit.lean ====
section
/-! DEFINITION. Sending packets: the header unit, a port's transmitter with its credits and sequence numbers, the choice
of port, end-to-end windows, and requests that wait for an answer (R243-R252, R271, R280-R287). -/

namespace Sys2Proof.Machine

/-! ## Units (R243-R247) -/

/-- The header unit of a packet with a link sequence number, HCRC included. -/
def headerUnit (p : Packet) (seq : Nat) : List Byte :=
  let b := leBytes 1 p.ptype.toNat ++ leBytes 1 p.vc.toNat ++ leBytes 2 seq ++ leBytes 3 p.dst.toNat
    ++ leBytes 1 (p.payload.length / 32) ++ leBytes 3 p.src.toNat ++ leBytes 1 p.hops.toNat
    ++ leBytes 2 p.dstCtx.toNat ++ leBytes 2 p.srcCtx.toNat ++ leBytes 4 p.jobTag.toNat
    ++ leBytes 4 p.addr.toNat ++ leBytes 2 p.txn.toNat ++ leBytes 1 p.status.toNat ++ leBytes 1 p.opx.toNat
    ++ leBytes 2 0
  b ++ leBytes 2 (crc16 b)

/-- The packet that a header unit and payload bytes spell. -/
def packetOf (h payload : List Byte) : Packet :=
  { ptype := BitVec.ofNat 8 (leAt h 0 1), vc := BitVec.ofNat 2 (leAt h 1 1), dst := BitVec.ofNat 24 (leAt h 4 3),
    src := BitVec.ofNat 24 (leAt h 8 3), hops := BitVec.ofNat 4 (leAt h 11 1),
    dstCtx := BitVec.ofNat 12 (leAt h 12 2), srcCtx := BitVec.ofNat 12 (leAt h 14 2),
    jobTag := BitVec.ofNat 32 (leAt h 16 4), addr := BitVec.ofNat 32 (leAt h 20 4),
    txn := BitVec.ofNat 16 (leAt h 24 2), status := BitVec.ofNat 8 (leAt h 26 1),
    opx := BitVec.ofNat 8 (leAt h 27 1), payload := payload }

/-- A packet's length in credits: its payload units, header and tail (R252). -/
def packetUnits (p : Packet) : Nat := p.payload.length / 32 + 2

/-! ## Ports -/

/-- A port's link state. -/
def State.link (s : State) (p : Nat) : LinkSt := (amGet s.links p).getD {}
def State.setLink (s : State) (p : Nat) (l : LinkSt) : State := { s with links := amSet s.links p l }

/-- LNK_STATUS.STATE: 0 DISABLED, 1 DETECT, 2 TRAIN, 3 ALIGN, 4 INIT, 5 UP, 6 RESTART, 7 REFUSED, 8 FAILED. -/
def State.linkState (s : State) (p : Nat) : Nat := s.fld (F.LNK_STATUS_STATE p)
def State.linkUp (s : State) (p : Nat) : Bool := s.linkState p == 5

/-- FAB_PORT_STATE.STATE: 0 DOWN, 1 PENDING, 2 ADMITTED, 3 ABSENT, 4 MISCABLED. -/
def State.portState (s : State) (p : Nat) : Nat := s.fld (F.FAB_PORT_STATE_STATE p)

/-- The port exists on this variant (R6). -/
def State.portExists (s : State) (p : Nat) : Bool := decide (p < s.fuses.ports)

/-- The packet may start on the port now (R252, R261, R262, R274, R248): the link is UP, fewer than 1,024 packets are
unacknowledged, the credits of its VC cover it, and on VC0-VC2 the port is admitted and neither end is in the safe
state. -/
def State.canSend (s : State) (p : Nat) (pk : Packet) : Bool :=
  s.linkUp p && decide ((s.link p).unacked.length < 1024)
    && decide (packetUnits pk ≤ s.fld (F.LNK_CREDIT_AVAIL p pk.vc.toNat))
    && (pk.vc == 3 || (s.portState p == 2 && !s.safe && s.fld (F.LNK_STATUS_VC3_ONLY_RX p) == 0))

/-- When a packet sent or replayed now times out (R249), in MCLK: at least one cycle. -/
def State.replayAt (s : State) (p : Nat) : Nat :=
  s.mclk + max 1 (ceilDiv (max 1 (s.fld (F.LNK_CFG_REPLAY_NS p))) 4)

/-- Start a packet: it takes the next number and its credits, and stays until it is acknowledged. -/
def State.startTx (s : State) (p : Nat) (e : TxEnt) : State :=
  let l := s.link p
  let n := s.fld (F.LNK_SEQ_TX_NEXT p)
  let vc := e.pkt.vc.toNat
  let s1 := ((s.setFld (F.LNK_SEQ_TX_NEXT p) (n + 1)).setFld (F.LNK_CREDIT_AVAIL p vc)
    (s.fld (F.LNK_CREDIT_AVAIL p vc) - packetUnits e.pkt)).add64 (Reg.LNK_UNITS_LO p) (packetUnits e.pkt)
  let l1 := { l with
    unacked := l.unacked ++ [{ e with seq := n }]
    oldest := if l.unacked.isEmpty then n else l.oldest
    lctlDue := false
    replayDeadline := if l.replayDeadline.isSome then l.replayDeadline else some (s.replayAt p) }
  (s1.setLink p l1).emit (.linkPacket p n e.pkt e.stomp)

/-- FAB_PORT_STATE.DEPTH follows the queue: units on VC0-VC2, saturating (R280, R292). -/
def queueDepth (q : List TxEnt) : Nat :=
  q.foldl (fun a e => if e.pkt.vc == 3 then a else a + packetUnits e.pkt) 0

/-- Hand a packet to a port's transmitter: it starts at once, or waits in the port's queue. Packets of one VC keep
their order. -/
def State.linkSend (s : State) (p : Nat) (e : TxEnt) : State :=
  let l := s.link p
  if s.canSend p e.pkt && !(l.queue.any fun q => q.pkt.vc == e.pkt.vc) then s.startTx p e
  else
    let q := l.queue ++ [e]
    (s.setLink p { l with queue := q }).setFld (F.FAB_PORT_STATE_DEPTH p) (min (queueDepth q) 0xFFFF)

/-- Try every waiting packet of a port in order; what can start starts. -/
def State.linkDrain (s : State) (p : Nat) : State :=
  let q := (s.link p).queue
  q.foldl (fun s e => s.linkSend p e)
    ((s.setLink p { s.link p with queue := [] }).setFld (F.FAB_PORT_STATE_DEPTH p) 0)

/-! ## Addresses and routing (R271, R280) -/

/-- This device's landing and berth, and a parcel's station address. -/
def State.landing (s : State) : Nat := s.fld F.FAB_STATION_LANDING
def State.berth (s : State) : Nat := s.fld F.FAB_STATION_BERTH
def State.station (s : State) (parcel : Nat) : Nat := s.landing * 4096 + s.berth * 256 + parcel * 16

/-- The mesh port that reaches a berth. -/
def State.meshPort (s : State) (b : Nat) : Nat :=
  (b + 2 * s.fuses.landingSize - s.berth - 1) % s.fuses.landingSize

/-- A port is usable when it is ADMITTED and its link is UP. -/
def State.usable (s : State) (p : Nat) : Bool := s.portState p == 2 && s.linkUp p

/-- Units queued on a port on VC0-VC2. -/
def State.depth (s : State) (p : Nat) : Nat := queueDepth (s.link p).queue

/-- The tree ports. -/
def Fuses.treePorts (f : Fuses) : List Nat :=
  (List.range f.ports).filter fun p => decide (f.meshPorts ≤ p)

/-- The usable tree port of least depth, the lowest on ties. -/
def State.leastTree (s : State) : Option Nat :=
  (s.fuses.treePorts.filter s.usable).foldl (fun b p =>
    match b with
    | none => some p
    | some q => if s.depth p < s.depth q then some p else some q) none

/-- The lowest-numbered usable tree port. -/
def State.lowestTree (s : State) : Option Nat := s.fuses.treePorts.find? s.usable

/-- Where a routed packet goes. -/
inductive Route where
  | here
  | port (p : Nat)
  | noRoute
  deriving DecidableEq, Repr

/-- A route from an optional port. -/
def routeOf : Option Nat → Route
  | some p => .port p
  | none => .noRoute

/-- The choice of port for a routed packet (R280). -/
def State.route (s : State) (dst vc : Nat) (fromTree : Bool) : Route :=
  let L := dst / 4096
  let B := dst / 256 % 16
  let same := L == s.landing && s.fld F.FAB_STATION_VALID == 1
  let landingMode := s.fld F.FAB_MODE_MODE == 0
  let d := s.meshPort B
  if same && B == s.berth then .here
  else if fromTree then
    if same && landingMode && s.fld F.FAB_ROUTE_RELAY_EN == 1 && s.usable d then .port d else .noRoute
  else if same && landingMode && s.usable d then
    if vc = 3 then .port d
    else match s.leastTree with
      | none => .port d
      | some t => if s.depth d ≤ s.depth t + s.fld F.FAB_ROUTE_BIAS then .port d else .port t
  else if s.landing = 0xFFF ∨ L = 0xFFF then .noRoute
  else if vc = 3 then routeOf s.lowestTree else routeOf s.leastTree

/-- Send a packet of this device: over the OPN to a station of its own, over a port, or nowhere. The answer says
whether it was routed; one with no route is counted (R282). HOPS rises at each transmit. -/
def State.sendPacket (s : State) (p : Packet) : Bool × State :=
  match s.route p.dst.toNat p.vc.toNat false with
  | .here => (true, { s with inbox := s.inbox ++ [(none, p)] })
  | .port q => (true, s.linkSend q { pkt := { p with hops := p.hops + 1 } })
  | .noRoute => (false, s.addSat F.FAB_UNREACH_COUNT)

/-- Send, whatever becomes of it. -/
def State.sendAny (s : State) (p : Packet) : State := (s.sendPacket p).2

/-- A RESPONSE to a request packet (R83, R103). -/
def responseTo (p : Packet) (st : Nat) : Packet :=
  { ptype := 0x08, vc := 1, dst := p.src, src := p.dst, dstCtx := p.srcCtx, srcCtx := p.dstCtx,
    jobTag := p.jobTag, txn := p.txn, status := BitVec.ofNat 8 st }

/-- The response timeout in MCLK from now (R287). -/
def State.rspDeadline (s : State) : Nat := s.mclk + max 1 (s.fld F.FAB_RSP_TIMEOUT_US) * perUs

/-! ## Windows (R286, R287) -/

/-- FAB_E2E.DEFAULT in bytes, taken into its range. -/
def State.e2eDefault (s : State) : Nat := min (max (s.fld F.FAB_E2E_DEFAULT) 16) 8192 * 2048

/-- The bytes a windowed packet counts. -/
def packetWinBytes (p : Packet) : Nat := 32 * packetUnits p

/-- The window entry of a source parcel for a destination: held, or taken from the least recently used entry with
nothing outstanding; none when all 1,024 of the parcel are in use. -/
def State.winEntry (s : State) (parcel dst : Nat) : Option (AMap WinSt × WinSt) :=
  let key := parcel * 2 ^ 24 + dst
  match amGet s.fab.wins key with
  | some w => some (s.fab.wins, w)
  | none =>
    let mine := s.fab.wins.filter fun e => e.1 / 2 ^ 24 == parcel
    let fresh : WinSt := { window := s.e2eDefault }
    if mine.length < 1024 then some (s.fab.wins, fresh)
    else
      match (mine.filter fun e => e.2.outstanding == 0).foldl (fun (b : Option (Nat × WinSt)) e =>
          match b with
          | none => some e
          | some x => if e.2.used < x.2.used then some e else some x) none with
      | some (k, _) => some (amDel s.fab.wins k, fresh)
      | none => none

/-- A request to another device fits its window now. -/
def State.winFits (s : State) (parcel : Nat) (p : Packet) : Bool :=
  p.dst.toNat / 256 == s.station 0 / 256 ||
  match s.winEntry parcel p.dst.toNat with
  | some (_, w) => decide (w.outstanding + packetWinBytes p ≤ w.window)
  | none => false

/-- Bytes go out towards a destination, or come back. -/
def State.winTake (s : State) (parcel : Nat) (p : Packet) : State :=
  if p.dst.toNat / 256 == s.station 0 / 256 then s
  else match s.winEntry parcel p.dst.toNat with
    | some (m, w) =>
      let w1 := { w with outstanding := w.outstanding + packetWinBytes p, used := s.mclk }
      { s with fab := { s.fab with wins := amSet m (parcel * 2 ^ 24 + p.dst.toNat) w1 } }
    | none => s.setBit F.FAB_EVENT_WINDOW_FULL
def State.winGive (s : State) (parcel : Nat) (p : Packet) : State :=
  match amGet s.fab.wins (parcel * 2 ^ 24 + p.dst.toNat) with
  | some w =>
    let w1 := { w with outstanding := w.outstanding - packetWinBytes p }
    { s with fab := { s.fab with wins := amSet s.fab.wins (parcel * 2 ^ 24 + p.dst.toNat) w1 } }
  | none => s

/-- Send a request whose RESPONSE settles it: it takes a transaction number, its window bytes and a deadline. The
answer is the transaction number, none where no route exists. -/
def State.sendRequest (s : State) (parcel descId : Nat) (p : Packet) : Option Nat × State :=
  let t := s.seq.nextTxn % 65536
  let p1 := { p with txn := BitVec.ofNat 16 t }
  let r := s.sendPacket p1
  if r.1 then
    let s1 := r.2.winTake parcel p1
    let o : OutReq := { txn := t, parcel := parcel, desc := descId, packet := p1, deadline := s.rspDeadline }
    (some t, { s1 with seq := { s1.seq with nextTxn := s.seq.nextTxn + 1, reqs := s1.seq.reqs ++ [o] } })
  else (none, r.2)

end Sys2Proof.Machine
end

