-- ==== Sys2Proof/Machine/Fault.lean ====
section
/-! DEFINITION. The fault collector (16_fault_collection): latching and classing events, the log, the reactions, the safe
state, cast-off by the active side, degraded operation, and the collector's own commands. -/

namespace Sys2Proof.Machine

/-! ## Cast-off by the active side (R404) -/

/-- The 64 payload bytes of a CASTOFF packet of any kind (R404). -/
def castPayload (bgen cause req gen jseq failed mirrorOk active relief reliefDev : Nat) : List Byte :=
  leBytes 1 bgen ++ leBytes 1 cause ++ leBytes 1 req ++ leBytes 1 gen ++ leBytes 4 jseq ++ leBytes 3 failed
    ++ leBytes 1 mirrorOk ++ leBytes 4 (active + 2 ^ 16 * relief) ++ leBytes 3 reliefDev
    ++ List.replicate 45 0#8

/-- The configuration of a binding. -/
def State.bindLocal (s : State) (i : Nat) : Nat := s.fldB (entryBank i) F.REC_RLF_MASKS_LOCAL
def State.bindPeerMask (s : State) (i : Nat) : Nat := s.fldB (entryBank i) F.REC_RLF_MASKS_PEER
def State.bindPeer (s : State) (i : Nat) : Nat := s.fldB (entryBank i) F.REC_RLF_PEER_STATION
def State.bindTag (s : State) (i : Nat) : Nat := s.fldB (entryBank i) F.REC_RLF_JOB_TAG

/-- A CASTOFF packet of kind k (Table 4) for binding i. -/
def State.castPacket (s : State) (i k dst : Nat) (payload : List Byte) : Packet :=
  { ptype := 0x23, vc := 3, dst := BitVec.ofNat 24 dst, src := BitVec.ofNat 24 (s.station 0),
    jobTag := BitVec.ofNat 32 (s.bindTag i), opx := BitVec.ofNat 8 k, srcCtx := BitVec.ofNat 12 i,
    payload := payload }

/-- The active side of binding i casts off (R404): every parcel of its active mask is fenced and held in CAST, the
binding becomes CAST, and CASTOFF goes to the relief. cause is the packet's cause; the parcel that failed, if any,
was fenced with its own cause before. -/
def State.castOff (s : State) (i cause : Nat) : State :=
  let b := s.bind i
  if b.st ≠ .activeArmed then s
  else
    let s1 := (setBits (s.bindLocal i) 12).foldl (fun s n => s.beginFence n 6 false false true) s
    let s2 := (s1.setBind i { b with st := .cast, cause := cause }).setBit F.REC_EVENT_CASTOFF_SENT
    let jseq := (b.streams.head?.map (·.next)).getD 0
    s2.sendAny (s2.castPacket i 1 (s.bindPeer i)
      (castPayload b.bgen cause (s.fldB (entryBank i) F.REC_RLF_REQ_REQ) 0 jseq (s.station 0) 0
        (s.bindLocal i) (s.bindPeerMask i) (s.bindPeer i)))

/-! ## The safe state (R381, Table 3) -/

/-- The phases of bring-up end (R425); loaded images stay. -/
def State.endPhases (s : State) : State :=
  let s1 := if s.fld F.BRU_STATUS_TRAIN = 1 then s.setFld F.BRU_STATUS_TRAIN 0 else s
  let s2 := if s.fld F.BRU_STATUS_BENCH = 1 then s1.setFld F.BRU_STATUS_BENCH 0 else s1
  { s2 with bru := { s2.bru with training := [], linkWait := none, bench := [], losses := [] } }

/-- Entry to the safe state: SAFE with its cause, the Toll's buckets, pool and gates at 0 (R317), VC3_ONLY due on every
port (R262), a fence of every parcel with cause SAFE, CASTOFF with cause SAFE for every armed active binding, and the
escalation's deadline (R383). The device in the safe state already stays as it is. -/
def State.enterSafe (s : State) (cause : Nat) : State :=
  if s.safe then s
  else
    let s := s.abandonEntry 6
    let s1 := (s.setBit F.FCU_STATUS_SAFE).setFld F.FCU_STATUS_SAFE_CAUSE cause
    let s2 := (List.range 12).foldl (fun s n =>
      ((s.setFld (F.TOL_BUCKET_UJ n) 0).setFld (F.TOL_GATE_LEVEL n) 0)) (s1.setFld F.TOL_POOL_UJ 0)
    let s3 := { s2 with links := amMap (fun _ l => { l with lctlDue := true }) s2.links }
    let s4 := (List.range 12).foldl (fun s n => s.beginFence n 5 false false false) s3
    let s5 := (List.range 16).foldl (fun s i => s.castOff i 6) s4.endPhases
    let ms := s.fld F.FCU_CFG_ESC_RESET_MS
    let esc := if ms = 0 then none else some (s.mclk + ms * perMs)
    { s5 with fcu := { s5.fcu with safeAt := some s.mclk, escDeadline := esc } }

/-! ## Records (R385) -/

/-- The 32 bytes of a fault record (Table 4). -/
def FaultRec.bytes (r : FaultRec) : List Byte :=
  leBytes 2 r.seq ++ leBytes 1 r.source
    ++ leBytes 1 (r.sev % 4 + 4 * b2n r.escalated + 8 * b2n r.counted + 16 * b2n r.attr + 32 * b2n r.safe)
    ++ leBytes 2 r.fn ++ leBytes 2 r.ctx ++ leBytes 2 r.index ++ leBytes 1 r.status ++ leBytes 1 r.kind
    ++ leBytes 4 r.detail ++ leBytes 8 r.ftime ++ leBytes 2 r.events ++ List.replicate 6 0#8

/-- Append a record: it takes the next number; a full log drops it and counts the loss; the first record since
FCU_FIRST_CLR is copied (R385). -/
def State.logFault (s : State) (r : FaultRec) : State :=
  let r1 := { r with seq := s.fcu.seq % 65536, ftime := s.fabTime }
  let s1 := { s with fcu := { s.fcu with seq := s.fcu.seq + 1, firstArmed := false } }
  let s2 :=
    if s.fcu.log.length ≥ 256 then s1.addSat F.FCU_LOG_LOST_COUNT
    else { s1 with fcu := { s1.fcu with log := s1.fcu.log ++ [r1] } }
  if s.fcu.firstArmed then
    (((s2.setFld F.FCU_FIRST_INFO_SOURCE r.source).setFld F.FCU_FIRST_INFO_SEV r.sev).setBit
      F.FCU_FIRST_INFO_VALID).setRd64 Reg.FCU_FIRST_FTIME_LO s.fabTime
  else s2

/-- Notification at or above FCU_IRQ.THRESHOLD (R389): one MSI-X message on PF0 and a management-port alert that carries
the record. -/
def State.notify (s : State) (r : FaultRec) : State :=
  if r.sev < s.fld F.FCU_IRQ_THRESHOLD then s
  else
    let s1 := if s.fld F.FCU_IRQ_EN = 1 then s.msix 0 (s.fld F.FCU_IRQ_VEC) else s
    s1.mgmtEvent 0xF0 ({ r with seq := (s.fcu.seq - 1) % 65536, ftime := s.fabTime } : FaultRec).bytes

/-! ## Latching an event (R372-R377) -/

/-- A G4 pulse for an event latched at or above THRESHOLD (R380): it starts a pulse, or makes one further pulse follow
the current one. -/
def State.g4Pulse (s : State) (sev : Nat) : State :=
  if s.fcu.pinMode ≠ 1 ∨ sev < s.fld F.FCU_PIN_THRESHOLD then s
  else match s.fcu.pulse with
    | none =>
      { s with fcu := { s.fcu with
          pulse := some (s.mclk, s.mclk + max 10 (s.fld F.FCU_PIN_PULSE_US) * perUs) } }
    | some _ => { s with fcu := { s.fcu with pulseMore := true } }

/-- The class of an event of a source (R374): its severity, whether the count rule made it severe, and the window's new
count and deadline. -/
def State.classify (s : State) (src : Nat) : Nat × Bool × Nat × Option Nat :=
  let sev := s.fld (F.FCU_SRC_CFG_SEV src)
  if s.fld (F.FCU_SRC_CFG_COUNT_MODE src) = 0 then
    (sev, false, s.fld (F.FCU_SRC_STATE_WIN_COUNT src), amGet s.fcu.window src)
  else
    let c := s.fld (F.FCU_SRC_STATE_WIN_COUNT src)
    let open' := if c = 0 then some (s.mclk + max 1 (s.fld (F.FCU_SRC_CFG_WINDOW_MS src)) * perMs)
                 else amGet s.fcu.window src
    if c + 1 ≥ max 1 (s.fld (F.FCU_SRC_CFG_N src)) then (3, true, 0, none) else (sev, false, c + 1, open')

/-- The source's bit in FCU_STAT. -/
def State.statBit (s : State) (src : Nat) : Bool := bitAt (s.rd (Reg.FCU_STAT_W (src / 32))).toNat (src % 32)

/-- The status bit and the latched severity of a source (R379). -/
def State.setStat (s : State) (src sev : Nat) : State :=
  let w := (s.rd (Reg.FCU_STAT_W (src / 32))).toNat
  let s1 := s.setRd (Reg.FCU_STAT_W (src / 32)) (BitVec.ofNat 32 (setBitsOf w (src % 32) (src % 32) 1))
  s1.setFld (F.FCU_SRC_STATE_LATCHED_SEV src) (max sev (if s.statBit src then s.fld (F.FCU_SRC_STATE_LATCHED_SEV src) else 0))

/-- Latch one event: count, class, record, status bit, notification, grace timer or safe state. sevFix, where present,
is a severity the event has whatever FCU_SRC_CFG holds (R466). A collector in self-fault latches nothing more
(R384), and inputs 66-127 are ignored (R372). -/
def State.latchEvent (s : State) (i : FaultInput) (sevFix : Option Nat) : State :=
  if i.source ≥ 66 ∨ s.fld F.FCU_STATUS_SELF = 1 then s
  else
    let src := i.source
    let s0 := s.setFld (F.FCU_SRC_STATE_PIN src) (b2n i.condition)
    if !i.edge then s0
    else
      let (sev0, counted, cnt, win) := s0.classify src
      let sev := sevFix.getD sev0
      let s1 := (s0.addSat (F.FCU_SRC_STATE_EVENTS src)).setFld (F.FCU_SRC_STATE_WIN_COUNT src) cnt
      let s2 := { s1 with fcu := { s1.fcu with window := amPut s1.fcu.window src win } }
      let named := sev == 3 && !s.safe
      let a := i.attr
      let r : FaultRec :=
        { seq := 0, source := src, sev := sev, counted := counted, attr := a.isSome, safe := named,
          fn := (a.map (·.1)).getD 0, ctx := (a.map (·.2.1)).getD 0, index := (a.map (·.2.2.1)).getD 0,
          status := (a.map (·.2.2.2)).getD 0, kind := i.kind, detail := i.detail % 2 ^ 32,
          events := s2.fld (F.FCU_SRC_STATE_EVENTS src) }
      let s3 := (s2.logFault r).notify r
      let s4 := if sev ≥ 1 then (s3.setStat src sev).g4Pulse sev else s3
      let s5 :=
        if sev = 2 ∧ (amGet s4.fcu.grace src).isNone ∧ !s4.safe then
          { s4 with fcu := { s4.fcu with
              grace := amSet s4.fcu.grace src (s4.mclk + max 1 (s4.fld F.FCU_CFG_GRACE_US) * perUs) } }
        else s4
      if sev = 3 then s5.enterSafe src else s5

/-- Raise one event on a source, with its block's detail and the attribution of the running part. -/
def State.raise (s : State) (src detail kind : Nat) (a : Option Attr) : State :=
  s.latchEvent { source := src, detail := detail, kind := kind,
                 attr := a.map fun x => (x.fn, x.ctx, x.index, x.status) } none

/-- Insertion of an input into the order of R375: severity highest first, then source lowest first. -/
def State.insertInput (s : State) (i : FaultInput) : List FaultInput → List FaultInput
  | [] => [i]
  | x :: r =>
    let a := (s.classify i.source).1
    let b := (s.classify x.source).1
    if a > b ∨ (a = b ∧ i.source < x.source) then i :: x :: r else x :: s.insertInput i r

/-- Latch the inputs of one MCLK edge in the order of R375. -/
def State.latchAll (s : State) (l : List FaultInput) : State :=
  (l.foldr (fun i acc => s.insertInput i acc) []).foldl (fun s i => s.latchEvent i none) s

/-! ## Degraded operation (R388) -/

/-- A degraded condition: the reason in FCU_SERVICE (which drives SERVICE_N low), the parcel it concerns, and the PLDM
replace request (R463, Table 5). -/
def State.degrade (s : State) (reason : Fld) (parcel : Option Nat) : State :=
  let s1 := s.setBit reason
  let s2 := match parcel with
    | some n => s1.setFld F.FCU_SERVICE_PARCELS (maskOf (setBits (s1.fld F.FCU_SERVICE_PARCELS) 12 ++ [n]))
    | none => s1
  s2.mgmtEvent 0xF2 (leBytes 4 (s2.rd Reg.FCU_SERVICE).toNat ++ leBytes 4 (s2.fld F.REC_STATUS_REPLACE))

/-! ## Self-fence (R104, R151, R393, R404) -/

/-- A parcel fences itself: it goes on to a reset, and an armed active binding that covers it casts off with cause
SELF. -/
def State.selfFence (s : State) (n : Nat) : State :=
  let b := s.activeBinding n
  let s1 := s.beginFence n 2 true true false
  match b with
  | some i => s1.castOff i 1
  | none => s1

/-! ## FAULT_N (R379, R380) -/

/-- FAULT_N is driven low: in the safe state; in native mode while a status bit is 1 whose latched severity reaches
THRESHOLD; in G4 mode during a pulse, or while SW_LEVEL is 1. -/
def State.faultLow (s : State) : Bool :=
  s.safe ||
  (if s.fcu.pinMode = 0 then
    (List.range 66).any fun i => s.statBit i && decide (s.fld F.FCU_PIN_THRESHOLD ≤ s.fld (F.FCU_SRC_STATE_LATCHED_SEV i))
   else
    s.fld F.FCU_PIN_SW_LEVEL == 1 ||
    match s.fcu.pulse with
    | some (a, b) => decide (a ≤ s.mclk ∧ s.mclk < b)
    | none => false)

/-! ## The commands -/

/-- SOURCE_EVENT (R372-R377): the inputs of one MCLK edge, once the collector is out of reset. -/
def execSourceEvent (inputs : List FaultInput) (s : State) : Host.Outcome State Fault Refusal :=
  .next (if s.up 5 then s.latchAll inputs else s)

/-- COUNT_WINDOW_EXPIRY (R374): WIN_COUNT returns to 0 when WINDOW_MS has passed since the window opened. -/
def execCountWindowExpiry (src : Nat) (s : State) : Host.Outcome State Fault Refusal :=
  .next (s.atDeadline (amGet s.fcu.window src) fun s =>
    { s.setFld (F.FCU_SRC_STATE_WIN_COUNT src) 0 with fcu := { s.fcu with window := amDel s.fcu.window src } })

/-- GRACE_EXPIRY (R377): the source escalates with a record of severity 3, and the device enters the safe state. A
device in the safe state escalates nothing twice (R382). -/
def execGraceExpiry (src : Nat) (s : State) : Host.Outcome State Fault Refusal :=
  .next (s.atDeadline (amGet s.fcu.grace src) fun s =>
    let s1 := { s with fcu := { s.fcu with grace := amDel s.fcu.grace src } }
    if s.safe then s1
    else
      let r : FaultRec := { seq := 0, source := src, sev := 3, escalated := true, safe := true,
                            events := s.fld (F.FCU_SRC_STATE_EVENTS src) }
      ((s1.logFault r).notify r).enterSafe src)

/-- What a write of ones to a word of FCU_STAT clears (R378): bits whose input holds no condition. The grace timer of a
cleared source stops, and its latched severity starts anew. -/
def State.clearStat (s : State) (w mask : Nat) : State :=
  if s.fld F.FCU_STATUS_SELF = 1 then s
  else (setBits mask 32).foldl (fun s b =>
    let src := 32 * w + b
    if src ≥ 66 ∨ s.fld (F.FCU_SRC_STATE_PIN src) = 1 ∨ !s.statBit src then s
    else
      let v := (s.rd (Reg.FCU_STAT_W w)).toNat
      let s1 := (s.setRd (Reg.FCU_STAT_W w) (BitVec.ofNat 32 (setBitsOf v b b 0))).setFld
        (F.FCU_SRC_STATE_LATCHED_SEV src) 0
      { s1 with fcu := { s1.fcu with grace := amDel s1.fcu.grace src } }) s

/-- STATUS_CLEAR (R378): a write of 1s to FCU_STAT word w, under the RWL rule. -/
def execStatusClear (path : Path) (w : Fin 4) (mask : Word) (s : State) : Host.Outcome State Fault Refusal :=
  .next (s.rwl path (Reg.FCU_STAT_W w.val) fun s => s.clearStat w.val mask.toNat)

/-- A forced entry to the safe state (R381): a record with SOURCE 0x7D, SEV 3, ATTR 0 and EVENTS 0, and cause 0x7D. -/
def State.forceSafe (s : State) : State :=
  if s.fld F.FCU_STATUS_SELF = 1 then s
  else
    let r : FaultRec := { seq := 0, source := 0x7D, sev := 3, safe := !s.safe }
    ((s.logFault r).notify r).enterSafe 0x7D

/-- FCU_FORCE_SAFE (R381): a write of 1 to GO, under the RWL rule. -/
def execFcuForceSafe (path : Path) (value : Word) (s : State) : Host.Outcome State Fault Refusal :=
  .next (s.rwl path Reg.FCU_FORCE_SAFE fun s => if bitAt value.toNat 0 then s.forceSafe else s)

/-- COLLECTOR_SELF_FAULT (R384): SELF is set and the safe state entered with cause 0x7F; no record, no source bit. -/
def execCollectorSelfFault (s : State) : Host.Outcome State Fault Refusal :=
  .next (let s1 := s.enterSafe 0x7F
         (s1.setBit F.FCU_STATUS_SELF).setFld F.FCU_STATUS_SAFE_CAUSE
           (if s.safe then s.fld F.FCU_STATUS_SAFE_CAUSE else 0x7F))

/-- A reset source is recognised by the reset controller (R344, R346, R350): while THERMTRIP_N is asserted every source
but POWER_ON is ignored; a device reset that waits or is asserted is joined, and POWER_ON replaces its cause. -/
def State.requestReset (s : State) (cause : Nat) : State :=
  if s.rst.thermtrip && cause != 1 then s
  else match s.rst.request with
    | some c => if cause = 1 ∧ c ≠ 1 then { s with rst := { s.rst with request := some 1 } } else s
    | none =>
      match s.rst.asserted with
      | some (t, c) =>
        if cause = 1 ∧ c ≠ 1 then { s with rst := { s.rst with asserted := some (t, 1), request := some 1 } } else s
      | none => { s with rst := { s.rst with request := some cause } }

/-- FAULT_ESC (R383): ESC_RESET_MS has passed since step 2 of the entry, so a device reset with cause FAULT_ESC is
asserted; THERMTRIP_N suppresses it. -/
def execFaultEsc (s : State) : Host.Outcome State Fault Refusal :=
  .next (s.atDeadline s.fcu.escDeadline fun s =>
    ({ s with fcu := { s.fcu with escDeadline := none } }).requestReset 7)

/-- A write of FCU_CFG: GRACE_US and ESC_RESET_MS; in the safe state ESC_RESET_MS re-arms the escalation, counted from
step 2 of the entry, cancels it with 0, and asserts at once when the time has passed (R383). -/
def State.writeFcuCfg (s : State) (v : BitVec 32) : State :=
  if s.fld F.FCU_STATUS_SELF = 1 then s
  else
    let s1 := s.setRd Reg.FCU_CFG v
    let ms := s1.fld F.FCU_CFG_ESC_RESET_MS
    match s.fcu.safeAt with
    | none => s1
    | some t =>
      if ms = 0 then { s1 with fcu := { s1.fcu with escDeadline := none } }
      else if t + ms * perMs ≤ s.mclk then
        ({ s1 with fcu := { s1.fcu with escDeadline := none } }).requestReset 7
      else { s1 with fcu := { s1.fcu with escDeadline := some (t + ms * perMs) } }

/-- FCU_CFG_WRITE (R383, R390): a write of FCU_CFG, under the RWL rule. -/
def execFcuCfgWrite (path : Path) (value : Word) (s : State) : Host.Outcome State Fault Refusal :=
  .next (s.rwl path Reg.FCU_CFG fun s => s.writeFcuCfg value)

/-- FAULT_PULSE_END (R380): the pulse ends; a further pulse starts 10 us later; a change of MODE takes effect once no
pulse is left. -/
def execFaultPulseEnd (s : State) : Host.Outcome State Fault Refusal :=
  .next (s.atDeadline (s.fcu.pulse.map (·.2)) fun s =>
    if s.fcu.pulseMore then
      let a := s.mclk + 10 * perUs
      { s with fcu := { s.fcu with
          pulse := some (a, a + max 10 (s.fld F.FCU_PIN_PULSE_US) * perUs), pulseMore := false } }
    else { s with fcu := { s.fcu with pulse := none, pinMode := s.fld F.FCU_PIN_MODE } })

/-- Remove the n oldest records (R387). -/
def State.popLog (s : State) (n : Nat) : State :=
  if s.fld F.FCU_STATUS_SELF = 1 then s else { s with fcu := { s.fcu with log := s.fcu.log.drop n } }

/-- FCU_LOG_POP (R387): under the RWL rule. -/
def execFcuLogPop (path : Path) (value : Word) (s : State) : Host.Outcome State Fault Refusal :=
  .next (s.rwl path Reg.FCU_LOG_POP fun s => s.popLog (bitsOf value.toNat 8 0))

/-- Clear the first-fault copy (R385, R390): the next record is copied again. -/
def State.clearFirst (s : State) : State :=
  if s.fld F.FCU_STATUS_SELF = 1 then s
  else
    let s1 := (s.setRd Reg.FCU_FIRST_INFO 0).setRd64 Reg.FCU_FIRST_FTIME_LO 0
    { s1 with fcu := { s1.fcu with firstArmed := true } }

/-- FCU_FIRST_CLR (R390): a write of 1, under the RWL rule. -/
def execFcuFirstClr (path : Path) (value : Word) (s : State) : Host.Outcome State Fault Refusal :=
  .next (s.rwl path Reg.FCU_FIRST_CLR fun s => if bitAt value.toNat 0 then s.clearFirst else s)

end Sys2Proof.Machine
end

