-- ==== Sys2Proof/Machine/Hold.lean ====
section
/-! DEFINITION. The hold (02_hold): addresses and the remap, ownership checks, reads and writes with poison, errors and
scrub, and the ownership commands. -/

namespace Sys2Proof.Machine

/-! ## Addresses (R26, R27) and the remap (R28, R29) -/

/-- A hold address that exists: parcel 0-11, offset below 0x0C00_0000. -/
def holdExists (a : Nat) : Bool := decide (a / 2 ^ 28 < 12) && decide (a % 2 ^ 28 < 0x0C000000)

/-- Retired plots for L lost banks: the smallest k with L * (96 - k) <= k * G. -/
def retiredPlots (lost : Nat) : Nat :=
  ((List.range 97).find? fun k => decide (lost * (96 - k) ≤ k * (64 - lost))).getD 96

/-- Where the line at bank b, row r of plot p is stored (R29): bank, plot and row. -/
def remap (goodMask b p r : Nat) : Nat × Nat × Nat :=
  if bitAt goodMask b then (b, p, r)
  else
    let good := setBits goodMask 64
    let lost := (List.range 64).filter fun i => !bitAt goodMask i
    let usable := 96 - retiredPlots lost.length
    let j := (lost.idxOf b * usable + p) * 256 + r
    let g := good.length
    let q := j / g
    (good.getD (j % g) 0, 95 - q / 256, q % 256)

/-- The good banks of a parcel, as the floor plan in force gives them. -/
def State.goodBanks (s : State) (n : Nat) : Nat :=
  (s.rd (Reg.HLD_BANK_GOOD_LO n)).toNat + 2 ^ 32 * (s.rd (Reg.HLD_BANK_GOOD_HI n)).toNat

/-! ## Ownership (R31, R32) -/

/-- Plots are numbered through the address space: parcel * 128 + plot. The plots a range touches. -/
def plotsOf (a len : Nat) : List Nat :=
  if len = 0 then [] else (List.range ((a + len - 1) / 2 ^ 21 + 1 - a / 2 ^ 21)).map (a / 2 ^ 21 + ·)

/-- The plot number exists. -/
def plotExists (g : Nat) : Bool := decide (g / 128 < 12) && decide (g % 128 < 96)

/-- Fields of a plot's ownership entry. -/
def State.plotKind (s : State) (g : Nat) : Nat := s.fld (F.HLD_PLOT_OWNER_KIND (g / 128) (g % 128))
def State.plotOwner (s : State) (g : Nat) : Nat := s.fld (F.HLD_PLOT_OWNER_OWNER_FN (g / 128) (g % 128))
def State.plotReaders (s : State) (g : Nat) : Bool := s.fld (F.HLD_PLOT_OWNER_READERS (g / 128) (g % 128)) == 1
def State.plotClearing (s : State) (g : Nat) : Bool := s.fld (F.HLD_PLOT_OWNER_CLEARING (g / 128) (g % 128)) == 1

/-- Who accesses the hold: a function, through a context where a descriptor or packet of one does it, and whether the
work is speculative (R32, R164, R165). -/
structure Who where
  fn : Nat
  ctx : Option Nat := none
  spec : Bool := false
  deriving DecidableEq, Repr

/-- The context whose scratch a plot is (R157). -/
def State.scratchOf (s : State) (g : Nat) : Option Nat :=
  (s.gw.binds.find? fun e => e.2.bound && e.1 / 4096 == g / 128
    && decide (e.2.plot ≤ g % 128 ∧ g % 128 < e.2.plot + e.2.plots)).map fun e => e.1 % 4096

/-- A scratch plot is open to descriptors and packets of its own context alone (R165). -/
def State.scratchOpen (s : State) (w : Who) (g : Nat) : Bool :=
  match s.scratchOf g with
  | none => true
  | some c => w.ctx == some c

/-- A read of a range is allowed (R32, R165). -/
def State.mayRead (s : State) (w : Who) (a len : Nat) : Bool :=
  (plotsOf a len).all fun g =>
    plotExists g && s.plotKind g == 1 && (s.plotOwner g == w.fn || s.plotReaders g) && s.scratchOpen w g

/-- A write of a range is allowed (R32, R165); speculative work writes only its own scratch (R164). -/
def State.mayWrite (s : State) (w : Who) (a len : Nat) : Bool :=
  (plotsOf a len).all fun g =>
    plotExists g && s.plotKind g == 1 && s.plotOwner g == w.fn && s.scratchOpen w g
      && (!w.spec || (s.scratchOf g).isSome)

/-- A plot of the range is being cleared: an allowed access waits (R34). -/
def State.clearingIn (s : State) (a len : Nat) : Bool := (plotsOf a len).any s.plotClearing

/-! ## Poison (R43-R45) -/

/-- The 16 B words that a range touches. -/
def wordsOf (a len : Nat) : List Nat :=
  if len = 0 then [] else (List.range ((a + len - 1) / 16 + 1 - a / 16)).map fun i => (a / 16 + i) * 16

/-- A word of the range is poisoned. -/
def State.poisonedIn (s : State) (a len : Nat) : Bool :=
  s.holdPoison.any fun w => decide (a < w + 16 ∧ w < a + len)

/-- Every word that holds a byte of the range takes the poison pattern. -/
def State.poison (s : State) (a len : Nat) : State :=
  { s with holdPoison := (wordsOf a len).foldl setIns s.holdPoison }

/-- The word is written whole by a write of the range. -/
def wholeWord (a len w : Nat) : Bool := decide (a ≤ w ∧ w + 16 ≤ a + len)

/-- Write bytes: whole words become clean; at the first poisoned word that is written only in part the write is refused
and stops (R44): the words before it keep their new contents. The answer says whether all was written. -/
def State.holdPut (s : State) (a : Nat) (bytes : List Byte) : Bool × State :=
  let len := bytes.length
  match (wordsOf a len).find? fun w => s.holdPoison.contains w && !wholeWord a len w with
  | none =>
    (true, { s with
      hold := memWrite s.hold a bytes
      holdPoison := s.holdPoison.filter fun w => !wholeWord a len w })
  | some w =>
    let n := w - a
    (false, { s with
      hold := memWrite s.hold a (bytes.take n)
      holdPoison := s.holdPoison.filter fun x => !wholeWord a n x })

/-- Read bytes of the hold. -/
def State.holdGet (s : State) (a n : Nat) : List Byte := memRead s.hold a n

/-! ## Errors found by reads (R43, R46) -/

/-- What scrub keeps of a slice. -/
def State.slice (s : State) (n : Nat) : HoldSt := (amGet s.slices n).getD {}
def State.setSlice (s : State) (n : Nat) (x : HoldSt) : State := { s with slices := amSet s.slices n x }

/-- A correctable error: corrected, counted, and one event when the errors since the pass began reach HLD_CE_LIMIT. -/
def State.holdCe (s : State) (n : Nat) : State :=
  let x := s.slice n
  let s1 := s.addSat (F.HLD_CE_COUNT_COUNT n)
  let reach := decide (x.ceSince + 1 ≥ s.fld (F.HLD_CE_LIMIT_LIMIT n)) && !x.raised
  let s2 := s1.setSlice n { x with ceSince := x.ceSince + 1, raised := x.raised || reach }
  if reach then s2.raise n 0 0 none else s2

/-- An uncorrectable error: a word not yet poisoned is poisoned, counted, recorded when no record is held, and raised. -/
def State.holdUe (s : State) (n addr cls : Nat) (scrub : Bool) (fn : Nat) (a : Option Attr) : State :=
  let w := addr / 16 * 16
  if s.holdPoison.contains w then s
  else
    let s1 := ({ s with holdPoison := setIns s.holdPoison w }).addSat (F.HLD_UE_COUNT_COUNT n)
    let s2 :=
      if s.fld (F.HLD_ERR_INFO_VALID n) = 1 then s1
      else ((((s1.setRd (Reg.HLD_ERR_ADDR n) (BitVec.ofNat 32 w)).setBit (F.HLD_ERR_INFO_VALID n)).setFld
        (F.HLD_ERR_INFO_CLASS n) cls).setFld (F.HLD_ERR_INFO_SCRUB n) (b2n scrub)).setFld (F.HLD_ERR_INFO_FN n) fn
    s2.raise n w 0 a

/-- The errors that the reads of one access find, in order (R43). -/
def State.holdErrors (s : State) (errs : List WordErr) (cls : Nat) (scrub : Bool) (fn : Nat) (a : Option Attr) : State :=
  errs.foldl (fun s e =>
    if !holdExists e.addr then s
    else if e.uncorrectable then s.holdUe (e.addr / 2 ^ 28) e.addr cls scrub fn a
    else s.holdCe (e.addr / 2 ^ 28)) s

/-- A read of a range of the hold by an engine: the errors it finds are handled, and the answer says whether the range
is clean (R43). -/
def State.readClean (s : State) (errs : List WordErr) (a len cls fn : Nat) (at' : Option Attr) : Bool × State :=
  let s1 := s.holdErrors (errs.filter fun e => decide (a < e.addr / 16 * 16 + 16 ∧ e.addr / 16 * 16 < a + len))
    cls false fn at'
  (!s1.poisonedIn a len, s1)

/-! ## The commands -/

/-- The transition of Table 4 that an ownership write asks for: whether it is dropped, whether it clears, and the new
entry. -/
def plotTransition (old new : Nat) : Bool × Bool × Nat :=
  let k := old % 4
  let k' := new % 4
  let entry := if k' = 1 then 1 + 4 * bitsOf new 2 2 + 2 ^ 16 * bitsOf new 25 16 else 0
  if k ≥ 2 ∨ k' ≥ 2 ∨ bitAt old 3 then (true, false, old)
  else if k = 0 ∧ k' = 0 then (false, false, 0)
  else if k = 1 ∧ k' = 1 ∧ bitsOf old 25 16 = bitsOf new 25 16 then (false, false, entry)
  else (false, true, entry + 8)

/-- An ownership write at a plot (R33, R34). -/
def State.writePlotOwner (s : State) (n plot v : Nat) : State :=
  let old := (s.rd (Reg.HLD_PLOT_OWNER n plot)).toNat
  let (dropped, _, entry) := plotTransition old v
  if dropped then s.setBit (F.HLD_EVENT_PLOT_WRITE_DROPPED n)
  else s.setRd (Reg.HLD_PLOT_OWNER n plot) (BitVec.ofNat 32 entry)

/-- PLOT_OWNER_WRITE (R33): under the RWL rule. -/
def execPlotOwnerWrite (path : Path) (n : Parcel) (plot : Fin 96) (value : Word) (s : State) :
    Host.Outcome State Fault Refusal :=
  .next (s.rwl path (Reg.HLD_PLOT_OWNER n.val plot.val) fun s => s.writePlotOwner n.val plot.val value.toNat)

/-- PLOT_CLEAR_DONE (R34): the plot's bytes are zero and clean, and CLEARING falls. -/
def execPlotClearDone (n : Parcel) (plot : Fin 96) (s : State) : Host.Outcome State Fault Refusal :=
  .next (if s.fld (F.HLD_PLOT_OWNER_CLEARING n.val plot.val) = 1 then
      let a := n.val * 2 ^ 28 + plot.val * 2 ^ 21
      let s1 := { s with
        hold := memClear s.hold a (2 ^ 21)
        holdPoison := s.holdPoison.filter fun w => decide (w < a ∨ a + 2 ^ 21 ≤ w) }
      s1.setFld (F.HLD_PLOT_OWNER_CLEARING n.val plot.val) 0
    else s)

/-- SCRUB_STEP (R46): every good bank reads its row j; the errors found are handled; the last row ends the pass. A write
of HLD_SCRUB takes effect here: ENABLE 0 stops scrub and abandons the pass, ENABLE 1 after it starts a new one. -/
def execScrubStep (n : Parcel) (errs : List WordErr) (s : State) : Host.Outcome State Fault Refusal :=
  .next (let x := s.slice n.val
    if s.fld (F.HLD_SCRUB_ENABLE n.val) = 0 then
      if x.scrubOn then s.setSlice n.val { x with scrubOn := false, ceSince := 0, raised := false, row := 0 } else s
    else
      let s0 := if x.scrubOn then s else s.setSlice n.val { x with scrubOn := true, row := 0, ceSince := 0, raised := false }
      let s1 := s0.holdErrors (errs.filter fun e => e.addr / 2 ^ 28 == n.val) 3 true 0 none
      let y := s1.slice n.val
      if y.row ≥ 24575 then
        (s1.setSlice n.val { y with row := 0, ceSince := 0, raised := false }).addWrap (F.HLD_SCRUB_PASS_PASSES n.val)
      else s1.setSlice n.val { y with row := y.row + 1 })

/-- A write of HLD_ARB (R40): dropped when the guarantees would exceed 32; G_MAINT 0 is taken as 1. -/
def State.writeArb (s : State) (n v : Nat) : State :=
  let fab := bitsOf v 5 0
  let dma := bitsOf v 13 8
  let maint := max 1 (bitsOf v 21 16)
  if fab + dma + maint > 32 then s.setBit (F.HLD_EVENT_ARB_WRITE_DROPPED n)
  else s.setRd (Reg.HLD_ARB n) (BitVec.ofNat 32 (fab + 2 ^ 8 * dma + 2 ^ 16 * maint))

/-- HLD_ARB_WRITE (R40): under the RWL rule. -/
def execHldArbWrite (path : Path) (n : Parcel) (value : Word) (s : State) : Host.Outcome State Fault Refusal :=
  .next (s.rwl path (Reg.HLD_ARB n.val) fun s => s.writeArb n.val value.toNat)

/-- A write of HLD_SCRUB (R46): stored now, in effect at the next scrub step. -/
def State.writeScrub (s : State) (n v : Nat) : State :=
  s.setRd (Reg.HLD_SCRUB n) (BitVec.ofNat 32 (bitsOf v 0 0 + 2 ^ 16 * bitsOf v 27 16))

/-- HLD_SCRUB_WRITE (R46): under the RWL rule. -/
def execHldScrubWrite (path : Path) (n : Parcel) (value : Word) (s : State) : Host.Outcome State Fault Refusal :=
  .next (s.rwl path (Reg.HLD_SCRUB n.val) fun s => s.writeScrub n.val value.toNat)

/-- Clear both error counts and the error record (R49). -/
def State.clearHoldErr (s : State) (n : Nat) : State :=
  (((s.setFld (F.HLD_CE_COUNT_COUNT n) 0).setFld (F.HLD_UE_COUNT_COUNT n) 0).setRd (Reg.HLD_ERR_ADDR n) 0).setRd
    (Reg.HLD_ERR_INFO n) 0

/-- HLD_ERR_CLR (R49): a write of 1, under the RWL rule. -/
def execHldErrClr (path : Path) (n : Parcel) (value : Word) (s : State) : Host.Outcome State Fault Refusal :=
  .next (s.rwl path (Reg.HLD_ERR_CLR n.val) fun s => if bitAt value.toNat 0 then s.clearHoldErr n.val else s)

end Sys2Proof.Machine
end

