-- ==== Sys2Proof/Machine/Number.lean ====
section
/-! DEFINITION. Numbers (03_formats_and_codec): exact values of the formats, rounding to FP32 and BF16, exact sums and
products, the correctly rounded functions, the functions with an error bound, and the conversion to MX blocks. -/

namespace Sys2Proof.Machine

/-! ## Exact values -/

/-- A value: NaN, an infinity, or m * 2^e with a sign (a zero keeps its sign). -/
inductive Fp where
  | nan
  | inf (neg : Bool)
  | fin (neg : Bool) (m : Nat) (e : Int)
  deriving DecidableEq, Repr

/-- +0. -/
def Fp.zero : Fp := .fin false 0 0

/-- A natural number. -/
def Fp.ofNat (n : Nat) : Fp := .fin false n 0

/-- The sign. -/
def Fp.neg? : Fp → Bool
  | .nan => false
  | .inf s => s
  | .fin s _ _ => s

/-- The value is a zero; is NaN; is an infinity. -/
def Fp.isZero : Fp → Bool
  | .fin _ 0 _ => true
  | _ => false
def Fp.isNan : Fp → Bool
  | .nan => true
  | _ => false
def Fp.isInf : Fp → Bool
  | .inf _ => true
  | _ => false

/-- The value with its sign changed; its magnitude. -/
def Fp.negate : Fp → Fp
  | .nan => .nan
  | .inf s => .inf (!s)
  | .fin s m e => .fin (!s) m e
def Fp.abs : Fp → Fp
  | .nan => .nan
  | .inf _ => .inf false
  | .fin _ m e => .fin false m e

/-- The exact product (R92): NaN for a NaN and for Inf times 0. -/
def Fp.mul (a b : Fp) : Fp :=
  match a, b with
  | .nan, _ => .nan
  | _, .nan => .nan
  | .inf s, y => if y.isZero then .nan else .inf (s != y.neg?)
  | x, .inf s => if x.isZero then .nan else .inf (s != x.neg?)
  | .fin s m e, .fin s' m' e' => .fin (s != s') (m * m') (e + e')

/-- m * 2^e as an integer multiple of 2^b, where b ≤ e. -/
def scaled (neg : Bool) (m : Nat) (e b : Int) : Int :=
  let v : Int := (m * 2 ^ (e - b).toNat : Nat)
  if neg then -v else v

/-- The least exponent of a list of finite values. -/
def minExp : List Fp → Int → Int
  | [], b => b
  | .fin _ 0 _ :: r, b => minExp r b
  | .fin _ _ e :: r, b => minExp r (min e b)
  | _ :: r, b => minExp r b

/-- The sum of the finite values of a list in units of 2^b. -/
def sumScaled (b : Int) : List Fp → Int
  | [] => 0
  | .fin _ 0 _ :: r => sumScaled b r
  | .fin s m e :: r => scaled s m e b + sumScaled b r
  | _ :: r => sumScaled b r

/-- The exact sum of a list (R92): NaN when a term is NaN or infinities of both signs occur; an infinity when those of one
sign occur; a zero sum is -0 only when every term is -0. -/
def Fp.sum (l : List Fp) : Fp :=
  if l.any Fp.isNan then .nan
  else if l.any fun x => x.isInf then
    if (l.any fun x => x.isInf && x.neg?) && (l.any fun x => x.isInf && !x.neg?) then .nan
    else .inf (l.any fun x => x.isInf && x.neg?)
  else
    let b := minExp l 0
    let v := sumScaled b l
    if v = 0 then .fin (!l.isEmpty && l.all fun x => x.isZero && x.neg?) 0 0
    else .fin (decide (v < 0)) v.natAbs b

/-- The exact sum of two values. -/
def Fp.add (a b : Fp) : Fp := Fp.sum [a, b]

/-- a < b and a = b on values that are not NaN; zeros of both signs are equal. -/
def Fp.key (a : Fp) (b : Int) : Int :=
  match a with
  | .fin s m e => scaled s m e b
  | _ => 0
def Fp.lt (a b : Fp) : Bool :=
  match a, b with
  | .nan, _ => false
  | _, .nan => false
  | .inf s, .inf s' => s && !s'
  | .inf s, _ => s
  | _, .inf s => !s
  | _, _ => let k := minExp [a, b] 0
            decide (a.key k < b.key k)
def Fp.eq (a b : Fp) : Bool := !a.isNan && !b.isNan && !a.lt b && !b.lt a

/-! ## Rounding (R52, R53) -/

/-- The quotient of n by 2^k rounded to nearest, ties to even. -/
def roundShift (n k : Nat) : Nat :=
  let q := n / 2 ^ k
  let r := n % 2 ^ k
  if k = 0 then n
  else if 2 * r > 2 ^ k ∨ (2 * r = 2 ^ k ∧ q % 2 = 1) then q + 1 else q

/-- Round m * 2^e to a binary format of p mantissa bits below the leading one, least exponent of a unit qmin and largest
code below top: the code without its sign. -/
def roundCode (p : Nat) (qmin : Int) (top m : Nat) (e : Int) : Nat :=
  if m = 0 then 0
  else
    let q := max ((Nat.log2 m : Int) + e - p) qmin
    let n := if q ≤ e then m * 2 ^ (e - q).toNat else roundShift m (q - e).toNat
    min ((q - qmin).toNat * 2 ^ p + n) top

/-- The FP32 bits of a value: one rounding to nearest, ties to even; overflow to infinity; the canonical NaN. -/
def toF32 : Fp → Nat
  | .nan => 0x7FC00000
  | .inf s => if s then 0xFF800000 else 0x7F800000
  | .fin s m e => (if s then 0x80000000 else 0) + roundCode 23 (-149) 0x7F800000 m e

/-- The BF16 bits of a value. -/
def toBf16 : Fp → Nat
  | .nan => 0x7FC0
  | .inf s => if s then 0xFF80 else 0x7F80
  | .fin s m e => (if s then 0x8000 else 0) + roundCode 7 (-133) 0x7F80 m e

/-- The value of FP32 bits, and of BF16 bits (widened exactly). -/
def ofF32 (w : Nat) : Fp :=
  let s := bitAt w 31
  let e := bitsOf w 30 23
  let m := bitsOf w 22 0
  if e = 255 then (if m = 0 then .inf s else .nan)
  else if e = 0 then .fin s m (-149)
  else .fin s (m + 2 ^ 23) ((e : Int) - 150)
def ofBf16 (h : Nat) : Fp := ofF32 (h % 65536 * 65536)

/-- Operations on FP32 bits, each rounded once. -/
def fAdd (a b : Nat) : Nat := toF32 ((ofF32 a).add (ofF32 b))
def fSub (a b : Nat) : Nat := toF32 ((ofF32 a).add (ofF32 b).negate)
def fMul (a b : Nat) : Nat := toF32 ((ofF32 a).mul (ofF32 b))
/-- a * b + c, rounded once. -/
def fFma (a b c : Nat) : Nat := toF32 (((ofF32 a).mul (ofF32 b)).add (ofF32 c))

/-! ## Correctly rounded quotients and roots (R99, R117) -/

/-- n / d * 2^e as a value with a sticky unit below its last bit, so that rounding it equals rounding the quotient. -/
def quotient (s : Bool) (n d : Nat) (e : Int) : Fp :=
  let k := 70 + Nat.log2 d
  let q := n * 2 ^ k / d
  .fin s (2 * q + (if n * 2 ^ k % d = 0 then 0 else 1)) (e - k - 1)

/-- a / b (R118: x/0 is an infinity, 0/0 and Inf/Inf are NaN). -/
def Fp.div (a b : Fp) : Fp :=
  let s := a.neg? != b.neg?
  match a, b with
  | .nan, _ => .nan
  | _, .nan => .nan
  | .inf _, .inf _ => .nan
  | .inf _, _ => .inf s
  | _, .inf _ => .fin s 0 0
  | .fin _ m e, .fin _ m' e' =>
    if m' = 0 then (if m = 0 then .nan else .inf s)
    else if m = 0 then .fin s 0 0
    else quotient s m m' (e - e')
def fDiv (a b : Nat) : Nat := toF32 ((ofF32 a).div (ofF32 b))

/-- The integer square root, bit by bit from bit k down. -/
def isqrtAux (n : Nat) : Nat → Nat → Nat
  | 0, r => r
  | k + 1, r => isqrtAux n k (if (r + 2 ^ k) * (r + 2 ^ k) ≤ n then r + 2 ^ k else r)
def isqrt (n : Nat) : Nat := isqrtAux n (Nat.log2 n / 2 + 1) 0

/-- A root of n scaled by 2^e, with a sticky unit. -/
def rootOf (n : Nat) (e : Int) : Fp :=
  let r := isqrt n
  .fin false (2 * r + (if r * r = n then 0 else 1)) (e - 1)

/-- The square root (R118). -/
def Fp.sqrt : Fp → Fp
  | .nan => .nan
  | .inf s => if s then .nan else .inf false
  | .fin s m e =>
    if m = 0 then .fin s 0 0
    else if s then .nan
    else
      let k : Nat := if e % 2 = 0 then 80 else 81
      rootOf (m * 2 ^ k) ((e - k) / 2)

/-- The reciprocal square root (R99, R118): +Inf for +0, NaN for -0, negative values and NaN. -/
def Fp.rsqrt : Fp → Fp
  | .nan => .nan
  | .inf s => if s then .nan else .zero
  | .fin s m e =>
    if m = 0 then (if s then .nan else .inf false)
    else if s then .nan
    else
      let m1 := if e % 2 = 0 then m else 2 * m
      let e1 := if e % 2 = 0 then e else e - 1
      let k : Nat := 80 + Nat.log2 m1
      let r := isqrt (2 ^ (2 * k) / m1)
      .fin false (2 * r + (if r * r * m1 = 2 ^ (2 * k) then 0 else 1)) (-(e1 / 2) - k - 1)

/-- rsqrt_cr of R99: -0 gives canonical NaN only under R118; R99 names +0 alone. -/
def fRsqrt (a : Nat) : Nat := toF32 (ofF32 a).rsqrt

/-! ## The exponential, correctly rounded (R117) -/

/-- Fractional bits of the fixed-point sums below (log entry 8). -/
def fix : Nat := 512

/-- The sum of the terms t, t*x/i, t*x*x/(i*(i+1)), ... in fixed point: n terms. -/
def expSeries (x : Nat) : Nat → Nat → Nat → Nat
  | 0, _, _ => 0
  | n + 1, i, t => t + expSeries x n (i + 1) (t * x / 2 ^ fix / i)

/-- x squared k times in fixed point. -/
def squareTimes : Nat → Nat → Nat
  | 0, x => x
  | k + 1, x => squareTimes k (x * x / 2 ^ fix)

/-- e^x for a fixed-point x from 0 to 256, in fixed point. -/
def expFix (x : Nat) : Nat := squareTimes 8 (expSeries (x / 256) 120 1 (2 ^ fix))

/-- A fixed-point number as a value that is known not to be exact. -/
def stickyFix (neg : Bool) (v : Nat) : Fp := .fin neg (2 * v + 1) (-(fix : Int) - 1)

/-- m * 2^e in fixed point, rounded down. -/
def toFix (m : Nat) (e : Int) : Nat :=
  if -(fix : Int) ≤ e then m * 2 ^ (e + fix).toNat else m / 2 ^ (-(fix : Int) - e).toNat

/-- e^a as a value whose rounding is the rounding of the exact result: FP32 inputs above 128 overflow and below -128
underflow. -/
def Fp.exp : Fp → Fp
  | .nan => .nan
  | .inf s => if s then .zero else .inf false
  | .fin s m e =>
    if m = 0 then .fin false 1 0
    else if (Nat.log2 m : Int) + e ≥ 7 then (if s then .fin false 1 (-300) else .fin false 1 300)
    else
      let v := expFix (toFix m e)
      if s then stickyFix false (2 ^ (2 * fix) / v) else stickyFix false v

/-- exp_v: VEXP bit for bit (R117). -/
def fExp (a : Nat) : Nat := toF32 (ofF32 a).exp

/-! ## Functions with an error bound (R117, R118) -/

/-- The FP32 code of a value on the line of codes: negative values count down from -1, so that neighbours differ by 1. -/
def ordOf (w : Nat) : Int := if bitAt w 31 then -((w % 2 ^ 31 : Nat) : Int) - 1 else (w : Int)
def ofOrd (i : Int) : Nat := if i < 0 then 2 ^ 31 + (-i - 1).toNat else i.toNat

/-- The FP32 value towards zero from a finite value, and whether it is that value exactly. -/
def truncF32 (m : Nat) (e : Int) : Nat × Bool :=
  if m = 0 then (0, true)
  else
    let q := max ((Nat.log2 m : Int) + e - 23) (-149)
    if q ≤ e then (min ((q + 149).toNat * 2 ^ 23 + m * 2 ^ (e - q).toNat) 0x7F800000, true)
    else
      let k := (q - e).toNat
      (min ((q + 149).toNat * 2 ^ 23 + m / 2 ^ k) 0x7F800000, m % 2 ^ k == 0)

/-- An FP32 value within u units in the last place of the exact value y: which one, the model leaves open. f is the
function's opcode and a its operand's bits, so that the answer is the same wherever it is computed (R113). -/
def within (u f a : Nat) (y : Fp) : Nat :=
  match y with
  | .fin s m e =>
    let (w, exact) := truncF32 m e
    let n := if exact then 2 * u + 1 else 2 * u
    let lo : Int := if exact then (w : Int) - u else (w : Int) + 1 - u
    let i := lo + (Config.ulpChoice f a n % n : Nat)
    let c := if i < 0 then (-i).toNat else i.toNat
    let neg := if i < 0 then !s else s
    (if neg then 2 ^ 31 else 0) + min c 0x7F800000
  | _ => toF32 y

/-- ln 2 and pi in fixed point: 2 atanh(1/3), and 16 atan(1/5) - 4 atan(1/239). -/
def atanhSeries (x2 : Nat) : Nat → Nat → Nat → Nat
  | 0, _, _ => 0
  | n + 1, i, t => t / i + atanhSeries x2 n (i + 2) (t * x2 / 2 ^ fix)
def atanSeries (d2 : Nat) : Nat → Nat → Int → Int
  | 0, _, _ => 0
  | n + 1, i, t => t / (i : Int) - atanSeries d2 n (i + 2) (t / (d2 : Int))
def ln2Fix : Nat := 2 * atanhSeries (2 ^ fix / 9) 180 1 (2 ^ fix / 3)
def piFix : Nat :=
  (16 * atanSeries 25 130 1 ((2 ^ fix : Nat) / 5) - 4 * atanSeries 57121 40 1 ((2 ^ fix : Nat) / 239)).toNat

/-- ln of m * 2^e in fixed point, m > 0. -/
def lnFix (m : Nat) (e : Int) : Int :=
  let l := Nat.log2 m
  let z := m * 2 ^ fix / 2 ^ l
  let x := (z - 2 ^ fix) * 2 ^ fix / (z + 2 ^ fix)
  (2 * atanhSeries (x * x / 2 ^ fix) 180 1 x : Nat) + (e + l) * (ln2Fix : Nat)

/-- A signed fixed-point number as an inexact value; 0 stays 0. -/
def stickyInt (v : Int) : Fp := if v = 0 then .zero else stickyFix (decide (v < 0)) v.natAbs

/-- 2^a. An integer a gives an exact power. -/
def Fp.exp2 : Fp → Fp
  | .nan => .nan
  | .inf s => if s then .zero else .inf false
  | .fin s m e =>
    if m = 0 then .fin false 1 0
    else if (Nat.log2 m : Int) + e ≥ 8 then (if s then .fin false 1 (-300) else .fin false 1 300)
    else if 0 ≤ e ∨ m % 2 ^ (-e).toNat = 0 then
      let n := if 0 ≤ e then m * 2 ^ e.toNat else m / 2 ^ (-e).toNat
      .fin false 1 (if s then -(n : Int) else (n : Int))
    else
      let v := expFix (toFix m e * ln2Fix / 2 ^ fix)
      if s then stickyFix false (2 ^ (2 * fix) / v) else stickyFix false v

/-- ln a and log2 a (Table 5 gives the special inputs). -/
def Fp.ln : Fp → Fp
  | .nan => .nan
  | .inf s => if s then .nan else .inf false
  | .fin s m e =>
    if m = 0 then .inf true else if s then .nan
    else if Fp.eq (.fin false m e) (.ofNat 1) then .zero else stickyInt (lnFix m e)
def Fp.log2 : Fp → Fp
  | .nan => .nan
  | .inf s => if s then .nan else .inf false
  | .fin s m e =>
    if m = 0 then .inf true else if s then .nan
    else
      let l := Nat.log2 m
      if m = 2 ^ l then
        let n := e + l
        .fin (decide (n < 0)) n.natAbs 0
      else stickyInt (lnFix m e * (2 ^ fix : Nat) / (ln2Fix : Nat))

/-- tanh a and the logistic sigmoid. -/
def Fp.tanh : Fp → Fp
  | .nan => .nan
  | .inf s => .fin s 1 0
  | .fin s m e =>
    if m = 0 then .fin s 0 0
    else if (Nat.log2 m : Int) + e ≥ 6 then .fin s (2 ^ 100 - 1) (-100)
    else
      let v := expFix (2 * toFix m e)
      stickyFix s ((v - 2 ^ fix) * 2 ^ fix / (v + 2 ^ fix))
def Fp.sigmoid : Fp → Fp
  | .nan => .nan
  | .inf s => if s then .zero else .fin false 1 0
  | .fin s m e =>
    if m = 0 then .fin false 1 (-1)
    else if (Nat.log2 m : Int) + e ≥ 7 then
      (if s then .fin false 1 (-300) else .fin false (2 ^ 100 - 1) (-100))
    else
      let v := expFix (toFix m e)
      if s then stickyFix false (2 ^ (2 * fix) / (v + 2 ^ fix))
      else stickyFix false (v * 2 ^ fix / (v + 2 ^ fix))

/-- The terms x, x * 2x^2/3, x * (2x^2)^2/(3*5), ... of the series of erf. -/
def erfSeries (x2 : Nat) : Nat → Nat → Nat → Nat
  | 0, _, _ => 0
  | n + 1, i, t => t + erfSeries x2 n (i + 2) (2 * t * x2 / 2 ^ fix / i)

/-- erf a. -/
def Fp.erf : Fp → Fp
  | .nan => .nan
  | .inf s => .fin s 1 0
  | .fin s m e =>
    if m = 0 then .fin s 0 0
    else if (Nat.log2 m : Int) + e ≥ 3 then .fin s (2 ^ 100 - 1) (-100)
    else
      let x := toFix m e
      let x2 := x * x / 2 ^ fix
      let g := 2 ^ (2 * fix) / expFix x2
      let sum := erfSeries x2 600 3 x
      stickyFix s (2 * (g * sum / 2 ^ fix) * 2 ^ fix / isqrt (piFix * 2 ^ fix))

/-- The alternating series t - t*x2/(i*(i+1)) + ... of sine (i = 2) and cosine (i = 1). -/
def trigSeries (x2 : Nat) : Nat → Nat → Int → Int
  | 0, _, _ => 0
  | n + 1, i, t => t - trigSeries x2 n (i + 2) (t * (x2 : Int) / (2 ^ fix : Nat) / ((i * (i + 1) : Nat) : Int))

/-- sin a (shift 0) and cos a (shift 1) for a finite a: exact reduction by pi/2, then the series. -/
def trig (shift : Nat) (s : Bool) (m : Nat) (e : Int) : Fp :=
  let x := toFix m e
  let h := piFix / 2
  let n := x / h
  let r := x - n * h
  let r2 := r * r / 2 ^ fix
  let sin := trigSeries r2 90 2 (r : Nat)
  let cos := trigSeries r2 90 1 (2 ^ fix : Nat)
  let quadrant := (n + shift) % 4
  let v := if quadrant = 0 then sin else if quadrant = 1 then cos else if quadrant = 2 then -sin else -cos
  stickyInt (if s ∧ shift = 0 then -v else v)
def Fp.sin : Fp → Fp
  | .fin s m e => if m = 0 then .fin s 0 0 else trig 0 s m e
  | _ => .nan
def Fp.cos : Fp → Fp
  | .fin s m e => if m = 0 then .fin false 1 0 else trig 1 s m e
  | _ => .nan

/-- A function with an error bound of u units on FP32 bits: special inputs, zeros, overflow and underflow as R118 says;
any other result within the bound. -/
def bounded (u f : Nat) (g : Fp → Fp) (a : Nat) : Nat :=
  match ofF32 a with
  | .fin s m e =>
    let y := g (.fin s m e)
    let r := toF32 y
    if r % 2 ^ 31 = 0 ∨ r % 2 ^ 31 ≥ 0x7F800000 then r else within u f a y
  | x => toF32 (g x)

/-- VEXP2: an integer operand whose result is representable gives the exact power (R117). -/
def fExp2 (a : Nat) : Nat :=
  match ofF32 a with
  | .fin s m e =>
    if 0 ≤ e ∨ m % 2 ^ (-e).toNat = 0 then toF32 (Fp.exp2 (.fin s m e)) else bounded 1 0x45 Fp.exp2 a
  | x => toF32 x.exp2

/-! ## Integers (R113) -/

/-- The integer nearest m * 2^e, ties to even. -/
def roundNat (m : Nat) (e : Int) : Nat := if 0 ≤ e then m * 2 ^ e.toNat else roundShift m (-e).toNat

/-- FP32 to int32: half to even, saturating; NaN gives 0. -/
def f2i (w : Nat) : Nat :=
  match ofF32 w with
  | .nan => 0
  | .inf s => if s then 0x80000000 else 0x7FFFFFFF
  | .fin s m e =>
    let n := roundNat m e
    if s then ofSigned 32 (max (-(n : Int)) (-(2 ^ 31))) else min n 0x7FFFFFFF

/-- int32 to FP32. -/
def i2f (w : Nat) : Nat :=
  let i := toSigned 32 w
  toF32 (.fin (decide (i < 0)) i.natAbs 0)

/-- Minimum and maximum (R113): NaN when either is NaN, -0 below +0. -/
def fMin (a b : Nat) : Nat :=
  let x := ofF32 a
  let y := ofF32 b
  if x.isNan || y.isNan then 0x7FC00000
  else if x.lt y then a else if y.lt x then b else if x.neg? then a else b
def fMax (a b : Nat) : Nat :=
  let x := ofF32 a
  let y := ofF32 b
  if x.isNan || y.isNan then 0x7FC00000
  else if x.lt y then b else if y.lt x then a else if x.neg? then b else a

/-! ## MX blocks (R50, R51, R54, R55) -/

/-- A format by its code of Table 6 of 04_operators_and_tiles: bits of an element, exponent bits, mantissa bits, bias,
emax, whether it is an integer format and its fraction bits, the largest finite code without sign. -/
structure MxFmt where
  width : Nat
  eb : Nat
  mb : Nat
  bias : Int
  emax : Int
  int : Bool
  frac : Nat
  maxCode : Nat
  deriving DecidableEq, Repr

/-- The MX formats: 2 E4M3, 3 E5M2, 4 E3M2, 5 E2M3, 6 E2M1, 7 MXINT8, 8 MXINT4. -/
def mxFmt : Nat → MxFmt
  | 2 => ⟨8, 4, 3, 7, 8, false, 0, 0x7E⟩
  | 3 => ⟨8, 5, 2, 15, 15, false, 0, 0x7B⟩
  | 4 => ⟨6, 3, 2, 3, 4, false, 0, 0x1F⟩
  | 5 => ⟨6, 2, 3, 1, 2, false, 0, 0x1F⟩
  | 6 => ⟨4, 2, 1, 1, 2, false, 0, 0x7⟩
  | 7 => ⟨8, 0, 0, 0, 0, true, 6, 127⟩
  | _ => ⟨4, 0, 0, 0, 0, true, 2, 7⟩

/-- The value of an element code (R50). -/
def elemVal (fmt c : Nat) : Fp :=
  let f := mxFmt fmt
  if f.int then
    let i := toSigned f.width c
    .fin (decide (i < 0)) i.natAbs (-(f.frac : Int))
  else
    let s := bitAt c (f.width - 1)
    let e := c / 2 ^ f.mb % 2 ^ f.eb
    let m := c % 2 ^ f.mb
    if fmt = 2 ∧ e = 15 ∧ m = 7 then .nan
    else if fmt = 3 ∧ e = 31 then (if m = 0 then .inf s else .nan)
    else if e = 0 then .fin s m (1 - f.bias - f.mb)
    else .fin s (m + 2 ^ f.mb) ((e : Int) - f.bias - f.mb)

/-- The value of an element under a scale byte (R51). -/
def mxVal (fmt c x : Nat) : Fp :=
  if x = 255 then .nan else (elemVal fmt c).mul (.fin false 1 ((x : Int) - 127))

/-- The code of an exact value y in an element format (quant of R54). -/
def quant (fmt : Nat) (s : Bool) (m : Nat) (e : Int) : Nat :=
  let f := mxFmt fmt
  if f.int then
    let q := min (roundNat m (e + f.frac)) f.maxCode
    ofSigned f.width (if s then -(q : Int) else q)
  else
    (if s then 2 ^ (f.width - 1) else 0) + roundCode f.mb (1 - f.bias - f.mb) f.maxCode m e

/-- The scale byte and the codes of a block of FP32 words (to_mx of R54). -/
def toMx (fmt : Nat) (v : List Nat) : Nat × List Nat :=
  let f := mxFmt fmt
  let vals := v.map ofF32
  if vals.any fun x => x.isNan || x.isInf then (255, v.map fun _ => 0)
  else
    let amax := vals.foldl (fun a x => if a.lt x.abs then x.abs else a) .zero
    let x : Int :=
      match amax with
      | .fin _ 0 _ => 0
      | .fin _ m e => max 0 (min 254 ((Nat.log2 m : Int) + e - f.emax + 127))
      | _ => 0
    (x.toNat, vals.map fun y =>
      match y with
      | .fin s m e => quant fmt s m (e + 127 - x)
      | _ => 0)

/-- The bits per element of a format code (0 FP32, 1 BF16, 2-8 as above). -/
def fmtWidth (fmt : Nat) : Nat := if fmt = 0 then 32 else if fmt = 1 then 16 else (mxFmt fmt).width

/-- Element i of an element plane (R55: each format's packing is a run of little-endian bits). -/
def planeElem (plane : List Byte) (fmt i : Nat) : Nat :=
  let w := fmtWidth fmt
  let bit := w * i
  leAt plane (bit / 8) (if w = 6 then 2 else ceilDiv w 8) / 2 ^ (bit % 8) % 2 ^ w

/-- Pack codes of w bits into bytes, first code lowest. -/
def packCodes (w : Nat) (codes : List Nat) : List Byte :=
  leBytes (ceilDiv (w * codes.length) 8) (codes.foldr (fun c acc => c % 2 ^ w + 2 ^ w * acc) 0)

/-- The value of an element of an FP32 (0) or BF16 (1) row. -/
def plainVal (fmt : Nat) (row : List Byte) (i : Nat) : Fp :=
  if fmt = 0 then ofF32 (leAt row (4 * i) 4) else ofBf16 (leAt row (2 * i) 2)

/-- FP32 words stored in a row format (R87, R93): FP32, BF16, or element codes with the scale bytes after them. -/
def storeRow (fmt : Nat) (v : List Nat) : List Byte :=
  if fmt = 0 then (v.map (leBytes 4)).flatten
  else if fmt = 1 then (v.map fun x => leBytes 2 (toBf16 (ofF32 x))).flatten
  else
    let blocks := (chunks 32 v).map (toMx fmt)
    (blocks.map fun b => packCodes (mxFmt fmt).width b.2).flatten ++ (blocks.map fun b => leBytes 1 b.1).flatten

/-- Bytes of a row of n elements in a row format. -/
def rowBytes (fmt n : Nat) : Nat :=
  if fmt = 0 then 4 * n else if fmt = 1 then 2 * n else n * (mxFmt fmt).width / 8 + n / 32

end Sys2Proof.Machine
end

