-- ==== Sys2Proof/Machine/Operands.lean ====
section
/-! DEFINITION. Every operand form of a descriptor: the common header (R73), the operand areas of the opcodes, the
addresses that REPL substitutes (R75), and the checks of validation (R74). -/

namespace Sys2Proof.Machine

/-! ## The common header (R73, Table 2) -/

/-- n bytes of the descriptor from byte o, little-endian. -/
def Desc.at (d : Desc) (o n : Nat) : Nat := d.raw.toNat / 2 ^ (8 * o) % 2 ^ (8 * n)

/-- Bits hi down to lo of the field that starts at byte o. -/
def Desc.bits (d : Desc) (o hi lo : Nat) : Nat := bitsOf (d.raw.toNat / 2 ^ (8 * o)) hi lo
def Desc.bit (d : Desc) (o i : Nat) : Bool := bitAt (d.raw.toNat / 2 ^ (8 * o)) i

def Desc.opcode (d : Desc) : Nat := d.at 0 1
def Desc.ordered (d : Desc) : Bool := d.bit 1 0
def Desc.cmplAlways (d : Desc) : Bool := d.bit 1 1
/-- SPEC is 1, and the round has not committed with this part deferred (R166). -/
def Desc.spec (d : Desc) : Bool := d.bit 1 2 && !d.unspec
def Desc.repl (d : Desc) : Bool := d.bit 1 3
def Desc.energyClass (d : Desc) : Nat := d.bits 1 7 4
def Desc.epoch (d : Desc) : Nat := d.at 2 1
def Desc.mask (d : Desc) : Nat := d.bits 4 11 0
def Desc.waitMark (d : Desc) : Nat := d.bits 6 4 0
def Desc.waitEn (d : Desc) : Bool := d.bit 6 5
def Desc.sigMark (d : Desc) : Nat := d.bits 7 4 0
def Desc.sigEn (d : Desc) : Bool := d.bit 7 5
def Desc.sigRemote (d : Desc) : Bool := d.bit 7 6
def Desc.waitValue (d : Desc) : Nat := d.at 8 4
def Desc.sigStation (d : Desc) : Nat := d.at 12 3
/-- SIG_INC, 0 taken as 1. -/
def Desc.sigInc (d : Desc) : Nat := max 1 (d.at 15 1)
def Desc.sigContext (d : Desc) : Nat := d.bits 16 11 0

/-! ## Writing a mark (R79, R80) -/

/-- The descriptor waits on mark m of set k in its part p. -/
def State.waitsOn (s : State) (k m : Nat) (d : Desc) (p : Part) : Bool :=
  d.waitEn && d.waitMark == m && s.markSet p.parcel d.ctx == some k

/-- Write a mark; where its ERROR bit is 1, every part that waits on it and has not started keeps that (R80: at any time
before the part starts). -/
def State.setMarkAt (s : State) (k m : Nat) (v : Mark) : State :=
  let s1 := { s with seq := { s.seq with marks := amSet s.seq.marks (k * 32 + m) v } }
  if v.error then s1.mapParts fun d p => if s.waitsOn k m d p then { p with markErr := true } else p else s1

/-- Change a context's mark at a parcel; nothing happens where the context has no set there. -/
def State.updMark (s : State) (n c m : Nat) (f : Mark → Mark) : State :=
  match s.markSet n c with
  | some k => s.setMarkAt k m (f (s.markAt k m))
  | none => s

/-- The hold address in 4 bytes from byte o, for the part at parcel n: REPL substitutes the parcel (R75). -/
def Desc.hold (d : Desc) (n o : Nat) : Nat :=
  if d.repl then n * 2 ^ 28 + d.at o 4 % 2 ^ 28 else d.at o 4

/-- Every bit of the descriptor outside the listed (byte, hi, lo) fields is 0. -/
def Desc.reservedZero (d : Desc) (fields : List (Nat × Nat × Nat)) : Bool :=
  fields.foldl (fun v f => setBitsOf v (8 * f.1 + f.2.1) (8 * f.1 + f.2.2) 0) d.raw.toNat == 0

/-- The fields of the common header. -/
def headerFields : List (Nat × Nat × Nat) :=
  [(0, 7, 0), (1, 7, 0), (2, 7, 0), (4, 11, 0), (6, 5, 0), (7, 6, 0), (8, 31, 0), (12, 23, 0), (15, 7, 0), (16, 11, 0)]

/-- Who a descriptor's accesses come from (R32, R164, R165). -/
def State.who (s : State) (d : Desc) : Who := ⟨s.ctxFn d.ctx, some d.ctx, d.spec⟩

/-! ## Regions -/

/-- A region: its first byte and its length. -/
abbrev Region := Nat × Nat

/-- Two regions share a byte. -/
def overlap (a b : Region) : Bool :=
  decide (0 < a.2) && decide (0 < b.2) && decide (a.1 < b.1 + b.2) && decide (b.1 < a.1 + a.2)

/-- The rows of a strided array, and its full extent. -/
def rowsAt (base stride count len : Nat) : List Region := (List.range count).map fun m => (base + 16 * m * stride, len)
def extentOf (base stride count len : Nat) : Region := (base, 16 * (count - 1) * stride + len)

/-- An address names parcel n. -/
def inParcel (n a : Nat) : Bool := decide (a / 2 ^ 28 = n)

/-! ## GEMM and CGEMM (R86-R89) -/

/-- Formats that may stand as A, B (GEMM), B (CGEMM) and C (Table 6). -/
def fmtA (f : Nat) : Bool := [1, 2, 3, 7].contains f
def fmtB (coded : Bool) (f : Nat) : Bool :=
  if coded then [6, 8].contains f else decide (1 ≤ f ∧ f ≤ 8)
def fmtC (f : Nat) : Bool := decide (f ≤ 3)

/-- CCLK per row per weight block of a B format (Table 6). -/
def cprOf (f : Nat) : Nat := if f = 1 then 4 else if f = 6 ∨ f = 8 then 1 else 2

/-- The operands of a GEMM or CGEMM (Table 7) for the part at parcel n. -/
structure GemmOp where
  coded : Bool
  a : Nat
  b : Nat
  aux : Nat
  c : Nat
  astr : Nat
  cstr : Nat
  m : Nat
  n : Nat
  fa : Nat
  fb : Nat
  fc : Nat
  accum : Bool
  alphaEn : Bool
  prefetch : Bool
  rowEn : Bool
  ksplit : Nat
  kb : Nat
  alpha : Nat
  row : Nat
  deriving DecidableEq, Repr

def gemmOp (d : Desc) (n : Nat) : GemmOp :=
  { coded := d.opcode == 0x11, a := d.hold n 24, b := d.hold n 28,
    aux := if d.opcode == 0x10 && d.bits 49 7 4 == 1 then d.at 32 4 else d.hold n 32,
    c := d.hold n 36, astr := d.at 40 2, cstr := d.at 42 2, m := d.at 44 2, n := d.bits 46 19 0,
    fa := d.bits 49 3 0, fb := d.bits 49 7 4, fc := d.bits 50 3 0, accum := d.bit 50 4, alphaEn := d.bit 50 5,
    prefetch := d.bit 50 6, rowEn := d.bit 50 7, ksplit := d.bits 51 4 0, kb := d.bits 52 12 0, alpha := d.at 54 4,
    row := if d.bit 50 7 then d.hold n 58 else d.at 58 4 }

def GemmOp.nb (g : GemmOp) : Nat := ceilDiv g.n 128
def GemmOp.k (g : GemmOp) : Nat := 64 * g.kb
def GemmOp.aRow (g : GemmOp) : Nat := rowBytes g.fa g.k
def GemmOp.cRow (g : GemmOp) : Nat := rowBytes g.fc g.n
/-- The element plane and scale plane of an uncoded B, or the group index of a coded one. -/
def GemmOp.bRegions (g : GemmOp) : List Region :=
  if g.coded then [(g.aux, 8 * g.nb * g.kb)]
  else (g.b, g.nb * g.kb * 8192 * fmtWidth g.fb / 8) :: (if g.fb = 1 then [] else [(g.aux, g.nb * g.kb * 256)])
def GemmOp.cExtent (g : GemmOp) : Region := extentOf g.c g.cstr g.m g.cRow
def GemmOp.rowRegion (g : GemmOp) : List Region := if g.rowEn then [(g.row, 4 * g.m)] else []

/-- The checks of R89 that validation makes. -/
def GemmOp.ok (g : GemmOp) (n : Nat) : Bool :=
  fmtA g.fa && fmtB g.coded g.fb && fmtC g.fc
    && decide (g.m ≠ 0 ∧ g.n ≠ 0 ∧ g.kb ≠ 0 ∧ g.kb ≤ 4096 ∧ g.ksplit ≠ 0 ∧ g.ksplit ≤ 16 ∧ g.ksplit ≤ g.kb)
    && decide (g.aRow ≤ 16 * g.astr ∧ g.cRow ≤ 16 * g.cstr)
    && (decide (g.fc < 2) || (decide (g.n % 32 = 0) && !g.accum))
    && decide (g.a % 16 = 0 ∧ g.c % 16 = 0 ∧ g.aux % 16 = 0 ∧ g.b % 128 = 0)
    && (!g.rowEn || decide (g.row % 16 = 0)) && (g.coded || g.fb != 1 || decide (g.aux = 0))
    && inParcel n g.a && inParcel n g.b && inParcel n g.c && (!g.coded && g.fb == 1 || inParcel n g.aux)
    && (!g.rowEn || inParcel n g.row)
    && !(((extentOf g.a g.astr g.m g.aRow) :: g.bRegions ++ g.rowRegion).any (overlap g.cExtent))

def gemmFields : List (Nat × Nat × Nat) :=
  [(24, 31, 0), (28, 31, 0), (32, 31, 0), (36, 31, 0), (40, 15, 0), (42, 15, 0), (44, 15, 0), (46, 19, 0), (49, 7, 0),
   (50, 7, 0), (51, 4, 0), (52, 12, 0), (54, 31, 0), (58, 31, 0)]

/-! ## GEMV (R96) and NORM (R98) -/

structure GemvOp where
  x : Nat
  w : Nat
  y : Nat
  wstr : Nat
  k : Nat
  n : Nat
  fx : Nat
  fw : Nat
  fy : Nat
  accum : Bool
  deriving DecidableEq, Repr

def gemvOp (d : Desc) (n : Nat) : GemvOp :=
  { x := d.hold n 24, w := d.hold n 28, y := d.hold n 32, wstr := d.at 36 2, k := d.at 40 4, n := d.at 44 4,
    fx := d.bits 48 3 0, fw := d.bits 48 7 4, fy := d.bits 49 3 0, accum := d.bit 49 4 }

def GemvOp.xReg (g : GemvOp) : Region := (g.x, rowBytes g.fx g.k)
def GemvOp.wExtent (g : GemvOp) : Region := extentOf g.w g.wstr g.n (rowBytes g.fw g.k)
def GemvOp.yReg (g : GemvOp) : Region := (g.y, rowBytes g.fy g.n)

def GemvOp.ok (g : GemvOp) (n : Nat) : Bool :=
  decide (g.fx ≤ 1 ∧ g.fw ≤ 1 ∧ g.fy ≤ 1) && decide (1 ≤ g.k ∧ g.k ≤ 65536 ∧ 1 ≤ g.n ∧ g.n ≤ 65536)
    && decide (rowBytes g.fw g.k ≤ 16 * g.wstr) && decide (g.x % 16 = 0 ∧ g.w % 16 = 0 ∧ g.y % 16 = 0)
    && inParcel n g.x && inParcel n g.w && inParcel n g.y
    && !overlap g.yReg g.xReg && !overlap g.yReg g.wExtent

def gemvFields : List (Nat × Nat × Nat) :=
  [(24, 31, 0), (28, 31, 0), (32, 31, 0), (36, 15, 0), (40, 31, 0), (44, 31, 0), (48, 7, 0), (49, 4, 0)]

structure NormOp where
  x : Nat
  y : Nat
  g : Nat
  beta : Nat
  xstr : Nat
  ystr : Nat
  m : Nat
  db : Nat
  kind : Nat
  fx : Nat
  fg : Nat
  fy : Nat
  eps : Nat
  deriving DecidableEq, Repr

/-- The gain is in use except in RMS_SCALE, the bias in LAYER_APPLY only: only then REPL substitutes their parcel. -/
def normOp (d : Desc) (n : Nat) : NormOp :=
  let kind := d.bits 48 1 0
  { x := d.hold n 24, y := d.hold n 28, g := if kind = 1 then d.at 32 4 else d.hold n 32,
    beta := if kind = 2 then d.hold n 36 else d.at 36 4, xstr := d.at 40 2, ystr := d.at 42 2, m := d.at 44 2,
    db := d.bits 46 10 0, kind := kind, fx := d.bits 49 3 0, fg := d.bits 49 7 4, fy := d.bits 50 3 0, eps := d.at 52 4 }

def NormOp.d (g : NormOp) : Nat := 64 * g.db
def NormOp.xExtent (g : NormOp) : Region := extentOf g.x g.xstr g.m (rowBytes g.fx g.d)
/-- The rows of Y, or in RMS_SCALE its run of FP32 values. -/
def NormOp.yRows (g : NormOp) : List Region :=
  if g.kind = 1 then [(g.y, 4 * g.m)] else rowsAt g.y g.ystr g.m (rowBytes g.fy g.d)
def NormOp.yExtent (g : NormOp) : Region :=
  if g.kind = 1 then (g.y, 4 * g.m) else extentOf g.y g.ystr g.m (rowBytes g.fy g.d)
def NormOp.gRegions (g : NormOp) : List Region :=
  if g.kind = 1 then [] else (g.g, rowBytes g.fg g.d) :: (if g.kind = 2 then [(g.beta, rowBytes g.fg g.d)] else [])

def NormOp.ok (g : NormOp) (n : Nat) : Bool :=
  decide (g.kind ≤ 2) && decide (g.fx ≤ 1 ∧ g.fg ≤ 1 ∧ g.fy ≤ 2) && decide (1 ≤ g.m ∧ 1 ≤ g.db ∧ g.db ≤ 1024)
    && decide (rowBytes g.fx g.d ≤ 16 * g.xstr) && decide (g.x % 16 = 0 ∧ g.y % 16 = 0)
    && inParcel n g.x && inParcel n g.y
    && (if g.kind = 1 then decide (g.ystr = 0 ∧ g.g = 0 ∧ g.beta = 0 ∧ g.fy = 0)
        else decide (rowBytes g.fy g.d ≤ 16 * g.ystr) && decide (g.g % 16 = 0) && inParcel n g.g
          && (if g.kind = 2 then decide (g.beta % 16 = 0) && inParcel n g.beta else decide (g.beta = 0)))
    && !((g.xExtent :: g.gRegions).any (overlap g.yExtent))

def normFields : List (Nat × Nat × Nat) :=
  [(24, 31, 0), (28, 31, 0), (32, 31, 0), (36, 31, 0), (40, 15, 0), (42, 15, 0), (44, 15, 0), (46, 10, 0), (48, 1, 0),
   (49, 7, 0), (50, 3, 0), (52, 31, 0)]

/-! ## COPY (R100) and FXFER (R102) -/

structure CopyOp where
  src : Nat
  dst : Nat
  len : Nat
  sk : Nat
  zero : Bool
  dk : Nat
  deriving DecidableEq, Repr

/-- With REPL the parcel of a hold address becomes n (R75). -/
def copySub (d : Desc) (n kind o : Nat) : Nat :=
  if d.repl && kind == 0 then d.at o 8 / 2 ^ 32 * 2 ^ 32 + n * 2 ^ 28 + d.at o 8 % 2 ^ 28 else d.at o 8

def copyOp (d : Desc) (n : Nat) : CopyOp :=
  let zero := d.bit 44 3
  { src := if zero then 0 else copySub d n (d.bits 44 2 0) 24, dst := copySub d n (d.bits 44 6 4) 32, len := d.at 40 4,
    sk := if zero then 0 else d.bits 44 2 0, zero := zero, dk := d.bits 44 6 4 }

def CopyOp.ok (c : CopyOp) : Bool :=
  decide (1 ≤ c.len ∧ c.len ≤ 2 ^ 30) && decide (c.dk ≤ 3) && (c.dk != 0 || decide (c.dst < 2 ^ 32))
    && (if c.zero then decide (c.dk ≤ 1)
        else decide (c.sk ≤ 3) && (c.sk != 0 || decide (c.src < 2 ^ 32)) && decide (c.sk ≤ 1 ∨ c.dk ≤ 1)
          && !(c.sk == c.dk && overlap (c.src, c.len) (c.dst, c.len)))

def copyFields : List (Nat × Nat × Nat) := [(24, 63, 0), (32, 63, 0), (40, 31, 0), (44, 6, 0)]

structure FxOp where
  src : Nat
  dst : Nat
  len : Nat
  station : Nat
  ctx : Nat
  deriving DecidableEq, Repr

def fxOp (d : Desc) (n : Nat) : FxOp :=
  { src := d.hold n 24, dst := d.at 28 4, len := d.at 32 4, station := d.at 36 3, ctx := d.bits 40 11 0 }

def FxOp.ok (f : FxOp) (n : Nat) : Bool :=
  decide (1 ≤ f.len ∧ f.len ≤ 2 ^ 24 ∧ f.len % 32 = 0) && inParcel n f.src
    && decide (f.dst / 2 ^ 28 = f.station / 16 % 16)

def fxFields : List (Nat × Nat × Nat) := [(24, 31, 0), (28, 31, 0), (32, 31, 0), (36, 23, 0), (40, 11, 0)]

/-! ## MARK (R84) -/

def markFields : List (Nat × Nat × Nat) := [(24, 1, 0), (25, 4, 0), (28, 31, 0)]

/-! ## VLOAD (R121) and VRUN (R122) -/

structure VloadOp where
  slot : Nat
  shared : Bool
  free : Bool
  tag : Nat
  src : Nat
  words : Nat
  deriving DecidableEq, Repr

def vloadOp (d : Desc) (n : Nat) : VloadOp :=
  { slot := d.bits 24 1 0, shared := d.bit 24 2, free := d.bit 24 3, tag := d.at 26 2,
    src := if d.bit 24 3 then d.at 28 4 else d.hold n 28, words := d.bits 32 10 0 }

def VloadOp.ok (v : VloadOp) (n : Nat) : Bool :=
  decide (v.src % 128 = 0)
    && (if v.free then decide (v.tag = 0 ∧ v.words = 0)
        else decide (v.tag ≠ 0 ∧ 5 ≤ v.words ∧ v.words ≤ 1024) && inParcel n v.src)

def vloadFields : List (Nat × Nat × Nat) := [(24, 3, 0), (26, 15, 0), (28, 31, 0), (32, 10, 0)]

structure VrunOp where
  slot : Nat
  entry : Nat
  tag : Nat
  rd : Region
  wr : Region
  limit : Nat
  est : Nat
  deriving DecidableEq, Repr

def vrunOp (d : Desc) (n : Nat) : VrunOp :=
  { slot := d.bits 24 1 0, entry := d.bits 25 3 0, tag := d.at 26 2,
    rd := (if d.at 32 4 = 0 then d.at 28 4 else d.hold n 28, d.at 32 4),
    wr := (if d.at 40 4 = 0 then d.at 36 4 else d.hold n 36, d.at 40 4), limit := d.at 60 2, est := d.at 62 2 }

/-- A VRUN window keeps R122. -/
def windowOk (n : Nat) (r : Region) : Bool :=
  decide (r.1 % 16 = 0 ∧ r.2 % 16 = 0)
    && (decide (r.2 = 0) || (inParcel n r.1 && decide (r.1 % 2 ^ 28 + r.2 ≤ 2 ^ 28)))

def VrunOp.ok (v : VrunOp) (n : Nat) : Bool := windowOk n v.rd && windowOk n v.wr && decide (v.limit ≠ 0)

/-- The operand words that SARG reads (Table 7): ARG0-ARG3, then the windows. -/
def sargWord (d : Desc) (n i : Nat) : Nat :=
  let v := vrunOp d n
  if i < 4 then d.at (44 + 4 * i) 4
  else if i = 4 then v.rd.1 else if i = 5 then v.rd.2 else if i = 6 then v.wr.1 else v.wr.2

def vrunFields : List (Nat × Nat × Nat) :=
  [(24, 1, 0), (25, 3, 0), (26, 15, 0), (28, 31, 0), (32, 31, 0), (36, 31, 0), (40, 31, 0), (44, 127, 0), (60, 15, 0),
   (62, 15, 0)]

/-! ## ATTN (R136, R137), ATTN_MERGE (R141), KV_APPEND (R143), KV_COMMIT (R144) and KV_MOVE (R145) -/

/-- Head dimension of a code of Table 2. -/
def headDim (c : Nat) : Nat := 64 * 2 ^ c

structure AttnOp where
  q : Nat
  o : Nat
  stream : Nat
  qpos : Nat
  tmask : Nat
  m : Nat
  qpg : Nat
  mode : Nat
  tent : Bool
  qstr : Nat
  ostr : Nat
  scale : Nat
  window : Nat
  deriving DecidableEq, Repr

/-- Without TENT_EN there are no tree masks, and REPL leaves their address alone. -/
def attnOp (d : Desc) (n : Nat) : AttnOp :=
  { q := d.hold n 24, o := d.hold n 28, stream := d.hold n 32, qpos := d.hold n 36,
    tmask := if d.bit 47 2 then d.hold n 40 else d.at 40 4, m := d.bits 44 10 0, qpg := d.bits 46 4 0,
    mode := d.bits 47 1 0, tent := d.bit 47 2, qstr := d.at 48 2, ostr := d.at 50 2, scale := d.at 52 4,
    window := d.bits 56 21 0 }

/-- Query records. -/
def AttnOp.recs (a : AttnOp) : Nat := a.m * a.qpg

/-- The checks of R137 that need no stream record. -/
def AttnOp.ok (a : AttnOp) (spec : Bool) (n : Nat) : Bool :=
  decide (1 ≤ a.m ∧ a.m ≤ 1024 ∧ 1 ≤ a.qpg ∧ a.qpg ≤ 16 ∧ a.recs ≤ 1024 ∧ a.mode ≠ 3 ∧ a.window ≤ 2097152)
    && (!a.tent || (spec && decide (a.m ≤ 64))) && (a.tent || decide (a.tmask = 0))
    && decide (a.q % 16 = 0 ∧ a.o % 16 = 0 ∧ a.stream % 64 = 0 ∧ a.qpos % 16 = 0 ∧ a.tmask % 16 = 0)
    && (a.mode != 2 || decide (a.ostr = 0))
    && inParcel n a.q && inParcel n a.o && inParcel n a.stream && inParcel n a.qpos && (!a.tent || inParcel n a.tmask)

def attnFields : List (Nat × Nat × Nat) :=
  [(24, 159, 0), (44, 10, 0), (46, 4, 0), (47, 2, 0), (48, 31, 0), (52, 31, 0), (56, 21, 0)]

structure MergeOp where
  src : Nat
  o : Nat
  step : Nat
  r : Nat
  p : Nat
  mode : Nat
  hdc : Nat
  deriving DecidableEq, Repr

def mergeOp (d : Desc) (n : Nat) : MergeOp :=
  { src := d.hold n 24, o := d.hold n 28, step := d.at 32 4, r := d.bits 36 10 0, p := d.bits 38 5 0,
    mode := d.bits 39 1 0, hdc := d.bits 39 3 2 }

/-- Bytes of a partial record (R140), and of one output record. -/
def partialBytes (hd : Nat) : Nat := 4 * hd + 16
def outBytes (mode hd : Nat) : Nat := if mode = 2 then partialBytes hd else if mode = 1 then 4 * hd else 2 * hd

def MergeOp.array (g : MergeOp) (i : Nat) : Region := (g.src + i * g.step, g.r * partialBytes (headDim g.hdc))
def MergeOp.arrays (g : MergeOp) : List Region := (List.range g.p).map g.array
def MergeOp.out (g : MergeOp) : Region := (g.o, g.r * outBytes g.mode (headDim g.hdc))

def MergeOp.ok (g : MergeOp) (n : Nat) : Bool :=
  decide (1 ≤ g.r ∧ g.r ≤ 1024 ∧ 2 ≤ g.p ∧ g.p ≤ 32 ∧ g.mode ≠ 3 ∧ g.hdc ≠ 3 ∧ g.step % 16 = 0)
    && inParcel n g.src && inParcel n g.o && !(g.arrays.any (overlap g.out))

def mergeFields : List (Nat × Nat × Nat) := [(24, 31, 0), (28, 31, 0), (32, 31, 0), (36, 10, 0), (38, 5, 0), (39, 3, 0)]

structure AppendOp where
  src : Nat
  stream : Nat
  n : Nat
  stride : Nat
  fmt : Nat
  base : Nat
  deriving DecidableEq, Repr

def appendOp (d : Desc) (n : Nat) : AppendOp :=
  { src := d.hold n 24, stream := d.hold n 28, n := d.bits 32 6 0, stride := d.at 34 2, fmt := d.bits 36 3 0,
    base := d.bits 37 5 0 }

def AppendOp.ok (a : AppendOp) (spec : Bool) (n : Nat) : Bool :=
  decide (1 ≤ a.n ∧ a.n ≤ 64 ∧ a.base + a.n ≤ 64 ∧ a.fmt ≤ 1) && (spec || decide (a.base = 0))
    && decide (a.stream % 64 = 0) && inParcel n a.src && inParcel n a.stream

def appendFields : List (Nat × Nat × Nat) := [(24, 31, 0), (28, 31, 0), (32, 6, 0), (34, 15, 0), (36, 3, 0), (37, 5, 0)]

structure CommitOp where
  stream : Nat
  a : Nat
  epoch : Nat
  nodes : List Nat
  deriving DecidableEq, Repr

def commitOp (d : Desc) (n : Nat) : CommitOp :=
  { stream := d.hold n 24, a := d.bits 28 4 0, epoch := d.at 29 1,
    nodes := (List.range (d.bits 28 4 0)).map fun k => d.bits (32 + k) 5 0 }

/-- A list is strictly ascending. -/
def ascending : List Nat → Bool
  | a :: b :: r => decide (a < b) && ascending (b :: r)
  | _ => true

def CommitOp.ok (c : CommitOp) (d : Desc) (n : Nat) : Bool :=
  decide (c.a ≤ 16) && ascending c.nodes
    && ((List.range 16).all fun k => decide (k < c.a) || decide (d.bits (32 + k) 5 0 = 0))
    && decide (c.stream % 64 = 0) && inParcel n c.stream

def commitFields : List (Nat × Nat × Nat) :=
  [(24, 31, 0), (28, 4, 0), (29, 7, 0)] ++ (List.range 16).map fun k => (32 + k, 5, 0)

structure MoveOp where
  stream : Nat
  lo : Nat
  cnt : Nat
  action : Nat
  force : Bool
  arg : Nat
  deriving DecidableEq, Repr

/-- ARG_ADDR is in use with SET_FRAME and MIGRATE only. -/
def moveOp (d : Desc) (n : Nat) : MoveOp :=
  { stream := d.hold n 24, lo := d.at 28 2, cnt := d.at 30 2, action := d.bits 32 2 0, force := d.bit 32 3,
    arg := if d.bits 32 2 0 = 3 ∨ d.bits 32 2 0 = 4 then d.hold n 36 else d.at 36 4 }

def MoveOp.arg? (m : MoveOp) : Option Region :=
  if m.action = 3 then some (m.arg, 4 * m.cnt) else if m.action = 4 then some (m.arg, 16 * m.cnt) else none

def MoveOp.ok (m : MoveOp) (n : Nat) : Bool :=
  decide (m.cnt ≠ 0 ∧ m.cnt ≤ 32768 ∧ m.action ≤ 4 ∧ m.stream % 64 = 0) && inParcel n m.stream
    && (m.arg?.isNone || inParcel n m.arg)

def moveFields : List (Nat × Nat × Nat) := [(24, 31, 0), (28, 31, 0), (32, 3, 0), (36, 31, 0)]

/-! ## The gangway's operators (R156, R157, R159, R169, R173) -/

structure GwOpenOp where
  req : Nat
  param : Nat
  key : Nat
  tok : Nat
  pos : Nat
  hist : List Nat
  deriving DecidableEq, Repr

def gwOpenOp (d : Desc) (n : Nat) : GwOpenOp :=
  { req := d.bits 24 5 0, param := d.hold n 28, key := d.hold n 32, tok := d.at 36 4, pos := d.bits 40 20 0,
    hist := (List.range 4).map fun i => d.at (44 + 4 * i) 4 }

def GwOpenOp.ok (g : GwOpenOp) (n : Nat) : Bool :=
  decide (g.param % 16 = 0 ∧ g.key % 16 = 0) && inParcel n g.param && inParcel n g.key

def gwOpenFields : List (Nat × Nat × Nat) := [(24, 5, 0), (28, 31, 0), (32, 31, 0), (36, 31, 0), (40, 20, 0), (44, 127, 0)]

structure GwJoinOp where
  req : Nat
  leave : Bool
  home : Nat
  homeCtx : Nat
  nstreams : Nat
  streams : Nat
  plot : Nat
  plots : Nat
  deriving DecidableEq, Repr

def gwJoinOp (d : Desc) (n : Nat) : GwJoinOp :=
  { req := d.bits 24 5 0, leave := d.bit 24 6, home := d.at 25 3, homeCtx := d.bits 28 11 0, nstreams := d.bits 30 8 0,
    streams := if d.bit 24 6 || d.bits 30 8 0 == 0 then d.at 32 4 else d.hold n 32, plot := d.bits 36 6 0,
    plots := d.bits 37 5 0 }

def GwJoinOp.ok (g : GwJoinOp) (n : Nat) : Bool :=
  g.leave || (decide (g.nstreams ≤ 256 ∧ g.plots ≤ 32) && (g.nstreams == 0 || inParcel n g.streams))

def gwJoinFields : List (Nat × Nat × Nat) :=
  [(24, 6, 0), (25, 23, 0), (28, 11, 0), (30, 8, 0), (32, 31, 0), (36, 6, 0), (37, 5, 0)]

structure GwTreeOp where
  req : Nat
  useDraft : Bool
  useNgram : Bool
  useHost : Bool
  repair : Bool
  draftN : Nat
  hostN : Nat
  draft : Nat
  host : Nat
  out : Nat
  deriving DecidableEq, Repr

def gwTreeOp (d : Desc) (n : Nat) : GwTreeOp :=
  { req := d.bits 24 5 0, useDraft := d.bit 25 0, useNgram := d.bit 25 1, useHost := d.bit 25 2, repair := d.bit 25 3,
    draftN := d.bits 26 6 0, hostN := d.bits 27 6 0, draft := if d.bit 25 0 then d.hold n 28 else d.at 28 4,
    host := if d.bit 25 2 then d.hold n 32 else d.at 32 4, out := d.hold n 36 }

def GwTreeOp.ok (g : GwTreeOp) (n : Nat) : Bool :=
  (!g.repair || (!g.useDraft && !g.useNgram && !g.useHost)) && decide (g.draftN ≤ 64 ∧ g.hostN ≤ 64)
    && (!g.useDraft || (decide (g.draft % 16 = 0) && inParcel n g.draft))
    && (!g.useHost || (decide (g.host % 16 = 0) && inParcel n g.host))
    && decide (g.out % 128 = 0) && inParcel n g.out

def gwTreeFields : List (Nat × Nat × Nat) := [(24, 5, 0), (25, 3, 0), (26, 6, 0), (27, 6, 0), (28, 95, 0)]

structure GwAcceptOp where
  req : Nat
  tree : Nat
  logits : Nat
  stride : Nat
  result : Nat
  deriving DecidableEq, Repr

def gwAcceptOp (d : Desc) (n : Nat) : GwAcceptOp :=
  { req := d.bits 24 5 0, tree := d.hold n 28, logits := d.hold n 32, stride := d.bits 36 17 0, result := d.hold n 40 }

def GwAcceptOp.ok (g : GwAcceptOp) (n : Nat) : Bool :=
  decide (g.result % 128 = 0) && inParcel n g.tree && inParcel n g.logits && inParcel n g.result

def gwAcceptFields : List (Nat × Nat × Nat) := [(24, 5, 0), (28, 31, 0), (32, 31, 0), (36, 17, 0), (40, 31, 0)]

structure GwEndOp where
  req : Nat
  drain : Bool
  epoch : Nat
  report : Nat
  deriving DecidableEq, Repr

/-- GW_CLOSE has no report. -/
def gwEndOp (d : Desc) (n : Nat) : GwEndOp :=
  { req := d.bits 24 5 0, drain := d.bit 24 6, epoch := d.at 25 1,
    report := if d.opcode = 0x56 then d.at 28 4 else d.hold n 28 }

def GwEndOp.ok (g : GwEndOp) (close : Bool) (n : Nat) : Bool :=
  if close then decide (g.epoch = 0 ∧ g.report = 0) else inParcel n g.report

def gwEndFields : List (Nat × Nat × Nat) := [(24, 6, 0), (25, 7, 0), (28, 31, 0)]

/-! ## GROUP_SET and ALL_REDUCE (12_collectives, R294-R298) -/

structure GroupOp where
  gidx : Nat
  free : Bool
  nmemb : Nat
  list : Nat
  stage : Nat
  grid : Nat
  w : Nat
  deriving DecidableEq, Repr

def groupOp (d : Desc) (n : Nat) : GroupOp :=
  { gidx := d.bits 24 3 0, free := d.bit 24 4, nmemb := d.bits 26 10 0, list := d.hold n 28, stage := d.hold n 32,
    grid := d.bits 36 24 0, w := d.bits 40 3 0 }

/-- FREE takes no other field; a definition takes every field in its range. -/
def groupSetOk (d : Desc) (n : Nat) : Bool :=
  let g := groupOp d n
  if g.free then d.at 25 16 == 0
  else decide (1 ≤ g.nmemb ∧ g.nmemb ≤ 1024 ∧ 1 ≤ g.grid ∧ g.grid ≤ 16777216 ∧ 1 ≤ g.w ∧ g.w ≤ 12 ∧ g.list % 16 = 0
    ∧ g.stage % 128 = 0) && inParcel n g.list

def groupFields : List (Nat × Nat × Nat) :=
  [(24, 4, 0), (26, 10, 0), (28, 31, 0), (32, 31, 0), (36, 24, 0), (40, 3, 0)]

structure ReduceOp where
  gidx : Nat
  dtype : Nat
  outFp32 : Bool
  src : Nat
  dst : Nat
  count : Nat
  nout : Nat
  timeout : Nat
  deriving DecidableEq, Repr

def reduceOp (d : Desc) (n : Nat) : ReduceOp :=
  { gidx := d.bits 24 3 0, dtype := d.bits 25 1 0, outFp32 := d.bit 25 2, src := d.hold n 28, dst := d.hold n 32,
    count := d.bits 36 24 0, nout := if d.at 40 4 = 0 then 0 else d.hold n 40, timeout := d.at 44 2 }

/-- Bytes of an element as read, and as written (R297). -/
def ReduceOp.isz (r : ReduceOp) : Nat := if r.dtype = 1 then 2 else 4
def ReduceOp.osz (r : ReduceOp) : Nat := if r.dtype = 1 && !r.outFp32 then 2 else 4
def ReduceOp.srcReg (r : ReduceOp) : Region := (r.src, r.count * r.isz)
def ReduceOp.dstReg (r : ReduceOp) (grid : Nat) : Region := (r.dst, grid * r.osz)
def ReduceOp.noutReg (r : ReduceOp) : List Region := if r.nout = 0 then [] else [(r.nout, 4)]

/-- A region lies in parcel n. -/
def regionIn (n : Nat) (r : Region) : Bool := inParcel n r.1 && decide (r.1 % 2 ^ 28 + r.2 ≤ 0x0C000000)

/-- The local checks of R298 against the member record's GRID and staging area. -/
def ReduceOp.ok (r : ReduceOp) (n grid : Nat) (stage : Region) : Bool :=
  decide (r.count ≤ grid ∧ r.dtype ≤ 2) && (!r.outFp32 || r.dtype == 1)
    && decide (r.src % 16 = 0 ∧ r.dst % 16 = 0 ∧ r.nout % 4 = 0)
    && regionIn n r.srcReg && regionIn n (r.dstReg grid) && r.noutReg.all (regionIn n)
    && (!overlap (r.dstReg grid) r.srcReg || (r.dst == r.src && r.isz == r.osz))
    && !(stage :: r.noutReg).any (overlap (r.dstReg grid))

def reduceFields : List (Nat × Nat × Nat) :=
  [(24, 3, 0), (25, 2, 0), (28, 31, 0), (32, 31, 0), (36, 24, 0), (40, 31, 0), (44, 15, 0)]

/-! ## Validation (R74, R129, R154, R155, R293) -/

/-- What an opcode takes: its operand fields, whether SPEC may be set (none: it may be either), and the checks of the
part at parcel n that need no data. -/
structure OpForm where
  fields : List (Nat × Nat × Nat)
  spec : Option Bool := none
  ok : Desc → Nat → Bool := fun _ _ => true

/-- The opcodes (Table 3, and the tables of the other chapters); none is an opcode that is not listed. -/
def opForm (op : Nat) : Option OpForm :=
  match op with
  | 0x00 => some { fields := [] }
  | 0x01 => some { fields := markFields, ok := fun d _ => decide (d.bits 24 1 0 ≤ 2) }
  | 0x02 => some { fields := [] }
  | 0x10 => some { fields := gemmFields, ok := fun d n => (gemmOp d n).ok n }
  | 0x11 => some { fields := gemmFields, ok := fun d n => (gemmOp d n).ok n }
  | 0x12 => some { fields := gemvFields, ok := fun d n => (gemvOp d n).ok n }
  | 0x18 => some { fields := normFields, ok := fun d n => (normOp d n).ok n }
  | 0x20 => some { fields := copyFields, ok := fun d n => (copyOp d n).ok }
  | 0x21 => some { fields := fxFields, ok := fun d n => (fxOp d n).ok n }
  | 0x30 => some { fields := vloadFields, ok := fun d n => (vloadOp d n).ok n }
  | 0x31 => some { fields := vrunFields, ok := fun d n => (vrunOp d n).ok n }
  | 0x40 => some { fields := attnFields, ok := fun d n => (attnOp d n).ok d.spec n }
  | 0x41 => some { fields := mergeFields, ok := fun d n => (mergeOp d n).ok n }
  | 0x42 => some { fields := appendFields, ok := fun d n => (appendOp d n).ok d.spec n }
  | 0x43 => some { fields := commitFields, spec := some false, ok := fun d n => (commitOp d n).ok d n }
  | 0x44 => some { fields := moveFields, spec := some false, ok := fun d n => (moveOp d n).ok n }
  | 0x50 => some { fields := gwOpenFields, spec := some false, ok := fun d n => (gwOpenOp d n).ok n }
  | 0x51 => some { fields := gwJoinFields, spec := some false, ok := fun d n => (gwJoinOp d n).ok n }
  | 0x52 => some { fields := gwTreeFields, spec := some true, ok := fun d n => (gwTreeOp d n).ok n }
  | 0x53 => some { fields := gwAcceptFields, spec := some true, ok := fun d n => (gwAcceptOp d n).ok n }
  | 0x54 => some { fields := gwEndFields, spec := some false, ok := fun d n => (gwEndOp d n).ok false n }
  | 0x55 => some { fields := gwEndFields, spec := some false, ok := fun d n => (gwEndOp d n).ok false n }
  | 0x56 => some { fields := gwEndFields, spec := some false, ok := fun d n => (gwEndOp d n).ok true n }
  | 0x60 => some { fields := groupFields, spec := some false, ok := fun d n => groupSetOk d n }
  | 0x61 => some { fields := reduceFields }
  | _ => none

/-- The signal fields of the header (R74). -/
def Desc.sigOk (d : Desc) (ctxMask : Nat) : Bool :=
  d.sigRemote || (decide (d.sigStation / 256 = 0 ∧ d.sigStation % 16 = 0 ∧ d.sigContext = 0)
    && (!d.sigEn || bitAt ctxMask (d.sigStation / 16)))

/-- The home sequencer finds a descriptor valid: R74 and, for SPEC = 1, R155; `joined` says where the context is joined
to a request. -/
def Desc.valid (d : Desc) (ctxMask : Nat) (joined : Nat → Bool) : Bool :=
  match opForm d.opcode with
  | none => false
  | some f =>
    let parcels := setBits d.mask 12
    d.reservedZero (headerFields ++ f.fields) && decide (d.energyClass < 8)
      && decide (d.mask ≠ 0) && parcels.all (bitAt ctxMask)
      && (d.repl || decide (parcels.length ≤ 1) || d.opcode == 1 || d.opcode == 2)
      && (d.spec || d.epoch == 0) && d.sigOk ctxMask
      && (!d.spec || (decide (d.epoch ≠ 0) && parcels.all joined))
      && (f.spec.isNone || f.spec == some d.spec) && parcels.all (f.ok d)

end Sys2Proof.Machine
end

