-- ==== Sys2Proof/Machine/CollCore.lean ====
section
/-! DEFINITION. The collective engine's records, legs and aborts (12_collectives): which leg a member belongs to, how a
leg ends its members, and the members whose part ended elsewhere. -/

namespace Sys2Proof.Machine

/-! ## Records and legs -/

/-- The key of a member record. -/
def groupKey (n c g : Nat) : Nat := (n * 4096 + c) * 16 + g

def State.group (s : State) (key : Nat) : Option GroupRec := amGet s.coll.groups key
def State.setGroup (s : State) (key : Nat) (g : Option GroupRec) : State :=
  { s with coll := { s.coll with groups := amPut s.coll.groups key g } }

/-- Legs of a group, the ranks of a leg, and its size (R294). -/
def GroupRec.legs (g : GroupRec) : Nat := ceilDiv g.members.length g.w
def GroupRec.legSize (g : GroupRec) (t : Nat) : Nat := min g.w (g.members.length - g.w * t)
def GroupRec.member (g : GroupRec) (r : Nat) : Nat × Nat := g.members.getD r (0, 0)

/-- The rank and the leg of a station. -/
def GroupRec.rankOf (g : GroupRec) (station : Nat) : Option Nat := g.members.findIdx? fun m => m.1 == station
def GroupRec.legOf (g : GroupRec) (station : Nat) : Option Nat := (g.rankOf station).map (· / g.w)

/-- The parcel of a station. -/
def parcelOf (station : Nat) : Nat := station / 16 % 16

/-- The record key of rank r, a member on this device, for a group index. -/
def GroupRec.keyOf (g : GroupRec) (r gidx : Nat) : Nat := groupKey (parcelOf (g.member r).1) (g.member r).2 gidx

/-- Slice t of the grid: its first element and the element after its last (R301). -/
def GroupRec.sliceLo (g : GroupRec) (t : Nat) : Nat := t * g.grid / g.legs
def GroupRec.sliceHi (g : GroupRec) (t : Nat) : Nat := (t + 1) * g.grid / g.legs

/-- The length of a run of slice t: member j stages run j. -/
def GroupRec.runLen (g : GroupRec) (t : Nat) : Nat := ceilDiv (g.sliceHi t - g.sliceLo t) (g.legSize t)

/-- The bytes of one staging buffer, and of the staging area, at a member of leg t (R295). -/
def GroupRec.bufBytes (g : GroupRec) (t : Nat) : Nat := 4 * g.legs * ceilDiv (ceilDiv g.grid g.legs) (g.legSize t)
def GroupRec.stageReg (g : GroupRec) (t : Nat) : Region := (g.stage, 2 * g.bufBytes t)

/-! ## Operations -/

/-- The operation of leg t with an OP_SEQ; none yet is an empty one. -/
def opKey (g : GroupRec) (t gidx seq : Nat) : Nat := g.keyOf (g.w * t) gidx * 2 + seq % 2
def State.legOp (s : State) (g : GroupRec) (t gidx seq : Nat) : LegOp :=
  match amGet s.coll.ops (opKey g t gidx seq) with
  | some o => if o.seq = seq then o else { seq := seq }
  | none => { seq := seq }
def State.putOp (s : State) (g : GroupRec) (t gidx seq : Nat) (o : Option LegOp) : State :=
  { s with coll := { s.coll with ops := amPut s.coll.ops (opKey g t gidx seq) o } }

/-- The operation after. -/
def nextSeq (q : Nat) : Nat := (q + 1) % 2 ^ 32

/-- The collective engine has accounted for a part. -/
def State.collMark (s : State) (id n : Nat) : State :=
  { s with seq := { s.seq with descs := s.seq.descs.map fun d =>
      if d.id = id then { d with collDone := d.collDone ++ [n] } else d } }

/-- An operation of a member has ended: OP_SEQ advances, and an abort held for it is gone (R306). -/
def State.advanceSeq (s : State) (key : Nat) : State :=
  match s.group key with
  | some g => s.setGroup key (some { g with
      opSeq := nextSeq g.opSeq, aborts := g.aborts.filter fun a => !(a.seq == g.opSeq) })
  | none => s

/-- The abort record of the device takes the first abort that is applied (R307). -/
def State.recordAbort (s : State) (g : GroupRec) (a : CollAbort) (fn status : Nat) : State :=
  if s.fld F.COL_ABORT_INFO_VALID = 1 then s
  else
    let info := 1 + 2 * (a.cause % 8) + 256 * (status % 256) + 65536 * (fn % 1024)
    (((s.setRd Reg.COL_ABORT_INFO (BitVec.ofNat 32 info)).setFld F.COL_ABORT_TAG_LO_OP_SEQ a.seq).setFld
      F.COL_ABORT_TAG_HI_DIGEST g.digest).setFld F.COL_ABORT_ORIGIN_STATION a.origin

/-- Apply an abort to a member whose part of descriptor id has started, or starts now. -/
def State.applyAbort (s : State) (key : Nat) (g : GroupRec) (id : Nat) (a : CollAbort) : State :=
  let n := key / 65536
  let s1 := ((s.endPart n id a.status).collMark id n).advanceSeq key
  let s2 := if a.recvd then s1.setBit F.COL_EVENT_ABORT_RCVD else s1
  s2.recordAbort g a (s.ctxFn (key / 16 % 4096)) a.status

/-- What an abort does to rank r of a leg: a part that has started ends; an operation not started yet keeps the abort;
one that is over keeps its result (R306). -/
def State.abortRank (s : State) (o : LegOp) (gidx r : Nat) (a : CollAbort) (g : GroupRec) : State :=
  let key := g.keyOf r gidx
  match s.group key with
  | none => s
  | some m =>
    match amGet o.started r with
    | some id => if m.opSeq = a.seq then s.applyAbort key m id a else s
    | none =>
      if (m.opSeq = a.seq ∨ nextSeq m.opSeq = a.seq) ∧ !m.aborts.any (·.seq == a.seq) then
        s.setGroup key (some { m with aborts := m.aborts ++ [a] })
      else s

/-- End every member of leg t for an operation; `status` says what each rank ends with. -/
def State.abortLeg (s : State) (g : GroupRec) (t gidx seq cause origin : Nat) (recvd : Bool) (status : Nat → Nat) : State :=
  let o := s.legOp g t gidx seq
  let s1 := (List.range (g.legSize t)).foldl (fun s j =>
    let r := g.w * t + j
    s.abortRank o gidx r ⟨seq, cause, status r, origin, recvd⟩ g) s
  (s1.putOp g t gidx seq none).addSat F.COL_ABORTS_COUNT

/-- A collective packet from leg t of this device to rank r (R302). -/
def State.collPacket (s : State) (g : GroupRec) (t r gidx seq ptype kind addr : Nat) (payload : List Byte) : Packet :=
  let me := g.member (g.w * t)
  let you := g.member r
  { ptype := BitVec.ofNat 8 ptype, vc := 2, dst := BitVec.ofNat 24 you.1, src := BitVec.ofNat 24 me.1,
    dstCtx := BitVec.ofNat 12 you.2, srcCtx := BitVec.ofNat 12 me.2, jobTag := BitVec.ofNat 32 (s.ctxTag me.2),
    addr := BitVec.ofNat 32 addr, txn := BitVec.ofNat 16 seq, opx := BitVec.ofNat 8 (gidx + 16 * kind),
    payload := payload ++ List.replicate ((32 - payload.length % 32) % 32) 0#8 }

/-- The payload of an ABORT (Table 4): the tag, the cause and the originating station. -/
def abortBytes (digest seq cause origin : Nat) : List Byte :=
  leBytes 4 seq ++ leBytes 4 digest ++ leBytes 1 cause ++ leBytes 3 0 ++ leBytes 3 origin

/-- A leg that aborts tells every other leg and ends its own members (R305); in the safe state nothing is sent
(R382). -/
def State.legAbort (s : State) (g : GroupRec) (t gidx seq cause origin : Nat) (status : Nat → Nat) : State :=
  let others := (List.range g.legs).filter (· ≠ t)
  let s1 := if s.safe || others.isEmpty then s
    else others.foldl (fun s u =>
      s.sendAny (s.collPacket g t (g.w * u) gidx seq 0x11 1 0 (abortBytes g.digest seq cause origin)))
      (s.setBit F.COL_EVENT_ABORT_SENT)
  s1.abortLeg g t gidx seq cause origin false status

/-- What members other than the one that raised an abort end with (Table 6). -/
def abortStatus (cause : Nat) : Nat :=
  if cause = 2 ∨ cause = 3 then Status.ABORTED else Status.COLLECTIVE_TIMEOUT

/-- A member's part has ended with a status other than OK: the operation it was for is over at this member, and every
other member is told, unless an abort of it was already held (R305, R306). -/
def State.collFailed (s : State) (key id status : Nat) : State :=
  let n := key / 65536
  match s.group key with
  | none => s.collMark id n
  | some g =>
    let station := s.station n
    let seq := g.opSeq
    let heldNow := g.aborts.any (·.seq == seq)
    let s1 := (s.collMark id n).advanceSeq key
    match g.rankOf station with
    | none => s1
    | some r =>
      if heldNow then s1
      else
        let gidx := key % 16
        let t := r / g.w
        let s2 := s1.recordAbort g ⟨seq, 4, status, station, false⟩ (s.ctxFn (key / 16 % 4096)) status
        s2.legAbort g t gidx seq 4 station fun _ => Status.COLLECTIVE_TIMEOUT

/-- Members whose part ended outside the engine: fenced, stopped, refused a lease, aborted by a mark (Table 6). -/
def State.collSweep (s : State) : State :=
  let failed := s.seq.descs.flatMap fun d =>
    if d.opcode ≠ 0x61 then [] else d.parts.filterMap fun p =>
      match p.st with
      | .ended st => if st ≠ Status.OK ∧ !d.collDone.contains p.parcel then
          some (groupKey p.parcel d.ctx (reduceOp d p.parcel).gidx, d.id, st) else none
      | _ => none
  failed.foldl (fun s f => s.collFailed f.1 f.2.1 f.2.2) s

/-- Every member of a leg ends with one status, as a member that failed does (R305). -/
def State.legFailed (s : State) (g : GroupRec) (t gidx seq status : Nat) : State :=
  s.legAbort g t gidx seq 4 (g.member (g.w * t)).1 fun _ => status

/-- A collective packet of this device was lost with its link (R259): UNREACHABLE at every member of its leg. -/
def State.collLost (s : State) (p : Packet) : State :=
  let gidx := p.opx.toNat % 16
  match s.group (groupKey (parcelOf p.src.toNat) p.srcCtx.toNat gidx) with
  | none => s
  | some g =>
    match g.legOf p.src.toNat with
    | some t => if g.opSeq % 65536 = p.txn.toNat then
        s.legFailed g t gidx g.opSeq Status.UNREACHABLE else s
    | none => s

end Sys2Proof.Machine
end

