-- ==== Sys2Proof/Machine/Requests.lean ====
section
/-! DEFINITION. What answers a request of this device: a RESPONSE, a timeout or a packet lost with its link (R82, R83,
R103, R259, R286, R287), and the packets a receiver takes from the arrivals. -/

namespace Sys2Proof.Machine

/-- Take the first arrival equal to a packet out of the arrivals, where it stands there; work for a parcel that is down is
a wake event (R365). -/
def takeArrival : List (Option Nat × Packet) → Packet → List (Option Nat × Packet)
  | [], _ => []
  | (q, x) :: r, p => if x = p then r else (q, x) :: takeArrival r p
def State.takePacket (s : State) (p : Packet) : State :=
  let s1 := { s with inbox := takeArrival s.inbox p }
  let work := p.ptype == 0x01 || p.ptype == 0x02 || p.ptype == 0x03 || p.ptype == 0x10 || p.ptype == 0x11
  if work ∧ s.fld F.PWR_STATUS_STATE ≠ 0 then s1.wakeEvent 3 else s1

/-- The key of an FXFER in the tables of its transfer. -/
def fxKey (id parcel : Nat) : Nat := id * 16 + parcel

/-- Record the status an FXFER's packet was answered with: the first failure answered stands (R103). -/
def State.fxAnswer (s : State) (id parcel st : Nat) : State :=
  let old := (amGet s.seq.fxStatus (fxKey id parcel)).getD Status.OK
  { s with seq := { s.seq with
      fxStatus := amSet s.seq.fxStatus (fxKey id parcel) (if old = Status.OK then st else old) } }

/-- An FXFER whose packets have all been sent and answered ends its part (R103). -/
def State.fxFinish (s : State) (id parcel : Nat) : State :=
  let waiting := s.seq.reqs.any fun r => r.desc == id && r.parcel == parcel && r.packet.ptype == 0x01
  if waiting || (amGet s.seq.fxNext (fxKey id parcel)).isSome then s
  else match amGet s.seq.fxStatus (fxKey id parcel) with
    | some st =>
      let s1 := s.endPart parcel id st
      { s1 with seq := { s1.seq with fxStatus := amDel s1.seq.fxStatus (fxKey id parcel) } }
    | none => s

/-- Settle the outstanding request with a transaction number: its window bytes come back, and its status goes to the
transfer or the signal it belongs to. A notice of the gangway is left to the gangway. -/
def State.settle (s : State) (r : OutReq) (st : Nat) : State :=
  let s1 := { s with seq := { s.seq with reqs := s.seq.reqs.filter fun x => !(x.txn == r.txn) } }
  let s2 := s1.winGive r.parcel r.packet
  if r.packet.ptype = 0x01 then (s2.fxAnswer r.desc r.parcel st).fxFinish r.desc r.parcel
  else if r.packet.ptype = 0x02 then
    { s2 with seq := { s2.seq with descs := s2.seq.descs.map fun d =>
        if d.id = r.desc then { d with sigAns := some st } else d } }
  else s2

/-- A packet of this device that was lost with its link (R259): its request ends UNREACHABLE. A lost notice is answered
to the gangway as UNREACHABLE. -/
def State.lostPacket (s : State) (p : Packet) : State :=
  if p.ptype = 0x10 ∨ p.ptype = 0x11 then s.collLost p
  else match s.seq.reqs.find? fun r => r.packet.ptype == p.ptype && r.txn == p.txn.toNat with
  | some r =>
    if p.ptype = 0x03 then { s with inbox := s.inbox ++ [(none, responseTo p Status.UNREACHABLE)] }
    else s.settle r Status.UNREACHABLE
  | none => s

/-- A packet that cannot be routed or delivered (R282): counted; a WRITE, SIGNAL or GW_NOTICE is answered UNREACHABLE;
any other is dropped. -/
def State.unroutable (s : State) (p : Packet) : State :=
  let s1 := s.addSat F.FAB_UNREACH_COUNT
  if p.ptype = 0x01 ∨ p.ptype = 0x02 ∨ p.ptype = 0x03 then s1.sendAny (responseTo p Status.UNREACHABLE) else s1

end Sys2Proof.Machine
end

