-- ==== Sys2Proof/Machine/Engine.lean ====
section
/-! DEFINITION. What every engine's part goes through: ownership before the first access, waiting for a plot that is
being cleared, errors met by its reads, poison in its destination, and its end (R32, R34, R43-R45, R48). -/

namespace Sys2Proof.Machine

/-- Poison a list of regions (R45). -/
def State.poisonAll (s : State) (l : List Region) : State := l.foldl (fun s r => s.poison r.1 r.2) s

/-- A word error lies in one of the regions. -/
def errIn (l : List Region) (e : WordErr) : Bool :=
  l.any fun r => decide (r.1 < e.addr / 16 * 16 + 16 ∧ e.addr / 16 * 16 < r.1 + r.2)

/-- The hold errors that a part's reads of some regions find: handled, and whether every region is clean. -/
def State.readAll (s : State) (errs : List WordErr) (l : List Region) (cls : Nat) (d : Desc) : Bool × State :=
  let fn := s.ctxFn d.ctx
  let s1 := s.holdErrors (errs.filter (errIn l)) cls false fn (some (s.attrOf d))
  (l.all fun r => !s1.poisonedIn r.1 r.2, s1)

/-- Write rows in order: the answer says whether every write was taken (R44). -/
def State.writeRows (s : State) : List (Nat × List Byte) → Bool × State
  | [] => (true, s)
  | (a, b) :: r =>
    let x := s.holdPut a b
    if x.1 then x.2.writeRows r else (false, x.2)

/-- A part ends HOLD_UNCORRECTABLE and its destination region is poisoned. -/
def State.endPoisoned (s : State) (n : Nat) (d : Desc) (dest : List Region) : State :=
  (s.poisonAll dest).endPart n d.id Status.HOLD_UNCORRECTABLE

/-- Run a part that reads and writes regions of the hold: it is refused where its function may not access a plot, waits
while a plot is being cleared, is poisoned by a bad word it reads, and otherwise does its work. -/
def State.runPart (s : State) (n : Nat) (d : Desc) (cls : Nat) (reads dest : List Region) (errs : List WordErr)
    (work : State → State) : State :=
  let w := s.who d
  if !(reads.all fun r => s.mayRead w r.1 r.2) || !(dest.all fun r => s.mayWrite w r.1 r.2) then
    s.endPart n d.id Status.ACCESS_VIOLATION
  else if (reads ++ dest).any fun r => s.clearingIn r.1 r.2 then s
  else
    let (clean, s1) := s.readAll errs reads cls d
    if clean then work s1 else s1.endPoisoned n d dest

/-- Write the rows of a result and end the part. -/
def State.finishRows (s : State) (n : Nat) (d : Desc) (dest : List Region) (rows : List (Nat × List Byte)) : State :=
  let (ok, s1) := s.writeRows rows
  if ok then s1.endPart n d.id Status.OK else s1.endPoisoned n d dest

/-- The running part of parcel n whose descriptor satisfies a test: what a command of an engine acts on. -/
def State.withPart (s : State) (n : Nat) (op : Desc → Bool) (k : Desc → State) : State :=
  match s.runningPart n op with
  | some d => k d
  | none => s

end Sys2Proof.Machine
end

