-- ==== Sys2Proof/Machine/NearFar.lean ====
section
/-! DEFINITION. The near tier and the far tier (08_memory_tiers): addresses, tracts, poison, scrub, retraining, the CXL
ports, and the operations that the transfer engines use over all the memories. -/

namespace Sys2Proof.Machine

/-! ## Addresses (R186) -/

/-- Bytes of a parcel's near tier. -/
def Fuses.nearSize (f : Fuses) : Nat := f.tracts * 2 ^ 30

/-- Near-tier addresses: parcel and offset. -/
def nearParcel (a : Nat) : Nat := a / 2 ^ 36
def nearOff (a : Nat) : Nat := a % 2 ^ 36

/-- Far-tier addresses: port and offset. -/
def farPort (a : Nat) : Nat := a / 2 ^ 39
def farOff (a : Nat) : Nat := a % 2 ^ 39

/-- Bytes in use on a port's expander. -/
def State.farSize (s : State) (q : Nat) : Nat := s.fld (F.FT_PORT_CAP_GIB q) * 2 ^ 30

/-- A range lies in the near tier of one parcel, or on one port, within the capacity in use. -/
def State.nearExists (s : State) (a len : Nat) : Bool :=
  decide (nearParcel a < 12) && decide (nearOff a + len ≤ s.fuses.nearSize)
def State.farExists (s : State) (a len : Nat) : Bool :=
  decide (farPort a < s.fuses.cxlPorts) && decide (farOff a + len ≤ s.farSize (farPort a))

/-! ## Tracts (R188) -/

/-- The register of the tract that holds an address of a kind (1 near, 2 far). -/
def tractReg (kind a : Nat) : Nat :=
  if kind = 1 then Reg.NT_TRACT_OWNER (nearParcel a) (nearOff a / 2 ^ 30)
  else Reg.FT_TRACT_OWNER (farPort a * 512 + farOff a / 2 ^ 30)

/-- The addresses where the tracts of a range begin. -/
def tractsOf (a len : Nat) : List Nat :=
  if len = 0 then [] else (List.range ((a + len - 1) / 2 ^ 30 + 1 - a / 2 ^ 30)).map fun i => (a / 2 ^ 30 + i) * 2 ^ 30

/-- A function may access every tract of a range. -/
def State.tractOk (s : State) (kind fn a len : Nat) (write : Bool) : Bool :=
  (tractsOf a len).all fun t =>
    let e := (s.rd (tractReg kind t)).toNat
    decide (e % 4 = 1) && (decide (bitsOf e 25 16 = fn) || (!write && bitAt e 2))

/-- A tract of the range is being cleared. -/
def State.tractClearing (s : State) (kind a len : Nat) : Bool :=
  (tractsOf a len).any fun t => bitAt (s.rd (tractReg kind t)).toNat 3

/-- A write of a tract's owner entry: as for plots, but KIND 2 and 3 are dropped. -/
def State.writeTract (s : State) (reg v : Nat) (ev : Fld) : State :=
  let (dropped, _, entry) := plotTransition (s.rd reg).toNat v
  if dropped then s.setBit ev else s.setRd reg (BitVec.ofNat 32 entry)

/-! ## The controllers -/

/-- A parcel's near-tier controllers. -/
def State.nearCtl (s : State) (n : Nat) : NearSt := (amGet s.tier.ctl n).getD {}
def State.setNearCtl (s : State) (n : Nat) (x : NearSt) : State :=
  { s with tier := { s.tier with ctl := amSet s.tier.ctl n x } }

/-- A CXL port. -/
def State.farCtl (s : State) (q : Nat) : FarSt := (amGet s.tier.ports q).getD {}
def State.setFarCtl (s : State) (q : Nat) (x : FarSt) : State :=
  { s with tier := { s.tier with ports := amSet s.tier.ports q x } }

/-- The near tier of a parcel is in service: trained, and no channel failed (R193). -/
def State.nearUp (s : State) (n : Nat) : Bool := s.fld (F.NT_STATUS_READY n) == 1

/-- A channel fails (R193): the parcel's near tier goes out of service, and the device is degraded. -/
def State.failChannel (s : State) (n c : Nat) : State :=
  let m := s.fld (F.NT_CH_FAILED_FAILED n)
  ((s.setFld (F.NT_CH_FAILED_FAILED n) (setBitsOf m c c 1)).setFld (F.NT_STATUS_READY n) 0).degrade F.FCU_SERVICE_NEAR
    (some n)

/-- The channel of a near-tier address (R187). -/
def State.nearChannel (s : State) (a : Nat) : Nat := nearOff a / 256 % s.fuses.channels

/-! ## Errors (R189, R191, R195) -/

/-- A corrected error: counted, and one event when the pass's errors reach the limit. -/
def State.nearCe (s : State) (n : Nat) : State :=
  let x := s.nearCtl n
  let reach := decide (x.ceSince + 1 ≥ s.fld (F.NT_CE_LIMIT_LIMIT n)) && !x.raised
  let s1 := (s.addSat (F.NT_CE_COUNT_COUNT n)).setNearCtl n
    { x with ceSince := x.ceSince + 1, raised := x.raised || reach }
  if reach then s1.raise (12 + n) 0 0 none else s1

/-- The error record, when none is held. -/
def State.recordNear (s : State) (n a fn : Nat) (scrub listed : Bool) : State :=
  if s.fld (F.NT_ERR_INFO_VALID n) = 1 then s
  else
    let s1 := (s.setRd64 (Reg.NT_ERR_ADDR_LO n) a).setBit (F.NT_ERR_INFO_VALID n)
    (((s1.setFld (F.NT_ERR_INFO_SCRUB n) (b2n scrub)).setFld (F.NT_ERR_INFO_RESET_LIST n) (b2n listed)).setFld
      (F.NT_ERR_INFO_CH n) (s.nearChannel a)).setFld (F.NT_ERR_INFO_FN n) fn

/-- An uncorrectable error: the word's poison bit, the count, the record and the event. -/
def State.nearUe (s : State) (a fn : Nat) (scrub : Bool) (at' : Option Attr) : State :=
  let w := a / 64 * 64
  let n := nearParcel a
  if s.tier.nearPoison.contains w then s
  else
    let s1 := { s with tier := { s.tier with nearPoison := setIns s.tier.nearPoison w } }
    ((s1.addSat (F.NT_UE_COUNT_COUNT n)).recordNear n w fn scrub false).raise (12 + n) (w % 2 ^ 32) 0 at'

/-- The near-tier errors that reads find. -/
def State.nearErrors (s : State) (errs : List WordErr) (fn : Nat) (scrub : Bool) (at' : Option Attr) : State :=
  errs.foldl (fun s e =>
    if !s.nearExists e.addr 1 then s
    else if e.uncorrectable then s.nearUe e.addr fn scrub at' else s.nearCe (nearParcel e.addr)) s

/-! ## All the memories: kind 0 hold, 1 near tier, 2 far tier (R100, R186) -/

/-- Bytes of a word that poison covers. -/
def granule (kind : Nat) : Nat := if kind = 0 then 16 else 64

/-- The granules that a range touches. -/
def granulesOf (kind a len : Nat) : List Nat :=
  let g := granule kind
  if len = 0 then [] else (List.range ((a + len - 1) / g + 1 - a / g)).map fun i => (a / g + i) * g

/-- The poisoned words of a memory. -/
def State.poisonOf (s : State) (kind : Nat) : List Nat :=
  if kind = 0 then s.holdPoison else if kind = 1 then s.tier.nearPoison else s.tier.farPoison

/-- Why an access of a function to a range fails before it starts: OK where it may go on. -/
def State.tierStatus (s : State) (kind : Nat) (w : Who) (a len : Nat) (write : Bool) : Nat :=
  let fn := w.fn
  if kind = 0 then
    (if (if write then s.mayWrite w a len else s.mayRead w a len) then Status.OK else Status.ACCESS_VIOLATION)
  else if kind = 1 then
    if !s.nearExists a len ∨ !s.tractOk 1 fn a len write then Status.ACCESS_VIOLATION
    else if !s.inService (nearParcel a) then Status.FENCED
    else if !s.nearUp (nearParcel a) then Status.NEAR_UNCORRECTABLE
    else Status.OK
  else if !s.farExists a len ∨ !s.tractOk 2 fn a len write then Status.ACCESS_VIOLATION
  else if s.fld (F.FT_PORT_STATE_STATE (farPort a)) ≠ 3 then Status.FAR_ERROR
  else if !write ∧ s.fld (F.FT_PORT_STATE_STALE (farPort a)) = 1 then Status.FAR_ERROR
  else Status.OK

/-- An access to the range waits for a clear. -/
def State.tierClearing (s : State) (kind a len : Nat) : Bool :=
  if kind = 0 then s.clearingIn a len else s.tractClearing kind a len

/-- The status of a bad word read from a memory. -/
def badStatus (kind : Nat) : Nat :=
  if kind = 0 then Status.HOLD_UNCORRECTABLE else if kind = 1 then Status.NEAR_UNCORRECTABLE else Status.FAR_ERROR

/-- Read bytes. -/
def State.tierRead (s : State) (kind a n : Nat) : List Byte :=
  if kind = 0 then s.holdGet a n else if kind = 1 then memRead s.tier.near a n else memRead s.tier.far a n

/-- The first poisoned word of a range. -/
def State.firstBad (s : State) (kind a len : Nat) : Option Nat :=
  (s.poisonOf kind).find? fun w => decide (a < w + granule kind ∧ w < a + len)

/-- The errors that the reads of a range find: hold errors, near-tier errors, or poisoned data from the expander, which
the port counts (R202). -/
def State.tierErrors (s : State) (kind a len : Nat) (errs terrs : List WordErr) (cls : Nat) (d : Desc) : State :=
  let fn := s.ctxFn d.ctx
  if kind = 0 then (s.readAll errs [(a, len)] cls d).2
  else
    let mine := terrs.filter fun e => decide (a ≤ e.addr / 64 * 64 + 63 ∧ e.addr / 64 * 64 < a + len)
    if kind = 1 then s.nearErrors mine fn false (some (s.attrOf d))
    else
      let bad := mine.filter (·.uncorrectable)
      let s1 := bad.foldl (fun s e => s.addSat (F.FT_PORT_POISON_COUNT_COUNT (farPort e.addr))) s
      { s1 with tier := { s1.tier with
          farPoison := bad.foldl (fun l e => setIns l (e.addr / 64 * 64)) s1.tier.farPoison } }

/-- Replace the poison of a memory, and its bytes. -/
def State.setPoison (s : State) (kind : Nat) (l : List Nat) : State :=
  if kind = 0 then { s with holdPoison := l }
  else if kind = 1 then { s with tier := { s.tier with nearPoison := l } }
  else { s with tier := { s.tier with farPoison := l } }
def State.putBytes (s : State) (kind a : Nat) (b : List Byte) : State :=
  if kind = 0 then { s with hold := memWrite s.hold a b }
  else if kind = 1 then { s with tier := { s.tier with near := memWrite s.tier.near a b } }
  else { s with tier := { s.tier with far := memWrite s.tier.far a b } }

/-- Write bytes: whole words become clean; at the first poisoned word written only in part the write is refused and
stops (R44, R190). -/
def State.tierWrite (s : State) (kind a : Nat) (bytes : List Byte) : Bool × State :=
  let g := granule kind
  let whole (n w : Nat) : Bool := decide (a ≤ w ∧ w + g ≤ a + n)
  match (granulesOf kind a bytes.length).find? fun w => (s.poisonOf kind).contains w && !whole bytes.length w with
  | none =>
    (true, (s.putBytes kind a bytes).setPoison kind ((s.poisonOf kind).filter fun w => !whole bytes.length w))
  | some w =>
    let n := w - a
    (false, (s.putBytes kind a (bytes.take n)).setPoison kind ((s.poisonOf kind).filter fun x => !whole n x))

/-- Poison every word that a range touches. -/
def State.tierPoison (s : State) (kind a len : Nat) : State :=
  s.setPoison kind ((granulesOf kind a len).foldl setIns (s.poisonOf kind))

/-! ## The commands of the near tier -/

/-- NT_TRACT_OWNER_WRITE (R188): under the RWL rule. -/
def execNtTractOwnerWrite (path : Path) (n : Parcel) (t : Fin 48) (value : Word) (s : State) :
    Host.Outcome State Fault Refusal :=
  .next (s.rwl path (Reg.NT_TRACT_OWNER n.val t.val) fun s =>
    s.writeTract (Reg.NT_TRACT_OWNER n.val t.val) value.toNat (F.NT_EVENT_OWNER_WRITE_DROPPED n.val))

/-- FT_TRACT_OWNER_WRITE (R188): under the RWL rule; on a port that is absent it does nothing (R6). -/
def execFtTractOwnerWrite (path : Path) (q : Fin 4) (t : Fin 512) (value : Word) (s : State) :
    Host.Outcome State Fault Refusal :=
  .next (if q.val < s.fuses.cxlPorts then
      s.rwl path (Reg.FT_TRACT_OWNER (q.val * 512 + t.val)) fun s =>
        s.writeTract (Reg.FT_TRACT_OWNER (q.val * 512 + t.val)) value.toNat (F.FT_PORT_EVENT_OWNER_WRITE_DROPPED q.val)
    else s)

/-- A tract's bytes become zero and clean, and CLEARING falls. -/
def State.clearTract (s : State) (kind base : Nat) : State :=
  let reg := tractReg kind base
  let v := (s.rd reg).toNat
  if bitAt v 3 then
    let keep (w : Nat) : Bool := decide (w < base ∨ base + 2 ^ 30 ≤ w)
    let s1 := s.setPoison kind ((s.poisonOf kind).filter keep)
    let t := s1.tier
    let t1 := if kind = 1 then { t with near := memClear t.near base (2 ^ 30) }
              else { t with far := memClear t.far base (2 ^ 30) }
    { s1 with tier := t1 }.setRd reg (BitVec.ofNat 32 (setBitsOf v 3 3 0))
  else s

/-- TRACT_CLEAR_DONE (R188): unit is the parcel of a near-tier tract or the port of a far-tier one. -/
def execTractClearDone (far : Bool) (unit : Fin 12) (t : Fin 512) (s : State) : Host.Outcome State Fault Refusal :=
  .next (if far then (if unit.val < s.fuses.cxlPorts then s.clearTract 2 (unit.val * 2 ^ 39 + t.val * 2 ^ 30) else s)
    else if t.val < 48 then s.clearTract 1 (unit.val * 2 ^ 36 + t.val * 2 ^ 30) else s)

/-- Words of a channel that patrol scrub reads in a pass (R191). -/
def channelWords : Nat := 25165824

/-- NT_SCRUB_STEP (R191): one word of every channel; the last word ends the pass. -/
def execNtScrubStep (n : Parcel) (terrs : List WordErr) (s : State) : Host.Outcome State Fault Refusal :=
  .next (if s.fld (F.NT_SCRUB_ENABLE n.val) = 0 ∨ !s.nearUp n.val then s
    else
      let s1 := s.nearErrors (terrs.filter fun e => nearParcel e.addr == n.val) 0 true none
      let x := s1.nearCtl n.val
      if x.word + 1 ≥ channelWords then s1.setNearCtl n.val { x with word := 0, ceSince := 0, raised := false }
      else s1.setNearCtl n.val { x with word := x.word + 1 })

/-- The parcels that use a stack (R184). -/
def Fuses.stackParcels (f : Fuses) (stack : Nat) : List Nat :=
  if f.stackCount = 12 then [stack] else if stack < 6 then [2 * stack, 2 * stack + 1] else []

/-- STACK_FAILURE (R192): an event on the source of every parcel that uses the stack. -/
def execStackFailure (stack : Fin 12) (s : State) : Host.Outcome State Fault Refusal :=
  .next ((s.fuses.stackParcels stack.val).foldl (fun s n => s.raise (12 + n) stack.val 0 none) s)

/-- A channel becomes due (R197). -/
def State.makeDue (s : State) (n c : Nat) : State :=
  let x := s.nearCtl n
  s.setNearCtl n { x with due := setIns x.due c }

/-- The margin check of one channel: the reading, the count of low readings, and whether it makes the channel due. -/
def State.checkMargin (s : State) (n c margin temp : Nat) : State :=
  let x := s.nearCtl n
  let low := if margin < s.fld (F.NT_RETRAIN_MARGIN_MIN n) then (amGet x.low c).getD 0 + 1 else 0
  let s1 := (s.setFld (F.NT_CH_TAG_MARGIN_NOW n c) margin).setNearCtl n { x with low := amSet x.low c low }
  let tag := s.fld (F.NT_CH_TAG_TEMP_C n c)
  let drift : Nat := (toSigned 8 temp - toSigned 8 tag).natAbs
  if s.fld (F.NT_RETRAIN_AUTO n) = 1 ∧
      (drift > s.fld (F.NT_RETRAIN_DRIFT_C n) ∨ low ≥ max 1 (s.fld (F.NT_RETRAIN_CHECKS n))) then
    s1.makeDue n c
  else s1

/-- The Toll receives a stack's temperature (R192, R332): above 95 degrees the parcels that use the stack are hot until
it falls to 90. -/
def State.stackTemp (s : State) (n : Nat) (c : Int) : State :=
  let ps := s.fuses.stackParcels (if s.fuses.stackCount = 12 then n else n / 2)
  if c > 95 then
    { s.setBit F.TOL_EVENT_STACK_HOT with tol := { s.tol with stackHot := ps.foldl setIns s.tol.stackHot } }
  else if c ≤ 90 then { s with tol := { s.tol with stackHot := ps.foldl setDel s.tol.stackHot } }
  else s

/-- NT_MARGIN_CHECK (R196, R197): the margins of the parcel's channels, lowest first, and the stack's temperature. -/
def execNtMarginCheck (n : Parcel) (margins : List Byte) (tempC : Byte) (s : State) :
    Host.Outcome State Fault Refusal :=
  .next (if !s.nearUp n.val then s
    else
      ((margins.take s.fuses.channels).mapIdx fun c m => (c, m.toNat)).foldl
        (fun s e => s.checkMargin n.val e.1 e.2 tempC.toNat)
        ((s.stackTemp n.val (toSigned 8 tempC.toNat)).setFld (F.NT_TEMP_STACK_C n.val) tempC.toNat))

/-- A write of NT_RETRAIN_REQ: GO makes CH due at once. -/
def State.writeRetrainReq (s : State) (n v : Nat) : State :=
  if bitAt v 8 ∧ v % 32 < s.fuses.channels then
    let s1 := s.makeDue n (v % 32)
    let x := s1.nearCtl n
    s1.setNearCtl n { x with backoff := amDel x.backoff (v % 32) }
  else s

/-- NT_RETRAIN_REQ (R197): under the RWL rule. -/
def execNtRetrainReq (path : Path) (n : Parcel) (value : Word) (s : State) : Host.Outcome State Fault Refusal :=
  .next (s.rwl path (Reg.NT_RETRAIN_REQ n.val) fun s => s.writeRetrainReq n.val value.toNat)

/-- NT_RETRAIN_START (R198): the lowest due channel outside its back-off, when none of the parcel retrains. -/
def execNtRetrainStart (n : Parcel) (s : State) : Host.Outcome State Fault Refusal :=
  .next (let x := s.nearCtl n.val
    if x.retrain.isSome ∨ !s.nearUp n.val then s
    else match x.due.find? fun c => decide ((amGet x.backoff c).getD 0 ≤ s.mclk) with
      | some c =>
        ((s.setNearCtl n.val { x with retrain := some (c, 0), sliceAt := s.mclk }).setBit
          (F.NT_STATUS_RETRAINING n.val)).setFld (F.NT_STATUS_RT_CH n.val) c
      | none => s)

/-- NT_RETRAIN_SLICE (R198): one slice, at least 20 us after the one before, at most 64 in all. -/
def execNtRetrainSlice (n : Parcel) (s : State) : Host.Outcome State Fault Refusal :=
  .next (let x := s.nearCtl n.val
    match x.retrain with
    | some (c, k) =>
      if k ≥ 64 then s
      else
        let s1 := if k = 0 then s else s.advanceTo (x.sliceAt + 20 * perUs)
        s1.setNearCtl n.val { x with retrain := some (c, k + 1), sliceAt := s1.mclk }
    | none => s)

/-- The tag of a training (R196). -/
def State.setTag (s : State) (n c temp load margin : Nat) : State :=
  (((s.setFld (F.NT_CH_TAG_TEMP_C n c) temp).setFld (F.NT_CH_TAG_LOAD n c) load).setFld (F.NT_CH_TAG_MARGIN n c)
    margin).setFld (F.NT_CH_TAG_MARGIN_NOW n c) margin

/-- NT_RETRAIN_DONE (R198): after its last slice a retrain succeeds with a new tag, or fails: the old values stay where
their margin is at least 1, with a back-off of 1 s; otherwise the channel fails. -/
def execNtRetrainDone (n : Parcel) (ok : Bool) (tempC : Byte) (load : Fin 4) (margin : Byte) (s : State) :
    Host.Outcome State Fault Refusal :=
  .next (let x := s.nearCtl n.val
    match x.retrain with
    | some (c, k) =>
      if k = 0 then s
      else
        let s1 := (s.setFld (F.NT_STATUS_RETRAINING n.val) 0).setFld (F.NT_STATUS_RT_CH n.val) 0
        if ok then
          ((s1.setNearCtl n.val { x with retrain := none, due := setDel x.due c, low := amDel x.low c }).setTag n.val c
            tempC.toNat load.val margin.toNat).addWrap (F.NT_RETRAIN_COUNT_COUNT n.val)
        else if s.fld (F.NT_CH_TAG_MARGIN_NOW n.val c) ≥ 1 then
          s1.setNearCtl n.val { x with retrain := none, backoff := amSet x.backoff c (s.mclk + 1000 * perMs) }
        else
          ((s1.setNearCtl n.val { x with retrain := none, due := setDel x.due c }).failChannel n.val c).setBit
            (F.NT_EVENT_RETRAIN_FAILED n.val)
    | none => s)

/-- Clear both error counts and the record (R204). -/
def State.clearNearErr (s : State) (n : Nat) : State :=
  (((s.setFld (F.NT_CE_COUNT_COUNT n) 0).setFld (F.NT_UE_COUNT_COUNT n) 0).setRd64 (Reg.NT_ERR_ADDR_LO n) 0).setRd
    (Reg.NT_ERR_INFO n) 0

/-- NT_ERR_CLR (R204): a write of 1, under the RWL rule. -/
def execNtErrClr (path : Path) (n : Parcel) (value : Word) (s : State) : Host.Outcome State Fault Refusal :=
  .next (s.rwl path (Reg.NT_ERR_CLR n.val) fun s => if bitAt value.toNat 0 then s.clearNearErr n.val else s)

/-- The poison list written at the return from a parcel reset (R195). -/
def State.writePoisonList (s : State) (n : Nat) (l : List Nat) : State :=
  let l1 := l.filter fun a => s.nearExists a 1 && nearParcel a == n
  let s1 := l1.foldl (fun s a =>
    (({ s with tier := { s.tier with nearPoison := setIns s.tier.nearPoison (a / 64 * 64) } }).addSat
      (F.NT_UE_COUNT_COUNT n)).recordNear n (a / 64 * 64) 0 false true) s
  if l1.isEmpty then s1 else s1.raise (12 + n) l1.length 0 none

/-- The stack that a parcel uses (R184). -/
def Fuses.stackOf (f : Fuses) (n : Nat) : Nat := if f.stackCount = 12 then n else n / 2

/-- The parcel's stack is trained and none of its channels has failed (R416). -/
def State.nearTrained (s : State) (n : Nat) : Bool :=
  s.fld F.BRU_STATUS_TRAIN != 0 && !s.bru.training.contains (s.fuses.stackOf n) && s.rd (Reg.NT_CH_FAILED n) == 0#32

/-- NT_RESET_RETURN (R194, R195): the channels of a returning parcel leave self-refresh and write their poison lists;
listed are the addresses whose write-queue data failed parity, lost the channels whose entries lost their address. -/
def execNtResetReturn (n : Parcel) (listed : List Nat) (lost : List (Fin 32)) (s : State) :
    Host.Outcome State Fault Refusal :=
  .next (if s.parcelState n.val = 4 ∧ !(s.rt n.val).nearReady then
      let s1 := lost.foldl (fun s c => if c.val < s.fuses.channels then s.failChannel n.val c.val else s)
        (s.writePoisonList n.val listed)
      let s2 := s1.setRt n.val { s1.rt n.val with nearReady := true }
      if s2.nearTrained n.val then s2.setBit (F.NT_STATUS_READY n.val) else s2
    else s)

/-! ## The commands of the far tier -/

/-- Parts of a descriptor that use a far-tier port: a running COPY part with a side there. -/
def Desc.usesPort (d : Desc) (q : Nat) : Bool :=
  d.opcode == 0x20 &&
    (let c := copyOp d 0
     (c.dk == 2 && farPort c.dst % 4 == q) || (!c.zero && c.sk == 2 && farPort c.src % 4 == q))

/-- Outstanding requests of a port fail: the running parts that use it end FAR_ERROR. -/
def State.failPort (s : State) (q : Nat) : State :=
  s.mapParts fun d p => if d.usesPort q && decide (p.st = .running) then p.fail Status.FAR_ERROR else p

/-- A port exists on this variant. -/
def State.farHere (s : State) (q : Nat) : Bool := decide (q < s.fuses.cxlPorts)

/-- Tracts beyond the capacity in use read RETIRED (R188). -/
def State.retireTracts (s : State) (q gib : Nat) : State :=
  (List.range 512).foldl (fun s t =>
    let f := F.FT_TRACT_OWNER_KIND (q * 512 + t)
    if gib ≤ t then s.setRd (Reg.FT_TRACT_OWNER (q * 512 + t)) 3#32
    else if s.fld f = 3 then s.setFld f 0 else s) s

/-- A port comes UP with a width and a speed. -/
def State.portUp (s : State) (q : Nat) (wide fast : Bool) : State :=
  ((s.setFld (F.FT_PORT_STATE_STATE q) 3).setFld (F.FT_PORT_STATE_WIDTH q) (if wide then 16 else 8)).setFld
    (F.FT_PORT_STATE_SPEED q) (if fast then 2 else 1)

/-- CXL_ENUMERATE (R200, R201): a port whose enumeration is due, once the I/O die logic is out of reset. With no device it
stays ABSENT; a device outside the subset is refused; otherwise the port comes UP, STALE where viral was seen. -/
def execCxlEnumerate (q : Fin 4) (dev : Option CxlDevice) (s : State) : Host.Outcome State Fault Refusal :=
  .next (let x := s.farCtl q.val
    if !s.farHere q.val ∨ !x.enumDue ∨ !s.up 5 ∨ s.inBlockReset (34 + q.val) then s
    else
      let s1 := s.setFarCtl q.val { x with enumDue := false, viralSeen := false, retrainAt := none }
      match dev with
      | none => s1.setFld (F.FT_PORT_STATE_STATE q.val) 0
      | some v =>
        if !v.supported then
          ((s1.setFld (F.FT_PORT_STATE_STATE q.val) 5).setBit (F.FT_PORT_EVENT_REFUSED q.val)).raise 57 q.val 0 none
        else
          let gib := min v.gib 512
          let s2 := ((s1.setFld (F.FT_PORT_CAP_GIB q.val) gib).setFld (F.FT_PORT_CAP_EXCESS q.val)
            (b2n (decide (512 < v.gib)))).retireTracts q.val gib
          (s2.portUp q.val v.wide v.fast).setFld (F.FT_PORT_STATE_STALE q.val)
            (if x.viralSeen then 1 else s2.fld (F.FT_PORT_STATE_STALE q.val)))

/-- A port's reset (R201, R202): outstanding requests fail, and the port is enumerated again. -/
def State.resetFarPort (s : State) (q : Nat) : State :=
  let x := s.farCtl q
  ((s.failPort q).setFarCtl q { x with enumDue := true, retrainAt := none }).setFld (F.FT_PORT_STATE_STATE q) 2

/-- FT_RESET (R202): FT_PORT_CTRL.RESET, under the RWL rule. -/
def execFtReset (path : Path) (q : Fin 4) (s : State) : Host.Outcome State Fault Refusal :=
  .next (if s.farHere q.val then s.rwl path (Reg.FT_PORT_CTRL q.val) fun s => s.resetFarPort q.val else s)

/-- ACCEPT_STALE (R202): FT_PORT_CTRL.ACCEPT_STALE, under the RWL rule. -/
def execAcceptStale (path : Path) (q : Fin 4) (s : State) : Host.Outcome State Fault Refusal :=
  .next (if s.farHere q.val then
      s.rwl path (Reg.FT_PORT_CTRL q.val) fun s => s.setFld (F.FT_PORT_STATE_STALE q.val) 0
    else s)

/-- FT_REQUEST_TIMEOUT (R202): a request of the COPY part that runs on parcel n is unanswered for FT_PORT_TIMEOUT. -/
def execFtRequestTimeout (q : Fin 4) (n : Parcel) (s : State) : Host.Outcome State Fault Refusal :=
  .next (s.withPart n.val (fun d => d.usesPort q.val) fun d =>
    ((s.addSat (F.FT_PORT_ERR_COUNT_COUNT q.val)).setBit (F.FT_PORT_EVENT_TIMEOUT q.val)).endPart n.val d.id
      Status.FAR_ERROR)

/-- CXL_VIRAL (R202): the port enters VIRAL; outstanding requests fail, and an event is raised on source 57. -/
def execCxlViral (q : Fin 4) (s : State) : Host.Outcome State Fault Refusal :=
  .next (let st := s.fld (F.FT_PORT_STATE_STATE q.val)
    if !s.farHere q.val ∨ !(st = 1 ∨ st = 3) then s
    else
      let s1 := (s.failPort q.val).setFarCtl q.val { s.farCtl q.val with viralSeen := true }
      ((s1.setFld (F.FT_PORT_STATE_STATE q.val) 4).setBit (F.FT_PORT_EVENT_VIRAL q.val)).raise 57 q.val 1 none)

/-- CXL_LINK_DOWN (R202): outstanding requests fail, and the port becomes DOWN (one in VIRAL stays there). -/
def execCxlLinkDown (q : Fin 4) (s : State) : Host.Outcome State Fault Refusal :=
  .next (if !s.farHere q.val ∨ s.fld (F.FT_PORT_STATE_STATE q.val) ≠ 3 then s
    else
      let s1 := (s.failPort q.val).setFarCtl q.val { s.farCtl q.val with retrainAt := some s.mclk }
      (((s1.setFld (F.FT_PORT_STATE_STATE q.val) 1).setFld (F.FT_PORT_STATE_WIDTH q.val) 0).setFld
        (F.FT_PORT_STATE_SPEED q.val) 0).setBit (F.FT_PORT_EVENT_LINK_DOWN q.val) |>.addSat
          (F.FT_PORT_ERR_COUNT_COUNT q.val))

/-- CXL_LINK_RETRAIN (R202): an attempt of a DOWN port, at most every 100 ms. -/
def execCxlLinkRetrain (q : Fin 4) (ok : Bool) (wide : Bool) (fast : Bool) (s : State) :
    Host.Outcome State Fault Refusal :=
  .next (if !s.farHere q.val ∨ s.fld (F.FT_PORT_STATE_STATE q.val) ≠ 1 then s
    else s.atDeadline (s.farCtl q.val).retrainAt fun s =>
      if ok then (s.portUp q.val wide fast).setFarCtl q.val { s.farCtl q.val with retrainAt := none }
      else s.setFarCtl q.val { s.farCtl q.val with retrainAt := some (s.mclk + 100 * perMs) })

/-- FT_PORT_RTT_UPDATE (R205): the measured read round trip of a port that is UP. -/
def execFtPortRttUpdate (q : Fin 4) (ns : BitVec 16) (s : State) : Host.Outcome State Fault Refusal :=
  .next (if s.farHere q.val ∧ s.fld (F.FT_PORT_STATE_STATE q.val) = 3 then
      s.setFld (F.FT_PORT_RTT_NS q.val) ns.toNat
    else s)

end Sys2Proof.Machine
end

