-- ==== Sys2Proof/Machine/Attention.lean ====
section
/-! DEFINITION. The attention engine and the KV pager (06_attention_and_kv): streams, page entries and frames, attention
with its merge, appending and committing entries, and the moves of pages between the tiers. -/

namespace Sys2Proof.Machine

/-! ## Stream records and page entries (R130-R134) -/

/-- A stream record (Table 2). -/
structure StreamRec where
  addr : Nat
  fmt : Nat
  hdc : Nat
  promote : Bool
  stage : Nat
  depth : Nat
  len : Nat
  posBase : Nat
  pt : Nat
  npages : Nat
  lines : Nat
  stageBase : Nat
  zeros : Bool
  deriving DecidableEq, Repr

def StreamRec.hd (r : StreamRec) : Nat := headDim r.hdc
def StreamRec.eb (r : StreamRec) : Nat := if r.fmt = 1 then 2 else 1
/-- Bytes of an element plane and of a scale area of a frame (R132, Table 3), and of the frame. -/
def StreamRec.plane (r : StreamRec) : Nat := 64 * r.hd * r.eb
def StreamRec.scales (r : StreamRec) : Nat := if r.fmt = 1 then 0 else 2 * r.hd
def StreamRec.frameBytes (r : StreamRec) : Nat := 128 + 2 * (r.plane + r.scales)

/-- The record that 64 bytes spell. -/
def streamRec (addr : Nat) (b : List Byte) : StreamRec :=
  let w (o n : Nat) : Nat := leAt b o n
  { addr := addr, fmt := bitsOf (w 0 1) 3 0, hdc := bitsOf (w 0 1) 5 4, promote := bitAt (w 0 1) 6,
    stage := bitsOf (w 1 1) 5 0, depth := bitsOf (w 2 1) 5 0, len := bitsOf (w 4 4) 21 0, posBase := bitsOf (w 8 4) 20 0,
    pt := w 12 4, npages := w 16 2, lines := w 18 2, stageBase := w 20 4,
    zeros := decide (w 0 1 / 128 = 0 ∧ w 1 1 / 64 = 0 ∧ w 2 1 / 64 = 0 ∧ w 3 1 = 0 ∧ w 4 4 / 2 ^ 22 = 0
      ∧ w 8 4 / 2 ^ 21 = 0 ∧ w 24 40 = 0) }

/-- The record keeps Table 2 and the limit on positions, and lies with its entries and staging frames in the parcel
(R131). -/
def StreamRec.ok (r : StreamRec) (n : Nat) : Bool :=
  r.zeros && decide (1 ≤ r.fmt ∧ r.fmt ≤ 3 ∧ r.hdc ≤ 2 ∧ r.len ≤ 64 * r.npages ∧ 1 ≤ r.npages ∧ r.npages ≤ 32768)
    && (if r.stage = 0 then decide (r.depth = 0 ∧ r.stageBase = 0)
        else decide (2 ≤ r.stage ∧ r.stage ≤ 32 ∧ 1 ≤ r.depth ∧ r.depth ≤ r.stage ∧ r.stageBase % 128 = 0)
          && inParcel n r.stageBase)
    && decide (r.pt % 16 = 0 ∧ 128 * r.lines = r.frameBytes ∧ r.posBase + 64 * r.npages ≤ 2097152)
    && inParcel n r.addr && inParcel n r.pt

/-- A page entry (Table 4). -/
structure PageEnt where
  frame : Nat
  back : Nat
  kind : Nat
  res : Bool
  dirty : Bool
  poison : Bool
  tent : Nat
  deriving DecidableEq, Repr

/-- No frame. -/
def noFrame : Nat := 0xFFFFFFFF

def pageEnt (b : List Byte) : PageEnt :=
  let f := leAt b 12 1
  { frame := leAt b 0 4, back := leAt b 4 8, kind := f % 4, res := bitAt f 2, dirty := bitAt f 3, poison := bitAt f 4,
    tent := leAt b 13 1 % 128 }

/-- The 16 bytes of an entry, BUSY 0: a move is one step of this model, so BUSY is never left set (R146). -/
def PageEnt.bytes (e : PageEnt) : List Byte :=
  leBytes 4 e.frame ++ leBytes 8 e.back
    ++ leBytes 1 (e.kind + 4 * b2n e.res + 8 * b2n e.dirty + 16 * b2n e.poison) ++ leBytes 1 e.tent ++ leBytes 2 0

/-- The page has a backing copy. -/
def PageEnt.backed (e : PageEnt) : Bool := e.kind == 1 || e.kind == 2

/-- A frame starts on a line of the parcel and lies inside one plot. -/
def StreamRec.frameOk (r : StreamRec) (n f : Nat) : Bool :=
  decide (f % 128 = 0 ∧ f / 2 ^ 21 = (f + r.frameBytes - 1) / 2 ^ 21) && inParcel n f && holdExists f

/-! ## Steps of a KV operator that can fail -/

/-- Why a KV operator stops: its status, the tier of the failure (0 hold, 1 near, 2 far) and the page; or it only waits
for a clear. -/
structure KvFail where
  st : Nat
  tier : Nat := 0
  page : Nat := 0
  waits : Bool := false
  deriving DecidableEq, Repr

abbrev KvRes (α : Type) := Except KvFail α × State

/-- Go on where the first step did not fail. -/
def thenDo {α β : Type} (x : KvRes α) (k : α → State → KvRes β) : KvRes β :=
  match x.1 with
  | .ok a => k a x.2
  | .error e => (.error e, x.2)

/-- One step for each element of a list. -/
def eachDo {α : Type} (k : α → State → KvRes Unit) : List α → State → KvRes Unit
  | [], s => (.ok (), s)
  | a :: r, s => thenDo (k a s) fun _ s => eachDo k r s

/-- A check: the failure with a status, unless it holds. -/
def need (c : Bool) (st page : Nat) (s : State) : KvRes Unit :=
  if c then (.ok (), s) else (.error { st := st, page := page }, s)

/-- A KV operator's context: its part and the errors its reads will find. -/
structure KvCtx where
  n : Nat
  d : Desc
  /-- The pager's own writes (entries, frames, staging) are no writes of a speculative part. -/
  pager : Bool := false
  errs : List WordErr
  terrs : List WordErr
  deriving DecidableEq, Repr

/-- Access to a range of a memory (R131, R32, R150): refused, waiting, or allowed. A near tier of a fenced parcel cannot
serve. -/
def KvCtx.access (k : KvCtx) (kind a len page : Nat) (write : Bool) (s : State) : KvRes Unit :=
  let w := s.who k.d
  let st := s.tierStatus kind (if k.pager then { w with spec := false } else w) a len write
  let st' := if st = Status.FENCED then Status.NEAR_UNCORRECTABLE else st
  if st' ≠ Status.OK then (.error { st := st', tier := kind, page := page }, s)
  else if s.tierClearing kind a len then (.error { st := 0, waits := true }, s)
  else (.ok (), s)

/-- The same operator's pager. -/
def KvCtx.asPager (k : KvCtx) : KvCtx := { k with pager := true }

/-- Read a range of a memory; a bad word fails with the status of its tier (R149). -/
def KvCtx.read (k : KvCtx) (kind a len page : Nat) (s : State) : KvRes (List Byte) :=
  thenDo (k.access kind a len page false s) fun _ s =>
    let s1 := s.tierErrors kind a len k.errs k.terrs 0 k.d
    if (s1.firstBad kind a len).isSome then (.error { st := badStatus kind, tier := kind, page := page }, s1)
    else (.ok (s1.tierRead kind a len), s1)

/-- Write bytes to a memory. -/
def KvCtx.write (k : KvCtx) (kind a page : Nat) (b : List Byte) (s : State) : KvRes Unit :=
  thenDo (k.access kind a b.length page true s) fun _ s =>
    let (ok, s1) := s.tierWrite kind a b
    if ok then (.ok (), s1) else (.error { st := badStatus kind, tier := kind, page := page }, s1)

/-- Regions of the hold read in order. -/
def KvCtx.readArrays (k : KvCtx) : List Region → State → KvRes (List (List Byte))
  | [], s => (.ok [], s)
  | a :: r, s => thenDo (k.read 0 a.1 a.2 0 s) fun b s => thenDo (k.readArrays r s) fun l s => (.ok (b :: l), s)

/-- The stream record at an address, if it keeps R131. -/
def KvCtx.stream (k : KvCtx) (a : Nat) (s : State) : KvRes StreamRec :=
  thenDo (k.read 0 a 64 0 s) fun b s =>
    let r := streamRec a b
    thenDo (need (r.ok k.n) Status.BAD_DESCRIPTOR 0 s) fun _ s => (.ok r, s)

/-- Page entry i, and its write. -/
def KvCtx.entry (k : KvCtx) (r : StreamRec) (i : Nat) (s : State) : KvRes PageEnt :=
  thenDo (k.read 0 (r.pt + 16 * i) 16 i s) fun b s =>
    if bitAt (leAt b 12 1) 5 then
      thenDo (k.asPager.write 0 (r.pt + 16 * i) i (pageEnt b).bytes s) fun _ s => (.ok (pageEnt b), s)
    else (.ok (pageEnt b), s)
def KvCtx.putEntry (k : KvCtx) (r : StreamRec) (i : Nat) (e : PageEnt) (s : State) : KvRes Unit :=
  k.asPager.write 0 (r.pt + 16 * i) i e.bytes s

/-- A page read from or written to a tier is counted (Table 12). -/
def State.kvCountPage (s : State) (n kind : Nat) : State :=
  s.add64 (if kind = 1 then Reg.KVP_FETCH_NEAR_LO n else Reg.KVP_FETCH_FAR_LO n) 1

/-- A page's backing copy. -/
def KvCtx.readBack (k : KvCtx) (r : StreamRec) (i : Nat) (e : PageEnt) (s : State) : KvRes (List Byte) :=
  thenDo (k.read e.kind e.back r.frameBytes i s) fun b s => (.ok b, s.kvCountPage k.n e.kind)

/-- Bytes of a page's frame from offset o: where they are bad, POISON is set in the entry and the frame is counted, and
the backing copy stands in where it is current and may be read (R149). -/
def KvCtx.readFrame (k : KvCtx) (r : StreamRec) (i : Nat) (e : PageEnt) (o len : Nat) (s : State) :
    KvRes (List Byte) :=
  let fallback (s : State) : KvRes (List Byte) :=
    if !e.dirty && e.backed then
      thenDo (k.readBack r i e (s.setBit (F.KVP_EVENT_POISON_FALLBACK k.n))) fun b s => (.ok ((b.drop o).take len), s)
    else (.error { st := Status.HOLD_UNCORRECTABLE, page := i }, s)
  thenDo (need (r.frameOk k.n e.frame) Status.BAD_DESCRIPTOR i s) fun _ s =>
    if e.poison then fallback s
    else thenDo (k.access 0 (e.frame + o) len i false s) fun _ s =>
      let s1 := s.tierErrors 0 (e.frame + o) len k.errs k.terrs 0 k.d
      if (s1.firstBad 0 (e.frame + o) len).isNone then (.ok (s1.tierRead 0 (e.frame + o) len), s1)
      else thenDo (k.putEntry r i { e with poison := true } (s1.addSat (F.KVP_POISON_COUNT_COUNT k.n))) fun _ s =>
        fallback s

/-! ## How a part ends -/

/-- The first failure is recorded (R153). -/
def State.kvRecord (s : State) (n op fn stream : Nat) (f : KvFail) : State :=
  if s.fld (F.KVP_ERR_INFO_VALID n) = 1 then s
  else
    let s1 := (((s.setBit (F.KVP_ERR_INFO_VALID n)).setFld (F.KVP_ERR_INFO_OP n) op).setFld (F.KVP_ERR_INFO_TIER n)
      f.tier).setFld (F.KVP_ERR_INFO_STATUS n) f.st
    ((s1.setFld (F.KVP_ERR_INFO_FN n) fn).setFld (F.KVP_ERR_PAGE_PAGE n) f.page).setFld (F.KVP_ERR_ADDR_ADDR n) stream

/-- The statuses after which ATTN and ATTN_MERGE write the poison pattern (R149). -/
def poisonsOutput (st : Nat) : Bool :=
  st == Status.HOLD_UNCORRECTABLE || st == Status.NEAR_UNCORRECTABLE || st == Status.FAR_ERROR

/-- What the pager holds for a parcel: nothing staged. -/
def State.dropStaged (s : State) (n : Nat) : State :=
  { s with kvp := amDel s.kvp n }.setFld (F.KVP_STATUS_STAGED n) 0

/-- End a KV part as its steps say; a part that waits for a clear changes nothing. dest is the output that is poisoned
on a failed read. -/
def KvCtx.finish (k : KvCtx) (op stream : Nat) (dest : List Region) (s0 : State) (x : KvRes Unit) : State :=
  let done (s : State) : State := if op = 0 then s.dropStaged k.n else s
  match x.1 with
  | .ok () => (done x.2).endPart k.n k.d.id Status.OK
  | .error f =>
    if f.waits then s0
    else
      let s1 := if op ≤ 1 && poisonsOutput f.st then x.2.poisonAll dest else x.2
      ((done s1).kvRecord k.n op (s1.ctxFn k.d.ctx) stream f).endPart k.n k.d.id f.st

/-! ## Attention (R136-R140) -/

/-- exact of a weighted sum: x * a plus the products of a list of pairs, rounded once. -/
def attnSum (x a : Nat) (l : List (Fp × Fp)) : Nat :=
  toF32 (Fp.sum ((ofF32 x).mul (ofF32 a) :: l.map fun e => e.1.mul e.2))

/-- Minus infinity. -/
def minusInf : Nat := 0xFF800000

/-- Element d of token t of a frame: K (plane 0) or V (plane 1). -/
def StreamRec.elem (r : StreamRec) (frame : List Byte) (plane t d : Nat) : Fp :=
  let base := 128 + plane * (r.plane + r.scales)
  if r.fmt = 1 then ofBf16 (leAt frame (base + 2 * (t * r.hd + d)) 2)
  else mxVal r.fmt (leAt frame (base + t * r.hd + d) 1) (leAt frame (base + r.plane + t * (r.hd / 32) + d / 32) 1)

/-- What a record has accumulated: m, l and o (R139). -/
structure AttnAcc where
  m : Nat := minusInf
  l : Nat := 0
  o : List Nat
  deriving DecidableEq, Repr

/-- One chunk of attn_record: the scores of its slots (none: not visible), then the new m, l and o. -/
def AttnAcc.chunk (x : AttnAcc) (r : StreamRec) (frame : List Byte) (q : List Fp) (scale : Nat) (vis : List Bool) :
    AttnAcc :=
  let t := (List.range 64).map fun j =>
    if vis.getD j false then
      fMul (toF32 (Fp.sum ((List.range r.hd).map fun d => (q.getD d .zero).mul (r.elem frame 0 j d)))) scale
    else minusInf
  let mc := t.foldl fMax x.m
  if mc = minusInf then x
  else
    let a := if x.m = minusInf then 0 else fExp (fSub x.m mc)
    let p := t.map fun v => if v = minusInf then 0 else fExp (fSub v mc)
    let w := (List.range 64).map fun j => (j, ofF32 (p.getD j 0))
    { m := mc
      l := attnSum x.l a (w.map fun e => (e.2, Fp.ofNat 1))
      o := x.o.mapIdx fun d v => attnSum v a (w.map fun e =>
        (e.2, if vis.getD e.1 false then r.elem frame 1 e.1 d else .zero)) }

/-- The output value of an accumulated record in final mode (R140). -/
def AttnAcc.final (x : AttnAcc) : List Nat := x.o.map fun v => if (ofF32 x.l).isZero then 0 else fDiv v x.l

/-- A record in partial form. -/
def AttnAcc.bytes (x : AttnAcc) : List Byte :=
  (x.o.map (leBytes 4)).flatten ++ leBytes 4 x.m ++ leBytes 4 x.l ++ leBytes 8 0

/-- The bytes of an output record by OUT_MODE. -/
def AttnAcc.out (x : AttnAcc) (mode : Nat) : List Byte :=
  if mode = 2 then x.bytes else storeRow (if mode = 1 then 0 else 1) x.final

/-- Query row r sees slot j, its tag aside (R138). -/
def maySee (a : AttnOp) (r : StreamRec) (len : Nat) (qpos tmask : Nat → Nat) (row j : Nat) : Bool :=
  if j < len then
    decide (r.posBase + j ≤ qpos row) && (a.window == 0 || decide (qpos row - (r.posBase + j) < a.window))
  else a.tent && decide (j - len < 64) && bitAt (tmask row) (j - len)

/-- The tag of token t in a tag line: a tentative entry of an epoch. -/
def tagIs (frame : List Byte) (t epoch : Nat) : Bool :=
  decide (leAt frame (2 * t) 1 = 2 ∧ leAt frame (2 * t + 1) 1 = epoch)

/-- Slots of chunk c that a row sees, given the page's tag line. -/
def visibleIn (a : AttnOp) (r : StreamRec) (len epoch : Nat) (qpos tmask : Nat → Nat) (c : Nat) (frame : List Byte)
    (row : Nat) : List Bool :=
  (List.range 64).map fun j =>
    maySee a r len qpos tmask row (64 * c + j) && (decide (64 * c + j < len) || tagIs frame j epoch)

/-- What ATTN works from once its operands are read: the stream, LEN as latched, positions, masks and queries. -/
structure AttnJob where
  a : AttnOp
  r : StreamRec
  len : Nat
  qpos : List Nat
  tmask : List Nat
  q : List (List Byte)
  deriving DecidableEq, Repr

def AttnJob.see (j : AttnJob) (row slot : Nat) : Bool :=
  maySee j.a j.r j.len (fun i => j.qpos.getD i 0) (fun i => j.tmask.getD i 0) row slot

/-- Chunks of the scan, and those that some row may see. -/
def AttnJob.e (j : AttnJob) : Nat :=
  if j.a.tent then (j.tmask.map fun m => if m = 0 then 0 else Nat.log2 m + 1).foldl max 0 else 0
def AttnJob.toScan (j : AttnJob) : List Nat :=
  (List.range (ceilDiv (j.len + j.e) 64)).filter fun c =>
    (List.range j.a.m).any fun row => (List.range 64).any fun t => j.see row (64 * c + t)

/-- A chunk all of whose visible slots need tags. -/
def AttnJob.tagOnly (j : AttnJob) (c : Nat) : Bool :=
  (List.range j.a.m).all fun row => (List.range 64).all fun t => decide (j.len ≤ 64 * c + t) || !j.see row (64 * c + t)

/-- The output region. -/
def AttnJob.outRegion (a : AttnOp) (hd : Nat) : Region :=
  if a.mode = 2 then (a.o, a.recs * partialBytes hd) else extentOf a.o a.ostr a.m (a.qpg * outBytes a.mode hd)

def AttnJob.outRows (a : AttnOp) (hd : Nat) : List Region :=
  if a.mode = 2 then [AttnJob.outRegion a hd] else rowsAt a.o a.ostr a.m (a.qpg * outBytes a.mode hd)

/-- Fetch page c ahead of the engine into the next staging frame (R148); promoted where the stream says so. -/
def KvCtx.fetchPage (k : KvCtx) (r : StreamRec) (c slot : Nat) (e : PageEnt) (promote : Bool) (s : State) :
    KvRes (List Byte) :=
  thenDo (k.readBack r c e s) fun b s =>
  thenDo (if r.stage = 0 then (.ok (), s) else k.asPager.write 0 (r.stageBase + (slot % r.stage) * r.frameBytes) c b s) fun _ s =>
    if promote && r.promote && e.frame != noFrame then
      thenDo (need (r.frameOk k.n e.frame) Status.BAD_DESCRIPTOR c s) fun _ s =>
      thenDo (k.asPager.write 0 e.frame c b s) fun _ s =>
      thenDo (k.putEntry r c { e with res := true, dirty := false, poison := false } s) fun _ s => (.ok b, s)
    else (.ok b, s)

/-- The pager's record of an ATTN part. -/
def State.kvpOf (s : State) (n id : Nat) : Option KvpSt :=
  (amGet s.kvp n).filter fun x => x.desc == id

/-- The contents of chunk c's page: staged, resident, or fetched now. -/
def KvCtx.pageFor (k : KvCtx) (j : AttnJob) (c : Nat) (s : State) : KvRes (List Byte) :=
  let x := (s.kvpOf k.n k.d.id).getD { desc := k.d.id }
  match amGet x.staged c with
  | some slot => k.read 0 (j.r.stageBase + slot * j.r.frameBytes) j.r.frameBytes c s
  | none =>
    thenDo (k.entry j.r c s) fun e s =>
      if e.res then
        thenDo (if j.tagOnly c then k.readFrame j.r c e 0 128 s else (.ok [], s)) fun tags s =>
          if j.tagOnly c && (List.range j.a.m).all fun row => (List.range 64).all fun t =>
              !(j.see row (64 * c + t) && tagIs tags t k.d.epoch) then (.ok [], s)
          else k.readFrame j.r c e 0 j.r.frameBytes s
      else if !e.backed ∨ j.r.stage = 0 then (.error { st := Status.BAD_DESCRIPTOR, page := c }, s)
      else
        thenDo (k.fetchPage j.r c x.next e true s) fun b s =>
          (.ok b, { s with kvp := amSet s.kvp k.n { x with next := (x.next + 1) % j.r.stage } })

/-- The query records: row, head and the head's values. -/
def AttnJob.records (j : AttnJob) : List (Nat × List Fp) :=
  (List.range j.a.recs).map fun i =>
    let row := j.q.getD (i / j.a.qpg) []
    (i / j.a.qpg, (List.range j.r.hd).map fun d => ofBf16 (leAt row (2 * (i % j.a.qpg * j.r.hd + d)) 2))

/-- The chunks of the scan, folded into the records. -/
def KvCtx.scan (k : KvCtx) (j : AttnJob) (recs : List (Nat × List Fp)) : List Nat → List AttnAcc → State →
    KvRes (List AttnAcc)
  | [], acc, s => (.ok acc, s)
  | c :: rest, acc, s =>
    thenDo (k.pageFor j c s) fun frame s =>
      if frame.isEmpty then k.scan j recs rest acc s
      else
        let vis := visibleIn j.a j.r j.len k.d.epoch (fun i => j.qpos.getD i 0) (fun i => j.tmask.getD i 0) c frame
        let acc1 := List.zipWith (fun q x => AttnAcc.chunk x j.r frame q.2 j.a.scale (vis q.1)) recs acc
        k.scan j recs rest acc1 (s.add64 (Reg.KVP_DOTS_LO k.n) (64 * j.a.recs))

/-- Read the operands of ATTN and make the checks of R137 that need the stream. -/
def KvCtx.attnJob (k : KvCtx) (a : AttnOp) (s : State) : KvRes AttnJob :=
  thenDo (k.stream a.stream s) fun r s =>
    let qrow := 2 * a.qpg * r.hd
    let qExt := extentOf a.q a.qstr a.m qrow
    let out := AttnJob.outRegion a r.hd
    let len := ((s.kvpOf k.n k.d.id).bind (·.len)).getD r.len
    thenDo (need (decide (qrow ≤ 16 * a.qstr ∧ len ≤ 64 * r.npages)
        && (a.mode == 2 || decide (a.qpg * outBytes a.mode r.hd ≤ 16 * a.ostr)) && !overlap out qExt
        && !overlap out (a.qpos, 4 * a.m) && !(a.tent && overlap out (a.tmask, 8 * a.m))
        && !overlap out (a.stream, 64) && !overlap out (r.pt, 16 * r.npages)) Status.BAD_DESCRIPTOR 0 s) fun _ s =>
    thenDo (eachDo (fun (x : Region) s => k.access 0 x.1 x.2 0 true s) (AttnJob.outRows a r.hd) s) fun _ s =>
    thenDo (k.read 0 r.pt (16 * r.npages) 0 s) fun pt s =>
    thenDo (need ((chunks 16 pt).all fun b =>
        let e := pageEnt b
        decide (e.frame = noFrame) || !overlap out (e.frame, r.frameBytes)) Status.BAD_DESCRIPTOR 0 s) fun _ s =>
    thenDo (k.readArrays (rowsAt a.q a.qstr a.m qrow) s) fun q s =>
    thenDo (k.read 0 a.qpos (4 * a.m) 0 s) fun qp s =>
    thenDo (if a.tent then k.read 0 a.tmask (8 * a.m) 0 s else (.ok [], s)) fun tm s =>
      let j : AttnJob := { a := a, r := r, len := len, qpos := (List.range a.m).map fun i => leAt qp (4 * i) 4,
                           tmask := if a.tent then (List.range a.m).map fun i => leAt tm (8 * i) 8 else [],
                           q := q }
      thenDo (need (decide (j.len + j.e ≤ 64 * r.npages)) Status.BAD_DESCRIPTOR 0 s) fun _ s => (.ok j, s)

/-- The rows of ATTN's output. -/
def AttnJob.rows (j : AttnJob) (acc : List AttnAcc) : List (Nat × List Byte) :=
  let recs := acc.map fun x => x.out j.a.mode
  if j.a.mode = 2 then [(j.a.o, recs.flatten)]
  else (chunks j.a.qpg recs).mapIdx fun r b => (j.a.o + 16 * r * j.a.ostr, b.flatten)

/-- The whole of ATTN (R139, R140). -/
def KvCtx.attn (k : KvCtx) (a : AttnOp) (s : State) : KvRes Unit :=
  thenDo (k.attnJob a s) fun j s =>
    let recs := j.records
    thenDo (k.scan j recs j.toScan (recs.map fun _ => { o := List.replicate j.r.hd 0 }) s) fun acc s =>
      eachDo (fun e s => k.write 0 e.1 0 e.2 s) (j.rows acc) s

/-- The output region of an ATTN whose stream record can be read; none where it cannot. -/
def State.attnDest (s : State) (a : AttnOp) : List Region :=
  let r := streamRec a.stream (s.holdGet a.stream 64)
  if r.hdc ≤ 2 then AttnJob.outRows a r.hd else []

/-- PART_START of an ATTN latches LEN (R138). -/
def State.latchAttn (s : State) (n : Nat) (d : Desc) : State :=
  if d.opcode = 0x40 then
    let r := streamRec (attnOp d n).stream (s.holdGet (attnOp d n).stream 64)
    { s with kvp := amSet s.kvp n { desc := d.id, len := some r.len } }
  else s

/-- ATTN (R136-R140, R149): the running ATTN of the parcel, to its end. -/
def execAttn (n : Parcel) (errs terrs : List WordErr) (s : State) : Host.Outcome State Fault Refusal :=
  .next (s.withPart n.val (·.opcode == 0x40) fun d =>
    let k : KvCtx := { n := n.val, d := d, errs := errs, terrs := terrs }
    let a := attnOp d n.val
    k.finish 0 a.stream (s.attnDest a) s (k.attn a s))

/-- KV_PAGE_FETCH (R148): the pager stages the next page that the running ATTN will read and that is not resident, no
more than PF_DEPTH ahead. A fetch that fails leaves the page to the engine. -/
def execKvPageFetch (n : Parcel) (errs terrs : List WordErr) (s : State) : Host.Outcome State Fault Refusal :=
  .next (s.withPart n.val (·.opcode == 0x40) fun d =>
    let k : KvCtx := { n := n.val, d := d, errs := errs, terrs := terrs }
    match k.attnJob (attnOp d n.val) s with
    | (.error _, _) => s
    | (.ok j, s1) =>
      let x := (s1.kvpOf n.val d.id).getD { desc := d.id }
      let absent (c : Nat) : Bool :=
        (amGet x.staged c).isNone && !(pageEnt (s1.holdGet (j.r.pt + 16 * c) 16)).res
      match j.toScan.find? absent with
      | none => s
      | some c =>
        let e := pageEnt (s1.holdGet (j.r.pt + 16 * c) 16)
        if x.staged.length ≥ j.r.depth ∨ !e.backed then s
        else match k.fetchPage j.r c x.next e true s1 with
          | (.error f, s2) => if f.waits then s else s2
          | (.ok _, s2) =>
            let y := { x with staged := amSet x.staged c (x.next % j.r.stage), next := (x.next + 1) % j.r.stage }
            { s2 with kvp := amSet s2.kvp n.val y }.setFld (F.KVP_STATUS_STAGED n.val) y.staged.length)

/-- Two partial records folded (R141). -/
def AttnAcc.fold (x y : AttnAcc) : AttnAcc :=
  let mc := fMax x.m y.m
  if mc = minusInf then x
  else
    let a := if x.m = minusInf then 0 else fExp (fSub x.m mc)
    let b := if y.m = minusInf then 0 else fExp (fSub y.m mc)
    { m := mc
      l := attnSum x.l a [(ofF32 y.l, ofF32 b)]
      o := List.zipWith (fun v w => attnSum v a [(ofF32 w, ofF32 b)]) x.o y.o }

/-- Record i of a partial array. -/
def partialRec (hd : Nat) (arr : List Byte) (i : Nat) : AttnAcc :=
  let b := i * partialBytes hd
  { m := leAt arr (b + 4 * hd) 4, l := leAt arr (b + 4 * hd + 4) 4,
    o := (List.range hd).map fun d => leAt arr (b + 4 * d) 4 }

/-- The whole of ATTN_MERGE (R141). -/
def KvCtx.merge (k : KvCtx) (g : MergeOp) (s : State) : KvRes Unit :=
  thenDo (k.access 0 g.out.1 g.out.2 0 true s) fun _ s =>
  thenDo (k.readArrays g.arrays s) fun arrs s =>
    let hd := headDim g.hdc
    let rec1 (i : Nat) : AttnAcc :=
      (arrs.drop 1).foldl (fun x a => x.fold (partialRec hd a i)) (partialRec hd (arrs.getD 0 []) i)
    k.write 0 g.o 0 ((List.range g.r).map fun i => (rec1 i).out g.mode).flatten s

/-- ATTN_MERGE (R141). -/
def execAttnMerge (n : Parcel) (errs : List WordErr) (s : State) : Host.Outcome State Fault Refusal :=
  .next (s.withPart n.val (·.opcode == 0x41) fun d =>
    let k : KvCtx := { n := n.val, d := d, errs := errs, terrs := [] }
    let g := mergeOp d n.val
    k.finish 1 0 [g.out] s (k.merge g s))

/-! ## Moving pages (R145-R147) -/

/-- PROMOTE of page i. -/
def KvCtx.promote (k : KvCtx) (r : StreamRec) (i : Nat) (force : Bool) (s : State) : KvRes Unit :=
  thenDo (k.entry r i s) fun e s =>
  thenDo (need (!(e.res && e.dirty && !force)) Status.BAD_DESCRIPTOR i s) fun _ s =>
    if e.res && !e.poison && !force then (.ok (), s)
    else
      thenDo (need (e.frame != noFrame && r.frameOk k.n e.frame && e.backed) Status.BAD_DESCRIPTOR i s) fun _ s =>
      thenDo (k.readBack r i e s) fun b s =>
      thenDo (k.asPager.write 0 e.frame i b s) fun _ s =>
        k.putEntry r i { e with res := true, dirty := false, poison := false } s

/-- A page with tentative entries is skipped (R147). -/
def KvCtx.skip (k : KvCtx) (s : State) : KvRes Unit :=
  (.ok (), (s.setBit (F.KVP_EVENT_TENT_SKIP k.n)).addSat (F.KVP_SKIP_COUNT_COUNT k.n))

/-- Write a page's contents to a backing place. -/
def KvCtx.putBack (k : KvCtx) (i kind back : Nat) (b : List Byte) (s : State) : KvRes Unit :=
  thenDo (k.write kind back i b s) fun _ s => (.ok (), s.kvCountPage k.n kind)

/-- EVICT and WRITEBACK of page i: a dirty frame is written to the backing; then the entry. -/
def KvCtx.writeback (k : KvCtx) (r : StreamRec) (i : Nat) (evict : Bool) (s : State) : KvRes Unit :=
  thenDo (k.entry r i s) fun e s =>
    if e.tent ≠ 0 then k.skip s
    else
      thenDo (need e.backed Status.BAD_DESCRIPTOR i s) fun _ s =>
      thenDo (if e.dirty then
          thenDo (k.readFrame r i e 0 r.frameBytes s) fun b s => k.putBack i e.kind e.back b s
        else (.ok (), s)) fun _ s =>
        k.putEntry r i { e with res := e.res && !evict, dirty := false } s

/-- SET_FRAME of page i. -/
def KvCtx.setFrame (k : KvCtx) (r : StreamRec) (i f : Nat) (s : State) : KvRes Unit :=
  thenDo (k.entry r i s) fun e s =>
  thenDo (need (!e.res && (f == noFrame || r.frameOk k.n f)) Status.BAD_DESCRIPTOR i s) fun _ s =>
    k.putEntry r i { e with frame := f } s

/-- MIGRATE of page i to a new backing: from the frame where it is newer, or where there is no other copy. -/
def KvCtx.migrate (k : KvCtx) (r : StreamRec) (i back kind : Nat) (s : State) : KvRes Unit :=
  thenDo (k.entry r i s) fun e s =>
    if e.tent ≠ 0 then k.skip s
    else
      let fromFrame := e.res && (e.dirty || !e.backed)
      thenDo (need (decide (kind = 1 ∨ kind = 2) && (fromFrame || e.backed)) Status.BAD_DESCRIPTOR i s) fun _ s =>
      thenDo (if fromFrame then k.readFrame r i e 0 r.frameBytes s else k.readBack r i e s) fun b s =>
      thenDo (k.putBack i kind back b s) fun _ s =>
        k.putEntry r i { e with back := back, kind := kind, dirty := false } s

/-- One page of KV_MOVE, number j of the range. -/
def KvCtx.movePage (k : KvCtx) (m : MoveOp) (r : StreamRec) (args : List Byte) (j : Nat) (s : State) : KvRes Unit :=
  let i := m.lo + j
  match m.action with
  | 0 => k.promote r i m.force s
  | 1 => k.writeback r i true s
  | 2 => k.writeback r i false s
  | 3 => k.setFrame r i (leAt args (4 * j) 4) s
  | _ => k.migrate r i (leAt args (16 * j) 8) (leAt args (16 * j + 8) 1) s

/-- The pages of a range in order: a page that fails does not stop the ones after it, and the first failure is the
result (R145). -/
def KvCtx.movePages (k : KvCtx) (m : MoveOp) (r : StreamRec) (args : List Byte) : List Nat → Option KvFail → State →
    KvRes Unit
  | [], none, s => (.ok (), s)
  | [], some f, s => (.error f, s)
  | j :: rest, f, s =>
    match k.movePage m r args j s with
    | (.ok (), s1) => k.movePages m r args rest f s1
    | (.error e, s1) => if e.waits then (.error e, s1) else k.movePages m r args rest (some (f.getD e)) s1

/-- The whole of KV_MOVE. -/
def KvCtx.move (k : KvCtx) (m : MoveOp) (s : State) : KvRes Unit :=
  thenDo (k.stream m.stream s) fun r s =>
  thenDo (need (decide (m.lo + m.cnt ≤ r.npages)) Status.BAD_DESCRIPTOR 0 s) fun _ s =>
  thenDo (match m.arg? with
    | some a => k.read 0 a.1 a.2 0 s
    | none => (.ok [], s)) fun args s => k.movePages m r args (List.range m.cnt) none s

/-- The running KV_MOVE of an action. -/
def State.kvMove (s : State) (n action : Nat) (errs terrs : List WordErr) : State :=
  s.withPart n (fun d => d.opcode == 0x44 && (moveOp d n).action == action) fun d =>
    let k : KvCtx := { n := n, d := d, errs := errs, terrs := terrs }
    k.finish 4 (moveOp d n).stream [] s (k.move (moveOp d n) s)

/-- PROMOTE, EVICT, WRITEBACK, SET_FRAME and MIGRATE (R145, Table 10): a running KV_MOVE with that ACTION. -/
def execPromote (n : Parcel) (errs terrs : List WordErr) (s : State) : Host.Outcome State Fault Refusal :=
  .next (s.kvMove n.val 0 errs terrs)
def execEvict (n : Parcel) (errs terrs : List WordErr) (s : State) : Host.Outcome State Fault Refusal :=
  .next (s.kvMove n.val 1 errs terrs)
def execWriteback (n : Parcel) (errs terrs : List WordErr) (s : State) : Host.Outcome State Fault Refusal :=
  .next (s.kvMove n.val 2 errs terrs)
def execSetFrame (n : Parcel) (errs : List WordErr) (s : State) : Host.Outcome State Fault Refusal :=
  .next (s.kvMove n.val 3 errs [])
def execMigrate (n : Parcel) (errs terrs : List WordErr) (s : State) : Host.Outcome State Fault Refusal :=
  .next (s.kvMove n.val 4 errs terrs)

/-! ## Appending and committing (R143, R144) -/

/-- Where the rows of token t lie in a frame: offset and length of K elements, K scales, V elements, V scales. -/
def StreamRec.tokenRows (r : StreamRec) (t : Nat) : List Region :=
  let half (b : Nat) : List Region :=
    (b + t * r.hd * r.eb, r.hd * r.eb) :: (if r.fmt = 1 then [] else [(b + r.plane + t * (r.hd / 32), r.hd / 32)])
  half 128 ++ half (128 + r.plane + r.scales)

/-- HD values converted to the stream's format: element bytes, then scale bytes. -/
def StreamRec.convert (r : StreamRec) (v : List Nat) : List (List Byte) :=
  if r.fmt = 1 then [storeRow 1 v] else [(storeRow r.fmt v).take r.hd, (storeRow r.fmt v).drop r.hd]

/-- Pages from slot a up to slot b (exclusive). -/
def pagesOf (a b : Nat) : List Nat := if a < b then (List.range ((b - 1) / 64 + 1 - a / 64)).map (a / 64 + ·) else []

/-- Bring a page's entry up to date after its frame was written: DIRTY, and TENT counted from the tags. -/
def KvCtx.touchPage (k : KvCtx) (r : StreamRec) (i : Nat) (s : State) : KvRes Unit :=
  thenDo (k.entry r i s) fun e s =>
  thenDo (k.readFrame r i e 0 128 s) fun tags s =>
    k.putEntry r i { e with dirty := true, tent := ((List.range 64).filter fun t => leAt tags (2 * t) 1 == 2).length } s

/-- Write LEN into the record in one write. -/
def KvCtx.writeLen (k : KvCtx) (r : StreamRec) (len : Nat) (s : State) : KvRes Unit :=
  k.write 0 (r.addr + 4) 0 (leBytes 4 len) s

/-- One token's rows and then its tag are written to slot j (R133). -/
def KvCtx.putToken (k : KvCtx) (r : StreamRec) (j : Nat) (rows : List (List Byte)) (tag : List Byte) (s : State) :
    KvRes Unit :=
  thenDo (k.entry r (j / 64) s) fun e s =>
  thenDo (eachDo (fun x s => k.asPager.write 0 (e.frame + x.1) (j / 64) x.2 s)
    (List.zipWith (fun (p : Region) b => (p.1, b)) (r.tokenRows (j % 64)) rows) s) fun _ s =>
    k.asPager.write 0 (e.frame + 2 * (j % 64)) (j / 64) tag s

/-- A target page has a frame; one that is not resident is promoted first. -/
def KvCtx.readyPage (k : KvCtx) (r : StreamRec) (i : Nat) (s : State) : KvRes Unit :=
  thenDo (k.entry r i s) fun e s => if e.res then (.ok (), s) else k.promote r i false s

/-- A stream that the part's context has joined at this parcel (R157, R164). -/
def KvCtx.joined (k : KvCtx) (stream : Nat) (s : State) : Bool :=
  match amGet s.gw.binds (k.n * 4096 + k.d.ctx) with
  | some b => b.bound && b.streams.contains stream
  | none => false

/-- The whole of KV_APPEND; speculative work appends to joined streams alone (R164). -/
def KvCtx.append (k : KvCtx) (a : AppendOp) (s : State) : KvRes Unit :=
  thenDo (need (!k.d.spec || k.joined a.stream s) Status.ACCESS_VIOLATION 0 s) fun _ s =>
  thenDo (k.stream a.stream s) fun r s =>
    let base := r.len + a.base
    let pages := pagesOf base (base + a.n)
    let rowLen := 2 * r.hd * (if a.fmt = 0 then 4 else 2)
    thenDo (need (decide (base + a.n ≤ 64 * r.npages)) Status.BAD_DESCRIPTOR 0 s) fun _ s =>
    thenDo (eachDo (fun i s => thenDo (k.entry r i s) fun e s =>
      need (e.frame != noFrame && r.frameOk k.n e.frame) Status.BAD_DESCRIPTOR i s) pages s) fun _ s =>
    thenDo (k.readArrays (rowsAt a.src a.stride a.n rowLen) s) fun src s =>
    thenDo (eachDo (k.readyPage r) pages s) fun _ s =>
    thenDo (eachDo (fun i s => thenDo (k.entry r i s) fun e s => k.asPager.access 0 e.frame r.frameBytes i true s) pages s) fun _ s =>
    thenDo (eachDo (fun (x : Nat × List Byte) s =>
        let v := (List.range (2 * r.hd)).map fun d => toF32 (plainVal a.fmt x.2 d)
        k.putToken r (base + x.1) (r.convert (v.take r.hd) ++ r.convert (v.drop r.hd))
          (if k.d.spec then [2#8, BitVec.ofNat 8 k.d.epoch] else [1#8, 0#8]) s)
      (src.mapIdx fun i b => (i, b)) s) fun _ s =>
    thenDo (eachDo (k.touchPage r) pages s) fun _ s =>
      if k.d.spec then (.ok (), s) else k.writeLen r (r.len + a.n) s

/-- KV_APPEND (R143). -/
def execKvAppend (n : Parcel) (errs terrs : List WordErr) (s : State) : Host.Outcome State Fault Refusal :=
  .next (s.withPart n.val (·.opcode == 0x42) fun d =>
    let k : KvCtx := { n := n.val, d := d, errs := errs, terrs := terrs }
    let a := appendOp d n.val
    k.finish 2 a.stream [] s (k.append a s))

/-- The tag of slot j: EMPTY where the page has no resident frame. -/
def KvCtx.tagAt (k : KvCtx) (r : StreamRec) (j : Nat) (s : State) : KvRes (Nat × Nat) :=
  thenDo (k.entry r (j / 64) s) fun e s =>
    if e.res then
      thenDo (k.readFrame r (j / 64) e (2 * (j % 64)) 2 s) fun b s => (.ok (leAt b 0 1, leAt b 1 1), s)
    else (.ok (0, 0), s)

/-- Copy the rows of one slot to another (read before written), and tag it COMMITTED. -/
def KvCtx.copyToken (k : KvCtx) (r : StreamRec) (src dst : Nat) (s : State) : KvRes Unit :=
  thenDo (k.entry r (src / 64) s) fun e s =>
  thenDo (k.readArrays ((r.tokenRows (src % 64)).map fun p => (e.frame + p.1, p.2)) s) fun rows s =>
    k.putToken r dst rows [1#8, 0#8] s

/-- Set a tentative tag to EMPTY. -/
def KvCtx.clearTag (k : KvCtx) (r : StreamRec) (j : Nat) (s : State) : KvRes Unit :=
  thenDo (k.tagAt r j s) fun t s =>
    if t.1 = 2 then
      thenDo (k.entry r (j / 64) s) fun e s => k.write 0 (e.frame + 2 * (j % 64)) (j / 64) [0#8, 0#8] s
    else (.ok (), s)

/-- The whole of KV_COMMIT. -/
def KvCtx.commit (k : KvCtx) (c : CommitOp) (s : State) : KvRes Unit :=
  thenDo (k.stream c.stream s) fun r s =>
    let top := min (r.len + 64) (64 * r.npages)
    thenDo (need (decide (r.len + c.a ≤ 64 * r.npages) && c.nodes.all fun j => decide (r.len + j < 64 * r.npages))
      Status.BAD_DESCRIPTOR 0 s) fun _ s =>
    thenDo (eachDo (fun j s => thenDo (k.tagAt r (r.len + j) s) fun t s =>
      need (decide (t = (2, c.epoch))) Status.BAD_DESCRIPTOR ((r.len + j) / 64) s) c.nodes s) fun _ s =>
    thenDo (k.access 0 c.stream 64 0 true s) fun _ s =>
    thenDo (eachDo (k.readyPage r) (pagesOf r.len (r.len + c.a)) s) fun _ s =>
    thenDo (eachDo (fun (x : Nat × Nat) s => k.copyToken r (r.len + x.2) (r.len + x.1) s)
      (c.nodes.mapIdx fun i j => (i, j)) s) fun _ s =>
    thenDo (eachDo (k.clearTag r) ((List.range (top - (r.len + c.a))).map (r.len + c.a + ·)) s) fun _ s =>
    thenDo (eachDo (fun i s => thenDo (k.entry r i s) fun e s =>
        if e.res && (e.tent != 0 || decide (64 * i < r.len + c.a)) then k.touchPage r i s else (.ok (), s))
      (pagesOf r.len top) s) fun _ s => k.writeLen r (r.len + c.a) s

/-- KV_COMMIT (R144). -/
def execKvCommit (n : Parcel) (errs terrs : List WordErr) (s : State) : Host.Outcome State Fault Refusal :=
  .next (s.withPart n.val (·.opcode == 0x43) fun d =>
    let k : KvCtx := { n := n.val, d := d, errs := errs, terrs := terrs }
    let c := commitOp d n.val
    k.finish 3 c.stream [] s (k.commit c s))

/-! ## Parity errors and the error record -/

/-- The operator number of a KV opcode (Table 12), and its stream record's address. -/
def kvStream (d : Desc) (n : Nat) : Nat :=
  match d.opcode with
  | 0x40 => (attnOp d n).stream
  | 0x42 => (appendOp d n).stream
  | 0x43 => (commitOp d n).stream
  | 0x44 => (moveOp d n).stream
  | _ => 0

/-- ATTN_PARITY_ERROR (R151): in the attention engine, or in the pager: the running part ends FENCED, an event is raised
on source n, and the parcel fences itself. -/
def execAttnParityError (n : Parcel) (pager : Bool) (s : State) : Host.Outcome State Fault Refusal :=
  .next (let mine (d : Desc) : Bool :=
      if pager then decide (0x42 ≤ d.opcode ∧ d.opcode ≤ 0x44) else decide (0x40 ≤ d.opcode ∧ d.opcode ≤ 0x41)
    let s1 := s.withPart n.val mine fun d =>
      ((s.dropStaged n.val).kvRecord n.val (d.opcode - 0x40) (s.ctxFn d.ctx) (kvStream d n.val)
        { st := Status.FENCED }).endPart n.val d.id Status.FENCED
    let a := (s.runningPart n.val mine).map fun d => s.attrOf d Status.FENCED
    (s1.raise n.val 0 0 a).selfFence n.val)

/-- KVP_ERR_CLR (R153): a write of 1, under the RWL rule. -/
def State.clearKvErr (s : State) (n : Nat) : State :=
  ((s.setRd (Reg.KVP_ERR_INFO n) 0).setRd (Reg.KVP_ERR_PAGE n) 0).setRd (Reg.KVP_ERR_ADDR n) 0
def execKvpErrClr (path : Path) (n : Parcel) (value : Word) (s : State) : Host.Outcome State Fault Refusal :=
  .next (s.rwl path (Reg.KVP_ERR_CLR n.val) fun s => if bitAt value.toNat 0 then s.clearKvErr n.val else s)

end Sys2Proof.Machine
end

