-- ==== Sys2Proof/Machine/Ethernet.lean ====
section
/-! DEFINITION. The Ethernet ports (09_host_and_network, R230-R237): queues in the hold, checksums and segmentation,
filters, and flow control. -/

namespace Sys2Proof.Machine

/-! ## Ports and queues -/

/-- A port's state, and whether the port exists on this variant (R6). -/
def State.ethPort (s : State) (e : Nat) : EthSt := (amGet s.eth e).getD {}
def State.setEthPort (s : State) (e : Nat) (x : EthSt) : State := { s with eth := amSet s.eth e x }
def State.ethExists (s : State) (e : Nat) : Bool := decide (e < s.fuses.ethPorts)

/-- The port moves frames: it exists, is on, and its link is up. -/
def State.ethLive (s : State) (e : Nat) : Bool :=
  s.ethExists e && s.fld (F.ETH_PORT_CFG_ENABLE e) == 1 && s.fld (F.ETH_PORT_STATUS_LINK_UP e) == 1
    && !s.inBlockReset (32 + e)

/-- Fields of queue q of port e (0-63 transmit, 64-127 receive): each queue's registers stand in a bank of its own. -/
def State.qFld (s : State) (q : Nat) (f : Fld) : Nat := s.fldB (entryBank q) f
def State.setQFld (s : State) (q : Nat) (f : Fld) (v : Nat) : State := s.setFldB (entryBank q) f v
def State.qState (s : State) (e q : Nat) : Nat := s.qFld q (F.ETH_Q_CTRL_STATE e)
def State.qCtx (s : State) (e q : Nat) : Nat := s.qFld q (F.ETH_Q_CTX_CTX e)
def State.qFn (s : State) (e q : Nat) : Nat := s.ctxFn (s.qCtx e q)
def State.qBase (s : State) (e q : Nat) : Nat := s.qFld q (F.ETH_Q_RING_BASE e)
def State.qParcel (s : State) (e q : Nat) : Nat := s.qBase e q / 2 ^ 28
def State.qPrio (s : State) (e q : Nat) : Nat := s.qFld q (F.ETH_Q_FMT_PRIO e)
def State.qSize (s : State) (e q : Nat) : Nat := 2 ^ s.qFld q (F.ETH_Q_FMT_RING_LOG2 e)
def State.qK (s : State) (e q : Nat) : Nat := s.qFld q (F.ETH_Q_POS_K e)

/-- The queue's producer and consumer marks. -/
def State.qMarkP (s : State) (e q : Nat) : Mark :=
  (s.mark (s.qParcel e q) (s.qCtx e q) (s.qFld q (F.ETH_Q_CTX_MARK_P e))).getD {}
def State.qMarkC (s : State) (e q : Nat) : Mark :=
  (s.mark (s.qParcel e q) (s.qCtx e q) (s.qFld q (F.ETH_Q_CTX_MARK_C e))).getD {}

/-- The queue stops in ERROR (R231, R232). -/
def State.qError (s : State) (e q : Nat) : State :=
  (s.setQFld q (F.ETH_Q_CTRL_STATE e) 2).setBit (F.ETH_EVENT_Q_ERROR e)

/-! ## Flow control of the receiver (R236) -/

/-- FC_MODE: 0 none, 1 PAUSE, 2 PFC; 3 is taken as 0. -/
def State.fcMode (s : State) (e : Nat) : Nat :=
  let m := s.fld (F.ETH_PORT_CFG_FC_MODE e)
  if m = 3 then 0 else m

/-- Frames that a receive queue holds. -/
def State.rxHeld (s : State) (e q : Nat) : Int := i32Diff (s.qK e q) (s.qMarkC e q).count.toNat

/-- The enabled receive queues that decide about a priority: its own under PFC, all of them under PAUSE. -/
def State.fcQueues (s : State) (e prio : Nat) : List Nat :=
  ((List.range 64).map (64 + ·)).filter fun q =>
    s.qState e q == 1 && (s.fcMode e == 1 || s.qPrio e q == prio)

/-- A queue of the priority reaches XOFF; every one is at XON or below. -/
def State.wantsPause (s : State) (e prio : Nat) : Bool :=
  (s.fcQueues e prio).any fun q => decide ((s.qFld q (F.ETH_Q_FC_XOFF e) : Int) ≤ s.rxHeld e q)
def State.mayRelease (s : State) (e prio : Nat) : Bool :=
  (s.fcQueues e prio).all fun q => decide (s.rxHeld e q ≤ (s.qFld q (F.ETH_Q_FC_XON e) : Int))

/-- The port's address, first byte first: ETH_MAC_HI holds bytes 0-1 and ETH_MAC_LO bytes 2-5. -/
def State.ethMac (s : State) (e : Nat) : List Byte :=
  beBytes 2 (s.fld (F.ETH_MAC_HI_MAC_HI e)) ++ beBytes 4 (s.rd (Reg.ETH_MAC_LO e)).toNat

/-- The address of MAC control frames. -/
def controlMac : List Byte := [0x01, 0x80, 0xC2, 0x00, 0x00, 0x01]

/-- A PAUSE or PFC frame for the priorities of a mask with a time in quanta, FCS excluded. -/
def State.pauseFrame (s : State) (e mask quanta : Nat) : List Byte :=
  let body :=
    if s.fcMode e = 1 then beBytes 2 0x0001 ++ beBytes 2 quanta
    else beBytes 2 0x0101 ++ beBytes 2 mask
      ++ ((List.range 8).map fun i => beBytes 2 (if bitAt mask i then quanta else 0)).flatten
  let f := controlMac ++ s.ethMac e ++ beBytes 2 0x8808 ++ body
  f ++ List.replicate (60 - f.length) 0#8

/-- Send a pause frame, and count it. -/
def State.sendPause (s : State) (e mask quanta : Nat) : State :=
  (s.emit (.ethFrame e (s.pauseFrame e mask quanta))).addSat (F.ETH_PAUSE_TX_COUNT e)

/-- When a pause frame sent now is repeated. -/
def State.refreshDue (s : State) (e : Nat) : Nat := s.mclk + max 1 (s.fld (F.ETH_PORT_CFG_REFRESH_US e)) * perUs

/-- The pause test of the receiver: a priority with a queue at XOFF becomes paused, and the port says so. -/
def State.pauseTest (s : State) (e : Nat) : State :=
  if s.fcMode e = 0 ∨ !s.ethLive e then s
  else
    let old := s.fld (F.ETH_PORT_STATUS_RX_PAUSED e)
    let new := maskOf ((List.range 8).filter fun p => bitAt old p || s.wantsPause e p)
    if new = old then s
    else
      let s1 := (s.setFld (F.ETH_PORT_STATUS_RX_PAUSED e) new).sendPause e new 0xFFFF
      s1.setEthPort e { s1.ethPort e with refreshAt := some (s.refreshDue e) }

/-- The release test: a paused priority all of whose queues hold XON or fewer is released with one frame of time 0. -/
def State.releaseTest (s : State) (e : Nat) : State :=
  let old := s.fld (F.ETH_PORT_STATUS_RX_PAUSED e)
  let rel := maskOf ((setBits old 8).filter (s.mayRelease e))
  if rel = 0 then s
  else
    let new := maskOf ((setBits old 8).filter fun p => !bitAt rel p)
    let s1 := s.setFld (F.ETH_PORT_STATUS_RX_PAUSED e) new
    let s2 := if s.ethLive e && s.fcMode e != 0 then s1.sendPause e rel 0 else s1
    if new = 0 then s2.setEthPort e { s2.ethPort e with refreshAt := none } else s2

/-! ## Enabling and disabling queues (R231, R232, R235, R240) -/

/-- The queue's fields keep R231, R235 and Table 15. -/
def State.queueOk (s : State) (e q : Nat) : Bool :=
  let c := s.qCtx e q
  let rl := s.qFld q (F.ETH_Q_FMT_RING_LOG2 e)
  let bl := s.qFld q (F.ETH_Q_FMT_BUF_LOG2 e)
  decide (6 ≤ rl ∧ rl ≤ 12) && (decide (q < 64) || decide (11 ≤ bl ∧ bl ≤ 14))
    && decide (s.qBase e q % 128 = 0) && holdExists (s.qBase e q)
    && decide ((s.ctx c).st ≠ .free) && bitAt (s.ctxMask c) (s.qParcel e q)
    && (s.markSet (s.qParcel e q) c).isSome

/-- Writing 1 to ETH_Q_CTRL.STATE: a queue that is OFF and whose fields hold is enabled at its mark's position; one
whose fields break a rule stays OFF and sets Q_ERROR. -/
def State.enableQueue (s : State) (e q : Nat) : State :=
  if s.qState e q ≠ 0 then s
  else if !s.queueOk e q then s.setBit (F.ETH_EVENT_Q_ERROR e)
  else
    let k := if q < 64 then (s.qMarkC e q).count.toNat else (s.qMarkP e q).count.toNat
    ((s.setQFld q (F.ETH_Q_POS_K e) k).setQFld q (F.ETH_Q_CTRL_STATE e) 1).pauseTest e

/-- Writing 0 to ETH_Q_CTRL.STATE. -/
def State.disableQueue (s : State) (e q : Nat) : State := (s.setQFld q (F.ETH_Q_CTRL_STATE e) 0).releaseTest e

/-- The queue that a path has selected. -/
def State.qSel (s : State) (path : Path) (e : Nat) : Nat := s.fldB (pathNo path) (F.ETH_Q_SEL_Q e)

/-- A write of ETH_Q_CTRL by a path: 1 enables, 0 disables, other values are ignored. -/
def State.writeQCtrl (s : State) (path : Path) (e v : Nat) : State :=
  if v % 4 = 1 then s.enableQueue e (s.qSel path e)
  else if v % 4 = 0 then s.disableQueue e (s.qSel path e)
  else s

/-- ETH_QUEUE_ENABLE (R232, R240): under the RWL rule. -/
def execEthQueueEnable (path : Path) (e : Fin 2) (s : State) : Host.Outcome State Fault Refusal :=
  .next (if s.ethExists e.val then s.rwl path (Reg.ETH_Q_CTRL e.val) fun s => s.writeQCtrl path e.val 1 else s)

/-- ETH_QUEUE_DISABLE (R240): under the RWL rule. -/
def execEthQueueDisable (path : Path) (e : Fin 2) (s : State) : Host.Outcome State Fault Refusal :=
  .next (if s.ethExists e.val then s.rwl path (Reg.ETH_Q_CTRL e.val) fun s => s.writeQCtrl path e.val 0 else s)

/-! ## Checksums (R230, R233, R235) -/

/-- The one's complement sum of the 16-bit words of a byte list, big-endian, an odd last byte padded with zero. -/
def onesSum : List Byte → Nat
  | [] => 0
  | [a] => a.toNat * 256
  | a :: b :: r =>
    let t := a.toNat * 256 + b.toNat + onesSum r
    t % 65536 + t / 65536

/-- The internet checksum of a byte list. -/
def inetSum (l : List Byte) : Nat := 65535 - onesSum l

/-- The big-endian number in n bytes from offset o. -/
def beAt (l : List Byte) (o n : Nat) : Nat := beNat (sliceB l o n)

/-- Put bytes over a list from offset o on. -/
def putAt (l : List Byte) (o : Nat) (b : List Byte) : List Byte := l.take o ++ b ++ l.drop (o + b.length)

/-- The pseudo header of the layer-4 checksum: addresses, protocol and length. -/
def pseudo (f : List Byte) (l3 : Nat) (v6 : Bool) (proto len : Nat) : List Byte :=
  if v6 then sliceB f (l3 + 8) 32 ++ beBytes 4 len ++ beBytes 4 proto
  else sliceB f (l3 + 12) 8 ++ beBytes 2 proto ++ beBytes 2 len

/-- Fill the IPv4 header checksum. -/
def fillL3 (f : List Byte) (l3 : Nat) : List Byte :=
  let g := putAt f (l3 + 10) [0#8, 0#8]
  let h := f.getD l3 0#8
  putAt g (l3 + 10) (beBytes 2 (inetSum (sliceB g l3 (4 * (h.toNat % 16)))))

/-- Fill the TCP or UDP checksum over len bytes of layer 4; a UDP checksum of 0 is sent as 0xFFFF. -/
def fillL4 (f : List Byte) (l3 l4 : Nat) (v6 udp : Bool) (len : Nat) : List Byte :=
  let at' := l4 + (if udp then 6 else 16)
  let g := putAt f at' [0#8, 0#8]
  let c := inetSum (pseudo g l3 v6 (if udp then 17 else 6) len ++ sliceB g l4 len)
  putAt g at' (beBytes 2 (if udp ∧ c = 0 then 65535 else c))

/-! ## Transmission (R232, R233) -/

/-- A transmit descriptor (Table 11). -/
structure TxDesc where
  addr : Nat
  len : Nat
  csum3 : Bool
  csum4 : Bool
  seg : Bool
  udp : Bool
  v6 : Bool
  l3 : Nat
  l4 : Nat
  mss : Nat
  deriving DecidableEq, Repr

/-- Read Table 11 from its 16 bytes. -/
def txDescOf (b : List Byte) : TxDesc :=
  let fl := leAt b 8 1
  { addr := leAt b 0 4, len := bitsOf (leAt b 4 4) 18 0, csum3 := bitAt fl 0, csum4 := bitAt fl 1, seg := bitAt fl 2,
    udp := bitAt fl 3, v6 := bitAt fl 4, l3 := leAt b 9 1, l4 := leAt b 10 1, mss := bitsOf (leAt b 12 2) 13 0 }

/-- The descriptor keeps Table 11. -/
def txDescOk (b : List Byte) : Bool :=
  let d := txDescOf b
  decide (d.addr % 16 = 0) && decide (leAt b 4 4 < 2 ^ 19) && decide (60 ≤ d.len)
    && decide (d.len ≤ (if d.seg then 262144 else 9596)) && decide (leAt b 8 1 < 32)
    && decide (14 ≤ d.l3 ∧ d.l3 ≤ 127) && decide (d.l3 < d.l4) && decide (leAt b 12 2 < 2 ^ 14)
    && (if d.seg then decide (64 ≤ d.mss ∧ d.mss ≤ 9000) else decide (d.mss = 0))
    && decide (leAt b 11 1 = 0) && decide (leAt b 14 2 = 0)

/-- The bytes of layer 4's header that the descriptor's kind has: 4 times the TCP data offset, or 8 for UDP. -/
def l4Header (f : List Byte) (d : TxDesc) : Nat :=
  if d.udp then 8 else 4 * ((f.getD (d.l4 + 12) 0#8).toNat / 16)

/-- The headers agree with the descriptor in version, lengths and offsets; asked where an offload uses them (R233). -/
def headersAgree (f : List Byte) (d : TxDesc) : Bool :=
  let ver := (f.getD d.l3 0#8).toNat / 16
  let ihl := 4 * ((f.getD d.l3 0#8).toNat % 16)
  let ipLen := if d.v6 then beAt f (d.l3 + 4) 2 + 40 else beAt f (d.l3 + 2) 2
  let need3 := d.csum3 || d.csum4 || d.seg
  let need4 := d.csum4 || d.seg
  (!need3 ||
    (decide (ver = (if d.v6 then 6 else 4))
      && (d.v6 && decide (d.l3 + 40 ≤ d.len) || !d.v6 && decide (20 ≤ ihl ∧ d.l3 + ihl ≤ d.len))))
  && (!need4 ||
    ((if d.v6 then decide (d.l3 + 40 ≤ d.l4) else decide (d.l3 + ihl = d.l4))
      && decide (d.l4 + l4Header f d ≤ d.len) && (d.udp || decide (20 ≤ l4Header f d))
      && (d.seg || decide (d.l3 + ipLen ≤ d.len ∧ d.l4 + l4Header f d ≤ d.l3 + ipLen))))

/-- Pad a frame to the 64 B of R230, FCS included. -/
def padFrame (f : List Byte) : List Byte := f ++ List.replicate (60 - f.length) 0#8

/-- Segment i of n with its payload (R233). -/
def segmentOf (hdr : List Byte) (d : TxDesc) (i n : Nat) (pay : List Byte) : List Byte :=
  let f := hdr ++ pay
  let ipLen := f.length - d.l3
  let f1 :=
    if d.v6 then putAt f (d.l3 + 4) (beBytes 2 (ipLen - 40))
    else putAt (putAt f (d.l3 + 2) (beBytes 2 ipLen)) (d.l3 + 4) (beBytes 2 (beAt f (d.l3 + 4) 2 + i))
  let f2 :=
    if d.udp then putAt f1 (d.l4 + 4) (beBytes 2 (8 + pay.length))
    else
      let fl := (f1.getD (d.l4 + 13) 0#8).toNat
      let fl1 := if i + 1 = n then fl else setBitsOf (setBitsOf fl 0 0 0) 3 3 0
      let fl2 := if i = 0 then fl1 else setBitsOf fl1 7 7 0
      putAt (putAt f1 (d.l4 + 4) (beBytes 4 (beAt f1 (d.l4 + 4) 4 + i * d.mss))) (d.l4 + 13) (beBytes 1 fl2)
  let f3 := if d.csum3 && !d.v6 then fillL3 f2 d.l3 else f2
  if d.csum4 then fillL4 f3 d.l3 d.l4 d.v6 d.udp (f3.length - d.l4) else f3

/-- The frames that a descriptor sends for its frame data. -/
def framesOf (f : List Byte) (d : TxDesc) : List (List Byte) :=
  if d.seg then
    let h := d.l4 + l4Header f d
    let segs := chunks d.mss (f.drop h)
    let segs1 := if segs.isEmpty then [[]] else segs
    segs1.mapIdx fun i pay => padFrame (segmentOf (f.take h) d i segs1.length pay)
  else
    let ipLen := if d.v6 then beAt f (d.l3 + 4) 2 + 40 else beAt f (d.l3 + 2) 2
    let f1 := if d.csum3 && !d.v6 then fillL3 f d.l3 else f
    [if d.csum4 then fillL4 f1 d.l3 d.l4 d.v6 d.udp (d.l3 + ipLen - d.l4) else f1]

/-- The queue moves on: MARK_C and k rise by 1 (R232). -/
def State.txAdvance (s : State) (e q : Nat) : State :=
  let k := s.qK e q
  let s1 := s.updMark (s.qParcel e q) (s.qCtx e q) (s.qFld q (F.ETH_Q_CTX_MARK_C e)) fun m => m.signal 1 false
  s1.setQFld q (F.ETH_Q_POS_K e) (k + 1)

/-- Drop the descriptor, and count it. -/
def State.txDrop (s : State) (e q : Nat) : State := (s.addSat (F.ETH_TX_DROP_COUNT e)).txAdvance e q

/-- Process the next descriptor of a transmit queue (R232). -/
def State.txDescriptor (s : State) (e q : Nat) (errs : List WordErr) : State :=
  let fn := s.qFn e q
  let diff := i32Diff (s.qMarkP e q).count.toNat (s.qK e q)
  let da := s.qBase e q + 16 * (s.qK e q % s.qSize e q)
  if (s.qMarkP e q).error ∨ diff > (s.qSize e q : Int) then s.qError e q
  else if diff ≤ 0 then s
  else if !s.mayRead ⟨fn, none, false⟩ da 16 then s.qError e q
  else if s.clearingIn da 16 then s
  else
    let (ok1, s1) := s.readClean errs da 16 2 fn none
    let b := s1.holdGet da 16
    let d := txDescOf b
    if !ok1 ∨ !txDescOk b then s1.txDrop e q
    else if !s1.mayRead ⟨fn, none, false⟩ d.addr d.len then s1.qError e q
    else if s1.clearingIn d.addr d.len then s
    else
      let (ok2, s2) := s1.readClean errs d.addr d.len 2 fn none
      let f := s2.holdGet d.addr d.len
      if !ok2 ∨ !headersAgree f d then s2.txDrop e q
      else
        let fs := framesOf f d
        ((fs.foldl (fun s x => s.emit (.ethFrame e x)) s2).addSat (F.ETH_TX_FRAMES_COUNT e) fs.length).txAdvance e q

/-- The queue has something to do: it is ON, its priority is not paused by the peer, and its producer mark is ahead or
in error. -/
def State.txReady (s : State) (e q : Nat) : Bool :=
  s.qState e q == 1 && !bitAt (s.fld (F.ETH_PORT_STATUS_TX_PAUSED e)) (s.qPrio e q)
    && ((s.qMarkP e q).error || decide (i32Diff (s.qMarkP e q).count.toNat (s.qK e q) > 0))

/-- The next transmit queue in turn after the one that sent last (R237). -/
def State.nextTxQueue (s : State) (e : Nat) : Option Nat :=
  (((List.range 64).map fun i => ((s.ethPort e).lastTx + 1 + i) % 64)).find? (s.txReady e)

/-- ETH_TX_DESCRIPTOR (R232, R237): the next queue in turn processes its descriptor. errs are the errors that the reads
of the hold find. -/
def execEthTxDescriptor (e : Fin 2) (errs : List WordErr) (s : State) : Host.Outcome State Fault Refusal :=
  .next (if s.ethLive e.val ∧ !s.entryHolds 3 0 then
      match s.nextTxQueue e.val with
      | some q => (s.setEthPort e.val { s.ethPort e.val with lastTx := q }).txDescriptor e.val q errs
      | none => s
    else s)

/-! ## Reception (R234, R235) -/

/-- What the receiver reads in a frame: VLAN tag, EtherType and where layer 3 starts. -/
structure RxInfo where
  vlan : Bool
  pcp : Nat
  vid : Nat
  etype : Nat
  l3 : Nat
  deriving DecidableEq, Repr

def rxInfo (f : List Byte) : RxInfo :=
  if beAt f 12 2 = 0x8100 then
    { vlan := true, pcp := (f.getD 14 0#8).toNat / 32, vid := beAt f 14 2 % 4096, etype := beAt f 16 2, l3 := 18 }
  else { vlan := false, pcp := 0, vid := 0, etype := beAt f 12 2, l3 := 14 }

/-- The layers of an IP frame: IPv6, the protocol, where layer 4 starts and how long it is, and whether it stands whole
in this frame (no fragment). -/
structure IpInfo where
  v6 : Bool
  proto : Nat
  l4 : Nat
  l4len : Nat
  whole : Bool
  deriving DecidableEq, Repr

def ipInfo (f : List Byte) (r : RxInfo) : Option IpInfo :=
  let v := (f.getD r.l3 0#8).toNat
  if r.etype = 0x0800 ∧ v / 16 = 4 ∧ 5 ≤ v % 16 ∧ r.l3 + 4 * (v % 16) ≤ f.length then
    let hl := 4 * (v % 16)
    let tl := beAt f (r.l3 + 2) 2
    some { v6 := false, proto := (f.getD (r.l3 + 9) 0#8).toNat, l4 := r.l3 + hl, l4len := tl - hl,
           whole := decide (hl ≤ tl ∧ r.l3 + tl ≤ f.length) && decide (beAt f (r.l3 + 6) 2 % 16384 = 0) }
  else if r.etype = 0x86DD ∧ v / 16 = 6 ∧ r.l3 + 40 ≤ f.length then
    let pl := beAt f (r.l3 + 4) 2
    some { v6 := true, proto := (f.getD (r.l3 + 6) 0#8).toNat, l4 := r.l3 + 40, l4len := pl,
           whole := decide (r.l3 + 40 + pl ≤ f.length) }
  else none

/-- Layer 4 is a TCP or UDP header that stands in the frame. -/
def hasL4 (i : IpInfo) : Bool :=
  i.whole && (decide (i.proto = 6) && decide (20 ≤ i.l4len) || decide (i.proto = 17) && decide (8 ≤ i.l4len))

/-- HASH (R234). -/
def rxHash (f : List Byte) : Nat :=
  let r := rxInfo f
  match ipInfo f r with
  | none => 0
  | some i =>
    let addrs := if i.v6 then sliceB f (r.l3 + 8) 32 else sliceB f (r.l3 + 12) 8
    crc32 (addrs ++ if hasL4 i then sliceB f i.l4 4 ++ beBytes 1 i.proto else [])

/-- L3 of the record: 0 not IPv4, 1 checksum good, 2 bad. -/
def rxL3 (f : List Byte) : Nat :=
  let r := rxInfo f
  match ipInfo f r with
  | some i => if i.v6 then 0 else if onesSum (sliceB f r.l3 (i.l4 - r.l3)) = 65535 then 1 else 2
  | none => 0

/-- L4 of the record: 0 not checked, 1 good, 2 bad. -/
def rxL4 (f : List Byte) : Nat :=
  let r := rxInfo f
  match ipInfo f r with
  | none => 0
  | some i =>
    if !hasL4 i then 0
    else if i.proto = 17 ∧ !i.v6 ∧ beAt f (i.l4 + 6) 2 = 0 then 0
    else if onesSum (pseudo f r.l3 i.v6 i.proto i.l4len ++ sliceB f i.l4 i.l4len) = 65535 then 1 else 2

/-- The receive record (Table 12). -/
def rxRecord (f : List Byte) (ftime : Nat) : List Byte :=
  let r := rxInfo f
  leBytes 2 f.length ++ leBytes 1 (rxL3 f + 4 * rxL4 f + 16 * b2n r.vlan + 32 * r.pcp) ++ leBytes 1 0
    ++ leBytes 4 (rxHash f) ++ leBytes 8 ftime

/-- The receive queue (64-127) that the first matching filter picks (R234). -/
def State.rxMatch (s : State) (e : Nat) (f : List Byte) : Option Nat :=
  let r := rxInfo f
  ((List.range 64).find? fun i =>
    s.fld (F.ETH_FILT_TGT_VALID e i) == 1
      && beBytes 2 (s.fld (F.ETH_FILT_MAC_HI_MAC_HI e i)) ++ beBytes 4 (s.rd (Reg.ETH_FILT_MAC_LO e i)).toNat
          == sliceB f 0 6
      && (s.fld (F.ETH_FILT_MAC_HI_VLAN_EN e i) == 0
          || (r.vlan && r.vid == s.fld (F.ETH_FILT_MAC_HI_VLAN_ID e i)))).map fun i =>
    64 + (s.fld (F.ETH_FILT_TGT_QBASE e i) + rxHash f % 2 ^ s.fld (F.ETH_FILT_TGT_QCNT_LOG2 e i)) % 64

/-- Place a frame in a receive queue (R235). -/
def State.rxPlace (s : State) (e q : Nat) (f : List Byte) : State :=
  let k := s.qK e q
  let slot := 2 ^ s.qFld q (F.ETH_Q_FMT_BUF_LOG2 e)
  let a := s.qBase e q + slot * (k % s.qSize e q)
  let fn := s.qFn e q
  let n := 16 + f.length
  if s.qState e q ≠ 1 ∨ s.rxHeld e q ≥ (s.qSize e q : Int) then s.addSat (F.ETH_RX_FULL_COUNT e)
  else if n > slot then s.addSat (F.ETH_RX_SIZE_COUNT e)
  else if !s.mayWrite ⟨fn, none, false⟩ a n then s.qError e q
  else if s.clearingIn a n then s
  else
    let (ok1, s1) := s.holdPut (a + 16) f
    let (ok2, s2) := s1.holdPut a (rxRecord f s.fabTime)
    if !ok1 ∨ !ok2 then s.addSat (F.ETH_RX_FULL_COUNT e)
    else
      let s3 := s2.updMark (s.qParcel e q) (s.qCtx e q) (s.qFld q (F.ETH_Q_CTX_MARK_P e)) fun m => m.signal 1 false
      ((s3.setQFld q (F.ETH_Q_POS_K e) (k + 1)).addSat (F.ETH_RX_FRAMES_COUNT e)).pauseTest e

/-- A MAC control frame (R237): accepted, it sets the pause timers it names; any other is dropped and counted. -/
def State.macControl (s : State) (e : Nat) (f : List Byte) (fcsOk : Bool) : State :=
  let dst := sliceB f 0 6
  let op := beAt f 14 2
  if !(fcsOk && decide (f.length = 60) && (dst == controlMac || dst == s.ethMac e)
      && (s.fcMode e == 1 && op == 0x0001 || s.fcMode e == 2 && op == 0x0101)) then
    s.addSat (F.ETH_MACCTL_DROP_COUNT e)
  else
    let named := if s.fcMode e = 1 then List.range 8 else setBits (beAt f 16 2) 8
    let s1 := s.addSat (F.ETH_PAUSE_RX_COUNT e)
    named.foldl (fun s p =>
      let quanta := if s.fcMode e = 1 then beAt f 16 2 else beAt f (18 + 2 * p) 2
      let x := s.ethPort e
      let paused := s.fld (F.ETH_PORT_STATUS_TX_PAUSED e)
      let s2 := s.setFld (F.ETH_PORT_STATUS_TX_PAUSED e) (setBitsOf paused p p (b2n (decide (quanta ≠ 0))))
      let due := if quanta = 0 then none else some (s.mclk + ceilDiv (quanta * 128) 400)
      s2.setEthPort e { x with timers := amPut x.timers p due }) s1

/-- ETH_FRAME_RECEIVE (R234, R235): frame is the frame without its FCS, fcsOk whether the FCS was good. -/
def execEthFrameReceive (e : Fin 2) (frame : List Byte) (fcsOk : Bool) (s : State) :
    Host.Outcome State Fault Refusal :=
  .next (if !s.ethLive e.val ∨ frame.length < 60 then s
    else if frame.length + 4 > 9600 then s.addSat (F.ETH_RX_SIZE_COUNT e.val)
    else if (rxInfo frame).etype = 0x8808 then s.macControl e.val frame fcsOk
    else if !fcsOk then s.addSat (F.ETH_RX_FCS_COUNT e.val)
    else match s.rxMatch e.val frame with
      | some q => s.rxPlace e.val q frame
      | none => s.addSat (F.ETH_RX_NOMATCH_COUNT e.val))

/-- ETH_PAUSE_RELEASE (R236). -/
def execEthPauseRelease (e : Fin 2) (s : State) : Host.Outcome State Fault Refusal := .next (s.releaseTest e.val)

/-- PAUSE_REFRESH (R236): the pause frame is repeated every REFRESH_US. -/
def execPauseRefresh (e : Fin 2) (s : State) : Host.Outcome State Fault Refusal :=
  .next (s.atDeadline (s.ethPort e.val).refreshAt fun s =>
    let m := s.fld (F.ETH_PORT_STATUS_RX_PAUSED e.val)
    if m = 0 ∨ !s.ethLive e.val ∨ s.fcMode e.val = 0 then s.setEthPort e.val { s.ethPort e.val with refreshAt := none }
    else (s.sendPause e.val m 0xFFFF).setEthPort e.val { s.ethPort e.val with refreshAt := some (s.refreshDue e.val) })

/-- MAC_CONTROL_RECEIVE (R237): a received frame of EtherType 0x8808. -/
def execMacControlReceive (e : Fin 2) (frame : List Byte) (fcsOk : Bool) (s : State) :
    Host.Outcome State Fault Refusal :=
  .next (if s.ethLive e.val ∧ (rxInfo frame).etype = 0x8808 then s.macControl e.val frame fcsOk else s)

/-- PAUSE_TIMER_EXPIRY (R237): the peer's pause of a priority runs out. -/
def execPauseTimerExpiry (e : Fin 2) (prio : Fin 8) (s : State) : Host.Outcome State Fault Refusal :=
  .next (s.atDeadline (amGet (s.ethPort e.val).timers prio.val) fun s =>
    let x := s.ethPort e.val
    let m := s.fld (F.ETH_PORT_STATUS_TX_PAUSED e.val)
    (s.setFld (F.ETH_PORT_STATUS_TX_PAUSED e.val) (setBitsOf m prio.val prio.val 0)).setEthPort e.val
      { x with timers := amDel x.timers prio.val })

/-- ETH_LINK_DOWN (R230): the link is lost, and an event is raised on source 58. -/
def execEthLinkDown (e : Fin 2) (s : State) : Host.Outcome State Fault Refusal :=
  .next (if s.ethExists e.val ∧ s.fld (F.ETH_PORT_STATUS_LINK_UP e.val) = 1 then
      ((s.setFld (F.ETH_PORT_STATUS_LINK_UP e.val) 0).setBit (F.ETH_EVENT_LINK_DOWN e.val)).raise 58 e.val 0 none
    else s)

/-- ETH_LINK_UP (R230): auto-negotiation and link training are complete on a port that is on. -/
def execEthLinkUp (e : Fin 2) (s : State) : Host.Outcome State Fault Refusal :=
  .next (if s.ethExists e.val ∧ s.up 8 ∧ s.fld (F.ETH_PORT_CFG_ENABLE e.val) = 1 then
      (s.setFld (F.ETH_PORT_STATUS_LINK_UP e.val) 1).pauseTest e.val
    else s)

end Sys2Proof.Machine
end

