-- ==== Sys2Proof/Machine/Link.lean ====
section
/-! DEFINITION. The Hereth link layer (10_hereth_link): receiving units, acknowledgement, replay, credits, the port state
machine, resumption after a break, violations and in-service lane retraining. -/

namespace Sys2Proof.Machine

/-! ## States of the port (R254) -/

/-- Is a state part of UP's neighbourhood that a loss leaves? A port leaves UP: its port state falls to DOWN, and a
traverse in progress marks it to become ABSENT 2 ms later (R274). -/
def State.leaveUp (s : State) (p : Nat) : State :=
  if s.linkState p ≠ 5 then s
  else
    let s1 := s.setFld (F.FAB_PORT_STATE_STATE p) 0
    let s2 := s1.setBit F.FAB_TRAV_STATUS_NEXT_DUE
    let mark := fun (t : Traverse) =>
      if t.ports.contains p then { t with leaving := amSet t.leaving p (s.mclk + 2 * perMs) } else t
    { s2 with fab := { s2.fab with trav := s2.fab.trav.map mark } }

/-- The packet in progress is discarded; a cut-through copy of it is ended with STOMP set (R251). -/
def State.dropCur (s : State) (p : Nat) : State :=
  let l := s.link p
  let s1 := s.setLink p { l with cur := none }
  match l.cur with
  | some c => match c.cut with
    | some q => s1.linkSend q { pkt := { c.pkt with hops := c.pkt.hops + 1 }, fromPort := none, stomp := true }
    | none => s1
  | none => s1

/-- Enter TRAIN: every lane is tried, exclusions fall, a retrain in progress is abandoned and its lane becomes due again
after 1 s (R255, R265). -/
def State.enterTrain (s : State) (p : Nat) : State :=
  let s1 := (s.leaveUp p).dropCur p
  let s2 := if s.linkState p = 5 then s1.setBit (F.LNK_EVENT_DOWN p) else s1
  let l := s2.link p
  let l1 := { l with
    stateDeadline := some (s.mclk + 100 * perMs)
    replayDeadline := none, nakDeadline := none, seen := false
    backoff := if l.exch = 0 then l.backoff else amSet l.backoff l.exchLane (s.mclk + 1000 * perMs)
    exch := 0 }
  (((((s2.setLink p l1).setFld (F.LNK_STATUS_STATE p) 2).setFld (F.LNK_STATUS_LANE_EXCL p) 0).setFld
    (F.LNK_STATUS_RETRAINING p) 0).setFld (F.LNK_STATUS_LANES p) 0)

/-- Enter RESTART with the KIND its units carry; more than 8 restarts within 1 s put the port in FAILED (R254), which is
degraded operation (R388). -/
def State.enterRestart (s : State) (p kind : Nat) : State :=
  let s0 := (s.leaveUp p).dropCur p
  let l := s0.link p
  let recent := (l.restartTimes.filter fun t => decide (s.mclk < t + 1000 * perMs)) ++ [s.mclk]
  let s1 := (s0.addSat (F.LNK_RESTARTS_COUNT p)).setBit (F.LNK_EVENT_RESTART p)
  let l1 := { l with
    restartTimes := recent, restartKind := kind, replayDeadline := none, nakDeadline := none, nakSent := false
    stateDeadline := some (s.mclk + perUs)
    backoff := if l.exch = 0 then l.backoff else amSet l.backoff l.exchLane (s.mclk + 1000 * perMs)
    exch := 0 }
  let s2 := (s1.setLink p l1).setFld (F.LNK_STATUS_RETRAINING p) 0
  if recent.length > 8 then
    let s3 := ((s2.setLink p { l1 with stateDeadline := none }).setFld (F.LNK_STATUS_STATE p) 8).setBit (F.LNK_EVENT_DOWN p)
    s3.degrade F.FCU_SERVICE_PORT none
  else (s2.setFld (F.LNK_STATUS_STATE p) 6).emit
    (.linkControl p 0xF3 ([0xF3#8] ++ leBytes 1 kind ++ List.replicate 30 0#8))

/-- The room of a VC in 32 B units (R38, Table 6). -/
def roomUnits (vc : Nat) : Nat :=
  match vc with
  | 0 => 1152 | 1 => 1152 | 2 => 1280 | _ => 512

/-- Enter INIT (R256, R258): a new transmit epoch, which skips 0; the receive state of the old epoch is kept for the
HELLO; the credits granted are the free units of each VC's room. -/
def State.enterInit (s : State) (p : Nat) : State :=
  let l := s.link p
  let old := s.fld (F.LNK_EPOCH_TX_EPOCH p)
  let e := s.fld (F.LNK_SEQ_RX_EXPECT p)
  let new := if (old + 1) % 65536 = 0 then 1 else (old + 1) % 65536
  let l1 := { l with
    prevTx := old, keptEpoch := s.fld (F.LNK_EPOCH_RX_EPOCH p)
    keptLast := if l.rxAny then some ((e + 4095) % 4096) else none
    rxAny := false, seen := false, crOut := [0, 0, 0, 0], crIn := [0, 0, 0, 0], nakSent := false
    nakDeadline := none, replayDeadline := none, replays := 0, replaying := none, cur := none
    stateDeadline := some (s.mclk + perMs) }
  let s1 := (((s.setLink p l1).setFld (F.LNK_STATUS_STATE p) 4).setFld (F.LNK_EPOCH_TX_EPOCH p) new).setFld
    (F.LNK_SEQ_RX_EXPECT p) 0
  [0, 1, 2, 3].foldl (fun s v => s.setFld (F.LNK_CREDIT_GRANTED_FREE p v) (roomUnits v - l.held.getD v 0)) s1

/-- Reach UP: the port is PENDING until a traverse admits it (R274); waiting packets that may go do. -/
def State.enterUp (s : State) (p : Nat) : State :=
  let l := s.link p
  let s1 := ((s.setLink p { l with stateDeadline := none }).setFld (F.LNK_STATUS_STATE p) 5).setFld
    (F.FAB_PORT_STATE_STATE p) 1
  let s2 := if s.fab.started then s1.setBit F.FAB_TRAV_STATUS_NEXT_DUE else s1
  s2.linkDrain p

/-! ## Violations (R267) -/

/-- A violation by the peer: the first is recorded, each is counted, an event is raised on source 36 + p, and the kinds
that Table 9 answers with RESTART or TRAIN are answered so. -/
def State.linkViolation (s : State) (p kind vc ptype : Nat) : State :=
  let s1 := (s.addSat (F.LNK_VIOL_COUNT_COUNT p)).setBit (F.LNK_EVENT_VIOLATION p)
  let s2 :=
    if s.fld (F.LNK_VIOL_INFO_VALID p) = 1 then s1
    else (((s1.setBit (F.LNK_VIOL_INFO_VALID p)).setFld (F.LNK_VIOL_INFO_KIND p) kind).setFld
      (F.LNK_VIOL_INFO_VC p) vc).setFld (F.LNK_VIOL_INFO_PTYPE p) ptype
  let s3 := s2.raise (36 + p) p kind none
  if kind = 1 ∨ kind = 2 ∨ (8 ≤ kind ∧ kind ≤ 11) then s3.enterRestart p kind
  else if kind = 12 then s3.enterTrain p
  else s3

/-! ## Link control (R246-R249, R252, R253) -/

/-- The 24 bytes of the link-control field a port sends now. -/
def State.lctlField (s : State) (p : Nat) (nak : Bool) : List Byte :=
  let l := s.link p
  let e := s.fld (F.LNK_SEQ_RX_EXPECT p)
  let b := leBytes 2 ((e + 4095) % 4096 + 0x1000 * b2n l.rxAny + 0x2000 * b2n nak + 0x4000 * b2n s.safe)
    ++ leBytes 2 (l.crOut.getD 0 0 % 4096) ++ leBytes 2 (l.crOut.getD 1 0 % 4096)
    ++ leBytes 2 (l.crOut.getD 2 0 % 4096) ++ leBytes 2 (l.crOut.getD 3 0 % 4096)
    ++ leBytes 2 (s.fld (F.LNK_EPOCH_RX_EPOCH p)) ++ List.replicate 10 0#8
  b ++ leBytes 2 (crc16 b)

/-- Send an LCTL unit. -/
def State.sendLctl (s : State) (p : Nat) (nak : Bool) : State :=
  ((s.setLink p { s.link p with lctlDue := false }).emit
    (.linkControl p 0xF1 ([0xF1#8] ++ List.replicate 7 0#8 ++ s.lctlField p nak))).add64 (Reg.LNK_UNITS_LO p) 1

/-- nak_once of R248: NAK is sent only when none is outstanding. -/
def State.nakOnce (s : State) (p : Nat) : State :=
  let l := s.link p
  if l.nakSent then s
  else (s.setLink p { l with nakSent := true, nakDeadline := some (s.replayAt p) }).sendLctl p true

/-- Units come free in a port's room: the credits go back to the peer (R250, R252). -/
def State.returnCredits (s : State) (p vc units : Nat) : State :=
  let l := s.link p
  let l1 := { l with crOut := listSet l.crOut vc ((l.crOut.getD vc 0 + units) % 4096), lctlDue := true,
                     held := listSet l.held vc (l.held.getD vc 0 - units) }
  (s.setLink p l1).setFld (F.LNK_CREDIT_GRANTED_FREE p vc) (s.fld (F.LNK_CREDIT_GRANTED_FREE p vc) + units)

/-- Packets that the next hop acknowledged leave their room: a forwarded one returns its credits upstream (R250). -/
def State.freeTx (s : State) (es : List TxEnt) : State :=
  es.foldl (fun s e => match e.fromPort with
    | some q => s.returnCredits q e.pkt.vc.toNat (packetUnits e.pkt)
    | none => s) s

/-- Resend every unacknowledged packet in order with the same numbers (R249). -/
def State.replay (s : State) (p : Nat) : State :=
  let l := s.link p
  if l.unacked.isEmpty then s
  else
    let s1 := l.unacked.foldl (fun s e => (s.add64 (Reg.LNK_UNITS_LO p) (packetUnits e.pkt)).emit
      (.linkPacket p e.seq e.pkt e.stomp)) (s.addSat (F.LNK_REPLAYS_COUNT p))
    s1.setLink p { l with replays := l.replays + 1, replaying := some l.oldest, replayDeadline := some (s.replayAt p) }

/-- A link-control field (R246): ignored when its CRC fails or its epoch is not this port's; ACK_SEQ frees packets or is
an ACK_RANGE violation; credits are added or are a CREDIT_EXCESS violation; NAK starts a replay unless one for the
same number runs. -/
def State.rxLctl (s : State) (p : Nat) (f : List Byte) : State :=
  if crc16 (f.take 22) ≠ leAt f 22 2 then s.addSat (F.LNK_CRC_ERR_COUNT p)
  else if leAt f 10 2 ≠ s.fld (F.LNK_EPOCH_TX_EPOCH p) then s.addSat (F.LNK_STALE_COUNT p)
  else
    let w := leAt f 0 2
    let a := w % 4096
    let l := s.link p
    let n := s.fld (F.LNK_SEQ_TX_NEXT p)
    let o := if l.unacked.isEmpty then n else l.oldest
    let sV := s.setFld (F.LNK_STATUS_VC3_ONLY_RX p) (bitsOf w 14 14)
    let ackLen := (a + 4097 - o) % 4096
    if bitAt w 12 ∧ ackLen > l.unacked.length then sV.linkViolation p 10 0 0xF1
    else
      let k := if bitAt w 12 then ackLen else 0
      let l1 := { l with
        unacked := l.unacked.drop k, oldest := (o + k) % 4096
        replays := if k = 0 then l.replays else 0
        replaying := if k = 0 then l.replaying else none
        replayDeadline := if (l.unacked.drop k).isEmpty then none else if k = 0 then l.replayDeadline
                          else some (s.replayAt p) }
      let s1 := (sV.setLink p l1).freeTx (l.unacked.take k)
      let deltas := [0, 1, 2, 3].map fun v => (leAt f (2 + 2 * v) 2 % 4096 + 4096 - l.crIn.getD v 0) % 4096
      let excess := [0, 1, 2, 3].any fun v =>
        decide (s1.fld (F.LNK_CREDIT_AVAIL p v) + deltas.getD v 0 > l.grant.getD v 0)
      if excess then s1.linkViolation p 9 0 0xF1
      else
        let s2 := [0, 1, 2, 3].foldl (fun s v =>
          s.setFld (F.LNK_CREDIT_AVAIL p v) (s.fld (F.LNK_CREDIT_AVAIL p v) + deltas.getD v 0)) s1
        let s3 := s2.setLink p { s2.link p with crIn := [0, 1, 2, 3].map fun v => leAt f (2 + 2 * v) 2 % 4096 }
        let s4 := if bitAt w 13 ∧ (s3.link p).replaying ≠ some (s3.link p).oldest then s3.replay p else s3
        s4.linkDrain p

/-! ## Receiving packets (R248, R250, R251, R267) -/

/-- The VC and the largest PLEN of a packet type (Table 3). -/
def ptypeVc (t : Nat) : Option (Nat × Nat) :=
  match t with
  | 0x01 => some (0, 64) | 0x02 => some (0, 0) | 0x03 => some (0, 2)
  | 0x08 => some (1, 0) | 0x09 => some (1, 0)
  | 0x10 => some (2, 64) | 0x11 => some (2, 2)
  | 0x20 => some (3, 8) | 0x21 => some (3, 1) | 0x22 => some (3, 64) | 0x23 => some (3, 2)
  | 0x24 => some (3, 1) | 0x25 => some (3, 1)
  | _ => none

/-- A reserved field of a header unit is not 0 (Table 2). -/
def headerReserved (h : List Byte) : Bool :=
  bitsOf (leAt h 1 1) 7 2 != 0 || bitsOf (leAt h 2 2) 15 12 != 0 || bitsOf (leAt h 4 3) 3 0 != 0
    || bitsOf (leAt h 7 1) 7 7 != 0 || bitsOf (leAt h 8 3) 3 0 != 0 || bitsOf (leAt h 11 1) 7 4 != 0
    || bitsOf (leAt h 12 2) 15 12 != 0 || bitsOf (leAt h 14 2) 15 12 != 0 || leAt h 28 2 != 0
    || (leAt h 26 1 != 0 && leAt h 0 1 != 0x08 && leAt h 0 1 != 0x25)

/-- The packet-level violation a header unit shows, if any, in the order of Table 9. -/
def headerViolation (h : List Byte) : Option Nat :=
  match ptypeVc (leAt h 0 1) with
  | none => some 3
  | some (vc, m) =>
    if leAt h 1 1 % 4 ≠ vc then some 4
    else if headerReserved h then some 5
    else if leAt h 7 1 % 128 > m then some 6
    else none

/-- A tree port of this variant. -/
def State.isTree (s : State) (p : Nat) : Bool := decide (s.fuses.meshPorts ≤ p)

/-- A port in INIT that has received a valid HELLO takes a link-control or header unit as SEEN and is UP (R257). -/
def State.seenUp (s : State) (p : Nat) : State :=
  if s.linkState p = 4 ∧ (s.link p).seen then s.enterUp p else s

/-- RX_HEADER (R242, R248): a header unit. -/
def State.rxHeader (s0 : State) (p : Nat) (unit : List Byte) (fecOk : Bool) : State :=
  let s := s0.seenUp p
  if s.linkState p ≠ 5 then s
  else if !fecOk then (s.addSat (F.LNK_FEC_UNCORR_COUNT p)).nakOnce p
  else if leAt unit 0 1 = 0 ∨ leAt unit 0 1 ≥ 0xF7 then s.linkViolation p 1 0 (leAt unit 0 1)
  else if (s.link p).cur.isSome then s.linkViolation p 2 0 (leAt unit 0 1)
  else if crc16 (unit.take 30) ≠ leAt unit 30 2 then (s.addSat (F.LNK_CRC_ERR_COUNT p)).nakOnce p
  else
    let plen := leAt unit 7 1 % 128
    if plen > 64 then s.linkViolation p 2 (leAt unit 1 1 % 4) (leAt unit 0 1)
    else
      let d := (leAt unit 2 2 % 4096 + 4096 - s.fld (F.LNK_SEQ_RX_EXPECT p)) % 4096
      if d ≥ 3072 then s.setLink p { s.link p with lctlDue := true }
      else if d ≥ 1024 then s.linkViolation p 11 (leAt unit 1 1 % 4) (leAt unit 0 1)
      else if d ≠ 0 then s.nakOnce p
      else
        let vc := leAt unit 1 1 % 4
        if plen + 2 > s.fld (F.LNK_CREDIT_GRANTED_FREE p vc) then s.linkViolation p 8 vc (leAt unit 0 1)
        else
          let pk := packetOf unit []
          let viol := headerViolation unit
          let cut := if viol.isSome || s.safe || leAt unit 0 1 == 0x20 || leAt unit 0 1 == 0x21 then none
            else match s.route pk.dst.toNat vc (s.isTree p) with
              | .port q => if s.isTree p && s.canSend q { pk with payload := List.replicate (32 * plen) 0#8 }
                  then some q else none
              | _ => none
          s.setLink p { s.link p with cur := some ⟨unit, pk, plen, viol, cut⟩ }

/-- Hand a good packet on (R271, R280-R282, R285): to its receiver, to a relay port, or nowhere. -/
def State.deliver (s : State) (p : Nat) (pk : Packet) : State :=
  let t := pk.ptype.toNat
  let done := s.returnCredits p pk.vc.toNat (packetUnits pk)
  let toInbox := { done with inbox := done.inbox ++ [(some p, pk)] }
  if t = 0x20 ∨ t = 0x21 then
    if pk.dst ≠ 0 ∨ pk.src ≠ 0 ∨ pk.hops ≠ 0 then done.addSat F.FAB_TRAV_BAD_COUNT else toInbox
  else if s.portState p = 4 then done
  else if s.safe ∧ pk.vc ≠ 3 then done
  else if s.portState p ≠ 2 ∧ pk.vc ≠ 3 then done
  else if t = 0x24 then
    if !s.isTree p then done.addSat F.FAB_TRAV_BAD_COUNT
    else if s.portState p = 2 ∧ pk.dst.toNat = s.station 15 then toInbox
    else done.unroutable pk
  else if pk.hops.toNat ≥ max 1 (s.fld F.FAB_ROUTE_HOP_LIMIT) then
    (done.addSat F.FAB_HOP_DROP_COUNT).unroutable pk
  else match s.route pk.dst.toNat pk.vc.toNat (s.isTree p) with
    | .here => if pk.dst.toNat / 16 % 16 < 12 then toInbox else done.unroutable pk
    | .port q =>
      if s.isTree p ∧ s.portState p = 2 then
        s.linkSend q { pkt := { pk with hops := pk.hops + 1 }, fromPort := some p }
      else done.unroutable pk
    | .noRoute => done.unroutable pk

/-- RX_TAIL (R245, R248, R250, R251): the payload units and the tail unit of the packet in progress. -/
def State.rxTail (s0 : State) (p : Nat) (payload tail : List Byte) (fecOk : Bool) : State :=
  match (s0.link p).cur with
  | none => if s0.linkState p = 5 ∧ !fecOk then (s0.addSat (F.LNK_FEC_UNCORR_COUNT p)).nakOnce p else s0
  | some c =>
    if s0.linkState p ≠ 5 then s0
    else if !fecOk then ((s0.addSat (F.LNK_FEC_UNCORR_COUNT p)).dropCur p).nakOnce p
    else if payload.length ≠ 32 * c.plen then
      (s0.dropCur p).linkViolation p 2 c.pkt.vc.toNat c.pkt.ptype.toNat
    else
      let good := crc32 (c.header ++ payload)
      let got := leAt tail 0 4
      let stomp := bitAt (leAt tail 4 1) 0
      if !(got == good || (stomp && got == good ^^^ 0xFFFFFFFF)) then
        ((s0.addSat (F.LNK_CRC_ERR_COUNT p)).dropCur p).nakOnce p
      else
        let vc := c.pkt.vc.toNat
        let units := c.plen + 2
        let l := s0.link p
        let e := s0.fld (F.LNK_SEQ_RX_EXPECT p)
        let l1 := { l with
          cur := none, nakSent := false, nakDeadline := none, rxAny := true
          lctlDue := true, held := listSet l.held vc (l.held.getD vc 0 + units) }
        let s1 := (s0.setLink p l1).setFld (F.LNK_SEQ_RX_EXPECT p) ((e + 1) % 4096)
        let s2 := s1.setFld (F.LNK_CREDIT_GRANTED_FREE p vc) (s1.fld (F.LNK_CREDIT_GRANTED_FREE p vc) - units)
        let pk := { c.pkt with payload := payload }
        let s3 :=
          if stomp then (s2.addSat (F.LNK_STOMPED_COUNT p)).returnCredits p vc units
          else match c.viol with
            | some k =>
              let sv := (s2.returnCredits p vc units).linkViolation p k vc pk.ptype.toNat
              if vc = 0 then sv.sendAny (responseTo pk Status.PEER_PROTOCOL) else sv
            | none =>
              if pk.ptype = 0x08 ∧ pk.status.toNat ≥ 0x11 then
                (s2.linkViolation p 7 vc 0x08).deliver p pk
              else s2.deliver p pk
        s3.rxLctl p (sliceB tail 8 24)

def execRxHeader (p : Port) (unit : List Byte) (fecOk : Bool) (s : State) : Host.Outcome State Fault Refusal :=
  .next (if s.portExists p.val then s.rxHeader p.val unit fecOk else s)

def execRxTail (p : Port) (payload tail : List Byte) (fecOk : Bool) (s : State) : Host.Outcome State Fault Refusal :=
  .next (if s.portExists p.val then s.rxTail p.val payload tail fecOk else s)

/-- LCTL (R246, R257): a link-control unit. -/
def execLctlUnit (p : Port) (unit : List Byte) (s : State) : Host.Outcome State Fault Refusal :=
  .next (let s1 := s.seenUp p.val
         if s1.linkState p.val = 5 ∧ leAt unit 0 1 = 0xF1 then s1.rxLctl p.val (sliceB unit 8 24) else s1)

/-- LCTL_SEND (R247): every 1 us, and after a change that no tail unit has carried. -/
def execLctlSend (p : Port) (s : State) : Host.Outcome State Fault Refusal :=
  .next (if s.linkState p.val = 5 then s.sendLctl p.val (s.link p.val).nakSent else s)

/-- REPLAY_TIMEOUT (R249): the sender replays, or enters RESTART when O has been replayed REPLAY_LIMIT times. -/
def execReplayTimeout (p : Port) (s : State) : Host.Outcome State Fault Refusal :=
  .next (s.atDeadline (s.link p.val).replayDeadline fun s =>
    if s.linkState p.val ≠ 5 then s
    else if (s.link p.val).replays ≥ max 1 (s.fld (F.LNK_CFG_REPLAY_LIMIT p.val)) then s.enterRestart p.val 0
    else s.replay p.val)

/-- NAK_RESEND (R248): packet E has not arrived within REPLAY_NS of the NAK. -/
def execNakResend (p : Port) (s : State) : Host.Outcome State Fault Refusal :=
  .next (s.atDeadline (s.link p.val).nakDeadline fun s =>
    if s.linkState p.val = 5 ∧ (s.link p.val).nakSent then
      (s.setLink p.val { s.link p.val with nakDeadline := some (s.replayAt p.val) }).sendLctl p.val true
    else s)

/-! ## HELLO and resumption (R256-R261) -/

/-- The HELLO unit a port sends (Table 7). -/
def State.helloUnitOf (s : State) (p : Nat) : List Byte :=
  let l := s.link p
  let cr := fun v => leBytes 2 (s.fld (F.LNK_CREDIT_GRANTED_FREE p v))
  let b := [0xF2#8, 0x01#8] ++ leBytes 1 p ++ leBytes 1 (s.fld (F.LNK_STATUS_WIDTH p)) ++ leBytes 8 s.fuses.serial
    ++ leBytes 2 (s.fld (F.LNK_EPOCH_TX_EPOCH p)) ++ leBytes 2 l.keptEpoch
    ++ leBytes 2 (l.keptLast.getD 0 + 0x1000 * b2n l.keptLast.isSome)
    ++ cr 0 ++ cr 1 ++ cr 2 ++ cr 3 ++ leBytes 1 (b2n l.seen + 2 * b2n s.safe) ++ List.replicate 3 0#8
  b ++ leBytes 2 (crc16 b)

/-- HELLO_SEND (R257): in INIT a port sends HELLO every 1 us. -/
def execHelloSend (p : Port) (s : State) : Host.Outcome State Fault Refusal :=
  .next (if s.linkState p.val = 4 then s.emit (.linkControl p.val 0xF2 (s.helloUnitOf p.val)) else s)

/-- Stale packets of a link that cannot resume (R259): counted, and ended by where they came from. -/
def State.discardStale (s : State) (p : Nat) : State :=
  let l := s.link p
  if l.unacked.isEmpty then s
  else
    let s1 := ((s.setLink p { l with unacked := [] }).addSat (F.LNK_DISCARDED_COUNT p) l.unacked.length).setBit
      (F.LNK_EVENT_STALE_DISCARD p)
    l.unacked.foldl (fun s e => match e.fromPort with
      | none => s.lostPacket e.pkt
      | some q =>
        let s1 := s.returnCredits q e.pkt.vc.toNat (packetUnits e.pkt)
        if e.pkt.ptype = 0x01 ∨ e.pkt.ptype = 0x02 ∨ e.pkt.ptype = 0x03 then
          s1.sendAny (responseTo e.pkt Status.UNREACHABLE)
        else s1) s1

/-- The first valid HELLO of an attempt: resume or discard (R258, R259), the new credits (R252), the peer (R261). -/
def State.firstHello (s : State) (p : Nat) (u : List Byte) : State :=
  let l := s.link p
  let serial := leAt u 4 8
  let stored := s.rd64 (Reg.LNK_PEER_SERIAL_LO p)
  let known := s.fld (F.LNK_PEER_VALID p) = 1
  let resume := known ∧ serial = stored ∧ leAt u 14 2 = l.prevTx ∧ l.prevTx ≠ 0 ∧ bitAt (leAt u 16 2) 12
  let s1 :=
    if resume then
      let k := (leAt u 16 2 % 4096 + 4097 - l.oldest) % 4096
      let k := if k ≤ l.unacked.length then k else 0
      let l1 := { l with unacked := [], oldest := 0, queue := l.unacked.drop k ++ l.queue }
      (s.setLink p l1).freeTx (l.unacked.take k)
    else s.discardStale p
  let grant := [leAt u 18 2, leAt u 20 2, leAt u 22 2, leAt u 24 2]
  let s2 := s1.setLink p { s1.link p with seen := true, oldest := 0, grant := grant }
  let s3 := (([0, 1, 2, 3].foldl (fun s v => s.setFld (F.LNK_CREDIT_AVAIL p v) (leAt u (18 + 2 * v) 2)) s2).setFld
    (F.LNK_SEQ_TX_NEXT p) 0).setFld (F.LNK_EPOCH_RX_EPOCH p) (leAt u 12 2)
  let s4 := s3.setFld (F.LNK_STATUS_VC3_ONLY_RX p) (bitsOf (leAt u 26 1) 1 1)
  let s5 := ((s4.setFld (F.LNK_PEER_PORT p) (leAt u 2 1 % 32)).setFld (F.LNK_PEER_VERSION p) (leAt u 1 1)).setBit
    (F.LNK_PEER_VALID p)
  if known ∧ serial = stored then s5
  else (s5.setRd64 (Reg.LNK_PEER_SERIAL_LO p) serial).setBit (F.LNK_EVENT_PEER_CHANGED p)

/-- HELLO (R257): a HELLO unit arrives in INIT. -/
def State.rxHello (s : State) (p : Nat) (u : List Byte) : State :=
  if s.linkState p ≠ 4 then s
  else if crc16 (u.take 30) ≠ leAt u 30 2 then s.addSat (F.LNK_CRC_ERR_COUNT p)
  else if leAt u 1 1 ≠ 1 then
    let l := s.link p
    ((s.setLink p { l with stateDeadline := some (s.mclk + 100 * perMs) }).setFld (F.LNK_STATUS_STATE p) 7).setBit
      (F.LNK_EVENT_REFUSED p)
  else if leAt u 2 1 % 32 > 19 ∨ leAt u 3 1 % 4 ≠ s.fld (F.LNK_STATUS_WIDTH p) then s.linkViolation p 12 0 0xF2
  else
    let s1 := if (s.link p).seen then s else s.firstHello p u
    if bitAt (leAt u 26 1) 0 then s1.enterUp p else s1

def execHelloUnit (p : Port) (unit : List Byte) (s : State) : Host.Outcome State Fault Refusal :=
  .next (s.rxHello p.val unit)

/-! ## The other events of the state machine (R254, R255) -/

/-- RESTART (R254): a RESTART unit received in UP. -/
def execRestartUnit (p : Port) (unit : List Byte) (s : State) : Host.Outcome State Fault Refusal :=
  .next (if s.linkState p.val = 5 ∧ leAt unit 0 1 = 0xF3 then s.enterRestart p.val 0 else s)

/-- RESTART_END (R254): RESTART units have been sent for 1 us. -/
def execRestartEnd (p : Port) (s : State) : Host.Outcome State Fault Refusal :=
  .next (if s.linkState p.val = 6 then
      s.atDeadline (s.link p.val).stateDeadline fun s => s.enterInit p.val
    else s)

/-- SIGNAL_DETECT (R254): a signal on a lane of a port in DETECT; a port whose ENABLE is 1 leaves DISABLED for DETECT by
itself once its logic is out of reset. -/
def execSignalDetect (p : Port) (s : State) : Host.Outcome State Fault Refusal :=
  .next (if s.portExists p.val ∧ s.up 6 ∧ !s.inBlockReset p.val ∧ s.fld (F.LNK_CTRL_ENABLE p.val) = 1 ∧ s.linkState p.val ≤ 1
    then s.enterTrain p.val else s)

/-- The width that the lanes trained at both ends give (R255): the width code and the lanes in use. -/
def widthOf (lanes : Nat) : Option (Nat × Nat) :=
  if lanes = 15 then some (2, 15)
  else if lanes % 4 = 3 then some (1, 3)
  else if lanes / 4 % 4 = 3 then some (1, 12)
  else (setBits lanes 4).head?.map fun l => (0, 2 ^ l)

/-- The tag of a lane that has trained (R263): temperature and load now, the corrected symbols of the first window
later. -/
def State.tagLane (s : State) (p lane temp load : Nat) : State :=
  let s1 := (s.setFld (F.LNK_LANE_TAG_TEMP_C p lane) temp).setFld (F.LNK_LANE_TAG_LOAD p lane) load
  s1.setLink p { s1.link p with tagFresh := setIns (s1.link p).tagFresh lane }

/-- TRAIN_DONE (R254, R255): the trained lanes choose the width; lanes that failed are excluded; with no lane trained the
port goes back to DETECT. -/
def execTrainDone (p : Port) (trained : BitVec 4) (tempC : Byte) (load : Fin 4) (s : State) :
    Host.Outcome State Fault Refusal :=
  .next (if s.linkState p.val ≠ 2 then s
    else match widthOf trained.toNat with
      | none => s
      | some (w, lanes) =>
        let s1 := ((s.setFld (F.LNK_STATUS_WIDTH p.val) w).setFld (F.LNK_STATUS_LANES p.val) lanes).setFld
          (F.LNK_STATUS_LANE_EXCL p.val) (15 - trained.toNat)
        let s2 := if w = 2 then s1 else s1.setBit (F.LNK_EVENT_DEGRADED p.val)
        let s3 := (setBits trained.toNat 4).foldl (fun s l => s.tagLane p.val l tempC.toNat load.val) s2
        (s3.setLink p.val { s3.link p.val with stateDeadline := some (s.mclk + perMs), due := [], overRuns := [0, 0, 0, 0] }).setFld
          (F.LNK_STATUS_STATE p.val) 3)

/-- TRAIN_TIMEOUT (R254): TRAIN without a lane falls back to DETECT; ALIGN and INIT fall back to TRAIN. -/
def execTrainTimeout (p : Port) (s : State) : Host.Outcome State Fault Refusal :=
  .next (let st := s.linkState p.val
    if st = 2 ∨ st = 3 ∨ st = 4 then
      s.atDeadline (s.link p.val).stateDeadline fun s =>
        if st = 2 then
          (s.setLink p.val { s.link p.val with stateDeadline := none }).setFld (F.LNK_STATUS_STATE p.val) 1
        else s.enterTrain p.val
    else s)

/-- ALIGN_LOCK (R254): PCS, alignment-marker and FEC lock. -/
def execAlignLock (p : Port) (s : State) : Host.Outcome State Fault Refusal :=
  .next (if s.linkState p.val = 3 then s.enterInit p.val else s)

/-- FEC_LOCK_LOST (R254): an UP port returns to TRAIN. -/
def execFecLockLost (p : Port) (s : State) : Host.Outcome State Fault Refusal :=
  .next (if s.linkState p.val = 5 then s.enterTrain p.val else s)

/-- REFUSED_EXPIRY (R254): 100 ms in REFUSED. -/
def execRefusedExpiry (p : Port) (s : State) : Host.Outcome State Fault Refusal :=
  .next (if s.linkState p.val = 7 then
      s.atDeadline (s.link p.val).stateDeadline fun s => s.enterTrain p.val
    else s)

/-- RETRAIN (R254): LNK_CTRL.RETRAIN clears LANE_EXCL from any state and enters TRAIN. -/
def State.lnkRetrain (s : State) (p : Nat) : State :=
  if s.portExists p && s.up 6 && !s.inBlockReset p && s.fld (F.LNK_CTRL_ENABLE p) == 1 then s.enterTrain p else s
def execRetrain (p : Port) (s : State) : Host.Outcome State Fault Refusal := .next (s.lnkRetrain p.val)

/-- LNK_RESTART (R254): LNK_CTRL.RESTART puts an UP port in RESTART. -/
def State.lnkRestart (s : State) (p : Nat) : State := if s.linkState p = 5 then s.enterRestart p 0 else s
def execLnkRestart (p : Port) (s : State) : Host.Outcome State Fault Refusal := .next (s.lnkRestart p.val)

/-! ## In-service retraining (R263-R266) -/

/-- LANE_REQ (R264): a write to LNK_CTRL.LANE_REQ makes a lane due at once. -/
def State.laneReq (s : State) (p lane : Nat) : State :=
  if s.portExists p then s.setLink p { s.link p with due := setIns (s.link p).due lane } else s
def execLaneReq (p : Port) (lane : Fin 4) (s : State) : Host.Outcome State Fault Refusal :=
  .next (s.laneReq p.val lane.val)

/-- LNK_VIOL_CLR (R269): a write of 1 clears LNK_VIOL_INFO, under the RWL rule. -/
def execLnkViolClr (path : Path) (p : Port) (value : Word) (s : State) : Host.Outcome State Fault Refusal :=
  .next (if s.portExists p.val then
      s.rwl path (Reg.LNK_VIOL_CLR p.val) fun s =>
        if bitAt value.toNat 0 then s.setRd (Reg.LNK_VIOL_INFO p.val) 0 else s
    else s)

/-- One lane's 10 ms window (R263, R264). -/
def State.laneWindow (s : State) (p temp : Nat) (counts : List Nat) (lane : Nat) : State :=
  let c := counts.getD lane 0
  let l := s.link p
  let s1 := s.setRd (Reg.LNK_LANE_CSYM p lane) (BitVec.ofNat 32 (min c 0xFFFFFFFF))
  let s2 := if l.tagFresh.contains lane then
      (s1.setRd (Reg.LNK_LANE_TAG_CSYM p lane) (BitVec.ofNat 32 (min c 0xFFFFFFFF))).setLink p
        { l with tagFresh := setDel l.tagFresh lane }
    else s1
  let runs := if c > (s.rd (Reg.LNK_CSYM_MAX p)).toNat then l.overRuns.getD lane 0 + 1 else 0
  let tag := s.fld (F.LNK_LANE_TAG_TEMP_C p lane)
  let drift := (temp - tag) + (tag - temp)
  let dueNow := s.fld (F.LNK_RETRAIN_AUTO p) = 1 ∧
    (drift > s.fld (F.LNK_RETRAIN_DRIFT_C p) ∨ runs ≥ max 1 (s.fld (F.LNK_RETRAIN_CHECKS p)))
  let l2 := s2.link p
  s2.setLink p { l2 with overRuns := listSet l2.overRuns lane runs,
                         due := if dueNow then setIns l2.due lane else l2.due }

/-- CSYM_WINDOW (R263, R264): every 10 ms the corrected symbols of each lane are counted and the lanes checked. -/
def execCsymWindow (p : Port) (counts : List Nat) (tempC : Byte) (s : State) : Host.Outcome State Fault Refusal :=
  .next (if s.linkState p.val = 5 then
      (setBits (s.fld (F.LNK_STATUS_LANES p.val)) 4).foldl (fun s l => s.laneWindow p.val tempC.toNat counts l) s
    else s)

/-- Ports of the device with a lane retrain in progress. -/
def State.retraining (s : State) : Nat :=
  ((List.range 20).filter fun p => s.fld (F.LNK_STATUS_RETRAINING p) == 1).length

/-- A RETRAIN_REQ, RETRAIN_ACK or WIDTH unit with its CRC. -/
def crcUnit (b : List Byte) : List Byte := b ++ leBytes 2 (crc16 b)
def retrainUnit (kind lane serial : Nat) : List Byte :=
  crcUnit (leBytes 1 kind ++ leBytes 1 lane ++ leBytes 2 0 ++ leBytes 8 serial ++ List.replicate 18 0#8)
def widthUnitOf (w lanes : Nat) : List Byte :=
  crcUnit ([0xF4#8] ++ leBytes 1 w ++ leBytes 1 lanes ++ List.replicate 27 0#8)

/-- The lowest lane due, an abandoned lane whose second has passed included. -/
def State.dueLane (s : State) (p : Nat) : Option Nat :=
  let l := s.link p
  (List.range 4).find? fun i => l.due.contains i ||
    (match amGet l.backoff i with
     | some t => decide (t ≤ s.mclk)
     | none => false)

/-- LANE_RETRAIN_START (R265): the lowest lane due starts with RETRAIN_REQ while fewer than two ports retrain. -/
def execLaneRetrainStart (p : Port) (s : State) : Host.Outcome State Fault Refusal :=
  .next (match s.dueLane p.val with
    | none => s
    | some lane =>
      let l := s.link p.val
      if s.linkState p.val ≠ 5 ∨ l.exch ≠ 0 ∨ s.retraining ≥ 2 then s
      else
        let s1 := s.setLink p.val { l with exch := 1, exchLane := lane, due := setDel l.due lane, backoff := amDel l.backoff lane }
        ((s1.setBit (F.LNK_STATUS_RETRAINING p.val)).setFld (F.LNK_STATUS_RT_LANE p.val) lane).emit
          (.linkControl p.val 0xF5 (retrainUnit 0xF5 lane s.fuses.serial)))

/-- RETRAIN_REQ (R265): a request from the peer is answered; when both ends have asked, the lower serial proceeds, and
the other raises its own again afterwards. A lane that is not trained is a WIDTH_BAD violation. -/
def execRetrainReq (p : Port) (unit : List Byte) (s : State) : Host.Outcome State Fault Refusal :=
  .next (if s.linkState p.val ≠ 5 ∨ crc16 (unit.take 30) ≠ leAt unit 30 2 then s
    else
      let lane := leAt unit 1 1 % 4
      let l := s.link p.val
      if !bitAt (s.fld (F.LNK_STATUS_LANES p.val)) lane then s.linkViolation p.val 13 0 0xF5
      else if l.exch = 1 ∧ s.fuses.serial < leAt unit 4 8 then s
      else
        let due := if l.exch = 1 then setIns l.due l.exchLane else l.due
        let s1 := s.setLink p.val { l with exch := 4, exchLane := lane, due := due }
        ((s1.setBit (F.LNK_STATUS_RETRAINING p.val)).setFld (F.LNK_STATUS_RT_LANE p.val) lane).emit
          (.linkControl p.val 0xF6 (retrainUnit 0xF6 lane (leAt unit 4 8))))

/-- The lanes left when a lane is taken out for retraining (R266): the pair without it at x4, the other trained lanes
below x4. -/
def narrowed (lanes lane : Nat) : Nat :=
  if lanes = 15 then (if lane < 2 then 12 else 3) else setBitsOf lanes lane lane 0

/-- The link changes to a width and lanes. -/
def State.setWidth (s : State) (p w lanes : Nat) : State :=
  let s1 := (s.setFld (F.LNK_STATUS_WIDTH p) w).setFld (F.LNK_STATUS_LANES p) lanes
  if w = 2 then s1 else s1.setBit (F.LNK_EVENT_DEGRADED p)

/-- RETRAIN_ACK (R266 step 1): the exchange proceeds with WIDTH, down to the lanes that do not contain the lane, or to
TRAIN when none remains. -/
def execRetrainAck (p : Port) (unit : List Byte) (s : State) : Host.Outcome State Fault Refusal :=
  .next (let l := s.link p.val
    if s.linkState p.val ≠ 5 ∨ l.exch ≠ 1 ∨ crc16 (unit.take 30) ≠ leAt unit 30 2 ∨ leAt unit 1 1 % 4 ≠ l.exchLane then s
    else match widthOf (narrowed (s.fld (F.LNK_STATUS_LANES p.val)) l.exchLane) with
      | none => s.enterTrain p.val
      | some (w, lanes) =>
        ((s.setLink p.val { l with exch := 2 }).setWidth p.val w lanes).emit
          (.linkControl p.val 0xF4 (widthUnitOf w lanes)))

/-- WIDTH (R266): the peer's WIDTH unit changes the link to the named width and lanes; one that names lanes not trained
is a WIDTH_BAD violation and ignored. -/
def execWidthUnit (p : Port) (unit : List Byte) (s : State) : Host.Outcome State Fault Refusal :=
  .next (if s.linkState p.val ≠ 5 ∨ crc16 (unit.take 30) ≠ leAt unit 30 2 then s
    else
      let w := leAt unit 1 1 % 4
      let lanes := leAt unit 2 1 % 16
      let l := s.link p.val
      let trained := 15 - s.fld (F.LNK_STATUS_LANE_EXCL p.val)
      if widthOf lanes ≠ some (w, lanes) ∨ (setBits lanes 4).any (fun i => !bitAt trained i) then
        s.linkViolation p.val 13 0 0xF4
      else
        let s1 := s.setWidth p.val w lanes
        if l.exch = 4 ∧ !bitAt lanes l.exchLane then s1.setLink p.val { l with exch := 3 }
        else if l.exch = 2 then s1.setLink p.val { l with exch := 3 }
        else s1)

/-- LANE_RETRAIN_DONE (R266 steps 4 and 5): the lane trained alone and the link returns to x4 with a new tag, or the lane
failed and is excluded. -/
def execLaneRetrainDone (p : Port) (ok : Bool) (tempC : Byte) (load : Fin 4) (s : State) :
    Host.Outcome State Fault Refusal :=
  .next (let l := s.link p.val
    if s.linkState p.val ≠ 5 ∨ (l.exch ≠ 2 ∧ l.exch ≠ 3) then s
    else
      let s1 := (s.setLink p.val { l with exch := 0 }).setFld (F.LNK_STATUS_RETRAINING p.val) 0
      if ok then
        let lanes := 15 - s.fld (F.LNK_STATUS_LANE_EXCL p.val)
        match widthOf lanes with
        | none => s1
        | some (w, ls) =>
          (((s1.setWidth p.val w ls).tagLane p.val l.exchLane tempC.toNat load.val).addWrap
            (F.LNK_RETRAIN_COUNT_COUNT p.val)).emit (.linkControl p.val 0xF4 (widthUnitOf w ls))
      else
        let ex := s.fld (F.LNK_STATUS_LANE_EXCL p.val)
        (s1.setFld (F.LNK_STATUS_LANE_EXCL p.val) (setBitsOf ex l.exchLane l.exchLane 1)).setBit
          (F.LNK_EVENT_RETRAIN_FAILED p.val))

end Sys2Proof.Machine
end

