-- ==== Sys2Proof/Machine/Fabric.lean ====
section
/-! DEFINITION. The traverse, end-to-end windows and fabric time (11_fabric_topology_and_routing). -/

namespace Sys2Proof.Machine

/-! ## TRAVERSE packets (R272, Table 3) -/

/-- A TRAVERSE packet of a kind. -/
def travPacket (epoch kind : Nat) (payload : List Byte) : Packet :=
  { ptype := 0x20, vc := 3, addr := BitVec.ofNat 32 epoch, opx := BitVec.ofNat 8 kind, payload := payload }

/-- The bytes from offset a up to b are all 0. -/
def zerosIn (l : List Byte) (a b : Nat) : Bool := ((l.drop a).take (b - a)).all (· == 0#8)

/-- The packet keeps Table 3 for its kind. -/
def travOk (pk : Packet) (kind : Nat) : Bool :=
  let l := pk.payload
  pk.opx.toNat == kind && decide (pk.addr.toNat < 65536) && pk.dst == 0 && pk.src == 0 && pk.hops == 0 &&
  match kind with
  | 1 => l.length == 0
  | 2 => l.length == 256 && zerosIn l 10 16 && (List.range 15).all fun k => zerosIn l (16 + 16 * k + 10) (32 + 16 * k)
  | 3 | 4 => l.length == 32 && zerosIn l 10 16 && zerosIn l 24 32
  | 5 => l.length == 32 && zerosIn l 11 32
  | 6 | 7 => l.length == 32 && zerosIn l 10 32 && decide (leAt l 8 2 ≤ 4094)
  | _ => false

/-- Handle a TRAVERSE packet of a kind: taken from the arrivals; discarded and counted when it breaks Table 3. -/
def State.onTrav (s : State) (pk : Packet) (kind : Nat) (k : State → State) : State :=
  let s1 := s.takePacket pk
  if travOk pk kind then k s1 else s1.addSat F.FAB_TRAV_BAD_COUNT

/-- Epoch a is newer than epoch c (R273). -/
def epochNewer (a c : Nat) : Bool :=
  let d := (a + 65536 - c) % 65536
  decide (1 ≤ d ∧ d ≤ 32767)

/-- The epoch after e, which skips 0. -/
def epochNext (e : Nat) : Nat := if (e + 1) % 65536 = 0 then 1 else (e + 1) % 65536

/-- The ports whose link is UP. -/
def State.upPorts (s : State) : List Nat := (List.range s.fuses.ports).filter s.linkUp

/-- The mesh ports of a list. -/
def State.mesh (s : State) (l : List Nat) : List Nat := l.filter fun p => decide (p < s.fuses.meshPorts)

/-- Send a TRAVERSE packet on each port of a list. -/
def State.sendTrav (s : State) (ports : List Nat) (pk : Packet) : State :=
  ports.foldl (fun s p => s.linkSend p { pkt := pk }) s

/-- The EXCHANGE payload of this device. -/
def State.exchangePayload (s : State) : List Byte :=
  leBytes 8 s.fuses.serial ++ [0#8] ++ leBytes 1 s.fuses.landingSize ++ List.replicate 6 0#8 ++
  (List.range 15).flatMap fun k =>
    if k < s.fuses.meshPorts ∧ s.linkUp k then
      leBytes 8 (s.rd64 (Reg.LNK_PEER_SERIAL_LO k)) ++ leBytes 1 (s.fld (F.LNK_PEER_PORT k)) ++ [1#8]
        ++ List.replicate 6 0#8
    else List.replicate 16 0#8

/-- Begin an epoch (R273, R274 step 1): its port set is the ports that are UP; START goes out on them, but not back on
the port it came from, and EXCHANGE on every one. -/
def State.beginTraverse (s : State) (epoch : Nat) (fromPort : Option Nat) : State :=
  let ports := s.upPorts
  let t : Traverse := { epoch := epoch, t0 := s.mclk, ports := ports, ds := s.fuses.serial }
  let s1 := { s with fab := { s.fab with trav := some t, newest := epoch, started := true } }
  let s2 := ((s1.setFld F.FAB_TRAV_STATUS_EPOCH epoch).setFld F.FAB_TRAV_STATUS_PHASE 1).setFld
    F.FAB_TRAV_STATUS_NEXT_DUE 0
  let s3 := s2.sendTrav (ports.filter fun p => !(some p == fromPort)) (travPacket epoch 1 [])
  s3.sendTrav ports (travPacket epoch 2 s.exchangePayload)

/-- TRAVERSE_TRIGGER (R273): the first port reached UP after a reset, or 1 ms after the previous traverse ended when a
further epoch is due. -/
def execTraverseTrigger (s : State) : Host.Outcome State Fault Refusal :=
  .next (if s.fab.trav.isSome ∨ s.rst.recovery then s
    else if !s.fab.started then
      if s.upPorts.isEmpty then s else s.beginTraverse (epochNext s.fab.newest) none
    else if s.fld F.FAB_TRAV_STATUS_NEXT_DUE = 1 then
      let s1 := s.advanceTo (s.fab.endedAt + perMs)
      s1.beginTraverse (epochNext s.fab.newest) none
    else s)

/-- TRAV_START (R273): a write of FAB_TRAV_CTRL.START starts a traverse, or makes one due after the current one. -/
def State.travStart (s : State) : State :=
  if s.rst.recovery then s
  else if s.fab.trav.isSome then s.setBit F.FAB_TRAV_STATUS_NEXT_DUE
  else s.beginTraverse (epochNext s.fab.newest) none
def execTravStart (s : State) : Host.Outcome State Fault Refusal := .next (if s.up 5 then s.travStart else s)

/-- TRAVERSE_START_RECEIVE (R273): join, abandon for, record or ignore an epoch. -/
def execTraverseStartReceive (p : Port) (pk : Packet) (s : State) : Host.Outcome State Fault Refusal :=
  .next (s.onTrav pk 1 fun s =>
    let e := pk.addr.toNat
    if !epochNewer e s.fab.newest ∨ !s.linkUp p.val ∨ s.rst.recovery then s
    else match s.fab.trav with
      | none => s.beginTraverse e (some p.val)
      | some t =>
        if t.ports.contains p.val then s.beginTraverse e (some p.val)
        else ({ s with fab := { s.fab with newest := e } }).setBit F.FAB_TRAV_STATUS_NEXT_DUE)

/-- The running traverse, when the packet belongs to its epoch and arrived on a port of its set. -/
def State.travOn (s : State) (p : Nat) (pk : Packet) : Option Traverse :=
  match s.fab.trav with
  | some t => if t.epoch = pk.addr.toNat ∧ t.ports.contains p then some t else none
  | none => none

def State.setTrav (s : State) (t : Traverse) : State := { s with fab := { s.fab with trav := some t } }

/-- EXCHANGE (R274): recorded for the port checks. -/
def execExchange (p : Port) (pk : Packet) (s : State) : Host.Outcome State Fault Refusal :=
  .next (s.onTrav pk 2 fun s =>
    match s.travOn p.val pk with
    | some t =>
      if t.phase = 1 then
        let x : Exchange := ⟨leAt pk.payload 0 8, leAt pk.payload 8 1, leAt pk.payload 9 1⟩
        s.setTrav { t with exchanges := amSet t.exchanges p.val x }
      else s
    | none => s)

/-- The checks of R276 made at step 2: ROLE, landing size, and the peer's port of HELLO. -/
def State.portMiscabled (s : State) (p : Nat) (x : Exchange) : Bool :=
  if p < s.fuses.meshPorts then
    x.role == 1 || x.size != s.fuses.landingSize
      || s.fld (F.LNK_PEER_PORT p) != s.fuses.landingSize - 2 - p
  else x.role == 0

/-- Ports found miscabled: recorded, with an event on their sources (R276). -/
def State.markMiscabled (s : State) (t : Traverse) (l : List Nat) : State :=
  let s1 := s.setTrav { t with miscabled := l.foldl setIns t.miscabled }
  l.foldl (fun s p => (s.setBit F.FAB_EVENT_MISCABLED).raise (36 + p) p 0 none) s1

/-- The ports that take part in the flood. -/
def Traverse.live (t : Traverse) (l : List Nat) : List Nat :=
  l.filter fun p => !(t.absent.contains p || t.miscabled.contains p)

/-- A DATUM or CONFIRM payload. -/
def State.datumPayload (s : State) (t : Traverse) : List Byte :=
  leBytes 8 t.ds ++ leBytes 1 t.b ++ leBytes 1 t.dist ++ List.replicate 6 0#8 ++ leBytes 8 s.fuses.serial
    ++ List.replicate 8 0#8

/-- Send DATUM (kind 3) or CONFIRM (kind 4) on every mesh port still in the set. -/
def State.sendDatum (s : State) (t : Traverse) (kind : Nat) : State :=
  s.sendTrav (t.live (s.mesh t.ports)) (travPacket t.epoch kind (s.datumPayload t))

/-- EXCHANGE_DEADLINE (R274 step 2): at t0 + 2 ms ports without EXCHANGE or UP are ABSENT, the cabling is checked, and
DATUM goes out. -/
def execExchangeDeadline (s : State) : Host.Outcome State Fault Refusal :=
  .next (match s.fab.trav with
    | some t0 =>
      if t0.phase = 1 then
        let s1 := s.advanceTo (t0.t0 + 2 * perMs)
        let absent := t0.ports.filter fun p => (amGet t0.exchanges p).isNone || !s1.linkUp p
        let mis := t0.ports.filter fun p => !absent.contains p &&
          ((amGet t0.exchanges p).map (s1.portMiscabled p)).getD false
        let t := { t0 with absent := absent.foldl setIns t0.absent, phase := 2 }
        let s2 := (s1.setFld F.FAB_TRAV_STATUS_PHASE 2).markMiscabled t mis
        s2.sendDatum { t with miscabled := mis.foldl setIns t.miscabled } 3
      else s
    | none => s)

/-- DATUM (R275): may lower the held datum and distance, which changes the berth. -/
def execDatum (p : Port) (pk : Packet) (s : State) : Host.Outcome State Fault Refusal :=
  .next (s.onTrav pk 3 fun s =>
    match s.travOn p.val pk with
    | some t =>
      let S := s.fuses.landingSize
      let ds2 := leAt pk.payload 0 8
      let b2 := leAt pk.payload 8 1
      let dist2 := leAt pk.payload 9 1
      if t.phase ≠ 2 ∨ s.fuses.meshPorts ≤ p.val ∨ t.absent.contains p.val ∨ t.miscabled.contains p.val then s
      else if ds2 < t.ds ∨ (ds2 = t.ds ∧ dist2 + 1 < t.dist) then
        let t1 := { t with ds := ds2, dist := dist2 + 1, b := (b2 + 2 * S - p.val - 1) % S }
        (s.setTrav t1).sendDatum t1 3
      else s
    | none => s)

/-- BERTH_FIX (R274 step 4): at t0 + 8 ms the berth is fixed and CONFIRM goes out. -/
def execBerthFix (s : State) : Host.Outcome State Fault Refusal :=
  .next (match s.fab.trav with
    | some t =>
      if t.phase = 2 then
        let s1 := (s.advanceTo (t.t0 + 8 * perMs)).setFld F.FAB_TRAV_STATUS_PHASE 3
        (s1.setTrav { t with phase := 3 }).sendDatum t 4
      else s
    | none => s)

/-- CONFIRM (R276): the last one of each port counts. -/
def execConfirm (p : Port) (pk : Packet) (s : State) : Host.Outcome State Fault Refusal :=
  .next (s.onTrav pk 4 fun s =>
    match s.travOn p.val pk with
    | some t =>
      if (t.phase = 2 ∨ t.phase = 3) ∧ p.val < s.fuses.meshPorts then
        s.setTrav { t with confirms := amSet t.confirms p.val (leAt pk.payload 0 8, leAt pk.payload 8 1) }
      else s
    | none => s)

/-- The berths that the CONFIRMs naming datum ds imply for this device (R276). -/
def State.impliedBerths (s : State) (t : Traverse) : List Nat :=
  (t.confirms.filter fun e => e.2.1 == t.ds && !t.miscabled.contains e.1 && !t.absent.contains e.1).map fun e =>
    (e.2.2 + 2 * s.fuses.landingSize - e.1 - 1) % s.fuses.landingSize

/-- The value implied by the most ports, when more ports imply it than imply b; the lowest on ties. -/
def berthVote (l : List Nat) (b : Nat) : Nat :=
  (List.range 16).foldl (fun best v => if l.count v > l.count best then v else best) b

/-- CONFIRM_DEADLINE (R276): the CONFIRM count, by t0 + 9 ms, may change the berth once and sends CONFIRM again; at
t0 + 10 ms the ports whose CONFIRM does not fit are MISCABLED. -/
def execConfirmDeadline (s : State) : Host.Outcome State Fault Refusal :=
  .next (match s.fab.trav with
    | some t =>
      if t.phase ≠ 3 then s
      else
        let v := if t.counted then t.b else berthVote (s.impliedBerths t) t.b
        if v ≠ t.b then
          let t1 := { t with b := v, counted := true }
          ((s.advanceTo (t.t0 + 9 * perMs)).setTrav t1).sendDatum t1 4
        else
          let S := s.fuses.landingSize
          let bad := (t.confirms.filter fun e => !t.miscabled.contains e.1 && !t.absent.contains e.1 &&
            (e.2.1 != t.ds || e.2.2 != (t.b + e.1 + 1) % S)).map (·.1)
          let s1 := (s.advanceTo (t.t0 + 10 * perMs)).setFld F.FAB_TRAV_STATUS_PHASE 4
          s1.markMiscabled { t with phase := 4, counted := true } bad
    | none => s)

/-- LAND_REQ (R277): at step 5 the datum asks the fabric manager for a landing number. -/
def execLandReq (s : State) : Host.Outcome State Fault Refusal :=
  .next (match s.fab.trav with
    | some t =>
      if t.phase = 4 ∧ t.ds = s.fuses.serial ∧ !t.landSent then
        match s.fuses.treePorts.find? fun p => s.portState p == 2 || s.linkUp p with
        | some p =>
          let prev := if s.fld F.FAB_STATION_VALID = 1 then s.landing else 0xFFF
          (s.setTrav { t with landSent := true }).linkSend p
            { pkt := travPacket t.epoch 5 (leBytes 8 t.ds ++ leBytes 2 prev ++ leBytes 1 s.fuses.landingSize
                ++ List.replicate 21 0#8) }
        | none => s
      else s
    | none => s)

/-- A LANDING payload. -/
def landingPayload (ds landing : Nat) : List Byte := leBytes 8 ds ++ leBytes 2 landing ++ List.replicate 22 0#8

/-- LAND_GRANT (R277): accepted by the datum when it carries the current epoch and the datum's serial; LANDING then goes
out on every mesh port. -/
def execLandGrant (p : Port) (pk : Packet) (s : State) : Host.Outcome State Fault Refusal :=
  .next (s.onTrav pk 6 fun s =>
    match s.fab.trav with
    | some t =>
      if t.phase = 4 ∧ t.epoch = pk.addr.toNat ∧ t.ds = s.fuses.serial ∧ leAt pk.payload 0 8 = t.ds
          ∧ s.isTree p.val ∧ t.landing.isNone then
        let l := leAt pk.payload 8 2
        (s.setTrav { t with landing := some l }).sendTrav (s.mesh t.ports) (travPacket t.epoch 7 (landingPayload t.ds l))
      else s
    | none => s)

/-- LANDING (R277): the first of the epoch is taken and passed on once on the other mesh ports. -/
def execLanding (p : Port) (pk : Packet) (s : State) : Host.Outcome State Fault Refusal :=
  .next (s.onTrav pk 7 fun s =>
    match s.travOn p.val pk with
    | some t =>
      if t.phase = 4 ∧ t.landing.isNone ∧ t.ds ≠ s.fuses.serial ∧ p.val < s.fuses.meshPorts then
        (s.setTrav { t with landing := some (leAt pk.payload 8 2) }).sendTrav
          ((s.mesh t.ports).filter fun q => q != p.val) pk
      else s
    | none => s)

/-- LANDING_DEADLINE (R277): with no LANDING at t0 + 18 ms the device keeps its landing when its datum is unchanged, and
else takes 0xFFF; LANDING_LOST is set either way. -/
def execLandingDeadline (s : State) : Host.Outcome State Fault Refusal :=
  .next (match s.fab.trav with
    | some t =>
      if t.phase = 4 ∧ t.landing.isNone then
        let keep := if s.fab.prevDs = some t.ds then s.landing else 0xFFF
        ((s.advanceTo (t.t0 + 18 * perMs)).setTrav { t with landing := some keep }).setBit F.FAB_EVENT_LANDING_LOST
      else s
    | none => s)

/-- TRAVERSE_APPLY (R278): at t0 + 20 ms the landing, berth, datum and port states change at one MCLK edge. -/
def execTraverseApply (s : State) : Host.Outcome State Fault Refusal :=
  .next (match s.fab.trav with
    | some t =>
      if t.phase = 4 ∧ t.landing.isSome then
        let s1 := s.advanceTo (t.t0 + 20 * perMs)
        let l := t.landing.getD 0xFFF
        let changed := l ≠ s.landing ∨ t.b ≠ s.berth
        let s2 := ((((s1.setFld F.FAB_STATION_LANDING l).setFld F.FAB_STATION_BERTH t.b).setBit
          F.FAB_STATION_VALID).setFld F.FAB_STATION_DATUM (b2n (t.ds == s.fuses.serial))).setRd64
          Reg.FAB_DATUM_SERIAL_LO t.ds
        let s3 := t.ports.foldl (fun s p =>
          let st := if t.miscabled.contains p then 4 else if t.absent.contains p || !s.linkUp p then 3 else 2
          let s1 := s.setFld (F.FAB_PORT_STATE_STATE p) st
          if p < s.fuses.meshPorts then
            s1.setFld (F.FAB_PORT_STATE_PEER_BERTH p) ((t.b + p + 1) % s.fuses.landingSize)
          else s1) s2
        let s4 := (s3.setBit F.FAB_EVENT_TRAV_DONE).setFld F.FAB_TRAV_STATUS_PHASE 0
        let s5 := if changed then s4.setBit F.FAB_EVENT_BERTH_CHANGED else s4
        let s6 := { s5 with fab := { s5.fab with trav := none, endedAt := s5.mclk, prevDs := some t.ds } }
        let s7 := if (List.range s.fuses.ports).any fun p => s6.portState p == 1 then
            s6.setBit F.FAB_TRAV_STATUS_NEXT_DUE else s6
        (List.range s.fuses.ports).foldl (fun s p => s.linkDrain p) s7
      else s
    | none => s)

/-- TRAVERSE_PEER_ABSENT (R274): 2 ms after a peer's link left UP during the traverse, its port is ABSENT. -/
def execTraversePeerAbsent (p : Port) (s : State) : Host.Outcome State Fault Refusal :=
  .next (match s.fab.trav with
    | some t => s.atDeadline (amGet t.leaving p.val) fun s =>
        s.setTrav { t with leaving := amDel t.leaving p.val, absent := setIns t.absent p.val }
    | none => s)

/-! ## Windows (R286-R288) -/

/-- WINDOW (R288): the source applies a grant whose generation is newer by 1-127. -/
def execWindowGrant (pk : Packet) (s : State) : Host.Outcome State Fault Refusal :=
  .next (let s1 := s.takePacket pk
    let key := (pk.dst.toNat / 16 % 16) * 2 ^ 24 + pk.src.toNat
    match amGet s1.fab.wins key with
    | some w =>
      let d := (pk.opx.toNat + 256 - w.gen) % 256
      if 1 ≤ d ∧ d ≤ 127 then
        { s1 with fab := { s1.fab with
            wins := amSet s1.fab.wins key { w with window := pk.addr.toNat, gen := pk.opx.toNat } } }
      else s1
    | none => s1)

/-- A windowed packet from a source makes it active at the destination parcel (R288). -/
def State.markSource (s : State) (n src : Nat) : State :=
  if src / 256 = s.station 0 / 256 then s
  else
    let key := n * 2 ^ 24 + src
    let v := match amGet s.fab.srcs key with
      | some x => { x with last := s.mclk }
      | none => { last := s.mclk, granted := s.e2eDefault }
    { s with fab := { s.fab with srcs := amSet s.fab.srcs key v } }

/-- WINDOW_RECOMPUTE (R288): a parcel's active sources of the last 100 us are counted; each whose granted window differs
from the new value gets a WINDOW packet with the next generation. -/
def execWindowRecompute (n : Parcel) (s : State) : Host.Outcome State Fault Refusal :=
  .next (let active := s.fab.srcs.filter fun e => e.1 / 2 ^ 24 == n.val && decide (s.mclk < e.2.last + 100 * perUs)
    let a := active.length
    let budget := s.fld F.FAB_E2E_BUDGET_BUDGET * 2048
    let w := if a * s.e2eDefault > budget then max (budget / a / 2048 * 2048) 32768 else s.e2eDefault
    active.foldl (fun s e =>
      if e.2.granted = w then s
      else
        let g := (e.2.gen + 1) % 256
        let s1 := { s with fab := { s.fab with srcs := amSet s.fab.srcs e.1 { e.2 with granted := w, gen := g } } }
        s1.sendAny { ptype := 0x09, vc := 1, dst := BitVec.ofNat 24 e.1, src := BitVec.ofNat 24 (s.station n.val),
                     addr := BitVec.ofNat 32 w, opx := BitVec.ofNat 8 g }) s)

/-! ## Fabric time (R289-R291) -/

/-- The device's own grade: 0 as a root, its source's plus 1 while SYNCED, else 0xFF. -/
def State.ownGrade (s : State) : Nat :=
  if s.fld F.FAB_TIME_CFG_ROOT = 1 then 0 else s.fld F.FAB_TIME_STATUS_GRADE

/-- The source port of R291: the lowest grade below 15 among ADMITTED ports, tree ports before mesh ports on equal
grades, then the lowest number. Before any grade is known, the lowest ADMITTED tree port, else mesh port. -/
def State.timeSource (s : State) : Option Nat :=
  let adm := (List.range s.fuses.ports).filter fun p => s.portState p == 2
  let ordered := adm.filter (fun p => s.isTree p) ++ adm.filter (fun p => !s.isTree p)
  let best := ordered.foldl (fun (b : Option (Nat × Nat)) p =>
    match amGet s.fab.grades p, b with
    | some g, none => if g < 15 then some (g, p) else none
    | some g, some (g0, _) => if g < g0 then some (g, p) else b
    | none, _ => b) none
  match best with
  | some (_, p) => some p
  | none => ordered.head?

/-- A TIME payload. -/
def timePayload (t1 t2 t3 kind grade : Nat) : List Byte :=
  leBytes 8 t1 ++ leBytes 8 t2 ++ leBytes 8 t3 ++ leBytes 1 kind ++ leBytes 1 grade ++ List.replicate 6 0#8

/-- TIME_REQUEST_SEND (R290): every INTERVAL_US a request goes out on the source port; a root sends none. -/
def execTimeRequestSend (s : State) : Host.Outcome State Fault Refusal :=
  .next (if s.fld F.FAB_TIME_CFG_ROOT = 1 then s
    else match s.timeSource with
      | some p => (s.setFld F.FAB_TIME_STATUS_SRC_PORT p).linkSend p
          { pkt := { ptype := 0x21, vc := 3, payload := timePayload s.fabTime 0 0 0 s.ownGrade } }
      | none => s)

/-- TIME_REQUEST (R290, R291): answered on every ADMITTED port with T1, T2 and T3. -/
def execTimeRequest (p : Port) (pk : Packet) (s : State) : Host.Outcome State Fault Refusal :=
  .next (let s1 := s.takePacket pk
    if s.portState p.val = 2 ∧ leAt pk.payload 24 1 = 0 then
      let s2 := { s1 with fab := { s1.fab with grades := amSet s1.fab.grades p.val (leAt pk.payload 25 1) } }
      let body := timePayload (leAt pk.payload 0 8) s.fabTime s.fabTime 1 s.ownGrade
      s2.linkSend p.val { pkt := { ptype := 0x21, vc := 3, payload := body } }
    else s1)

/-- TIME_RESPONSE (R289-R291): the offset slews or steps FAB_TIME and updates SYNCED. -/
def execTimeResponse (p : Port) (pk : Packet) (s : State) : Host.Outcome State Fault Refusal :=
  .next (let s1 := s.takePacket pk
    if leAt pk.payload 24 1 ≠ 1 ∨ p.val ≠ s.fld F.FAB_TIME_STATUS_SRC_PORT ∨ s.portState p.val ≠ 2
        ∨ s.fld F.FAB_TIME_CFG_ROOT = 1 then s1
    else
      let t1 : Int := leAt pk.payload 0 8
      let t2 : Int := leAt pk.payload 8 8
      let t3 : Int := leAt pk.payload 16 8
      let off := Int.tdiv ((t2 - t1) - ((s.fabTime : Int) - t3)) 2
      let g := leAt pk.payload 25 1
      let step := decide (off > 100000) || (decide (off > 0) && !s.fab.stepped)
      let streak := if off.natAbs ≤ 250 then s.fab.streak + 1 else 0
      let synced := if streak ≥ 3 then 1 else if off.natAbs > 1000 then 0 else s.fld F.FAB_TIME_STATUS_SYNCED
      let s2 := { s1 with
        fabTime := if step then (s.fabTime + off.toNat) % 2 ^ 64 else s.fabTime
        fabSlew := if step then 0 else off
        fab := { s1.fab with
          stepped := true, streak := streak, grades := amSet s1.fab.grades p.val g
          timeDeadline := some (s.mclk + 10 * perMs) } }
      let s3 := (s2.setFld F.FAB_TIME_STATUS_SYNCED synced).setFld F.FAB_TIME_STATUS_HOLDOVER 0
      let s4 := s3.setFld F.FAB_TIME_STATUS_OFFSET (ofSigned 16 (max (-32768) (min off 32767)))
      s4.setFld F.FAB_TIME_STATUS_GRADE (if synced = 1 then min (g + 1) 0xFF else 0xFF))

/-- TIME_HOLDOVER (R291): no valid exchange for 10 ms: the device free-runs. -/
def execTimeHoldover (s : State) : Host.Outcome State Fault Refusal :=
  .next (s.atDeadline s.fab.timeDeadline fun s =>
    let s1 := { s with fab := { s.fab with timeDeadline := none, streak := 0 }, fabSlew := 0 }
    (((s1.setFld F.FAB_TIME_STATUS_SYNCED 0).setBit F.FAB_TIME_STATUS_HOLDOVER).setFld
      F.FAB_TIME_STATUS_GRADE 0xFF).setBit F.FAB_EVENT_TIME_LOST)

end Sys2Proof.Machine
end

