-- ==== Sys2Proof/Machine/NvCore.lean ====
section
/-! DEFINITION. The NV store (19_nv_store_and_firmware): two-slot records, the configuration journal, writes and the hold
of a power failure, the image slots, the mount after a reset and the boot ROM. -/

namespace Sys2Proof.Machine

/-! ## Two-slot records (R434) -/

/-- What commit word c and its slot name, where both are whole and agree. -/
def TwoSlot.half {α : Type} (commit : Option Nat) (slot : Option (Nat × α)) (c : Nat) : Option (Nat × α) :=
  match commit, slot with
  | some g, some (g', v) => if g % 2 = c ∧ g' = g then some (g, v) else none
  | _, _ => none

/-- The generation and the value in force. -/
def TwoSlot.inForce {α : Type} (r : TwoSlot α) : Option (Nat × α) :=
  match TwoSlot.half r.commit0 r.slot0 0, TwoSlot.half r.commit1 r.slot1 1 with
  | some a, some b => if i32Diff b.1 a.1 > 0 then some b else some a
  | some a, none => some a
  | none, b => b

/-- The generation that the next update starts from. -/
def TwoSlot.gen {α : Type} (r : TwoSlot α) : Nat := match r.inForce with | some (g, _) => g | none => 0

/-- A whole update: the slot of the next generation, then its commit word. -/
def TwoSlot.update {α : Type} (r : TwoSlot α) (v : α) : TwoSlot α :=
  let g := (r.gen + 1) % 2 ^ 32
  if g % 2 = 0 then { r with slot0 := some (g, v), commit0 := some g }
  else { r with slot1 := some (g, v), commit1 := some g }

/-- Something of the next generation was written and is not in force: an update fell back. -/
def TwoSlot.fellBack {α : Type} (r : TwoSlot α) : Bool :=
  match r.inForce with
  | none => false
  | some (g, _) =>
    let next := (g + 1) % 2 ^ 32
    r.slot0.map (·.1) == some next || r.slot1.map (·.1) == some next || r.commit0 == some next || r.commit1 == some next

/-- The activation record and the key store in force. -/
def State.actRec (s : State) : ActRec := match s.nv.act.inForce with | some (_, r) => r | none => {}
def State.keyRec (s : State) : Option KeyRec := s.nv.keys.inForce.map (·.2)

/-! ## The configuration journal (R437-R439) -/

/-- The journal region in force, and the regions by number. -/
def NvSt.region (n : NvSt) (i : Nat) : JRegion := if i = 0 then n.region0 else n.region1
def NvSt.setRegion (n : NvSt) (i : Nat) (r : JRegion) : NvSt :=
  if i = 0 then { n with region0 := r } else { n with region1 := r }
def NvSt.inForce (n : NvSt) : Option Nat :=
  match n.region0.rgen, n.region1.rgen with
  | some a, some b => if i32Diff b a > 0 then some 1 else some 0
  | some _, none => some 0
  | none, some _ => some 1
  | none, none => none

/-- Where the next record goes: pages of 64 words, a record inside one page. -/
def jPlace (e : JEntry) (at' : Nat × Nat) : Nat × Nat :=
  let need := e.payload.length + 2
  if at'.2 + need ≤ 64 then (at'.1, at'.2 + need) else (at'.1 + 1, need)

/-- Pages that records fill, and the free pages of a region of 2,047 record pages. -/
def jPages (l : List JEntry) : Nat :=
  if l.isEmpty then 0 else (l.foldl (fun a e => jPlace e a) (0, 0)).1 + 1
def JRegion.freePages (r : JRegion) : Nat := 2047 - jPages r.recs

/-- A later record makes an earlier one dead: one with its TYPE and KEY, or a DELETE of them. -/
def JEntry.covers (later e : JEntry) : Bool :=
  later.key == e.key && (later.typ == e.typ || (later.typ == 4 && later.payload.head? == some e.typ))

/-- The live records, in order: the latest of each TYPE and KEY. -/
def liveRecs : List JEntry → List JEntry
  | [] => []
  | e :: r => if e.typ = 0 ∨ e.typ = 4 ∨ r.any (·.covers e) then liveRecs r else e :: liveRecs r

/-- The live record with a TYPE and KEY. -/
def NvSt.live (n : NvSt) (typ key : Nat) : Option JEntry :=
  n.inForce.bind fun i => (liveRecs (n.region i).recs).find? fun e => e.typ == typ && e.key == key

/-- Append a record; fewer than 8 free pages start a compaction. -/
def NvSt.append (n : NvSt) (e : JEntry) : NvSt :=
  match n.inForce with
  | none => n
  | some i =>
    let r := { n.region i with recs := (n.region i).recs ++ [e] }
    let n1 := n.setRegion i r
    if r.freePages < 8 then { n1 with compacting := true } else n1

/-! ## The field plan (R412, R413) -/

/-- The copy of the field plan in force: 0 or 1. -/
def NvSt.fieldInForce (n : NvSt) : Option (Nat × FieldCopy) :=
  match n.field0, n.field1 with
  | some a, some b => if a.gen < b.gen then some (1, b) else some (0, a)
  | some a, none => some (0, a)
  | none, some b => some (1, b)
  | none, none => none

/-- Write a new field plan over the copy that is not in force, under the next GENERATION. -/
def NvSt.writeField (n : NvSt) (p : List ParcelPlan) : NvSt :=
  match n.fieldInForce with
  | some (0, c) => { n with field1 := some ⟨(c.gen + 1) % 2 ^ 32, p⟩ }
  | some (_, c) => { n with field0 := some ⟨(c.gen + 1) % 2 ^ 32, p⟩ }
  | none => { n with field0 := some ⟨1, p⟩ }

/-- The plan in force: the fused plan and the field plan, bit by bit (R412). -/
def ParcelPlan.inter (a b : ParcelPlan) : ParcelPlan := ⟨a.tiles &&& b.tiles, a.vus &&& b.vus, a.banks &&& b.banks⟩
def State.planInForce (s : State) : List ParcelPlan :=
  (List.range 12).map fun n =>
    let f := s.fuses.plan.getD n {}
    match s.nv.fieldInForce with
    | some (_, c) => f.inter (c.plan.getD n {})
    | none => f

/-! ## Registers that mirror the stores (R453, R454) -/

/-- Whether a slot's header is written, its version and its validity. -/
def State.slotImg (s : State) (k slot : Nat) : Option SlotImg := amGet s.nv.slots (2 * k + slot)
def SlotImg.ver (i : SlotImg) : Nat := leAt i.manifest 12 4

/-- The FWU_SLOT registers of a kind. -/
def State.mirrorSlot (s : State) (k : Nat) : State :=
  let r := s.actRec
  let w := r.active.getD (k - 1) 0 + 2 * b2n (r.trial.getD (k - 1) false) + 4 * b2n (r.fellBack.getD (k - 1) false)
    + 8 * b2n (s.fwu.valid.contains (2 * k)) + 16 * b2n (s.fwu.valid.contains (2 * k + 1))
  let ver (slot : Nat) : Nat := match s.slotImg k slot with | some i => i.ver | none => 0
  ((s.setRd (Reg.FWU_SLOT k) (BitVec.ofNat 32 w)).setRd (Reg.FWU_SLOT_VER_A k) (BitVec.ofNat 32 (ver 0))).setRd
    (Reg.FWU_SLOT_VER_B k) (BitVec.ofNat 32 (ver 1))

/-- The NVS and FWU registers that show the stores. -/
def State.nvMirror (s : State) : State :=
  let i := s.nv.inForce.getD 0
  let free := match s.nv.inForce with | some i => (s.nv.region i).freePages | none => 0
  let s1 := ((((s.setFld F.NVS_STATUS_REGION i).setFld F.NVS_STATUS_FREE_PAGES free).setFld F.NVS_STATUS_PF_HOLD
    (b2n s.nv.pfHold)).setFld F.NVS_STATUS_COMPACTING (b2n s.nv.compacting)).setFld F.NVS_STATUS_BUSY
    (b2n s.nv.compacting)
  let s2 := ((s1.setFld F.NVS_JGEN_RGEN ((s.nv.region i).rgen.getD 0)).setFld F.NVS_KEYGEN_GEN s.nv.keys.gen).setFld
    F.NVS_KEYVER_KEY_VER (match s.keyRec with | some k => k.ver | none => 0)
  let s3 := [1, 2, 3, 4].foldl (fun t k => t.setFld (F.NVS_FLOOR_SVN k)
    (match s.keyRec with | some r => r.floors.getD (k - 1) 0 | none => 0)) s2
  let s4 := (s3.setFld F.FWU_BOOT_BOOTS s.actRec.boots).setFld F.FWU_BOOT_RCAUSE s.actRec.rcause
  [1, 2, 3].foldl State.mirrorSlot s4

/-! ## Writes (R432) -/

/-- Carry out a write. -/
def State.nvApply (s : State) (w : NvWrite) : State :=
  let s1 := match w with
    | .record e => { s with nv := s.nv.append e }
    | .plan p => ({ s with nv := s.nv.writeField p }).setBit F.BRU_EVENT_FP_WRITTEN
    | .act r => { s with nv := { s.nv with act := s.nv.act.update r } }
    | .key r => { s with nv := { s.nv with keys := s.nv.keys.update r } }
  s1.nvMirror

/-- An eMRAM write is asked for: it waits while PF_HOLD is 1, and an append also while a compaction runs. -/
def State.nvWrite (s : State) (w : NvWrite) : State :=
  let waits := s.nv.pfHold || (match w with | .record _ => s.nv.compacting | _ => false) || !s.nv.waiting.isEmpty
  if waits then { s with nv := { s.nv with waiting := s.nv.waiting ++ [w] } } else s.nvApply w

/-- Writes that waited are carried out in order, as far as they may go. -/
def State.nvDrain (s : State) : State :=
  let l := s.nv.waiting
  l.foldl State.nvWrite { s with nv := { s.nv with waiting := [] } }

/-- A BOOT record (a fall-back or a recovery entry) and the event of a fall-back (R449, R451). -/
def State.bootRecord (s : State) (kind cause : Nat) : State := s.nvWrite (.record ⟨3, kind, [kind + 256 * cause]⟩)

/-! ## The image slots (R429, R449) -/

/-- SHA-384 (log entry 6). -/
def sha384 (l : List Byte) : List Byte := Config.crypto 1 l

/-- verify(k, s): what slot s of kind k holds may run. -/
def State.verifySlot (s : State) (k slot : Nat) : Bool :=
  match s.slotImg k slot with
  | none => false
  | some i =>
    let m := i.manifest
    decide (leAt m 1 1 % 16 = k) && decide (leAt m 4 2 % 4096 = 0x412) && decide (leAt m 4 2 / 4096 ≤ s.fuses.step)
      && decide ((match s.keyRec with | some r => r.floors.getD (k - 1) 0 | none => 0) ≤ leAt m 16 4)
      && i.good && sha384 i.plain == sliceB m 20 48

/-! ## Boot (R449, R451) -/

/-- Recovery mode: FWU_STATUS and FWU_BOOT show it, a BOOT record is written, an event is raised on source 63. -/
def State.enterRecovery (s : State) (r : ActRec) (cause : Nat) : State :=
  let s1 := (s.nvWrite (.act { r with rcause := cause })).bootRecord 0 cause
  let s2 := (s1.setBit F.FWU_STATUS_RECOVERY).raise 63 cause 0 none
  { s2 with rst := { s2.rst with recovery := true } }

/-- The other slot of a kind becomes active, out of a trial. -/
def ActRec.fallBack (r : ActRec) (k : Nat) : ActRec :=
  { r with active := listSet r.active (k - 1) (1 - r.active.getD (k - 1) 0)
           trial := listSet r.trial (k - 1) false
           fellBack := listSet r.fellBack (k - 1) true }

/-- A fall-back is recorded (R449). -/
def State.noteFallBack (s : State) (k : Nat) : State := (s.bootRecord k 0).setBit F.FWU_EVENT_FELL_BACK

/-- The images that rom_boot starts, kinds in order: the record so far, or recovery. -/
def State.bootKinds (s : State) (r : ActRec) : List Nat → State
  | [] => s
  | k :: ks =>
    let a := r.active.getD (k - 1) 0
    if s.verifySlot k a then s.bootKinds r ks
    else if !s.verifySlot k (1 - a) then s.enterRecovery r 2
    else
      let r1 := r.fallBack k
      ((s.nvWrite (.act r1)).noteFallBack k).bootKinds r1 ks

/-- rom_boot. -/
def State.romBoot (s : State) : State :=
  let r := s.actRec
  if r.boots ≥ 2 then s.enterRecovery r 1
  else
    let failed := [3, 1].filter fun k => r.trial.getD (k - 1) false && r.boots == 1
    let r1 := failed.foldl ActRec.fallBack r
    let r2 := { r1 with boots := r.boots + 1 }
    let s1 := failed.foldl State.noteFallBack (s.nvWrite (.act r2))
    s1.bootKinds r2 [3, 1]

/-! ## Mount (R433, R438, R452) -/

/-- The SESSION record's payload: KIND, PKG_LEN, the state, and four words of the units received. -/
def sessionWords (kind len st rcvd : Nat) : List Nat :=
  [kind, len, st] ++ (List.range 4).map fun i => rcvd / 2 ^ (64 * i) % 2 ^ 64

/-- The units received, as one number, and setting it. -/
def State.rcvdUnits (s : State) : Nat := ((List.range 8).map fun w => s.fld (F.FWU_RCVD_UNITS w) * 2 ^ (32 * w)).sum
def State.setRcvd (s : State) (v : Nat) : State :=
  (List.range 8).foldl (fun s w => s.setFld (F.FWU_RCVD_UNITS w) (v / 2 ^ (32 * w) % 2 ^ 32)) s

/-- Units of a package, and whether all are received. -/
def fwuUnits (len : Nat) : Nat := ceilDiv len 65536
def State.noteRcvd (s : State) : State :=
  s.setFld F.FWU_STATUS_ALL_RCVD (b2n (s.fwu.pkgLen != 0 && popcount s.rcvdUnits 256 == fwuUnits s.fwu.pkgLen))

/-- The session that the journal keeps: READY stays READY, anything else resumes as RECEIVING (R452). -/
def State.restoreSession (s : State) : State :=
  match s.nv.live 1 0 with
  | none => s
  | some e =>
    let w (i : Nat) : Nat := e.payload.getD i 0
    let s1 := { s with fwu := { s.fwu with pkgLen := w 1 } }
    let s2 := (s1.setFld F.FWU_STATUS_STATE (if w 2 = 3 then 3 else 1)).setFld F.FWU_STATUS_KIND (w 0)
    (s2.setRcvd (w 3 + 2 ^ 64 * w 4 + 2 ^ 128 * w 5 + 2 ^ 192 * w 6)).noteRcvd

/-- The mount: fall-backs and unreadable structures are reported, the registers show the stores, the session resumes. -/
def State.mount (s : State) : State :=
  let s1 := (s.setBit F.NVS_STATUS_EMRAM_OK).setBit F.NVS_STATUS_NOR_OK
  let s2 := if s.nv.keys.fellBack then s1.setBit F.NVS_EVENT_KEY_FALLBACK else s1
  let s3 := if s.nv.act.fellBack then s2.setBit F.NVS_EVENT_ACT_FALLBACK else s2
  let bad := s.nv.keys.inForce.isNone || s.nv.act.inForce.isNone || s.nv.fieldInForce.isNone || s.nv.inForce.isNone
  let s4 := if bad then (s3.setBit F.NVS_EVENT_UE).raise 63 0 0 none else s3
  s4.nvMirror.restoreSession

/-- The plan in force is loaded (R414): the BRU_FP registers show it. -/
def State.loadPlan (s : State) : State :=
  let gen := match s.nv.fieldInForce with | some (_, c) => c.gen | none => 0
  let s1 := if s.nv.fieldInForce.isNone then s.setBit F.BRU_EVENT_FP_FIELD_BAD else s
  let s2 := (List.range 12).foldl (fun t n =>
    let p := s.planInForce.getD n {}
    (t.setRd64 (Reg.BRU_FP_TILE_LO n) (p.tiles % 2 ^ 48 + 2 ^ 48 * (p.vus % 256))).setRd64 (Reg.BRU_FP_BANK_LO n)
      (p.banks % 2 ^ 64)) (s1.setFld F.BRU_FP_GEN_GENERATION gen)
  { s2 with bru := { s2.bru with planLoaded := true } }

end Sys2Proof.Machine
end

