-- ==== Sys2Proof/Machine/Own.lean ====
section
/-! DEFINITION. Ownership and the register lock (R225-R229): the ownership commands, the commit of their record, and the
violation record. -/

namespace Sys2Proof.Machine

/-- A hand-over lasts 25,000,000 MCLK (R226). -/
def handoverMclk : Nat := 25000000

/-- Why a command is refused: 0 it is allowed, 3 its condition fails, 4 its writer may not issue it (R226, Table 9). -/
def State.ownCheck (s : State) (path : Path) (code target : Nat) : Nat :=
  let c := pathClaimant path
  let o := s.own.owner
  let pending := s.own.successor.isSome
  if c = 0 then 4
  else match code with
    | 1 => if o = 0 then 0 else 3
    | 2 => if c ≠ o then 4 else if !s.own.locked && !pending then 0 else 3
    | 3 => if c ≠ o then 4 else if 1 ≤ target ∧ target ≤ 3 ∧ target ≠ c ∧ !pending then 0 else 3
    | 4 => if s.own.successor ≠ some c then 4
           else if s.own.handoverDeadline.any fun t => decide (s.mclk < t) then 0 else 3
    | 5 => if c ≠ o then 4 else if !s.own.locked && !pending then 0 else 3
    | 6 => if c ≠ o then 4 else if s.own.locked then 0 else 3
    | 7 => if c ≠ 2 then 4 else if s.safe then 0 else 3
    | 8 => if c ≠ o then 4 else if pending then 0 else 3
    | _ => 3

/-- OWN_RESULT of a path. -/
def State.ownResult (s : State) (path : Path) (r : Nat) : State := s.setFldB (pathNo path) F.OWN_RESULT_CODE r

/-- A write of OWN_CMD (R226, R228): no command for CODE 0; refused with BUSY while a record commits; refused and counted
when the writer or the condition is wrong; HANDOVER and CANCEL act at once; the others act when their record commits. -/
def State.ownCommand (s : State) (path : Path) (code target : Nat) : State :=
  if code = 0 then s
  else if s.own.busy.isSome ∧ pathClaimant path ≠ 0 then s.ownResult path 5
  else
    let r := s.ownCheck path code target
    if r ≠ 0 then (s.ownResult path r).violation path Reg.OWN_CMD
    else if code = 3 then
      { s.ownResult path 1 with own := { s.own with
          successor := some target, handoverDeadline := some (s.mclk + handoverMclk) } }
    else if code = 8 then
      { s.ownResult path 1 with own := { s.own with successor := none, handoverDeadline := none } }
    else
      { s.ownResult path 2 with own := { s.own with busy := some ⟨code, pathClaimant path, path⟩ } }

/-- CLAIM (R226): the writer becomes owner when there is none. -/
def execOwnClaim (path : Path) (s : State) : Host.Outcome State Fault Refusal := .next (s.ownCommand path 1 0)
/-- RELEASE (R226): no owner. -/
def execOwnRelease (path : Path) (s : State) : Host.Outcome State Fault Refusal := .next (s.ownCommand path 2 0)
/-- HANDOVER (R226): a hand-over to the target, with its timer. -/
def execOwnHandover (path : Path) (target : Fin 4) (s : State) : Host.Outcome State Fault Refusal :=
  .next (s.ownCommand path 3 target.val)
/-- ACCEPT (R226): the pending successor becomes owner. -/
def execOwnAccept (path : Path) (s : State) : Host.Outcome State Fault Refusal := .next (s.ownCommand path 4 0)
/-- LOCK (R226): the register lock closes. -/
def execOwnLock (path : Path) (s : State) : Host.Outcome State Fault Refusal := .next (s.ownCommand path 5 0)
/-- UNLOCK (R226): the register lock opens. -/
def execOwnUnlock (path : Path) (s : State) : Host.Outcome State Fault Refusal := .next (s.ownCommand path 6 0)
/-- FORCE (R226): in the safe state the tray manager becomes owner. -/
def execOwnForce (path : Path) (s : State) : Host.Outcome State Fault Refusal := .next (s.ownCommand path 7 0)
/-- CANCEL (R226): a pending hand-over ends. -/
def execOwnCancel (path : Path) (s : State) : Host.Outcome State Fault Refusal := .next (s.ownCommand path 8 0)

/-- HANDOVER_EXPIRY (R226): the timer reaches 25,000,000 MCLK; the owner is unchanged. -/
def execHandoverExpiry (s : State) : Host.Outcome State Fault Refusal :=
  .next (s.atDeadline s.own.handoverDeadline fun s =>
    { s with own := { s.own with successor := none, handoverDeadline := none } })

/-- The effect of a command whose record has committed (Table 9). -/
def OwnSt.apply (o : OwnSt) (code claimant : Nat) : OwnSt :=
  match code with
  | 1 => { o with owner := claimant, locked := false }
  | 2 => { o with owner := 0 }
  | 4 => { o with owner := claimant, successor := none, handoverDeadline := none }
  | 5 => { o with locked := true }
  | 6 => { o with locked := false }
  | 7 => { o with owner := 2, successor := none, handoverDeadline := none }
  | _ => o

/-- OWN_RECORD_COMMIT (R228): the record commits in eMRAM, the command takes effect, and BUSY clears. During the NV write
hold of a power failure the commit waits (R432). -/
def execOwnRecordCommit (s : State) : Host.Outcome State Fault Refusal :=
  .next (match s.own.busy with
    | none => s
    | some c =>
      if s.nv.pfHold then s
      else
        let o := s.own.apply c.code c.claimant
        { s.ownResult c.path 1 with own := { o with busy := none, gen := (o.gen + 1) % 2 ^ 32 } })

/-- Clear the violation record (R239). -/
def State.clearViol (s : State) : State := (s.setRd Reg.OWN_VIOL_INFO 0).setRd Reg.OWN_VIOL_ADDR 0

/-- OWN_VIOL_CLR (R239): an accepted write of 1. -/
def execOwnViolClr (path : Path) (value : Word) (s : State) : Host.Outcome State Fault Refusal :=
  .next (s.rwl path Reg.OWN_VIOL_CLR fun s => if bitAt value.toNat 0 then s.clearViol else s)

end Sys2Proof.Machine
end

