-- ==== Sys2Proof/Machine/Codec.lean ====
section
/-! DEFINITION. Coded weights (03_formats_and_codec, R56-R69): code tables, the group decoder, the decoder failure
record, and the commit of staged tables. -/

namespace Sys2Proof.Machine

/-! ## Code tables (R60, R61) -/

/-- The code length of a symbol in a 64-bit table. -/
def codeLen (t sym : Nat) : Nat := t / 2 ^ (4 * sym) % 16

/-- A table is empty; it is valid. -/
def tableEmpty (t : Nat) : Bool := t % 2 ^ 64 == 0
def tableValid (t : Nat) : Bool :=
  (List.range 16).all (fun s => decide (codeLen t s ≤ 12)) && !tableEmpty t
    && decide (((List.range 16).map fun s => if codeLen t s = 0 then 0 else 2 ^ (12 - codeLen t s)).sum ≤ 4096)

/-- The symbols of a length, ascending. -/
def symsOf (t l : Nat) : List Nat := (List.range 16).filter fun s => codeLen t s == l

/-- The canonical code's levels from length l on, n of them: the first code of each length with its symbols. -/
def canon (t : Nat) : Nat → Nat → Nat → List (Nat × List Nat)
  | 0, _, _ => []
  | n + 1, l, code => (code, symsOf t l) :: canon t n (l + 1) (2 * (code + (symsOf t l).length))

/-! ## The group decoder (R65) -/

/-- Failure kinds (Table 6): 0 is OK. -/
def E_HEADER : Nat := 1
def E_TAG : Nat := 2
def E_SEGMENT : Nat := 3
def E_CODE : Nat := 4

/-- The answer of the decoder: its result, the segment being decoded, the last byte read, and the element codes and
scale bytes. -/
structure Decoded where
  kind : Nat
  seg : Nat
  last : Nat
  out : List Nat := []
  scales : List Nat := []
  deriving DecidableEq, Repr

/-- Bit p of the payload, most significant bit of a byte first (R59). -/
def payBit (g : Nat → Nat) (p : Nat) : Nat := g (p / 8) / 2 ^ (7 - p % 8) % 2

/-- n bits from p on, most significant first. -/
def payBits (g : Nat → Nat) (p : Nat) : Nat → Nat
  | 0 => 0
  | n + 1 => payBits g p n * 2 + payBit g (p + n)

/-- match of R65: the symbol, or none, and the position after the bits taken. -/
def matchCode (g : Nat → Nat) (lim : Nat) : List (Nat × List Nat) → Nat → Nat → Option Nat × Nat
  | [], _, p => (none, p)
  | (first, syms) :: r, code, p =>
    if p ≥ lim then (none, p)
    else
      let c := 2 * code + payBit g p
      if first ≤ c ∧ c - first < syms.length then (syms[c - first]?, p + 1) else matchCode g lim r c (p + 1)

/-- n symbols from p on: the symbols, the position, and whether all were found. -/
def matchMany (g : Nat → Nat) (lim : Nat) (t : List (Nat × List Nat)) : Nat → Nat → List Nat → List Nat × Nat × Bool
  | 0, p, acc => (acc.reverse, p, true)
  | n + 1, p, acc =>
    match matchCode g lim t 0 p with
    | (some x, q) => matchMany g lim t n q (x :: acc)
    | (none, q) => (acc.reverse, q, false)

/-- The segments from s on, n of them, from payload bit pos. -/
def decodeSegs (g : Nat → Nat) (live : Nat → Nat) : Nat → Nat → Nat → Nat → List Nat → Decoded × Nat
  | 0, s, pos, last, acc => ({ kind := 0, seg := s, last := last, out := acc }, pos)
  | n + 1, s, pos, last, acc =>
    let e := g (32 + 2 * s) + 256 * g (33 + 2 * s)
    let len := e % 2048
    let tab := e / 2048 % 16
    let fin := pos + len
    let next := pos + (len + 7) / 8 * 8
    if bitAt e 15 then
      if tab ≠ 0 ∨ len ≠ 1024 then ({ kind := E_SEGMENT, seg := s, last := last }, pos)
      else
        let syms := (List.range 256).map fun j => payBits g (pos + 4 * j) 4
        decodeSegs g live n (s + 1) next (max last ((fin - 1) / 8)) (acc ++ syms)
    else if len < 256 ∨ len > 1024 ∨ !tableValid (live tab) then ({ kind := E_SEGMENT, seg := s, last := last }, pos)
    else
      let (syms, p, ok) := matchMany g fin (canon (live tab) 12 1 0) 256 pos []
      let last1 := if p = pos then last else max last ((p - 1) / 8)
      if !ok ∨ p ≠ fin then ({ kind := E_CODE, seg := s, last := last1 }, pos)
      else decodeSegs g live n (s + 1) next last1 (acc ++ syms)

/-- Bytes a to b of the group are 0. -/
def zeroBytes (g : Nat → Nat) (a b : Nat) : Bool := (List.range (b + 1 - a)).all fun i => g (a + i) == 0

/-- decode_group of R65: g gives the group's bytes, no its number, want the format, tag and live the live set. -/
def decodeGroup (g : Nat → Nat) (no want tag : Nat) (live : Nat → Nat) : Decoded :=
  let nseg := g 1 % 32
  let word (o : Nat) : Nat := g o + 256 * g (o + 1)
  if g 0 ≠ want then { kind := E_HEADER, seg := 0, last := 0 }
  else if nseg < 1 ∨ nseg > 16 ∨ g 1 / 32 ≠ 0 then { kind := E_HEADER, seg := 0, last := 0 }
  else if word 8 + 65536 * word 10 ≠ no ∨ !zeroBytes g 5 7 ∨ !zeroBytes g 12 31 ∨
      !(nseg = 16 ∨ zeroBytes g (32 + 2 * nseg) 63) then { kind := E_HEADER, seg := 0, last := 0 }
  else if word 2 ≠ tag then { kind := E_TAG, seg := 0, last := 0 }
  else
    let (d, pos) := decodeSegs g live nseg 0 (192 * 8) 0 []
    if d.kind ≠ 0 then d
    else if (pos / 8 + 127) / 128 ≠ g 4 then { kind := E_HEADER, seg := 0, last := d.last }
    else { d with last := max d.last (64 + 8 * nseg - 1), scales := (List.range (8 * nseg)).map fun i => g (64 + i) }

/-! ## A parcel's decoders -/

/-- Live tables and tag of a parcel. -/
def State.liveTable (s : State) (n t : Nat) : Nat := s.rd64 (Reg.WDC_LIVE_TABLE_LO n t)
def State.liveTag (s : State) (n : Nat) : Nat := s.fld (F.WDC_LIVE_TAG_TAG n)
def State.stageTable (s : State) (n t : Nat) : Nat := s.rd64 (Reg.WDC_STAGE_TABLE_LO n t)

/-- How a group of an operator ends: decoded, a format failure, a hold error, or a refused access. -/
inductive GroupEnd where
  | ok (out scales : List Nat)
  | bad (kind seg : Nat)
  | uncorrectable
  | refused
  deriving DecidableEq, Repr

/-- The first line of a group, in the order it is read, that cannot be read cleanly, and what that means (R57, R66). -/
def State.lineCheck (s : State) (n : Nat) (fn : Who) (a : Nat → Nat) (lines : List Nat) : Option GroupEnd :=
  lines.findSome? fun i =>
    if a i / 2 ^ 28 ≠ n then some (.bad E_HEADER 0)
    else if !s.mayRead fn (a i) 128 then some .refused
    else if s.poisonedIn (a i) 128 then some .uncorrectable
    else none

/-- Group number no of a coded tensor: its header's address and how it ends. -/
def State.readGroup (s : State) (n : Nat) (fn : Who) (base index want no : Nat) : Nat × GroupEnd :=
  let ia := index + 4 * no
  let e := leNat (s.holdGet ia 4)
  let h := (base + 128 * (e % 2 ^ 24)) % 2 ^ 32
  if s.poisonedIn ia 4 then (h, .uncorrectable)
  else if e / 2 ^ 24 ≠ 0 then (h, .bad E_HEADER 0)
  else
    let line (i : Nat) : Nat := (h + 128 * i) % 2 ^ 32
    let g (i : Nat) : Nat := (storeRead zeroByte s.hold (line (i / 128) + i % 128)).toNat
    let d := decodeGroup g no want (s.liveTag n) (s.liveTable n)
    match s.lineCheck n fn line (List.range (d.last / 128 + 1)) with
    | some x => (h, x)
    | none => (h, if d.kind = 0 then .ok d.out d.scales else .bad d.kind d.seg)

/-- The regions a group's lines occupy at most, for the errors its reads find. -/
def State.groupRegion (s : State) (n : Nat) (fn : Who) (base index want no : Nat) : Region :=
  let e := leNat (s.holdGet (index + 4 * no) 4)
  let h := (base + 128 * (e % 2 ^ 24)) % 2 ^ 32
  let g (i : Nat) : Nat := (storeRead zeroByte s.hold ((h + i) % 2 ^ 32)).toNat
  let d := decodeGroup g no want (s.liveTag n) (s.liveTable n)
  if e / 2 ^ 24 ≠ 0 ∨ !s.mayRead fn h 1 then (h, 0) else (h, 128 * (d.last / 128 + 1))

/-- The failure record (R67): kind 0 stands for a hold error, which it does not record. The decoder that held the group
is not fixed by the spec: a free value. -/
def State.recordDecoder (s : State) (n fn addr kind seg : Nat) : State :=
  if s.fld (F.WDC_ERR_INFO_VALID n) = 1 then s
  else
    let (dec, s1) := s.free 6
    ((((((s1.setBit (F.WDC_ERR_INFO_VALID n)).setFld (F.WDC_ERR_INFO_KIND n) kind).setFld (F.WDC_ERR_INFO_SEG n)
      (if kind ≤ E_TAG then 0 else seg)).setFld (F.WDC_ERR_INFO_DECODER n) dec).setFld (F.WDC_ERR_INFO_FN n) fn).setFld
      (F.WDC_ERR_ADDR_ADDR n) addr)

/-! ## The commands -/

/-- WDC_STATUS.STAGE_BAD: bit t is 1 when staged table t is neither valid nor empty. -/
def State.stageBad (s : State) (n : Nat) : Nat :=
  maskOf ((List.range 16).filter fun t => !tableValid (s.stageTable n t) && !tableEmpty (s.stageTable n t))

/-- A commit (R62): the whole staged set and its tag at one edge, or nothing and an event. -/
def State.wdcCommit (s : State) (n : Nat) : State :=
  if s.stageBad n ≠ 0 then s.setBit (F.WDC_EVENT_COMMIT_REJECTED n)
  else
    (List.range 16).foldl (fun t i => t.setRd64 (Reg.WDC_LIVE_TABLE_LO n i) (s.stageTable n i))
      (s.setFld (F.WDC_LIVE_TAG_TAG n) (s.fld (F.WDC_STAGE_TAG_TAG n)))

/-- WDC_COMMIT (R62): a write of 1 to COMMIT, by any path (the field is WO, and no rule puts it under the lock). -/
def execWdcCommit (n : Parcel) (value : Word) (s : State) : Host.Outcome State Fault Refusal :=
  .next (if bitAt value.toNat 0 then s.wdcCommit n.val else s)

/-- Clear the decoder failure record (R67, R69). -/
def State.clearWdcErr (s : State) (n : Nat) : State := (s.setRd (Reg.WDC_ERR_INFO n) 0).setRd (Reg.WDC_ERR_ADDR n) 0

/-- WDC_ERR_CLR (R69). -/
def execWdcErrClr (n : Parcel) (value : Word) (s : State) : Host.Outcome State Fault Refusal :=
  .next (if bitAt value.toNat 0 then s.clearWdcErr n.val else s)

end Sys2Proof.Machine
end

