-- ==== Sys2Proof/Machine/Matrix.lean ====
section
/-! DEFINITION. The matrix tiles and the norm and GEMV paths of the vector units (04_operators_and_tiles, R86-R99, R104):
GEMM, CGEMM, GEMV and NORM computed in the fixed order the spec gives, and the tiles' errors. -/

namespace Sys2Proof.Machine

/-! ## The fixed accumulation order (R91, R92) -/

/-- The operands of a matrix product as exact values, and what follows the sum. -/
structure MatIn where
  a : Nat → Nat → Fp
  b : Nat → Nat → Fp

/-- exact_sum: the exact sum of 32 products, one MX block of the reduction. -/
def exactSum (x : MatIn) (m c i : Nat) : Fp := Fp.sum ((List.range 32).map fun j => (x.a m (i + j)).mul (x.b (i + j) c))

/-- One rounding per block: the accumulator after n blocks of 32 from reduction index i on. -/
def accumulate (x : MatIn) (m c : Nat) : Nat → Nat → Nat → Nat
  | 0, _, acc => acc
  | n + 1, i, acc => accumulate x m c n (i + 32) (toF32 ((ofF32 acc).add (exactSum x m c i)))

/-- panel: weight blocks k0 to k1 - 1, from +0. -/
def panelSum (x : MatIn) (m c k0 k1 : Nat) : Nat := accumulate x m c (2 * (k1 - k0)) (64 * k0) 0

/-- Where range j of the reduction starts (R91). -/
def rangeLo (kb ksplit j : Nat) : Nat := j * kb / ksplit

/-- Ranges from j on, n of them, merged in ascending order onto t. -/
def mergeRanges (x : MatIn) (m c kb ks : Nat) : Nat → Nat → Nat → Nat
  | 0, _, t => t
  | n + 1, j, t =>
    mergeRanges x m c kb ks n (j + 1) (fAdd t (panelSum x m c (rangeLo kb ks j) (rangeLo kb ks (j + 1))))

/-- element of R92 before the optional steps. -/
def productOf (x : MatIn) (m c kb ks : Nat) : Nat :=
  mergeRanges x m c kb ks (ks - 1) 1 (panelSum x m c (rangeLo kb ks 0) (rangeLo kb ks 1))

/-! ## Operands in the hold (R86, R87) -/

/-- The number in n bytes of the hold at a. -/
def State.leHold (s : State) (a n : Nat) : Nat := leNat (s.holdGet a n)

/-- Element i of row m of A. -/
def State.aElem (s : State) (g : GemmOp) (m i : Nat) : Fp :=
  let r := g.a + 16 * m * g.astr
  if g.fa = 1 then ofBf16 (s.leHold (r + 2 * i) 2)
  else mxVal g.fa (s.leHold (r + i) 1) (s.leHold (r + g.k + i / 32) 1)

/-- The code of element i of an element plane in the hold. -/
def State.planeCode (s : State) (plane fmt i : Nat) : Nat :=
  let w := fmtWidth fmt
  s.leHold (plane + w * i / 8) (if w = 6 then 2 else ceilDiv w 8) / 2 ^ (w * i % 8) % 2 ^ w

/-- The weight at reduction index i and column c of an uncoded B. -/
def State.bElem (s : State) (g : GemmOp) (i c : Nat) : Fp :=
  let t := c / 128 * g.kb + i / 64
  let e := c % 128 * 64 + i % 64
  if g.fb = 1 then ofBf16 (s.leHold (g.b + 2 * (8192 * t + e)) 2)
  else mxVal g.fb (s.planeCode g.b g.fb (8192 * t + e)) (s.leHold (g.aux + 256 * t + e / 32) 1)

/-- The same weight of a coded B, from its decoded groups. -/
def codedElem (g : GemmOp) (groups : List (List Nat × List Nat)) (i c : Nat) : Fp :=
  let t := c / 128 * g.kb + i / 64
  let e := c % 128 * 64 + i % 64
  let (out, sc) := groups.getD (2 * t + e / 4096) ([], [])
  mxVal g.fb (out.getD (e % 4096) 0) (sc.getD (e % 4096 / 32) 0)

/-- The old value of an element of C, widened. -/
def State.cOld (s : State) (g : GemmOp) (m c : Nat) : Nat :=
  let r := g.c + 16 * m * g.cstr
  if g.fc = 0 then s.leHold (r + 4 * c) 4 else toF32 (ofBf16 (s.leHold (r + 2 * c) 2))

/-- Element (m, c) of the result as FP32 bits (R92). -/
def State.cElem (s : State) (g : GemmOp) (x : MatIn) (m c : Nat) : Nat :=
  let t := productOf x m c g.kb g.ksplit
  let t1 := if g.rowEn then fMul t (s.leHold (g.row + 4 * m) 4) else t
  let t2 := if g.alphaEn then fMul t1 g.alpha else t1
  if g.accum then fAdd t2 (s.cOld g m c) else t2

/-- The rows of C (R93). -/
def State.cRows (s : State) (g : GemmOp) (x : MatIn) : List (Nat × List Byte) :=
  (List.range g.m).map fun m => (g.c + 16 * m * g.cstr, storeRow g.fc ((List.range g.n).map (s.cElem g x m)))

/-! ## Tiles (R104, R106) -/

/-- Good tiles and withdrawn tiles of a parcel, as masks. -/
def State.goodTiles (s : State) (n : Nat) : Nat := s.rd64 (Reg.MT_TILE_GOOD_LO n)
def State.withdrawnTiles (s : State) (n : Nat) : Nat := s.rd64 (Reg.MT_TILE_WITHDRAWN_LO n)

/-- How many good tiles are not withdrawn. -/
def State.tilesInService (s : State) (n : Nat) : Nat :=
  ((List.range 48).filter fun i => bitAt (s.goodTiles n) i && !bitAt (s.withdrawnTiles n) i).length

/-- MT_STATUS follows the tile masks. -/
def State.refreshTiles (s : State) (n : Nat) : State :=
  (s.setFld (F.MT_STATUS_GOOD_TILES n) (popcount (s.goodTiles n) 48)).setFld (F.MT_STATUS_IN_SERVICE n)
    (s.tilesInService n)

/-- The activity counts of a matrix part (R106): blocks completed and row-block products times cpr. -/
def State.countBlocks (s : State) (n : Nat) (g : GemmOp) : State :=
  (s.add64 (Reg.MT_BLOCKS_LO n) (ceilDiv g.m 64 * g.nb * g.kb)).add64 (Reg.MT_ROWBLK_LO n)
    (g.m * g.nb * g.kb * cprOf g.fb)

/-- A matrix part that has no tile left ends FENCED, and the parcel fences itself (R104). -/
def State.noTiles (s : State) (n : Nat) (d : Desc) : State :=
  (s.endPart n d.id Status.FENCED).selfFence n

/-- The regions a matrix part reads, and the rows it writes. -/
def GemmOp.reads (g : GemmOp) : List Region :=
  rowsAt g.a g.astr g.m g.aRow ++ g.bRegions ++ g.rowRegion ++
    (if g.accum then rowsAt g.c g.cstr g.m g.cRow else [])
def GemmOp.dest (g : GemmOp) : List Region := rowsAt g.c g.cstr g.m g.cRow

/-- GEMM (R86-R93): the running GEMM part of parcel n computes C and ends. errs are the errors its reads find. -/
def execGemm (n : Parcel) (errs : List WordErr) (s : State) : Host.Outcome State Fault Refusal :=
  .next (s.withPart n.val (fun d => d.opcode == 0x10) fun d =>
    let g := gemmOp d n.val
    if s.tilesInService n.val = 0 then s.noTiles n.val d
    else s.runPart n.val d 0 g.reads g.dest errs fun s =>
      let x : MatIn := { a := s.aElem g, b := s.bElem g }
      (s.finishRows n.val d g.dest (s.cRows g x)).countBlocks n.val g)

/-- The format that FMT_B asks of a coded group (R65). -/
def wantFormat (fb : Nat) : Nat := if fb = 6 then 0x01 else 0x02

/-- All the groups of a coded B, in order. -/
def State.allGroups (s : State) (n : Nat) (d : Desc) (g : GemmOp) : List (Nat × GroupEnd) :=
  (List.range (2 * g.nb * g.kb)).map fun i => s.readGroup n (s.who d) g.b g.aux (wantFormat g.fb) i

/-- A group failed. -/
def GroupEnd.failed : GroupEnd → Bool
  | .ok _ _ => false
  | _ => true

/-- A CGEMM part whose first failing group is number i (R66, R67): the destination is poisoned, and the status is taken
over it and the groups that other decoders held. Which of the next 63 groups were held the spec leaves open. -/
def State.codedFailure (s : State) (n : Nat) (d : Desc) (g : GemmOp) (gs : List (Nat × GroupEnd)) (i : Nat) : State :=
  let (addr, e) := gs.getD i (0, .uncorrectable)
  let later := (gs.drop (i + 1)).take 63
  let fn := s.ctxFn d.ctx
  match e with
  | .refused => s.endPart n d.id Status.ACCESS_VIOLATION
  | .uncorrectable => s.endPoisoned n d g.dest
  | .bad kind seg =>
    let s1 := (s.recordDecoder n fn addr kind seg).poisonAll g.dest
    if later.any fun x => decide (x.2 = .uncorrectable) then
      let (f, s2) := s1.free 1
      s2.endPart n d.id (if f = 1 then Status.HOLD_UNCORRECTABLE else Status.BAD_DESCRIPTOR)
    else s1.endPart n d.id Status.BAD_DESCRIPTOR
  | .ok _ _ => s

/-- CGEMM (R95): the groups of the coded B are decoded and multiplied as GEMM multiplies the same uncoded tiles. A group
of other than 16 segments fails as E_HEADER. -/
def execCgemm (n : Parcel) (errs : List WordErr) (s : State) : Host.Outcome State Fault Refusal :=
  .next (s.withPart n.val (fun d => d.opcode == 0x11) fun d =>
    let g := gemmOp d n.val
    if s.tilesInService n.val = 0 then s.noTiles n.val d
    else
      let lines := (List.range (2 * g.nb * g.kb)).map fun i =>
        s.groupRegion n.val (s.who d) g.b g.aux (wantFormat g.fb) i
      let s0 := (s.readAll errs (lines ++ g.bRegions) 0 d).2
      s0.runPart n.val d 0 (rowsAt g.a g.astr g.m g.aRow ++ g.rowRegion ++
          (if g.accum then rowsAt g.c g.cstr g.m g.cRow else [])) g.dest errs fun s =>
        let gs := (s.allGroups n.val d g).map fun e =>
          match e.2 with
          | .ok out sc => if out.length = 4096 then (e.1, GroupEnd.ok out sc) else (e.1, .bad E_HEADER 0)
          | _ => e
        if !s.mayRead (s.who d) g.aux (8 * g.nb * g.kb) then s.endPart n.val d.id Status.ACCESS_VIOLATION
        else match gs.findIdx? fun e => e.2.failed with
          | some i => s.codedFailure n.val d g gs i
          | none =>
            let groups := gs.map fun e =>
              match e.2 with
              | .ok out sc => (out, sc)
              | _ => ([], [])
            let x : MatIn := { a := s.aElem g, b := codedElem g groups }
            ((s.finishRows n.val d g.dest (s.cRows g x)).countBlocks n.val g).add64 (Reg.WDC_ELEMS_LO n.val)
              (ceilDiv g.m 64 * 4096 * gs.length))

/-! ## GEMV and NORM (R97, R99) -/

/-- tree512: pairs at distance w, then w halved, n times. -/
def treeSum : Nat → List Nat → Nat
  | 0, p => p.getD 0 0
  | n + 1, p =>
    let w := 2 ^ n
    treeSum n ((List.range w).map fun i => fAdd (p.getD i 0) (p.getD (i + w) 0))

/-- The 512 lanes after n elements from element i on: each element goes to its lane through a step. -/
def lanes (f : Nat → Nat → Nat) : Nat → Nat → List Nat → List Nat
  | 0, _, p => p
  | n + 1, i, p => lanes f n (i + 1) (listSet p (i % 512) (f (p.getD (i % 512) 0) i))

/-- An element of an FP32 (0) or BF16 (1) vector in the hold. -/
def State.plainHold (s : State) (fmt a i : Nat) : Fp :=
  if fmt = 0 then ofF32 (s.leHold (a + 4 * i) 4) else ofBf16 (s.leHold (a + 2 * i) 2)

/-- gemv_row (R97). -/
def State.gemvRow (s : State) (g : GemvOp) (c : Nat) : Nat :=
  let p := lanes (fun acc i =>
      toF32 (((s.plainHold g.fw (g.w + 16 * c * g.wstr) i).mul (s.plainHold g.fx g.x i)).add (ofF32 acc)))
    g.k 0 (List.replicate 512 0)
  let t := treeSum 9 p
  if g.accum then fAdd t (toF32 (s.plainHold g.fy g.y c)) else t

/-- GEMV (R96, R97). -/
def execGemv (n : Parcel) (errs : List WordErr) (s : State) : Host.Outcome State Fault Refusal :=
  .next (s.withPart n.val (fun d => d.opcode == 0x12) fun d =>
    let g := gemvOp d n.val
    let reads := g.xReg :: rowsAt g.w g.wstr g.n (rowBytes g.fw g.k) ++ (if g.accum then [g.yReg] else [])
    s.runPart n.val d 0 reads [g.yReg] errs fun s =>
      s.finishRows n.val d [g.yReg] [(g.y, storeRow g.fy ((List.range g.n).map (s.gemvRow g)))])

/-- lane_sum (R99) of a row's values: BF16 input takes element pairs with one rounding per pair, FP32 input one fma or
one addition per element. -/
def laneSum (bf16 squares : Bool) (u : Nat → Fp) (d : Nat) : Nat :=
  let sq (x : Fp) : Fp := if squares then x.mul x else x
  treeSum 9 (if bf16 then
      lanes (fun acc q => toF32 ((ofF32 acc).add ((sq (u (2 * q))).add (sq (u (2 * q + 1)))))) (d / 2) 0
        (List.replicate 512 0)
    else lanes (fun acc i => toF32 ((sq (u i)).add (ofF32 acc))) d 0 (List.replicate 512 0))

/-- The reciprocal scale of a row and its centred values (norm_row of R99). -/
def State.normScale (s : State) (g : NormOp) (m : Nat) : Nat × (Nat → Fp) :=
  let x (i : Nat) : Fp := s.plainHold g.fx (g.x + 16 * m * g.xstr) i
  let bf := g.fx == 1
  let mu := toF32 ((ofF32 (laneSum bf false x g.d)).div (.ofNat g.d))
  let u (i : Nat) : Fp := if g.kind = 2 then ofF32 (toF32 ((x i).add (ofF32 mu).negate)) else x i
  let ms := toF32 ((ofF32 (laneSum bf true u g.d)).div (.ofNat g.d))
  (fRsqrt (fAdd ms g.eps), u)

/-- One row of Y as FP32 bits. -/
def State.normRow (s : State) (g : NormOp) (m : Nat) : List Nat :=
  let (r, u) := s.normScale g m
  (List.range g.d).map fun i =>
    let t := toF32 ((u i).mul (ofF32 r))
    let gain := toF32 (s.plainHold g.fg g.g i)
    if g.kind = 2 then fFma t gain (toF32 (s.plainHold g.fg g.beta i)) else fMul t gain

/-- The running NORM part of a kind computes its rows. -/
def State.runNorm (s : State) (n kind : Nat) (errs : List WordErr) : State :=
  s.withPart n (fun d => d.opcode == 0x18 && d.bits 48 1 0 == kind) fun d =>
    let g := normOp d n
    s.runPart n d 0 (rowsAt g.x g.xstr g.m (rowBytes g.fx g.d) ++ g.gRegions) g.yRows errs fun s =>
      s.finishRows n d g.yRows
        (if kind = 1 then [(g.y, ((List.range g.m).map fun m => leBytes 4 (s.normScale g m).1).flatten)]
         else (List.range g.m).map fun m => (g.y + 16 * m * g.ystr, storeRow g.fy (s.normRow g m)))

/-- RMS_APPLY (R99). -/
def execRmsApply (n : Parcel) (errs : List WordErr) (s : State) : Host.Outcome State Fault Refusal :=
  .next (s.runNorm n.val 0 errs)

/-- RMS_SCALE (R99). -/
def execRmsScale (n : Parcel) (errs : List WordErr) (s : State) : Host.Outcome State Fault Refusal :=
  .next (s.runNorm n.val 1 errs)

/-- LAYER_APPLY (R99). -/
def execLayerApply (n : Parcel) (errs : List WordErr) (s : State) : Host.Outcome State Fault Refusal :=
  .next (s.runNorm n.val 2 errs)

/-! ## Tile errors (R104) -/

/-- Withdraw a tile. -/
def State.withdrawTile (s : State) (n tile : Nat) : State :=
  let w := s.withdrawnTiles n
  (s.setRd64 (Reg.MT_TILE_WITHDRAWN_LO n) (setBitsOf w tile tile 1)).refreshTiles n

/-- TILE_PARITY_ERROR (R104): a tile in service fails while it runs a panel of the running matrix part. The tile is
withdrawn, recorded and reported, and the panel is dealt again. When a panel that was dealt again fails too, the record
is marked, the part ends FENCED and the parcel fences itself. -/
def execTileParityError (n : Parcel) (tile : Fin 48) (panel : Nat) (s : State) : Host.Outcome State Fault Refusal :=
  .next (s.withPart n.val (fun d => d.opcode == 0x10 || d.opcode == 0x11) fun d =>
    let key := (d.id * 16 + n.val) * 2 ^ 32 + panel
    let again := (amGet s.seq.redealt key).isSome
    if !bitAt (s.goodTiles n.val) tile.val || bitAt (s.withdrawnTiles n.val) tile.val then s
    else
      let s1 := s.withdrawTile n.val tile.val
      let s2 :=
        if s1.fld (F.MT_ERR_INFO_VALID n.val) = 1 then s1
        else ((s1.setBit (F.MT_ERR_INFO_VALID n.val)).setFld (F.MT_ERR_INFO_TILE n.val) tile.val).setFld
          (F.MT_ERR_INFO_FN n.val) (s.ctxFn d.ctx)
      let s3 := s2.raise n.val tile.val 0 (some (s.attrOf d))
      let s4 :=
        if s3.tilesInService n.val < s.fuses.minTiles then s3.degrade F.FCU_SERVICE_TILES (some n.val) else s3
      if again then
        ((s4.setBit (F.MT_ERR_INFO_REPEAT n.val)).endPart n.val d.id Status.FENCED).selfFence n.val
      else if s4.tilesInService n.val = 0 then s4.noTiles n.val d
      else { s4 with seq := { s4.seq with redealt := amSet s4.seq.redealt key tile.val } })

/-- MT_ERR_CLR (R106): a write of 1, under the RWL rule. -/
def execMtErrClr (path : Path) (n : Parcel) (value : Word) (s : State) : Host.Outcome State Fault Refusal :=
  .next (s.rwl path (Reg.MT_ERR_CLR n.val) fun s =>
    if bitAt value.toNat 0 then s.setRd (Reg.MT_ERR_INFO n.val) 0 else s)

end Sys2Proof.Machine
end

