-- ==== Sys2Proof/Machine/Vector.lean ====
section
/-! DEFINITION. The vector units (05_vector_microprograms): the instruction word and image checks, slots, invocations and
their failures, and one definition per vector instruction. -/

namespace Sys2Proof.Machine

/-! ## The instruction word (R110, Table 2) -/

/-- The fields of an instruction word. -/
structure VInstr where
  op : Nat
  d : Nat
  a : Nat
  b : Nat
  c : Nat
  pred : Nat
  pz : Bool
  imm : Nat
  deriving DecidableEq, Repr

def vinstrOf (w : Nat) : VInstr :=
  { op := bitsOf w 63 56, d := bitsOf w 55 51, a := bitsOf w 50 46, b := bitsOf w 45 41, c := bitsOf w 40 36,
    pred := bitsOf w 35 33, pz := bitAt w 32, imm := bitsOf w 31 0 }

/-- What a register field names: nothing (it must be 0), a vector, scalar or predicate register, or a vector pair. -/
inductive RegKind where
  | none | vec | scl | prd | pair
  deriving DecidableEq, Repr

/-- A register field keeps R110. -/
def regOk : RegKind → Nat → Bool
  | .none, x => decide (x = 0)
  | .vec, _ => true
  | .scl, x => decide (x < 16)
  | .prd, x => decide (x < 8)
  | .pair, x => decide (x % 2 = 0)

/-- The form of an instruction: the kinds of its register fields; whether it has an immediate and its greatest value;
whether PRED governs it, and whether PZ may be 1. -/
structure VForm where
  d : RegKind := .none
  a : RegKind := .none
  b : RegKind := .none
  c : RegKind := .none
  imm : Option Nat := none
  pred : Bool := false
  pz : Bool := false
  deriving DecidableEq, Repr

def immMax : Nat := 2 ^ 32 - 1

/-- The form of each opcode of Table 3; none for an illegal opcode. -/
def vform (op : Nat) : Option VForm :=
  if op = 0x00 ∨ op = 0x01 ∨ op = 0x06 then some {}
  else if op = 0x02 ∨ op = 0x07 then some { imm := some immMax }
  else if op = 0x03 ∨ op = 0x05 then some { a := .scl, imm := some immMax }
  else if op = 0x04 then some { a := .scl, b := .scl, imm := some immMax }
  else if op = 0x10 then some { d := .scl, imm := some immMax }
  else if 0x11 ≤ op ∧ op ≤ 0x13 then some { d := .scl, a := .scl, b := .scl }
  else if op = 0x14 ∨ op = 0x15 ∨ op = 0x16 ∨ op = 0x1A then some { d := .scl, a := .scl, imm := some immMax }
  else if op = 0x17 then some { d := .scl, imm := some 7 }
  else if op = 0x18 ∨ op = 0x19 then some { d := .scl }
  else if op = 0x20 ∨ op = 0x21 ∨ op = 0x23 then
    some { d := .vec, a := .scl, imm := some immMax, pred := true, pz := true }
  else if op = 0x22 then some { d := .pair, a := .scl, imm := some immMax, pred := true, pz := true }
  else if op = 0x24 ∨ op = 0x25 then some { d := .vec, a := .scl, imm := some immMax, pred := true }
  else if op = 0x26 then some { d := .pair, a := .scl, imm := some immMax, pred := true }
  else if op = 0x27 then some { d := .vec, a := .scl, b := .scl, imm := some immMax, pred := true }
  else if (0x30 ≤ op ∧ op ≤ 0x32) ∨ op = 0x36 ∨ op = 0x37 ∨ op = 0x43 ∨ (0x58 ≤ op ∧ op ≤ 0x5B) then
    some { d := .vec, a := .vec, b := .vec, pred := true, pz := true }
  else if 0x33 ≤ op ∧ op ≤ 0x35 then some { d := .vec, a := .vec, b := .vec, c := .vec, pred := true, pz := true }
  else if (0x38 ≤ op ∧ op ≤ 0x3A) ∨ op = 0x3E ∨ op = 0x3F ∨ (0x40 ≤ op ∧ op ≤ 0x42) ∨ (0x44 ≤ op ∧ op ≤ 0x4C) then
    some { d := .vec, a := .vec, pred := true, pz := true }
  else if op = 0x3B ∨ op = 0x3C then some { d := .vec, a := .vec, b := .scl, pred := true, pz := true }
  else if op = 0x3D then some { d := .pair, a := .pair, b := .pair, pred := true, pz := true }
  else if 0x50 ≤ op ∧ op ≤ 0x52 then some { d := .prd, a := .vec, b := .vec, pred := true, pz := true }
  else if op = 0x53 ∨ op = 0x54 then some { d := .prd, a := .prd, b := .prd, pred := true, pz := true }
  else if op = 0x55 then some { d := .prd, a := .prd, pred := true, pz := true }
  else if op = 0x56 then some { d := .prd, imm := some 64, pred := true, pz := true }
  else if op = 0x57 then some { d := .vec, a := .vec, b := .vec, pred := true }
  else if op = 0x5C ∨ op = 0x5D ∨ op = 0x62 then
    some { d := .vec, a := .vec, imm := some immMax, pred := true, pz := true }
  else if op = 0x5E then some { d := .vec, pred := true, pz := true }
  else if op = 0x5F then some { d := .vec, a := .scl, pred := true, pz := true }
  else if op = 0x60 ∨ op = 0x61 then some { d := .scl, a := .vec, pred := true }
  else if op = 0x63 then some { d := .scl, a := .prd, pred := true }
  else if op = 0x64 then some { d := .vec, imm := some 7 }
  else if op = 0x65 then some { d := .vec, a := .scl, imm := some 7 }
  else none

/-- The instruction is a branch. -/
def isBranch (op : Nat) : Bool := decide (2 ≤ op ∧ op ≤ 5)

/-- An instruction word keeps R110 and R111, and a branch of it stays inside an image of the given length (R119). -/
def vinstrOk (words w : Nat) : Bool :=
  let i := vinstrOf w
  match vform i.op with
  | none => false
  | some f =>
    regOk f.d i.d && regOk f.a i.a && regOk f.b i.b && regOk f.c i.c
      && decide (i.imm ≤ f.imm.getD 0) && (f.pred || decide (i.pred = 0)) && (f.pz || !i.pz)
      && (!isBranch i.op || decide (4 ≤ i.imm ∧ i.imm < words))

/-! ## Images and slots (R119, R120) -/

/-- Entry j of an image's table; 0xFFFF is absent. -/
def entryOf (img : List Nat) (j : Nat) : Nat := img.getD (j / 4) 0 / 2 ^ (16 * (j % 4)) % 65536

/-- Word i of an image offends. -/
def wordBad (img : List Nat) (i : Nat) : Bool :=
  let w := img.getD i 0
  if i < 4 then
    ((List.range 4).any fun j =>
      let e := entryOf img (4 * i + j)
      e != 0xFFFF && !decide (4 ≤ e ∧ e < img.length))
      || (i == 0 && (List.range 16).all fun j => entryOf img j == 0xFFFF)
  else
    !vinstrOk img.length w
      || (i + 1 == img.length && !([0x01, 0x02, 0x07].contains (vinstrOf w).op))

/-- The first offending word of an image, where it is rejected. -/
def imageFault (img : List Nat) : Option Nat := (List.range img.length).find? (wordBad img)

/-- A parcel's vector units. -/
def State.vu (s : State) (n : Nat) : VuSt := (amGet s.vus n).getD {}
def State.setVu (s : State) (n : Nat) (x : VuSt) : State := { s with vus := amSet s.vus n x }

/-- The slot is loaded; its owner. -/
def State.slotLoaded (s : State) (n slot : Nat) : Bool := s.fld (F.VU_SLOT_LOADED n slot) == 1
def State.slotOwner (s : State) (n slot : Nat) : Nat := s.fld (F.VU_SLOT_OWNER_FN n slot)

/-- A slot becomes FREE. -/
def State.freeSlot (s : State) (n slot : Nat) : State :=
  let s1 := (s.setRd (Reg.VU_SLOT n slot) 0).setRd (Reg.VU_SLOT_WORDS n slot) 0
  s1.setVu n { s1.vu n with images := amDel (s1.vu n).images slot }

/-- The failure record (R124). -/
def State.recordVu (s : State) (n kind unit word fn code : Nat) : State :=
  if s.fld (F.VU_ERR_INFO_VALID n) = 1 then s
  else
    (((((s.setBit (F.VU_ERR_INFO_VALID n)).setFld (F.VU_ERR_INFO_KIND n) kind).setFld (F.VU_ERR_INFO_UNIT n) unit).setFld
      (F.VU_ERR_INFO_WORD n) word).setFld (F.VU_ERR_INFO_FN n) fn).setRd (Reg.VU_ERR_CODE n) (BitVec.ofNat 32 code)

/-- VLOAD (R119-R121): the image is read, checked, and takes the slot. -/
def execVload (n : Parcel) (errs : List WordErr) (s : State) : Host.Outcome State Fault Refusal :=
  .next (s.withPart n.val (fun d => d.opcode == 0x30 && !d.bit 24 3) fun d =>
    let v := vloadOp d n.val
    let fn := s.ctxFn d.ctx
    s.runPart n.val d 0 [(v.src, 8 * v.words)] [] errs fun s =>
      let img := (List.range v.words).map fun i => s.leHold (v.src + 8 * i) 8
      if s.slotLoaded n.val v.slot ∧ s.slotOwner n.val v.slot ≠ fn then s.endPart n.val d.id Status.ACCESS_VIOLATION
      else match imageFault img with
        | some i => (s.recordVu n.val 0x1 0 i fn 0).endPart n.val d.id Status.BAD_DESCRIPTOR
        | none =>
          let w := v.tag + 2 ^ 16 * fn + 2 ^ 26 * b2n v.shared + 2 ^ 27
          let s1 := (s.setRd (Reg.VU_SLOT n.val v.slot) (BitVec.ofNat 32 w)).setRd (Reg.VU_SLOT_WORDS n.val v.slot)
            (BitVec.ofNat 32 v.words)
          let s2 := s1.setVu n.val { s1.vu n.val with images := amSet (s1.vu n.val).images v.slot img }
          s2.endPart n.val d.id Status.OK)

/-- VLOAD with FREE (R120): the owner returns the slot to FREE; another function's slot is refused. -/
def execVloadFree (n : Parcel) (s : State) : Host.Outcome State Fault Refusal :=
  .next (s.withPart n.val (fun d => d.opcode == 0x30 && d.bit 24 3) fun d =>
    let slot := (vloadOp d n.val).slot
    if s.slotLoaded n.val slot ∧ s.slotOwner n.val slot ≠ s.ctxFn d.ctx then
      s.endPart n.val d.id Status.ACCESS_VIOLATION
    else (s.freeSlot n.val slot).endPart n.val d.id Status.OK)

/-- VU_SLOT_FREE (R120): the chosen slots become FREE whatever their owner; under the RWL rule. -/
def execVuSlotFree (path : Path) (n : Parcel) (value : Word) (s : State) : Host.Outcome State Fault Refusal :=
  .next (s.rwl path (Reg.VU_SLOT_FREE n.val) fun s =>
    (setBits value.toNat 4).foldl (fun s i => s.freeSlot n.val i) s)

/-- VU_ERR_CLR (R128): a write of 1, under the RWL rule. -/
def execVuErrClr (path : Path) (n : Parcel) (value : Word) (s : State) : Host.Outcome State Fault Refusal :=
  .next (s.rwl path (Reg.VU_ERR_CLR n.val) fun s =>
    if bitAt value.toNat 0 then (s.setRd (Reg.VU_ERR_INFO n.val) 0).setRd (Reg.VU_ERR_CODE n.val) 0 else s)

/-! ## Units in service (R109, R125) -/

/-- The units in service in ascending physical order. -/
def State.unitsInService (s : State) (n : Nat) : List Nat :=
  (List.range 8).filter fun i => bitAt (s.fld (F.VU_STATUS_GOOD n)) i && !bitAt (s.fld (F.VU_WITHDRAWN_WD n)) i

/-- VU_STATUS.IN_SERVICE follows. -/
def State.refreshUnits (s : State) (n : Nat) : State := s.setFld (F.VU_STATUS_IN_SERVICE n) (maskOf (s.unitsInService n))

/-! ## Invocations (R123, R124) -/

/-- The invocation is over: the units stop and the part ends. -/
def State.endRun (s : State) (n id st : Nat) : State :=
  (s.setVu n { s.vu n with run := none }).endPart n id st

/-- A failure of a unit (Table 8): every unit stops, the failure is recorded, and the part ends. -/
def State.failRun (s : State) (n : Nat) (d : Desc) (kind unit word code st : Nat) : State :=
  let s1 := s.recordVu n kind unit word (s.ctxFn d.ctx) code
  let s2 := if kind = 7 then s1.poison (vrunOp d n).wr.1 (vrunOp d n).wr.2 else s1
  s2.endRun n d.id st

/-- VRUN (R123): the slot is checked, and every unit in service begins at the entry's word; with no unit in service the
part has nothing to wait for. -/
def execVrun (n : Parcel) (s : State) : Host.Outcome State Fault Refusal :=
  .next (s.withPart n.val (fun d => d.opcode == 0x31) fun d =>
    let v := vrunOp d n.val
    let img := (amGet (s.vu n.val).images v.slot).getD []
    let e := entryOf img v.entry
    if (s.vu n.val).run.isSome then s
    else if !s.slotLoaded n.val v.slot ∨ s.fld (F.VU_SLOT_TAG n.val v.slot) ≠ v.tag then
      s.endPart n.val d.id Status.BAD_DESCRIPTOR
    else if s.slotOwner n.val v.slot ≠ s.ctxFn d.ctx ∧ s.fld (F.VU_SLOT_SHARED n.val v.slot) = 0 then
      s.endPart n.val d.id Status.ACCESS_VIOLATION
    else if e = 0xFFFF then s.endPart n.val d.id Status.BAD_DESCRIPTOR
    else
      let phys := s.unitsInService n.val
      if phys.isEmpty then s.endPart n.val d.id Status.OK
      else
        let units : AMap UnitSt := (List.range phys.length).map fun i => (i, { pc := e })
        let run : VuRun := { id := d.id, slot := v.slot, deadline := s.mclk + v.limit * 128, phys := phys, units := units }
        s.setVu n.val { s.vu n.val with run := some run })

/-- VRUN_CYCLE_LIMIT (R124): the limit of 1,024 CCLK (128 MCLK) units has passed since the start. -/
def execVrunCycleLimit (n : Parcel) (s : State) : Host.Outcome State Fault Refusal :=
  .next (s.atDeadline ((s.vu n.val).run.map (·.deadline)) fun s =>
    match (s.vu n.val).run with
    | some r =>
      match s.desc r.id with
      | some d => s.failRun n.val d 0x6 0 ((r.units.head?.map fun e => e.2.pc).getD 0) 0 Status.ABORTED
      | none => s.setVu n.val { s.vu n.val with run := none }
    | none => s)

/-- VU_PARITY_ERROR (R125). what: 0 a parity error in unit u's registers or datapath (u is its physical number), which
withdraws the unit; 1 a corrected word of the instruction store; 2 an uncorrectable one met by a fetch of unit u, which
frees the slot. -/
def execVuParityError (n : Parcel) (u : Fin 8) (what : Fin 3) (s : State) : Host.Outcome State Fault Refusal :=
  .next (
    let run := (s.vu n.val).run
    let unit := ((run.map (·.phys)).getD []).idxOf u.val
    let pc := ((run.bind fun r => amGet r.units unit).map (·.pc)).getD 0
    let d := run.bind fun r => s.desc r.id
    if what.val = 1 then s.addSat (F.VU_CE_COUNT_COUNT n.val)
    else if what.val = 2 then
      match run, d with
      | some r, some d => (s.freeSlot n.val r.slot).failRun n.val d 0x7 unit pc 0 Status.HOLD_UNCORRECTABLE
      | _, _ => s
    else if !(s.unitsInService n.val).contains u.val then s
    else
      let wd := s.fld (F.VU_WITHDRAWN_WD n.val)
      let s1 := (s.setFld (F.VU_WITHDRAWN_WD n.val) (setBitsOf wd u.val u.val 1)).refreshUnits n.val
      let s2 := s1.raise n.val u.val 0 (d.map s.attrOf)
      let s3 := if (s2.unitsInService n.val).length < 6 then s2.degrade F.FCU_SERVICE_VECTOR (some n.val) else s2
      match d with
      | some d => s3.failRun n.val d 0x8 unit pc 0 Status.FENCED
      | none => s3)

/-! ## Issue (R108, R112, R114) -/

/-- Registers of a unit: S0 reads 0 and P0 reads all ones; writes to them are discarded. -/
def UnitSt.sreg (u : UnitSt) (i : Nat) : Nat := if i = 0 then 0 else (storeRead (fun _ => 0#32) u.sr i).toNat
def UnitSt.setS (u : UnitSt) (i v : Nat) : UnitSt :=
  if i = 0 then u else { u with sr := storeWrite (fun _ => 0#32) u.sr i (BitVec.ofNat 32 v) }
def UnitSt.preg (u : UnitSt) (i : Nat) : Nat :=
  if i = 0 then 2 ^ 64 - 1 else (storeRead (fun _ => 0#64) u.p i).toNat
def UnitSt.setP (u : UnitSt) (i v : Nat) : UnitSt :=
  if i = 0 then u else { u with p := storeWrite (fun _ => 0#64) u.p i (BitVec.ofNat 64 v) }
def UnitSt.lane (u : UnitSt) (r l : Nat) : Nat := (storeRead (fun _ => 0#32) u.v (64 * r + l)).toNat
def UnitSt.setLane (u : UnitSt) (r l v : Nat) : UnitSt :=
  { u with v := storeWrite (fun _ => 0#32) u.v (64 * r + l) (BitVec.ofNat 32 v) }

/-- Lane l is on (R114). -/
def UnitSt.isOn (u : UnitSt) (i : VInstr) (l : Nat) : Bool := bitAt (u.preg i.pred) l

/-- Write a vector register lane by lane from values computed before any of them is written: lanes that are off keep
the old value, or take +0 where PZ is 1. -/
def UnitSt.writeV (u : UnitSt) (i : VInstr) (r : Nat) (f : Nat → Nat) : UnitSt :=
  (List.range 64).foldl (fun x l =>
    if u.isOn i l then x.setLane r l (f l) else if i.pz then x.setLane r l 0 else x) u

/-- Write a predicate register in the same way. -/
def UnitSt.writeP (u : UnitSt) (i : VInstr) (f : Nat → Bool) : UnitSt :=
  u.setP i.d (maskOf ((List.range 64).filter fun l =>
    if u.isOn i l then f l else if i.pz then false else bitAt (u.preg i.d) l))

/-- The instruction counts its lanes that are on in VU_LANEOPS (R126). -/
def isVectorOp (op : Nat) : Bool :=
  decide ((0x20 ≤ op ∧ op ≤ 0x52) ∨ (0x57 ≤ op ∧ op ≤ 0x62))

/-- What a unit that issues knows. -/
structure Issue where
  run : VuRun
  d : Desc
  unit : Nat
  st : UnitSt
  i : VInstr
  deriving DecidableEq, Repr

/-- Unit u of parcel n is at an instruction with opcode op and may issue it. -/
def State.issue (s : State) (n u op : Nat) : Option Issue :=
  match (s.vu n).run with
  | none => none
  | some r =>
    match amGet r.units u, s.desc r.id with
    | some st, some d =>
      let i := vinstrOf (((amGet (s.vu n).images r.slot).getD []).getD st.pc 0)
      if st.halted || st.atSync || i.op != op then none else some ⟨r, d, u, st, i⟩
    | _, _ => none

/-- Every unit has issued SYNC or END: those at the SYNC go on, and what XST wrote becomes visible (R116); when every
unit has ended, the part ends. -/
def State.settleRun (s : State) (n : Nat) (r : VuRun) : State :=
  if r.units.all fun e => e.2.halted then s.endRun n r.id Status.OK
  else if r.units.all fun e => e.2.halted || e.2.atSync then
    let units := amMap (fun _ (x : UnitSt) => { x with atSync := false }) r.units
    s.setVu n { s.vu n with run := some { r with units := units }, xr := (s.vu n).xw }
  else s.setVu n { s.vu n with run := some r }

/-- A unit's new state after an instruction: its lanes counted, its registers written, and the program counter moved. -/
def State.retire (s : State) (n : Nat) (x : Issue) (st : UnitSt) (pc : Nat) : State :=
  let on := popcount (x.st.preg x.i.pred) 64
  let s1 := if isVectorOp x.i.op then s.add64 (Reg.VU_LANEOPS_LO n) (if x.i.op = 0x57 then 64 else on) else s
  s1.settleRun n { x.run with units := amSet x.run.units x.unit { st with pc := pc } }

/-- The shape of an instruction that only changes its unit's registers. -/
def State.vuPlain (s : State) (n u op : Nat) (f : Issue → UnitSt) : State :=
  match s.issue n u op with
  | some x => s.retire n x (f x) (x.st.pc + 1)
  | none => s

/-- A lane-wise instruction: lane l of V[d] becomes f of the issue and the lane. -/
def State.vuLanes (s : State) (n u op : Nat) (f : Issue → Nat → Nat) : State :=
  s.vuPlain n u op fun x => x.st.writeV x.i x.i.d (f x)

/-- Lanes of the sources. -/
def Issue.va (x : Issue) (l : Nat) : Nat := x.st.lane x.i.a l
def Issue.vb (x : Issue) (l : Nat) : Nat := x.st.lane x.i.b l
def Issue.vc (x : Issue) (l : Nat) : Nat := x.st.lane x.i.c l
def Issue.sa (x : Issue) : Nat := x.st.sreg x.i.a
def Issue.sb (x : Issue) : Nat := x.st.sreg x.i.b

/-! ## Memory (R115) -/

/-- The address of a memory instruction: S[a] + IMM modulo 2^32. -/
def Issue.addr (x : Issue) : Nat := (x.sa + x.i.imm) % 2 ^ 32

/-- n bytes at a lie wholly inside a window of the executing parcel. -/
def inWindow (n : Nat) (w : Region) (a len : Nat) : Bool :=
  decide (w.1 ≤ a ∧ a + len ≤ w.1 + w.2) && inParcel n a

/-- Why the pieces of an access fail: (KIND, status, address), checked in the order of alignment, windows and owner. -/
def State.accessFault (s : State) (n : Nat) (x : Issue) (write : Bool) (align a : Nat) (pieces : List Region) :
    Option (Nat × Nat × Nat) :=
  let v := vrunOp x.d n
  let w := s.who x.d
  if a % align ≠ 0 then some (0x4, Status.BAD_DESCRIPTOR, a)
  else match pieces.find? fun p => !((!write && inWindow n v.rd p.1 p.2) || inWindow n v.wr p.1 p.2) with
    | some p => some (0x2, Status.ACCESS_VIOLATION, p.1)
    | none =>
      match pieces.find? fun p => !(if write then s.mayWrite w p.1 p.2 else s.mayRead w p.1 p.2) with
      | some p => some (0x3, Status.ACCESS_VIOLATION, p.1)
      | none => none

/-- The bytes that the lanes that are on access: size bytes per lane at a. -/
def lanePieces (x : Issue) (a size : Nat) : List Region :=
  ((List.range 64).filter (x.st.isOn x.i)).map fun l => (a + size * l, size)

/-- The shape of a load: its pieces are checked, a plot being cleared is waited for, bad words end the invocation, and
otherwise the unit takes the values. -/
def State.vuLoad (s : State) (n u op align : Nat) (errs : List WordErr) (pieces : Issue → List Region)
    (f : State → Issue → UnitSt) : State :=
  match s.issue n u op with
  | none => s
  | some x =>
    let ps := pieces x
    match s.accessFault n x false align x.addr ps with
    | some (kind, st, a) => s.failRun n x.d kind u x.st.pc a st
    | none =>
      if ps.any fun p => s.clearingIn p.1 p.2 then s
      else
        let (clean, s1) := s.readAll errs ps 0 x.d
        if clean then s1.retire n x (f s1 x) (x.st.pc + 1)
        else
          let bad := ((ps.find? fun p => s1.poisonedIn p.1 p.2).map (·.1)).getD 0
          s1.failRun n x.d 0x7 u x.st.pc bad Status.HOLD_UNCORRECTABLE

/-- The shape of a store: rows of bytes are checked and written; a partial write into a poisoned word ends the
invocation (R44). -/
def State.vuStore (s : State) (n u op : Nat) (rows : Issue → List (Nat × List Byte)) : State :=
  match s.issue n u op with
  | none => s
  | some x =>
    let rs := rows x
    let ps := rs.map fun r => (r.1, r.2.length)
    match s.accessFault n x true 16 x.addr ps with
    | some (kind, st, a) => s.failRun n x.d kind u x.st.pc a st
    | none =>
      if ps.any fun p => s.clearingIn p.1 p.2 then s
      else
        let (ok, s1) := s.writeRows rs
        if ok then s1.retire n x x.st (x.st.pc + 1)
        else s1.failRun n x.d 0x7 u x.st.pc x.addr Status.HOLD_UNCORRECTABLE

/-- Runs of neighbouring pieces joined, so that words written whole by several lanes count as whole (R114, R44). -/
def joinRows : List (Nat × List Byte) → List (Nat × List Byte)
  | [] => []
  | (a, b) :: r =>
    match joinRows r with
    | (c, e) :: t => if a + b.length = c then (a, b ++ e) :: t else (a, b) :: (c, e) :: t
    | [] => [(a, b)]

/-- The rows of a store of one value per lane. -/
def storeLanes (x : Issue) (size : Nat) (f : Nat → Nat) : List (Nat × List Byte) :=
  joinRows (((List.range 64).filter (x.st.isOn x.i)).map fun l => (x.addr + size * l, leBytes size (f l)))

/-- The rows of VST.E4M3: the element bytes at S[a] + IMM and a scale byte per block at S[b]; lanes that are off stay out
of their block. -/
def e4m3Rows (x : Issue) : List (Nat × List Byte) :=
  let block (h : Nat) : List Nat := (List.range 32).map fun j => if x.st.isOn x.i (32 * h + j) then x.st.lane x.i.d (32 * h + j) else 0
  let b0 := toMx 2 (block 0)
  let b1 := toMx 2 (block 1)
  let codes := b0.2 ++ b1.2
  let any (h : Nat) : Bool := (List.range 32).any fun j => x.st.isOn x.i (32 * h + j)
  joinRows (((List.range 64).filter (x.st.isOn x.i)).map fun l => (x.addr + l, leBytes 1 (codes.getD l 0)))
    ++ joinRows ((if any 0 then [(x.sb, leBytes 1 b0.1)] else []) ++
        (if any 1 then [((x.sb + 1) % 2 ^ 32, leBytes 1 b1.1)] else []))

/-! ## Reductions (R113) -/

/-- tree64: pairs at distance w, w halved, n times. -/
def tree64 (on : Nat → Bool) (a : Nat → Nat) : Nat :=
  treeSum 6 ((List.range 64).map fun l => if on l then a l else 0)

/-- The maximum of the lanes that are on: -Inf when none is. -/
def maxLanes (on : Nat → Bool) (a : Nat → Nat) : Nat :=
  ((List.range 64).filter on).foldl (fun m l => fMax m (a l)) 0xFF800000

/-- A comparison of two lanes; false when either value is NaN. -/
def cmpEq (a b : Nat) : Bool := (ofF32 a).eq (ofF32 b)
def cmpLt (a b : Nat) : Bool := (ofF32 a).lt (ofF32 b)
def cmpLe (a b : Nat) : Bool := cmpEq a b || cmpLt a b

/-- |a| and -a: canonical NaN for a NaN (R52). -/
def fAbs (a : Nat) : Nat := toF32 (ofF32 a).abs
def fNeg (a : Nat) : Nat := toF32 (ofF32 a).negate

/-! ## The instructions -/

/-- NOP: nothing. -/
def execVuNop (n : Parcel) (u : Fin 8) (s : State) : Host.Outcome State Fault Refusal :=
  .next (s.vuPlain n.val u.val 0x00 fun x => x.st)

/-- END (R123): this unit stops. -/
def execVuEnd (n : Parcel) (u : Fin 8) (s : State) : Host.Outcome State Fault Refusal :=
  .next (s.vuPlain n.val u.val 0x01 fun x => { x.st with halted := true })

/-- BR: pc = IMM. -/
def execVuBr (n : Parcel) (u : Fin 8) (s : State) : Host.Outcome State Fault Refusal :=
  .next (match s.issue n.val u.val 0x02 with
    | some x => s.retire n.val x x.st (if True then x.i.imm else x.st.pc + 1)
    | none => s)

/-- BNZ: branch if S[a] is not 0. -/
def execVuBnz (n : Parcel) (u : Fin 8) (s : State) : Host.Outcome State Fault Refusal :=
  .next (match s.issue n.val u.val 0x03 with
    | some x => s.retire n.val x x.st (if x.sa ≠ 0 then x.i.imm else x.st.pc + 1)
    | none => s)

/-- BLT: branch if S[a] is below S[b], signed. -/
def execVuBlt (n : Parcel) (u : Fin 8) (s : State) : Host.Outcome State Fault Refusal :=
  .next (match s.issue n.val u.val 0x04 with
    | some x => s.retire n.val x x.st (if toSigned 32 x.sa < toSigned 32 x.sb then x.i.imm else x.st.pc + 1)
    | none => s)

/-- LOOP: S[a] falls by 1; branch if the result is not 0. A decrement of S0 is discarded, its result is still -1. -/
def execVuLoop (n : Parcel) (u : Fin 8) (s : State) : Host.Outcome State Fault Refusal :=
  .next (match s.issue n.val u.val 0x05 with
    | some x =>
      let v := (x.sa + 2 ^ 32 - 1) % 2 ^ 32
      s.retire n.val x (x.st.setS x.i.a v) (if v ≠ 0 then x.i.imm else x.st.pc + 1)
    | none => s)

/-- SYNC (R116): the unit waits until every unit has issued SYNC or END. -/
def execVuSync (n : Parcel) (u : Fin 8) (s : State) : Host.Outcome State Fault Refusal :=
  .next (s.vuPlain n.val u.val 0x06 fun x => { x.st with atSync := true })

/-- TRAP (R124): the invocation ends with BAD_DESCRIPTOR; VU_ERR_CODE is IMM. -/
def execVuTrap (n : Parcel) (u : Fin 8) (s : State) : Host.Outcome State Fault Refusal :=
  .next (match s.issue n.val u.val 0x07 with
    | some x => s.failRun n.val x.d 0x5 u.val x.st.pc x.i.imm Status.BAD_DESCRIPTOR
    | none => s)

/-- SLI: S[d] = IMM. -/
def execSli (n : Parcel) (u : Fin 8) (s : State) : Host.Outcome State Fault Refusal :=
  .next (s.vuPlain n.val u.val 0x10 fun x => x.st.setS x.i.d x.i.imm)

/-- SADD: the sum modulo 2^32. -/
def execSadd (n : Parcel) (u : Fin 8) (s : State) : Host.Outcome State Fault Refusal :=
  .next (s.vuPlain n.val u.val 0x11 fun x => x.st.setS x.i.d (x.sa + x.sb))

/-- SMUL: the low 32 bits of the product. -/
def execSmul (n : Parcel) (u : Fin 8) (s : State) : Host.Outcome State Fault Refusal :=
  .next (s.vuPlain n.val u.val 0x12 fun x => x.st.setS x.i.d (x.sa * x.sb))

/-- SAND: bitwise AND. -/
def execSand (n : Parcel) (u : Fin 8) (s : State) : Host.Outcome State Fault Refusal :=
  .next (s.vuPlain n.val u.val 0x13 fun x => x.st.setS x.i.d (x.sa &&& x.sb))

/-- SADDI: S[a] + IMM. -/
def execSaddi (n : Parcel) (u : Fin 8) (s : State) : Host.Outcome State Fault Refusal :=
  .next (s.vuPlain n.val u.val 0x14 fun x => x.st.setS x.i.d (x.sa + x.i.imm))

/-- SSHL: left by IMM[4:0]. -/
def execSshl (n : Parcel) (u : Fin 8) (s : State) : Host.Outcome State Fault Refusal :=
  .next (s.vuPlain n.val u.val 0x15 fun x => x.st.setS x.i.d (x.sa * 2 ^ (x.i.imm % 32)))

/-- SSHR: right by IMM[4:0], logically. -/
def execSshr (n : Parcel) (u : Fin 8) (s : State) : Host.Outcome State Fault Refusal :=
  .next (s.vuPlain n.val u.val 0x16 fun x => x.st.setS x.i.d (x.sa / 2 ^ (x.i.imm % 32)))

/-- SARG: operand word IMM of the VRUN (Table 7). -/
def execSarg (n : Parcel) (u : Fin 8) (s : State) : Host.Outcome State Fault Refusal :=
  .next (s.vuPlain n.val u.val 0x17 fun x => x.st.setS x.i.d (sargWord x.d n.val x.i.imm))

/-- SID (R109): this unit's number among the units in service. -/
def execSid (n : Parcel) (u : Fin 8) (s : State) : Host.Outcome State Fault Refusal :=
  .next (s.vuPlain n.val u.val 0x18 fun x => x.st.setS x.i.d u.val)

/-- SCNT (R109): the number of units in service. -/
def execScnt (n : Parcel) (u : Fin 8) (s : State) : Host.Outcome State Fault Refusal :=
  .next (s.vuPlain n.val u.val 0x19 fun x => x.st.setS x.i.d x.run.phys.length)

/-- SLD (R115): 4 bytes of the hold. -/
def execSld (n : Parcel) (u : Fin 8) (errs : List WordErr) (s : State) : Host.Outcome State Fault Refusal :=
  .next (s.vuLoad n.val u.val 0x1A 4 errs (fun x => [(x.addr, 4)]) fun s x =>
    x.st.setS x.i.d (s.leHold x.addr 4))

/-- VLD.F32 (R115): 64 FP32 values. -/
def execVldF32 (n : Parcel) (u : Fin 8) (errs : List WordErr) (s : State) : Host.Outcome State Fault Refusal :=
  .next (s.vuLoad n.val u.val 0x20 16 errs (fun x => lanePieces x x.addr 4) fun s x =>
    x.st.writeV x.i x.i.d fun l => s.leHold (x.addr + 4 * l) 4)

/-- VLD.BF16 (R115): 64 BF16 values, widened exactly. -/
def execVldBf16 (n : Parcel) (u : Fin 8) (errs : List WordErr) (s : State) : Host.Outcome State Fault Refusal :=
  .next (s.vuLoad n.val u.val 0x21 16 errs (fun x => lanePieces x x.addr 2) fun s x =>
    x.st.writeV x.i x.i.d fun l => toF32 (ofBf16 (s.leHold (x.addr + 2 * l) 2)))

/-- VLD.BF16X2 (R115): element 2l to lane l of V[d], element 2l + 1 to lane l of V[d + 1]. -/
def execVldBf16x2 (n : Parcel) (u : Fin 8) (errs : List WordErr) (s : State) : Host.Outcome State Fault Refusal :=
  .next (s.vuLoad n.val u.val 0x22 16 errs (fun x => lanePieces x x.addr 4) fun s x =>
    (x.st.writeV x.i x.i.d fun l => toF32 (ofBf16 (s.leHold (x.addr + 4 * l) 2))).writeV x.i (x.i.d + 1) fun l =>
      toF32 (ofBf16 (s.leHold (x.addr + 4 * l + 2) 2)))

/-- VLD.BCAST (R115): one FP32 value to every lane. -/
def execVldBcast (n : Parcel) (u : Fin 8) (errs : List WordErr) (s : State) : Host.Outcome State Fault Refusal :=
  .next (s.vuLoad n.val u.val 0x23 4 errs
    (fun x => if (List.range 64).any (x.st.isOn x.i) then [(x.addr, 4)] else []) fun s x =>
    x.st.writeV x.i x.i.d fun _ => s.leHold x.addr 4)

/-- VST.F32 (R115): 64 FP32 values. -/
def execVstF32 (n : Parcel) (u : Fin 8) (s : State) : Host.Outcome State Fault Refusal :=
  .next (s.vuStore n.val u.val 0x24 fun x => storeLanes x 4 fun l => x.st.lane x.i.d l)

/-- VST.BF16 (R115): 64 values rounded to BF16. -/
def execVstBf16 (n : Parcel) (u : Fin 8) (s : State) : Host.Outcome State Fault Refusal :=
  .next (s.vuStore n.val u.val 0x25 fun x => storeLanes x 2 fun l => toBf16 (ofF32 (x.st.lane x.i.d l)))

/-- VST.BF16X2 (R115): lane l of V[d] to element 2l, of V[d + 1] to element 2l + 1. -/
def execVstBf16x2 (n : Parcel) (u : Fin 8) (s : State) : Host.Outcome State Fault Refusal :=
  .next (s.vuStore n.val u.val 0x26 fun x => storeLanes x 4 fun l =>
    toBf16 (ofF32 (x.st.lane x.i.d l)) + 65536 * toBf16 (ofF32 (x.st.lane (x.i.d + 1) l)))

/-- VST.E4M3 (R115, R54): two blocks of 32 lanes, 64 element bytes and 2 scale bytes. -/
def execVstE4m3 (n : Parcel) (u : Fin 8) (s : State) : Host.Outcome State Fault Refusal :=
  .next (s.vuStore n.val u.val 0x27 e4m3Rows)

/-- VADD: a + b. -/
def execVadd (n : Parcel) (u : Fin 8) (s : State) : Host.Outcome State Fault Refusal :=
  .next (s.vuLanes n.val u.val 0x30 fun x l => fAdd (x.va l) (x.vb l))

/-- VSUB: a - b. -/
def execVsub (n : Parcel) (u : Fin 8) (s : State) : Host.Outcome State Fault Refusal :=
  .next (s.vuLanes n.val u.val 0x31 fun x l => fSub (x.va l) (x.vb l))

/-- VMUL: a * b. -/
def execVmul (n : Parcel) (u : Fin 8) (s : State) : Host.Outcome State Fault Refusal :=
  .next (s.vuLanes n.val u.val 0x32 fun x l => fMul (x.va l) (x.vb l))

/-- VFMA: a * b + c, rounded once. -/
def execVfma (n : Parcel) (u : Fin 8) (s : State) : Host.Outcome State Fault Refusal :=
  .next (s.vuLanes n.val u.val 0x33 fun x l => fFma (x.va l) (x.vb l) (x.vc l))

/-- VFMS: a * b - c, rounded once. -/
def execVfms (n : Parcel) (u : Fin 8) (s : State) : Host.Outcome State Fault Refusal :=
  .next (s.vuLanes n.val u.val 0x34 fun x l => fFma (x.va l) (x.vb l) (fNeg (x.vc l)))

/-- VFNMA: c - a * b, rounded once. -/
def execVfnma (n : Parcel) (u : Fin 8) (s : State) : Host.Outcome State Fault Refusal :=
  .next (s.vuLanes n.val u.val 0x35 fun x l => fFma (fNeg (x.va l)) (x.vb l) (x.vc l))

/-- VMIN (R113). -/
def execVmin (n : Parcel) (u : Fin 8) (s : State) : Host.Outcome State Fault Refusal :=
  .next (s.vuLanes n.val u.val 0x36 fun x l => fMin (x.va l) (x.vb l))

/-- VMAX (R113). -/
def execVmax (n : Parcel) (u : Fin 8) (s : State) : Host.Outcome State Fault Refusal :=
  .next (s.vuLanes n.val u.val 0x37 fun x l => fMax (x.va l) (x.vb l))

/-- VABS: the magnitude. -/
def execVabs (n : Parcel) (u : Fin 8) (s : State) : Host.Outcome State Fault Refusal :=
  .next (s.vuLanes n.val u.val 0x38 fun x l => fAbs (x.va l))

/-- VNEG: the value negated. -/
def execVneg (n : Parcel) (u : Fin 8) (s : State) : Host.Outcome State Fault Refusal :=
  .next (s.vuLanes n.val u.val 0x39 fun x l => fNeg (x.va l))

/-- VMOV: a copy. -/
def execVmov (n : Parcel) (u : Fin 8) (s : State) : Host.Outcome State Fault Refusal :=
  .next (s.vuLanes n.val u.val 0x3A fun x l => x.va l)

/-- VADDS: a + S[b] as FP32. -/
def execVadds (n : Parcel) (u : Fin 8) (s : State) : Host.Outcome State Fault Refusal :=
  .next (s.vuLanes n.val u.val 0x3B fun x l => fAdd (x.va l) x.sb)

/-- VMULS: a * S[b] as FP32. -/
def execVmuls (n : Parcel) (u : Fin 8) (s : State) : Host.Outcome State Fault Refusal :=
  .next (s.vuLanes n.val u.val 0x3C fun x l => fMul (x.va l) x.sb)

/-- VCMUL (R113): the complex product over register pairs, all sources read before any result is written. -/
def execVcmul (n : Parcel) (u : Fin 8) (s : State) : Host.Outcome State Fault Refusal :=
  .next (s.vuPlain n.val u.val 0x3D fun x => 
    let a0 (l : Nat) : Fp := ofF32 (x.st.lane x.i.a l)
    let a1 (l : Nat) : Fp := ofF32 (x.st.lane (x.i.a + 1) l)
    let b0 (l : Nat) : Fp := ofF32 (x.st.lane x.i.b l)
    let b1 (l : Nat) : Fp := ofF32 (x.st.lane (x.i.b + 1) l)
    (x.st.writeV x.i x.i.d fun l => toF32 (((a0 l).mul (b0 l)).add ((a1 l).mul (b1 l)).negate)).writeV x.i (x.i.d + 1)
      fun l => toF32 (((a0 l).mul (b1 l)).add ((a1 l).mul (b0 l))))

/-- VCVT.F2I (R113). -/
def execVcvtF2i (n : Parcel) (u : Fin 8) (s : State) : Host.Outcome State Fault Refusal :=
  .next (s.vuLanes n.val u.val 0x3E fun x l => f2i (x.va l))

/-- VCVT.I2F (R113). -/
def execVcvtI2f (n : Parcel) (u : Fin 8) (s : State) : Host.Outcome State Fault Refusal :=
  .next (s.vuLanes n.val u.val 0x3F fun x l => i2f (x.va l))

/-- VRCP (R117): 1 / a, correctly rounded. -/
def execVrcp (n : Parcel) (u : Fin 8) (s : State) : Host.Outcome State Fault Refusal :=
  .next (s.vuLanes n.val u.val 0x40 fun x l => fDiv 0x3F800000 (x.va l))

/-- VRSQRT (R117): correctly rounded. -/
def execVrsqrt (n : Parcel) (u : Fin 8) (s : State) : Host.Outcome State Fault Refusal :=
  .next (s.vuLanes n.val u.val 0x41 fun x l => fRsqrt (x.va l))

/-- VSQRT (R117): correctly rounded. -/
def execVsqrt (n : Parcel) (u : Fin 8) (s : State) : Host.Outcome State Fault Refusal :=
  .next (s.vuLanes n.val u.val 0x42 fun x l => toF32 (ofF32 (x.va l)).sqrt)

/-- VDIV (R117): a / b, correctly rounded. -/
def execVdiv (n : Parcel) (u : Fin 8) (s : State) : Host.Outcome State Fault Refusal :=
  .next (s.vuLanes n.val u.val 0x43 fun x l => fDiv (x.va l) (x.vb l))

/-- VEXP (R117): e^a, correctly rounded. -/
def execVexp (n : Parcel) (u : Fin 8) (s : State) : Host.Outcome State Fault Refusal :=
  .next (s.vuLanes n.val u.val 0x44 fun x l => fExp (x.va l))

/-- VEXP2 (R117): 2^a within 1 unit in the last place. -/
def execVexp2 (n : Parcel) (u : Fin 8) (s : State) : Host.Outcome State Fault Refusal :=
  .next (s.vuLanes n.val u.val 0x45 fun x l => fExp2 (x.va l))

/-- VLOG (R117): ln a within 1 unit in the last place. -/
def execVlog (n : Parcel) (u : Fin 8) (s : State) : Host.Outcome State Fault Refusal :=
  .next (s.vuLanes n.val u.val 0x46 fun x l => bounded 1 0x46 Fp.ln (x.va l))

/-- VLOG2 (R117): log2 a within 1 unit in the last place. -/
def execVlog2 (n : Parcel) (u : Fin 8) (s : State) : Host.Outcome State Fault Refusal :=
  .next (s.vuLanes n.val u.val 0x47 fun x l => bounded 1 0x47 Fp.log2 (x.va l))

/-- VTANH (R117): tanh a within 2 units in the last place. -/
def execVtanh (n : Parcel) (u : Fin 8) (s : State) : Host.Outcome State Fault Refusal :=
  .next (s.vuLanes n.val u.val 0x48 fun x l => bounded 2 0x48 Fp.tanh (x.va l))

/-- VSIG (R117): 1 / (1 + e^-a) within 2 units in the last place. -/
def execVsig (n : Parcel) (u : Fin 8) (s : State) : Host.Outcome State Fault Refusal :=
  .next (s.vuLanes n.val u.val 0x49 fun x l => bounded 2 0x49 Fp.sigmoid (x.va l))

/-- VERF (R117): erf a within 2 units in the last place. -/
def execVerf (n : Parcel) (u : Fin 8) (s : State) : Host.Outcome State Fault Refusal :=
  .next (s.vuLanes n.val u.val 0x4A fun x l => bounded 2 0x4A Fp.erf (x.va l))

/-- VSIN (R117): sin a within 1 unit in the last place. -/
def execVsin (n : Parcel) (u : Fin 8) (s : State) : Host.Outcome State Fault Refusal :=
  .next (s.vuLanes n.val u.val 0x4B fun x l => bounded 1 0x4B Fp.sin (x.va l))

/-- VCOS (R117): cos a within 1 unit in the last place. -/
def execVcos (n : Parcel) (u : Fin 8) (s : State) : Host.Outcome State Fault Refusal :=
  .next (s.vuLanes n.val u.val 0x4C fun x l => bounded 1 0x4C Fp.cos (x.va l))

/-- VCMPEQ: per-lane equality; false where either value is NaN. -/
def execVcmpeq (n : Parcel) (u : Fin 8) (s : State) : Host.Outcome State Fault Refusal :=
  .next (s.vuPlain n.val u.val 0x50 fun x => x.st.writeP x.i fun l => cmpEq (x.va l) (x.vb l))

/-- VCMPLT: per-lane less than; false where either value is NaN. -/
def execVcmplt (n : Parcel) (u : Fin 8) (s : State) : Host.Outcome State Fault Refusal :=
  .next (s.vuPlain n.val u.val 0x51 fun x => x.st.writeP x.i fun l => cmpLt (x.va l) (x.vb l))

/-- VCMPLE: per-lane less or equal; false where either value is NaN. -/
def execVcmple (n : Parcel) (u : Fin 8) (s : State) : Host.Outcome State Fault Refusal :=
  .next (s.vuPlain n.val u.val 0x52 fun x => x.st.writeP x.i fun l => cmpLe (x.va l) (x.vb l))

/-- PAND: the AND of two predicates. -/
def execPand (n : Parcel) (u : Fin 8) (s : State) : Host.Outcome State Fault Refusal :=
  .next (s.vuPlain n.val u.val 0x53 fun x => x.st.writeP x.i fun l => bitAt (x.st.preg x.i.a) l && bitAt (x.st.preg x.i.b) l)

/-- POR: the OR of two predicates. -/
def execPor (n : Parcel) (u : Fin 8) (s : State) : Host.Outcome State Fault Refusal :=
  .next (s.vuPlain n.val u.val 0x54 fun x => x.st.writeP x.i fun l => bitAt (x.st.preg x.i.a) l || bitAt (x.st.preg x.i.b) l)

/-- PNOT: a predicate inverted. -/
def execPnot (n : Parcel) (u : Fin 8) (s : State) : Host.Outcome State Fault Refusal :=
  .next (s.vuPlain n.val u.val 0x55 fun x => x.st.writeP x.i fun l => !bitAt (x.st.preg x.i.a) l)

/-- PFIRST: lanes below IMM are on. -/
def execPfirst (n : Parcel) (u : Fin 8) (s : State) : Host.Outcome State Fault Refusal :=
  .next (s.vuPlain n.val u.val 0x56 fun x => x.st.writeP x.i fun l => decide (l < x.i.imm))

/-- VSEL: lane = P[PRED] ? a : b. -/
def execVsel (n : Parcel) (u : Fin 8) (s : State) : Host.Outcome State Fault Refusal :=
  .next (s.vuPlain n.val u.val 0x57 fun x =>
    x.st.writeV { x.i with pred := 0 } x.i.d fun l => if x.st.isOn x.i l then x.va l else x.vb l)

/-- VIADD: the int32 sum modulo 2^32. -/
def execViadd (n : Parcel) (u : Fin 8) (s : State) : Host.Outcome State Fault Refusal :=
  .next (s.vuLanes n.val u.val 0x58 fun x l => x.va l + x.vb l)

/-- VAND: bitwise AND. -/
def execVand (n : Parcel) (u : Fin 8) (s : State) : Host.Outcome State Fault Refusal :=
  .next (s.vuLanes n.val u.val 0x59 fun x l => x.va l &&& x.vb l)

/-- VOR: bitwise OR. -/
def execVor (n : Parcel) (u : Fin 8) (s : State) : Host.Outcome State Fault Refusal :=
  .next (s.vuLanes n.val u.val 0x5A fun x l => x.va l ||| x.vb l)

/-- VXOR: bitwise exclusive or. -/
def execVxor (n : Parcel) (u : Fin 8) (s : State) : Host.Outcome State Fault Refusal :=
  .next (s.vuLanes n.val u.val 0x5B fun x l => x.va l ^^^ x.vb l)

/-- VSHL: left by IMM[4:0]. -/
def execVshl (n : Parcel) (u : Fin 8) (s : State) : Host.Outcome State Fault Refusal :=
  .next (s.vuLanes n.val u.val 0x5C fun x l => x.va l * 2 ^ (x.i.imm % 32))

/-- VSHR: right by IMM[4:0], logically. -/
def execVshr (n : Parcel) (u : Fin 8) (s : State) : Host.Outcome State Fault Refusal :=
  .next (s.vuLanes n.val u.val 0x5D fun x l => x.va l / 2 ^ (x.i.imm % 32))

/-- VIOTA: lane l = l. -/
def execViota (n : Parcel) (u : Fin 8) (s : State) : Host.Outcome State Fault Refusal :=
  .next (s.vuLanes n.val u.val 0x5E fun x l => (fun _ => l) x)

/-- VSPLAT: every lane = S[a]. -/
def execVsplat (n : Parcel) (u : Fin 8) (s : State) : Host.Outcome State Fault Refusal :=
  .next (s.vuLanes n.val u.val 0x5F fun x l => (fun _ => x.sa) l)

/-- VREDSUM (R113): the lanes summed by tree64. -/
def execVredsum (n : Parcel) (u : Fin 8) (s : State) : Host.Outcome State Fault Refusal :=
  .next (s.vuPlain n.val u.val 0x60 fun x => x.st.setS x.i.d (tree64 (x.st.isOn x.i) x.va))

/-- VREDMAX (R113): the maximum of the lanes that are on. -/
def execVredmax (n : Parcel) (u : Fin 8) (s : State) : Host.Outcome State Fault Refusal :=
  .next (s.vuPlain n.val u.val 0x61 fun x => x.st.setS x.i.d (maxLanes (x.st.isOn x.i) x.va))

/-- VROTL: lane l = a[(l + IMM) mod 64]. -/
def execVrotl (n : Parcel) (u : Fin 8) (s : State) : Host.Outcome State Fault Refusal :=
  .next (s.vuLanes n.val u.val 0x62 fun x l => x.va ((l + x.i.imm) % 64))

/-- PCNT: the number of lanes that are on. -/
def execPcnt (n : Parcel) (u : Fin 8) (s : State) : Host.Outcome State Fault Refusal :=
  .next (s.vuPlain n.val u.val 0x63 fun x => x.st.setS x.i.d (((List.range 64).filter fun l => x.st.isOn x.i l && bitAt (x.st.preg x.i.a) l).length))

/-- XST (R116): V[d] goes to slot IMM of this unit's exchange buffer; other units see it after a SYNC. -/
def execXst (n : Parcel) (u : Fin 8) (s : State) : Host.Outcome State Fault Refusal :=
  .next (match s.issue n.val u.val 0x64 with
    | some x =>
      let base := (x.run.phys.getD u.val 0 * 8 + x.i.imm % 8) * 64
      let xw := (List.range 64).foldl (fun m l =>
        storeWrite (fun _ => 0#32) m (base + l) (BitVec.ofNat 32 (x.st.lane x.i.d l))) (s.vu n.val).xw
      (s.setVu n.val { s.vu n.val with xw := xw }).retire n.val x x.st (x.st.pc + 1)
    | none => s)

/-- XLD (R116): slot IMM of unit S[a] as it stood at the last SYNC; a unit at or above U fails as WINDOW. -/
def execXld (n : Parcel) (u : Fin 8) (s : State) : Host.Outcome State Fault Refusal :=
  .next (match s.issue n.val u.val 0x65 with
    | some x =>
      if x.sa ≥ x.run.phys.length then s.failRun n.val x.d 0x2 u.val x.st.pc 0 Status.ACCESS_VIOLATION
      else
        let base := (x.run.phys.getD x.sa 0 * 8 + x.i.imm % 8) * 64
        s.retire n.val x (x.st.writeV x.i x.i.d fun l => (storeRead (fun _ => 0#32) (s.vu n.val).xr (base + l)).toNat)
          (x.st.pc + 1)
    | none => s)

end Sys2Proof.Machine
end

