-- ==== Sys2Proof/Machine/ClockReset.lean ====
section
/-! DEFINITION. Clocks and resets (14_clocks_resets_crossings): loss of the clock, the sources of a device reset, its
assertion and release, the watchdog and the block resets. -/

namespace Sys2Proof.Machine

/-! ## The root clock (R336, R337, R339) -/

/-- The reference or the lock is lost: the core clocks stop, MCLK runs from AOSC, every port leaves UP, an event is
raised on source 62 and the safe state entered whatever its severity. -/
def State.clockLost (s : State) (bit : Fld) : State :=
  let s1 := ((s.setBit bit).setBit F.CLK_STATUS_AOSC_MODE).addSat F.CLK_LOCK_LOSSES_COUNT
  let s2 := { s1 with fabRunning := false, rst := { s1.rst with coreClocks := false } }
  let s3 := (List.range 20).foldl (fun t p => if t.linkUp p then t.enterTrain p else t) s2
  (s3.raise 62 0 0 none).enterSafe 62

/-- REF_MEASURE: the count of one window of 10,000 AOSC cycles; below 5,000 the reference is lost. -/
def execRefMeasure (edges : BitVec 20) (s : State) : Host.Outcome State Fault Refusal :=
  .next (let s1 := s.setFld F.CLK_REF_MEAS_EDGES edges.toNat
    if 5000 ≤ edges.toNat then s1.setBit F.CLK_STATUS_REF_OK
    else
      let s2 := s1.setFld F.CLK_STATUS_REF_OK 0
      if s.fld F.CLK_STATUS_REF_OK = 1 ∧ s.up 3 then s2.clockLost F.CLK_EVENT_REF_LOST else s2)

/-- PLL_LOCK_LOST: the lock detector marks the lock lost. -/
def execPllLockLost (s : State) : Host.Outcome State Fault Refusal :=
  .next (if s.fld F.CLK_STATUS_LOCKED = 0 then s
    else (s.setFld F.CLK_STATUS_LOCKED 0).clockLost F.CLK_EVENT_LOCK_LOST)

/-- PLL_RELOCK: the core clocks restart at a frame boundary, and MCLK returns to the root. -/
def execPllRelock (s : State) : Host.Outcome State Fault Refusal :=
  .next (if !s.up 3 ∨ s.rst.thermtrip ∨ s.fld F.CLK_STATUS_AOSC_MODE = 0 then s
    else
      let s1 := ((s.setBit F.CLK_STATUS_LOCKED).setBit F.CLK_STATUS_REF_OK).setFld F.CLK_STATUS_AOSC_MODE 0
      { s1 with fabRunning := s.up 5, rst := { s1.rst with coreClocks := true } })

/-- CROSSING_WAKE (R341, R342): the controller opens the destination's clock; a destination in reset is not woken. -/
def execCrossingWake (unit : Nat) (s : State) : Host.Outcome State Fault Refusal :=
  .next (if s.up 10 then { s with rst := { s.rst with woken := setIns s.rst.woken unit } } else s)

/-! ## Sources of a device reset (R343-R346, R350, R352) -/

/-- A level source asserts. -/
def State.levelReset (s : State) (cause : Nat) : State :=
  ({ s with rst := { s.rst with levels := setIns s.rst.levels cause } }).requestReset cause

/-- POWER_ON: VDD_AON falls below 0.72 V. -/
def execPowerOn (s : State) : Host.Outcome State Fault Refusal := .next (s.levelReset 1)
/-- PERST: PERST_N falls. -/
def execPerst (s : State) : Host.Outcome State Fault Refusal := .next (s.levelReset 2)
/-- SYS_RESET: SYS_RESET_N falls. -/
def execSysReset (s : State) : Host.Outcome State Fault Refusal := .next (s.levelReset 3)

/-- RESET_DEASSERTED: a level source goes away: 1 VDD_AON has been above 0.76 V for 2 ms, 2 PERST_N, 3 SYS_RESET_N. -/
def execResetDeasserted (source : Fin 4) (s : State) : Host.Outcome State Fault Refusal :=
  .next { s with rst := { s.rst with levels := setDel s.rst.levels source.val } }

/-- GO: RST_DEVICE.GO, under the RWL rule. -/
def execRstGo (path : Path) (value : Word) (s : State) : Host.Outcome State Fault Refusal :=
  .next (s.rwl path Reg.RST_DEVICE fun s => if bitAt value.toNat 0 then s.requestReset 5 else s)

/-- The watchdog's count starts anew, where it is enabled. -/
def State.restartWdt (s : State) : State :=
  let t := if s.fld F.RST_WDT_CFG_EN = 1 then some (s.mclk + max 1 (s.fld F.RST_WDT_CFG_MS) * perMs) else none
  { s with rst := { s.rst with wdt := t } }

/-- KICK: from the management core; a write from any other path is ignored. -/
def execWdtKick (path : Path) (value : Word) (s : State) : Host.Outcome State Fault Refusal :=
  .next (if path = .mgmtCore ∧ bitAt value.toNat 0 ∧ s.up 3 then s.restartWdt else s)

/-- A write of RST_WDT_CFG, from the management core alone: a watchdog that it enables starts from MS, and one that it
disables stops. -/
def State.writeWdtCfg (s : State) (path : Path) (v : Word) : State :=
  if path ≠ .mgmtCore then s
  else
    let s1 := s.setRd Reg.RST_WDT_CFG (v &&& 0x1FFFF#32)
    if s1.fld F.RST_WDT_CFG_EN = 0 ∨ s.rst.wdt.isNone then s1.restartWdt else s1

/-- WATCHDOG: the count reaches 0. -/
def execWatchdog (s : State) : Host.Outcome State Fault Refusal :=
  .next (s.atDeadline s.rst.wdt fun s => ({ s with rst := { s.rst with wdt := none } }).requestReset 6)

/-! ## Assertion (R344, R347-R350) -/

/-- The registers of the always-on domain that keep their value through a device reset (Table 7). -/
def keptReg (off : Nat) : Bool :=
  off == Reg.RST_LAST_CAUSE || off == Reg.RST_LAST_FTIME_LO || off == Reg.RST_LAST_FTIME_HI

/-- Every domain but the always-on domain is in reset: registers, queues, engines and the hold are as State.reset has
them. The ownership record, the stores and the memory on the stacks and the expanders stay; FROM_OFF stays, but for
POWER_ON, which clears the always-on domain too. -/
def State.deviceReset (s : State) (powerOn : Bool) : State :=
  let s1 : State :=
    { pending := s.pending, out := s.out, freeCtr := s.freeCtr, mclk := s.mclk, fuses := s.fuses
      regs := if powerOn then [] else s.regs.filter fun e => keptReg e.1
      own := { owner := s.own.owner, locked := s.own.locked, gen := s.own.gen }
      tier := { s.tier with ctl := [], ports := [] }
      tol := { inletAt := s.mclk }
      rst := { levels := s.rst.levels, asserted := none, thermtrip := s.rst.thermtrip && !powerOn }
      nv := { s.nv with pfHold := false, waiting := [], compacting := false }
      jtag := s.jtag }
  s1.setFld F.PWR_STATUS_FROM_OFF (if powerOn then 0 else s.fld F.PWR_STATUS_FROM_OFF)

/-- The ownership command whose commit word is in its write pulse when the reset comes: held off, the word is new and
the command has committed; on a loss of VDD_AON the word reads old or new (R349, R431). -/
def State.settlePulse (s : State) (powerOn : Bool) : State :=
  match s.own.busy with
  | none => s
  | some c =>
    let (b, s1) := if powerOn then s.free 1 else (1, s)
    if b = 0 then s1
    else { s1 with own := { s1.own.apply c.code c.claimant with busy := none, gen := (s1.own.gen + 1) % 2 ^ 32 } }

/-- DEVICE_RESET_ASSERT: the recognised reset asserts. pulse says that an eMRAM word was in its write pulse, and whether
that was the commit word of the ownership record: the reset then waited for the pulse's end, but for POWER_ON. -/
def execDeviceResetAssert (pulse : Option Bool) (s : State) : Host.Outcome State Fault Refusal :=
  .next (match s.rst.request with
    | none => s
    | some c =>
      let po := decide (c = 1)
      let ftime := if po then 0 else s.fabTime
      let s1 := if pulse = some true then s.settlePulse po else s
      let s2 := (s1.deviceReset po).setFld F.RST_STATE_HELD_OFF (b2n (pulse.isSome && !po))
      { s2 with rst := { s2.rst with asserted := some (s.mclk, c), ftime := ftime } })

/-! ## Release (R351) -/

/-- Record the cause of a reset, its unit and the fabric time at its assertion (R354). -/
def State.recordCause (s : State) (cause unit ftime : Nat) : State :=
  (s.setRd Reg.RST_LAST_CAUSE (BitVec.ofNat 32 (cause + 16 * unit))).setRd64 Reg.RST_LAST_FTIME_LO ftime

/-- The plan in force of a parcel, from the BRU_FP registers. -/
def State.planBanks (s : State) (n : Nat) : Nat := s.rd64 (Reg.BRU_FP_BANK_LO n)
def State.planTiles (s : State) (n : Nat) : Nat := s.rd64 (Reg.BRU_FP_TILE_LO n) % 2 ^ 48
def State.planVus (s : State) (n : Nat) : Nat := s.fld (F.BRU_FP_TILE_HI_VU n)

/-- Step 8: the hold of a parcel leaves reset; its remap follows from the plan (R28, R30), the plots above the usable ones
are RETIRED, and the highest usable one is the transit plot (R36). -/
def State.releaseHold (s : State) (n : Nat) : State :=
  let good := s.planBanks n
  let g := popcount good 64
  let usable := 96 - retiredPlots (64 - g)
  let w := g + 2 ^ 8 * usable + 2 ^ 16 * (usable - 1) + 2 ^ 24 * b2n (g != 64)
  let s1 := (s.setRd (Reg.HLD_STATUS n) (BitVec.ofNat 32 w)).setRd64 (Reg.HLD_BANK_GOOD_LO n) good
  (List.range 96).foldl (fun t p =>
    if usable ≤ p then t.setRd (Reg.HLD_PLOT_OWNER n p) 3#32
    else if p + 1 = usable then t.setRd (Reg.HLD_PLOT_OWNER n p) 2#32 else t) s1

/-- Steps 9 and 10: a parcel's tiles and vector units show the plan. -/
def State.releaseEngines (s : State) (n : Nat) : State :=
  (((s.setRd64 (Reg.MT_TILE_GOOD_LO n) (s.planTiles n)).refreshTiles n).setFld (F.VU_STATUS_GOOD n)
    (s.planVus n)).refreshUnits n

/-- Step 10: a parcel whose plan falls below its grade puts the device in degraded operation (R414). -/
def State.judgePlan (s : State) (n : Nat) : State :=
  let s1 := if popcount (s.planTiles n) 48 < s.fuses.minTiles then s.degrade F.FCU_SERVICE_TILES (some n) else s
  let s2 := if popcount (s.planBanks n) 64 < s.fuses.minBanks then s1.degrade F.FCU_SERVICE_BANKS (some n) else s1
  if popcount (s.planVus n) 8 < 6 then s2.degrade F.FCU_SERVICE_VECTOR (some n) else s2

/-- What release step k does (Table 5). -/
def State.releaseStep (s : State) (k : Nat) : State :=
  let s0 := s.setFld F.RST_STATE_STEP k
  match k with
  | 2 => s0.setBit F.CLK_STATUS_REF_OK
  | 3 =>
    let s1 := s0.setBit F.CLK_STATUS_LOCKED
    ({ s1 with rst := { s1.rst with coreClocks := true } }).restartWdt.romBoot
  | 4 => s0.mount.loadPlan
  | 5 => { s0 with fabRunning := true }
  | 6 => (List.range s0.fuses.ports).foldl (fun t p =>
      if t.fld (F.LNK_CTRL_ENABLE p) = 1 then t.setFld (F.LNK_STATUS_STATE p) 1 else t) s0
  | 8 => (List.range 12).foldl State.releaseHold s0
  | 9 => (List.range 12).foldl State.releaseEngines (s0.advanceTo (s0.mclk + 176))
  | 10 => (List.range 12).foldl State.judgePlan s0
  | _ => s0

/-- RESET_RELEASE_STEP: the next step of Table 5. ready says that what the step waits for beyond the gap has come: the
reference for a gap, the lock of the PLL for step 3. Step 1 comes 64 AOSC after the assertion, with no source asserted;
a source that has asserted since stops the release. -/
def execResetReleaseStep (ready : Bool) (s : State) : Host.Outcome State Fault Refusal :=
  .next (if s.rst.request.isSome then s
    else match s.rst.asserted with
      | some (t, c) =>
        if !s.rst.levels.isEmpty then s
        else
          let s1 := s.advanceTo (t + 320)
          let s2 := s1.recordCause c 0 s.rst.ftime
          { s2.releaseStep 1 with rst := { s2.rst with asserted := none } }
      | none =>
        let k := s.fld F.RST_STATE_STEP
        if k = 0 ∨ k ≥ 10 ∨ !ready then s else (s.advanceTo (s.mclk + 640)).releaseStep (k + 1))

/-! ## Block resets (R353) -/

/-- The value of a register range goes back to reset: every register whose offset satisfies a test. -/
def State.dropRegs (s : State) (drop : Nat → Bool) : State :=
  { s with regs := s.regs.filter fun e => !drop (e.1 % 2 ^ 26) }

/-- The register bit of a block: bit number k as `inBlockReset` counts. -/
def blockBit (k : Nat) : Fld :=
  if k < 32 then ⟨Reg.RST_BLOCK0, k, k⟩ else ⟨Reg.RST_BLOCK1, k - 32, k - 32⟩

/-- The unit index of a block (Table 6). -/
def blockUnit (k : Nat) : Nat := if k < 32 then k else k - 12

/-- The block exists on this variant. -/
def State.blockExists (s : State) (k : Nat) : Bool :=
  if k < 32 then decide (k < s.fuses.ports)
  else if k < 34 then decide (k - 32 < s.fuses.ethPorts)
  else if k < 38 then decide (k - 34 < s.fuses.cxlPorts)
  else decide (k < 40)

/-- A fabric port's reset: its registers, stored peer, epochs and replay list go, and what it held ends under R259. -/
def State.resetLink (s : State) (p : Nat) : State :=
  let s1 := ((s.leaveUp p).dropCur p).discardStale p
  let waiting := (s1.link p).queue
  let s2 := waiting.foldl (fun t e => match e.fromPort with
    | none => t.lostPacket e.pkt
    | some q => t.returnCredits q e.pkt.vc.toNat (packetUnits e.pkt)) (s1.setLink p {})
  let base := 0x2000000 + 0x40000 * p
  let s3 := (s2.setLink p {}).dropRegs fun o => decide (base ≤ o ∧ o < base + 0x40000)
  s3.setFld (F.LNK_STATUS_STATE p) 1

/-- An Ethernet port's reset: its registers, queues and pause timers go; the frame in transmission is truncated and
counted. -/
def State.resetEth (s : State) (e : Nat) (sending : Bool) : State :=
  let base := 0xB00000 + 0x40000 * e
  let s1 := ({ s with eth := amDel s.eth e }).dropRegs fun o => decide (base ≤ o ∧ o < base + 0x40000)
  if sending then s1.addSat (F.ETH_TX_DROP_COUNT e) else s1

/-- A CXL port's reset: its registers but for the tract entries; outstanding requests fail; STALE is set where the port
was VIRAL. -/
def State.resetFt (s : State) (q : Nat) : State :=
  let viral := (s.farCtl q).viralSeen
  let base := 0xE00100 + 0x40 * q
  let s1 := (s.failPort q).dropRegs fun o => decide (base ≤ o ∧ o < base + 0x40)
  (s1.setFarCtl q { viralSeen := viral }).setFld (F.FT_PORT_STATE_STATE q) 2

/-- The fabric block's reset: windowed packets end their parts UNREACHABLE; traverse state, port states, windows and
fabric time go. -/
def State.resetFab (s : State) : State :=
  let s1 := s.seq.reqs.foldl (fun t r => t.lostPacket r.packet) s
  let gone (o : Nat) : Bool := o == Reg.FAB_TRAV_STATUS || o == Reg.FAB_DATUM_SERIAL_LO || o == Reg.FAB_DATUM_SERIAL_HI
    || o == Reg.FAB_TIME_STATUS || decide (Reg.FAB_PORT_STATE 0 ≤ o ∧ o < Reg.FAB_PORT_STATE 20)
  let s2 := (s1.dropRegs gone).setFld F.FAB_STATION_VALID 0
  { s2 with fab := {}, fabTime := 0, fabSlew := 0 }

/-- The collective engine's reset: running ALL_REDUCE parts end FENCED and their OP_SEQ advances; no ABORT is sent, and
member records stay (R296, R306). -/
def State.resetColl (s : State) : State :=
  let running := s.seq.descs.flatMap fun d => if d.opcode ≠ 0x61 then [] else
    (d.parts.filter fun p => decide (p.st = .running)).map fun p => (p.parcel, d)
  let s1 := running.foldl (fun t x =>
    ((t.endPart x.1 x.2.id Status.FENCED).collMark x.2.id x.1).advanceSeq
      (groupKey x.1 x.2.ctx (reduceOp x.2 x.1).gidx)) s
  { s1 with coll := { s1.coll with ops := [] } }

/-- The reset of block k, unless it is in one already, absent, or the device is in reset: recorded with cause BLOCK, its
bit reads 1 until release. -/
def State.blockReset (s : State) (k : Nat) (sending : Bool) : State :=
  if s.inBlockReset k ∨ !s.blockExists k ∨ s.rst.thermtrip ∨ s.rst.request.isSome ∨ s.rst.asserted.isSome ∨ !s.up 6 then s
  else
    let s1 := if k < 32 then s.resetLink k
      else if k < 34 then s.resetEth (k - 32) sending
      else if k < 38 then s.resetFt (k - 34)
      else if k = 38 then s.resetFab
      else s.resetColl
    let s2 := (s1.setBit (blockBit k)).recordCause 8 (blockUnit k) s.fabTime
    { s2 with rst := { s2.rst with blocks := amSet s2.rst.blocks k (s.mclk + 10 * perUs) } }

/-- LNK_BLOCK_RESET: bit p of RST_BLOCK0, under the RWL rule. -/
def execLnkBlockReset (path : Path) (p : Port) (s : State) : Host.Outcome State Fault Refusal :=
  .next (s.rwl path Reg.RST_BLOCK0 fun s => s.blockReset p.val false)
/-- ETH_BLOCK_RESET: sending says that a frame is in transmission. -/
def execEthBlockReset (path : Path) (e : Fin 2) (sending : Bool) (s : State) : Host.Outcome State Fault Refusal :=
  .next (s.rwl path Reg.RST_BLOCK1 fun s => s.blockReset (32 + e.val) sending)
/-- FT_BLOCK_RESET. -/
def execFtBlockReset (path : Path) (q : Fin 4) (s : State) : Host.Outcome State Fault Refusal :=
  .next (s.rwl path Reg.RST_BLOCK1 fun s => s.blockReset (34 + q.val) false)
/-- FAB_BLOCK_RESET. -/
def execFabBlockReset (path : Path) (s : State) : Host.Outcome State Fault Refusal :=
  .next (s.rwl path Reg.RST_BLOCK1 fun s => s.blockReset 38 false)
/-- COL_BLOCK_RESET. -/
def execColBlockReset (path : Path) (s : State) : Host.Outcome State Fault Refusal :=
  .next (s.rwl path Reg.RST_BLOCK1 fun s => s.blockReset 39 false)

/-- BLOCK_RESET_RELEASE: the release of block k. FAB starts a traverse, since ports are UP already (R273). -/
def execBlockResetRelease (k : Fin 40) (s : State) : Host.Outcome State Fault Refusal :=
  .next (s.atDeadline (amGet s.rst.blocks k.val) fun s =>
    let s1 := { s.setFld (blockBit k.val) 0 with rst := { s.rst with blocks := amDel s.rst.blocks k.val } }
    if k.val = 38 then
      let s2 := (List.range 20).foldl (fun t p => if t.linkUp p then t.setFld (F.FAB_PORT_STATE_STATE p) 1 else t) s1
      if s2.upPorts.isEmpty then s2 else s2.travStart
    else s1)

end Sys2Proof.Machine
end

