-- ==== Sys2Proof/Machine/Transfer.lean ====
section
/-! DEFINITION. The DMA engine and the fabric transfer engine: COPY and FXFER, and what arrives for a parcel's station:
WRITE, SIGNAL and RESPONSE packets (R81-R83, R100-R103, R287). -/

namespace Sys2Proof.Machine

/-! ## COPY (R100, R101) -/

/-- The parcel that an address of a side lies in. -/
def sideParcel (kind a : Nat) : Nat := if kind = 0 then a / 2 ^ 28 else a / 2 ^ 36

/-- The side whose parcels split a COPY: the destination in the hold or the near tier, else the source. -/
def CopyOp.splitSide (c : CopyOp) : Nat × Nat := if c.dk ≤ 1 then (c.dk, c.dst) else (c.sk, c.src)

/-- The parcels of a COPY's parts (R47): the parcels its split side touches, ascending. -/
def CopyOp.parcels (c : CopyOp) : List Nat :=
  let (k, a) := c.splitSide
  (List.range (sideParcel k (a + c.len - 1) + 1 - sideParcel k a)).map (sideParcel k a + ·)

/-- The part of the transfer at parcel n: its offset and its length. With REPL every part is the whole transfer. -/
def CopyOp.slice (c : CopyOp) (repl : Bool) (n : Nat) : Nat × Nat :=
  if repl then (0, c.len)
  else
    let (k, a) := c.splitSide
    let w := if k = 0 then 2 ^ 28 else 2 ^ 36
    let lo := max a (n * w)
    let hi := min (a + c.len) ((n + 1) * w)
    (lo - a, hi - lo)

/-- How far a COPY part may go: a status that ends it before it starts, or waiting for a clear. -/
inductive CopyGate where
  | go
  | waits
  | stop (st : Nat)
  deriving DecidableEq, Repr

/-- Ownership of both sides first (R48), then whether their tiers serve, then clears. A host side is not checked here. -/
def State.copyGate (s : State) (w : Who) (c : CopyOp) (off len : Nat) : CopyGate :=
  let st1 := if c.zero ∨ c.sk = 3 then Status.OK else s.tierStatus c.sk w (c.src + off) len false
  let st2 := if c.dk = 3 then Status.OK else s.tierStatus c.dk w (c.dst + off) len true
  if st1 = Status.ACCESS_VIOLATION ∨ st2 = Status.ACCESS_VIOLATION then .stop Status.ACCESS_VIOLATION
  else if st1 ≠ Status.OK then .stop st1
  else if st2 ≠ Status.OK then .stop st2
  else if (!c.zero && decide (c.sk ≤ 2) && s.tierClearing c.sk (c.src + off) len)
      || (decide (c.dk ≤ 2) && s.tierClearing c.dk (c.dst + off) len) then .waits
  else .go

/-- Host writes of a COPY part that stopped after some bytes: whole 64 B of host memory are written; of the last, cut
64 B the bytes before the bad word may or may not be written (a free bit). -/
def State.copyToHost (s : State) (fn a : Nat) (bytes : List Byte) (cut : Bool) : State :=
  if cut then
    let whole := (a + bytes.length) / 64 * 64 - a
    let s1 := if whole = 0 then s else s.emit (.hostWrite fn a (bytes.take whole))
    let (bit, s2) := s1.free 1
    if bit = 1 ∧ whole < bytes.length then s2.emit (.hostWrite fn (a + whole) (bytes.drop whole)) else s2
  else s.emit (.hostWrite fn a bytes)

/-- Move the bytes of a part, both sides checked: up to the first bad source word, which arrives as poison (R101). -/
def State.copyMove (s : State) (n : Nat) (d : Desc) (c : CopyOp) (off len : Nat) (errs terrs : List WordErr) : State :=
  let fn := s.ctxFn d.ctx
  let a := c.src + off
  let b := c.dst + off
  let s1 := s.tierErrors c.sk a len errs terrs 2 d
  match s1.firstBad c.sk a len with
  | none =>
    if c.dk = 3 then (s1.copyToHost fn b (s1.tierRead c.sk a len) false).endPart n d.id Status.OK
    else
      let (ok, s2) := s1.tierWrite c.dk b (s1.tierRead c.sk a len)
      s2.endPart n d.id (if ok then Status.OK else badStatus c.dk)
  | some w =>
    let pre := w - a
    let upto := min (w + granule c.sk) (a + len) - a
    if c.dk = 3 then (s1.copyToHost fn b (s1.tierRead c.sk a pre) true).endPart n d.id (badStatus c.sk)
    else
      let (ok, s2) := s1.tierWrite c.dk b (s1.tierRead c.sk a pre)
      if ok then (s2.tierPoison c.dk (b + pre) (upto - pre)).endPart n d.id (badStatus c.sk)
      else s2.endPart n d.id (badStatus c.dk)

/-- A host access of a function waits for Bus Master Enable (R224). -/
def State.hostWaits (s : State) (fn : Nat) : Bool := !(s.fn fn).bme

/-- A failed host access is recorded when no record is held (R210). -/
def State.recordHost (s : State) (cause fn addr : Nat) : State :=
  let s0 := s.setBit F.HIF_EVENT_HOST_ERR
  if s0.fld F.HIF_ERR_INFO_VALID = 1 then s0
  else (((s0.setBit F.HIF_ERR_INFO_VALID).setFld F.HIF_ERR_INFO_CAUSE cause).setFld F.HIF_ERR_INFO_FN fn).setRd64
    Reg.HIF_ERR_ADDR_LO addr

/-- A host read is issued and joins the outstanding ones (R210). -/
def State.hostReadFor (s : State) (fn addr len : Nat) (why : ReadFor) : State :=
  let id := s.host.nextRead
  let h := { s.host with
    nextRead := id + 1
    reads := s.host.reads ++ [({ id := id, fn := fn, addr := addr, len := len, why := why } : HostRd)] }
  let s1 := { s with host := h }
  s1.emit (.hostRead fn addr len id)

/-- FWU_RESULT of a path: the code, and the cause of a privileged refusal (R454). -/
def State.fwuResult (s : State) (path : Path) (code : Nat) (cause : Nat := 0) : State :=
  s.setRdB (pathNo path) Reg.FWU_RESULT (BitVec.ofNat 32 (code + 16 * cause))

/-- The host read of a firmware block is lost or fails: the block is answered HOST_READ (R444). -/
def State.fwuReadLost (s : State) : State :=
  match s.fwu.reading with
  | some (path, _) =>
    let s1 := (s.fwuResult path 5).setBit F.FWU_EVENT_BLOCK_DONE
    { s1 with fwu := { s1.fwu with reading := none } }
  | none => s

/-- The host read of a firmware block is issued, through the addressing of PF0, unless it waits for Bus Master Enable or
is under way. -/
def State.fwuIssue (s : State) : State :=
  if s.fwu.reading.isNone ∨ s.host.reads.any fun r => decide (r.why = .firmware) then s
  else if !(s.fn 0).enabled then s.fwuReadLost
  else if s.hostWaits 0 then s.bmeWaits 0
  else s.hostReadFor 0 (s.rd64 Reg.FWU_BLK_ADDR_LO) (s.fld F.FWU_BLK_LEN_LEN) .firmware

/-- A part waits for the host read it has issued. -/
def State.copyReading (s : State) (n id : Nat) : Bool := s.host.reads.any fun r => decide (r.why = .copy n id)

/-- COPY (R101): the part that runs at parcel n. errs and terrs are the errors its reads find in the hold and in the tiers,
refused says that the translation of its host address is refused (R210). -/
def execCopy (n : Parcel) (errs terrs : List WordErr) (refused : Bool) (s : State) : Host.Outcome State Fault Refusal :=
  .next (s.withPart n.val (fun d => d.opcode == 0x20 && !d.bit 44 3) fun d =>
    let c := copyOp d n.val
    let (off, len) := c.slice d.repl n.val
    let fn := s.ctxFn d.ctx
    let host := c.sk == 3 || c.dk == 3
    match s.copyGate (s.who d) c off len with
    | .stop st => s.endPart n.val d.id st
    | .waits => s
    | .go =>
      if s.copyReading n.val d.id then s
      else if host && s.hostWaits fn then s.bmeWaits fn
      else if host && refused then
        (s.recordHost 5 fn (if c.sk = 3 then c.src + off else c.dst + off)).endPart n.val d.id Status.ACCESS_VIOLATION
      else if c.sk = 3 then s.hostReadFor fn (c.src + off) len (.copy n.val d.id)
      else s.copyMove n.val d c off len errs terrs)

/-- COPY_ZERO (R100): the part that runs at parcel n writes zeros. -/
def execCopyZero (n : Parcel) (s : State) : Host.Outcome State Fault Refusal :=
  .next (s.withPart n.val (fun d => d.opcode == 0x20 && d.bit 44 3) fun d =>
    let c := copyOp d n.val
    let (off, len) := c.slice d.repl n.val
    match s.copyGate (s.who d) c off len with
    | .stop st => s.endPart n.val d.id st
    | .waits => s
    | .go =>
      let (ok, s1) := s.tierWrite c.dk (c.dst + off) (List.replicate len 0#8)
      s1.endPart n.val d.id (if ok then Status.OK else badStatus c.dk))

/-- The data of a COPY part's host read: written to its destination, as poison where the host poisoned it. -/
def State.copyData (s : State) (n id : Nat) (bytes : List Byte) (poisoned : Bool) : State :=
  match s.runningPart n (·.id == id) with
  | none => s
  | some d =>
    let c := copyOp d n
    let (off, len) := c.slice d.repl n
    if poisoned then (s.tierPoison c.dk (c.dst + off) len).endPart n id Status.ACCESS_VIOLATION
    else
      let (ok, s1) := s.tierWrite c.dk (c.dst + off) (sliceB bytes 0 len)
      s1.endPart n id (if ok then Status.OK else badStatus c.dk)

/-! ## FXFER (R102, R103, R286) -/

/-- A WRITE packet of an FXFER from offset o. -/
def State.fxPacket (s : State) (n : Nat) (d : Desc) (f : FxOp) (o : Nat) : Packet :=
  { ptype := 0x01, vc := 0, dst := BitVec.ofNat 24 f.station, src := BitVec.ofNat 24 (s.station n),
    dstCtx := BitVec.ofNat 12 f.ctx, srcCtx := BitVec.ofNat 12 d.ctx, jobTag := BitVec.ofNat 32 (s.ctxTag d.ctx),
    addr := BitVec.ofNat 32 (f.dst + o), payload := s.holdGet (f.src + o) (min 2048 (f.len - o)) }

/-- What an FXFER has still to send. -/
def State.fxSetNext (s : State) (id n : Nat) (o : Option Nat) : State :=
  { s with seq := { s.seq with fxNext := amPut s.seq.fxNext (fxKey id n) o } }

/-- Send packets from offset o on, at most k, while they fit the window; a bad source word stops the transfer. -/
def State.fxSend (s : State) (n : Nat) (d : Desc) (f : FxOp) : Nat → Nat → State
  | 0, o => s.fxSetNext d.id n (some o)
  | k + 1, o =>
    if f.len ≤ o then s.fxSetNext d.id n none
    else if s.poisonedIn (f.src + o) (min 2048 (f.len - o)) then
      (s.fxAnswer d.id n Status.HOLD_UNCORRECTABLE).fxSetNext d.id n none
    else
      let p := s.fxPacket n d f o
      if s.winFits n p then
        match s.sendRequest n d.id p with
        | (some _, s1) => s1.fxSend n d f k (o + 2048)
        | (none, s1) => (s1.fxAnswer d.id n Status.UNREACHABLE).fxSend n d f k (o + 2048)
      else
        let s1 := if (s.winEntry n p.dst.toNat).isNone then s.setBit F.FAB_EVENT_WINDOW_FULL else s
        s1.fxSetNext d.id n (some o)

/-- FXFER (R102): the part of descriptor id that runs at parcel n sends what its window takes. -/
def execFxfer (n : Parcel) (id : Nat) (errs : List WordErr) (s : State) : Host.Outcome State Fault Refusal :=
  .next (s.withPart n.val (fun d => d.opcode == 0x21 && d.id == id) fun d =>
    let f := fxOp d n.val
    let key := fxKey id n.val
    let fn := s.ctxFn d.ctx
    let first := (amGet s.seq.fxStatus key).isNone
    if first && !s.mayRead (s.who d) f.src f.len then s.endPart n.val id Status.ACCESS_VIOLATION
    else if s.clearingIn f.src f.len then s
    else
      let s1 := s.holdErrors (errs.filter (errIn [(f.src, f.len)])) 1 false fn (some (s.attrOf d))
      let s2 := if first then s1.fxAnswer id n.val Status.OK else s1
      let from' := if first then some 0 else amGet s.seq.fxNext key
      match from' with
      | some o => (s2.fxSend n.val d f (ceilDiv f.len 2048 + 1) o).fxFinish id n.val
      | none => s2.fxFinish id n.val)

/-! ## What arrives for a parcel's station -/

/-- The parcel of this device that a packet is for. -/
def pkParcel (p : Packet) : Nat := p.dst.toNat / 16 % 16

/-- Why a WRITE or SIGNAL for a context is refused: the parcel is fenced (R395), the function is disabled (R223), or the
context does not exist, is not bound at the parcel or carries another job tag (R82, R103). -/
def State.arrivalStatus (s : State) (p : Packet) : Nat :=
  let n := pkParcel p
  let c := p.dstCtx.toNat
  if n ≥ 12 then Status.UNREACHABLE
  else if !s.inService n then Status.FENCED
  else if (s.ctx c).st = .free ∨ (s.markSet n c).isNone then Status.ACCESS_VIOLATION
  else if !(s.fn (s.ctxFn c)).enabled then Status.FUNCTION_DISABLED
  else if s.ctxTag c ≠ p.jobTag.toNat then Status.ACCESS_VIOLATION
  else Status.OK

/-- Who a packet for a context comes from. -/
def State.whoCtx (s : State) (c : Nat) : Who := ⟨s.ctxFn c, some c, false⟩

/-- WRITE_RECEIVE (R103, R288): checked, written whole or not at all, and answered; a plot being cleared makes it wait. -/
def execWriteReceive (p : Packet) (s : State) : Host.Outcome State Fault Refusal :=
  .next (let n := pkParcel p
    let a := p.addr.toNat
    let st := s.arrivalStatus p
    if st = Status.OK ∧ s.mayWrite (s.whoCtx p.dstCtx.toNat) a p.payload.length ∧ s.clearingIn a p.payload.length then s
    else
      let s1 := (s.takePacket p).markSource n p.src.toNat
      if st ≠ Status.OK then s1.sendAny (responseTo p st)
      else if !s1.mayWrite (s.whoCtx p.dstCtx.toNat) a p.payload.length ∨ !inParcel n a then
        s1.sendAny (responseTo p Status.ACCESS_VIOLATION)
      else
        let (ok, s2) := s1.holdPut a p.payload
        s2.sendAny (responseTo p (if ok then Status.OK else Status.HOLD_UNCORRECTABLE)))

/-- SIGNAL_RECEIVE (R82, R83): the mark takes the increment and the ERROR bit, and the packet is answered. -/
def execSignalReceive (p : Packet) (s : State) : Host.Outcome State Fault Refusal :=
  .next (let n := pkParcel p
    let a := p.addr.toNat
    let s1 := (s.takePacket p).markSource n p.src.toNat
    let st := s.arrivalStatus p
    if st = Status.FENCED ∨ st = Status.UNREACHABLE then s1.sendAny (responseTo p st)
    else if bitsOf a 7 5 ≠ 0 ∨ bitsOf a 31 17 ≠ 0 ∨ bitsOf a 15 8 = 0 then
      s1.sendAny (responseTo p Status.PEER_PROTOCOL)
    else if st ≠ Status.OK then s1.sendAny (responseTo p st)
    else (s1.updMark n p.dstCtx.toNat (a % 32) (·.signal (bitsOf a 15 8) (bitAt a 16))).sendAny
      (responseTo p Status.OK))

/-- The outstanding request that a RESPONSE answers. -/
def State.requestOf (s : State) (p : Packet) : Option OutReq :=
  s.seq.reqs.find? fun r => r.txn == p.txn.toNat && r.parcel == pkParcel p && r.packet.dst == p.src

/-- The status a RESPONSE carries; a code that no device generates is a protocol violation (R14). -/
def answeredStatus (w : Nat) : Nat := if w > 0x10 then Status.PEER_PROTOCOL else w

end Sys2Proof.Machine
end

