-- ==== Sys2Proof/Machine/Collective.lean ====
section
/-! DEFINITION. The collective engine's commands (12_collectives): GROUP_SET, ALL_REDUCE in its fixed order, the
packets that legs exchange, the leg timer and the aborts. -/

namespace Sys2Proof.Machine

/-! ## GROUP_SET (R294-R296) -/

/-- The entries of a member list; none where a reserved bit is set. -/
def memberList (b : List Byte) (k : Nat) : Option (List (Nat × Nat)) :=
  let e := (List.range k).map fun i => (leAt b (8 * i) 3, leAt b (8 * i + 4) 2, leAt b (8 * i + 3) 1 + leAt b (8 * i + 6) 2)
  if e.all fun x => decide (x.2.1 < 4096 ∧ x.2.2 = 0) then some (e.map fun x => (x.1, x.2.1)) else none

/-- The list is sound for a member (R295): it appears once, no station twice, none names parcel 0xC-0xF or a low bit,
each leg lies on one device, and there are at most 256 legs. -/
def GroupRec.sound (g : GroupRec) (station c : Nat) : Bool :=
  let st := g.members.map (·.1)
  decide st.Nodup && g.members.contains (station, c) && st.all (fun x => decide (x % 16 = 0 ∧ parcelOf x < 12))
    && ((List.range g.members.length).all fun r =>
      (g.member r).1 / 256 == (g.member (r / g.w * g.w)).1 / 256)
    && decide (g.legs ≤ 256)

/-- GROUP_SET that defines a membership. -/
def execGroupSetDefine (n : Parcel) (id : Nat) (errs : List WordErr) (s : State) : Host.Outcome State Fault Refusal :=
  .next (s.withPart n.val (fun d => d.opcode == 0x60 && d.id == id && !(groupOp d n.val).free) fun d =>
    let o := groupOp d n.val
    let key := groupKey n.val d.ctx o.gidx
    let bad := s.endPart n.val id Status.BAD_DESCRIPTOR
    let listReg : Region := (o.list, 8 * o.nmemb)
    if d.spec || !groupSetOk d n.val || s.fld F.FAB_STATION_VALID ≠ 1 || (s.group key).isSome
        || s.coll.groups.length ≥ 1024 then bad
    else s.runPart n.val d 1 [listReg] [] errs fun s =>
      let b := s.holdGet o.list (8 * o.nmemb)
      match memberList b o.nmemb with
      | none => s.endPart n.val id Status.BAD_DESCRIPTOR
      | some l =>
        let g : GroupRec := { members := l, w := o.w, grid := o.grid, stage := o.stage,
                              digest := crc32 (b ++ leBytes 4 o.grid ++ leBytes 4 o.w) }
        let station := s.station n.val
        if !g.sound station d.ctx then s.endPart n.val id Status.BAD_DESCRIPTOR
        else
          let reg := g.stageReg ((g.legOf station).getD 0)
          if !regionIn n.val reg then s.endPart n.val id Status.BAD_DESCRIPTOR
          else if !s.mayWrite (s.who d) reg.1 reg.2 then s.endPart n.val id Status.ACCESS_VIOLATION
          else (s.setGroup key (some g)).endPart n.val id Status.OK)

/-- GROUP_SET with FREE: refused while an ALL_REDUCE of the group runs at this member. -/
def execGroupSetFree (n : Parcel) (id : Nat) (s : State) : Host.Outcome State Fault Refusal :=
  .next (s.withPart n.val (fun d => d.opcode == 0x60 && d.id == id && (groupOp d n.val).free) fun d =>
    let o := groupOp d n.val
    let busy := s.runningPart n.val fun x => x.opcode == 0x61 && x.ctx == d.ctx && (reduceOp x n.val).gidx == o.gidx
    if d.spec || !groupSetOk d n.val || busy.isSome || s.fld F.FAB_STATION_VALID ≠ 1 then
      s.endPart n.val id Status.BAD_DESCRIPTOR
    else (s.setGroup (groupKey n.val d.ctx o.gidx) none).endPart n.val id Status.OK)

/-- The member records of a context go with it (R296). -/
def State.dropGroups (s : State) (c : Nat) : State :=
  { s with coll := { s.coll with groups := s.coll.groups.filter fun e => !(e.1 / 16 % 4096 == c) } }

/-! ## The fixed order (R299) -/

/-- Sum values in the order of tsum, with an addition of two codes; the first argument bounds the depth. -/
def rankSum (add : Nat → Nat → Nat) : Nat → List Nat → Nat
  | 0, l => l.headD 0
  | k + 1, l =>
    if l.length ≤ 1 then l.headD 0
    else
      let h := 2 ^ Nat.log2 (l.length - 1)
      add (rankSum add k (l.take h)) (rankSum add k (l.drop h))

/-- The addition of a DTYPE, on 32-bit codes. -/
def collAdd (dtype a b : Nat) : Nat := if dtype = 2 then (a + b) % 2 ^ 32 else fAdd a b

/-- A source element as a 32-bit code: BF16 is widened exactly. -/
def widen (dtype v : Nat) : Nat := if dtype = 1 then toF32 (ofBf16 v) else v

/-- A sum as it is stored: BF16 where the output is BF16. -/
def stored (osz v : Nat) : Nat := if osz = 2 then toBf16 (ofF32 v) else v

/-! ## One leg -/

/-- The started members of a leg: parcel, descriptor and operands by place in the leg. -/
def State.legMembers (s : State) (g : GroupRec) (t : Nat) (o : LegOp) : List (Nat × Desc × ReduceOp) :=
  (List.range (g.legSize t)).filterMap fun j =>
    let r := g.w * t + j
    let n := parcelOf (g.member r).1
    match amGet o.started r with
    | some id => (s.desc id).map fun d => (n, d, reduceOp d n)
    | none => none

/-- The request that a member's context is joined to (R168): its home station and slot. -/
def State.requestAt (s : State) (n c : Nat) : Nat × Nat :=
  match s.gw.binds.find? fun e => e.1 == n * 4096 + c && e.2.bound with
  | some e => (e.2.home, e.2.req)
  | none =>
    match s.gw.binds.find? fun e => e.1 % 4096 == c && e.2.bound with
    | some e => (e.2.home, e.2.req)
    | none => (0, 0)

/-- What one member's COUNT would say. -/
def State.countOf (s : State) (g : GroupRec) (n : Nat) (d : Desc) (r : ReduceOp) : CollCount :=
  let q := if d.spec then s.requestAt n d.ctx else (0, 0)
  { largest := r.count, grid := g.grid, dtype := r.dtype, outFp32 := r.outFp32, spec := d.spec, epoch := d.epoch,
    digest := g.digest, home := q.1, slot := q.2 }

/-- How two COUNTs differ (R304): cause 3, cause 2, or 0. -/
def CollCount.differs (a b : CollCount) : Nat :=
  if a.grid ≠ b.grid ∨ a.digest ≠ b.digest ∨ a.dtype ≠ b.dtype ∨ a.outFp32 ≠ b.outFp32 ∨ b.largest > b.grid then 3
  else if a.spec ≠ b.spec ∨ a.epoch ≠ b.epoch ∨ a.home ≠ b.home ∨ a.slot ≠ b.slot then 2 else 0

/-- The first difference among COUNTs, MISMATCH before SPEC_MISMATCH. -/
def worstOf (l : List Nat) : Nat := if l.contains 3 then 3 else if l.contains 2 then 2 else 0

/-- The leg that finds a difference: its own members end BAD_DESCRIPTOR for a mismatch, ABORTED for SPEC (Table 6). -/
def State.legMismatch (s : State) (g : GroupRec) (t gidx seq cause : Nat) : State :=
  s.legAbort g t gidx seq cause (g.member (g.w * t)).1 fun _ =>
    if cause = 3 then Status.BAD_DESCRIPTOR else Status.ABORTED

/-- The 32 bytes of a COUNT (Table 4). -/
def CollCount.bytes (c : CollCount) (seq : Nat) : List Byte :=
  leBytes 4 c.largest ++ leBytes 4 c.grid ++ leBytes 1 (c.dtype + 4 * b2n c.outFp32 + 8 * b2n c.spec) ++ leBytes 1 c.epoch
    ++ leBytes 2 0 ++ leBytes 4 c.digest ++ leBytes 3 c.home ++ leBytes 1 c.slot ++ leBytes 4 seq ++ leBytes 8 0

def countOfBytes (b : List Byte) : CollCount :=
  let f := leAt b 8 1
  { largest := leAt b 0 4, grid := leAt b 4 4, dtype := f % 4, outFp32 := bitAt f 2, spec := bitAt f 3,
    epoch := leAt b 9 1, digest := leAt b 12 4, home := leAt b 16 3, slot := leAt b 19 1 }

/-- Send a list of packets; the answer says whether every one had a route. -/
def State.collSend (s : State) (l : List Packet) : Bool × State :=
  l.foldl (fun x p => let y := x.2.sendPacket p; (x.1 && y.1, y.2)) (true, s)

/-- Where the value of an element of slice t from leg u is staged: the staging member's place, and the address (R301;
the order within a buffer is the model's). -/
def GroupRec.stageAt (g : GroupRec) (t : Nat) (stage : Nat) (seq i u : Nat) : Nat :=
  stage + (seq % 2) * g.bufBytes t + 4 * (g.legs * ((i - g.sliceLo t) % g.runLen t) + u)

/-- Write the values of leg u for consecutive elements of slice t, all in the run of member j. -/
def State.stagePut (s : State) (g : GroupRec) (t gidx seq u first : Nat) (vals : List Nat) : Bool × State :=
  let j := (first - g.sliceLo t) / max 1 (g.runLen t)
  match s.group (g.keyOf (g.w * t + j) gidx) with
  | none => (true, s)
  | some m => s.writeRows (vals.zipIdx.map fun x => (g.stageAt t m.stage seq (first + x.2) u, leBytes 4 x.1))

/-- Consecutive elements cut at the runs of the slices: (owner leg, first, count), at most 512 elements each. -/
def GroupRec.cuts (g : GroupRec) (upto : Nat) : List (Nat × Nat × Nat) :=
  (List.range g.legs).flatMap fun u =>
    let run := g.runLen u
    (List.range (g.legSize u)).flatMap fun j =>
      let lo := g.sliceLo u + j * run
      let hi := min (min (lo + run) (g.sliceHi u)) upto
      (List.range (ceilDiv (hi - lo) 512)).map fun k => (u, lo + 512 * k, min 512 (hi - lo - 512 * k))

/-- A value in list order, as bytes of a size. -/
def valueBytes (sz : Nat) (l : List Nat) : List Byte := (l.map (leBytes sz)).flatten

/-- Step 7: every result is written: NOUT_ADDR, the ends of the parts, and OP_SEQ (R297, R303). -/
def State.legFinish (s : State) (g : GroupRec) (t gidx : Nat) (o : LegOp) (n : Nat) : State :=
  let ms := s.legMembers g t o
  let failed := ms.filterMap fun m => if m.2.2.nout = 0 then none else
    if (s.holdPut m.2.2.nout (leBytes 4 n)).1 then none else some m
  let s1 := ms.foldl (fun s m => if m.2.2.nout = 0 then s else (s.holdPut m.2.2.nout (leBytes 4 n)).2) s
  match failed with
  | m :: _ =>
    let s2 := s1.endPart m.1 m.2.1.id Status.HOLD_UNCORRECTABLE
    s2.collFailed (groupKey m.1 m.2.1.ctx gidx) m.2.1.id Status.HOLD_UNCORRECTABLE
  | [] =>
    let s2 := ms.foldl (fun s m =>
      ((s.endPart m.1 m.2.1.id Status.OK).collMark m.2.1.id m.1).advanceSeq (groupKey m.1 m.2.1.ctx gidx)) s1
    s2.putOp g t gidx o.seq none

/-- A member of the leg whose read or write failed: its part ends HOLD_UNCORRECTABLE, and the group with it. -/
def State.failMember (s : State) (gidx : Nat) (m : Nat × Desc × ReduceOp) : State :=
  (s.endPart m.1 m.2.1.id Status.HOLD_UNCORRECTABLE).collFailed (groupKey m.1 m.2.1.ctx gidx) m.2.1.id
    Status.HOLD_UNCORRECTABLE

/-- The result length, once the COUNT of every leg is here (R301). -/
def LegOp.length (o : LegOp) (legs : Nat) : Option Nat :=
  if o.counts.length = legs then some (o.counts.foldl (fun m c => max m c.2.largest) 0) else none

/-- Step 6: write the results that wait to every member's DST; done where all n elements are written. -/
def State.legWrite (s : State) (g : GroupRec) (t gidx : Nat) (o : LegOp) (n : Nat) : State :=
  let ms := s.legMembers g t o
  let step (x : Option (Nat × Desc × ReduceOp) × State) (r : Nat × List Byte) :=
    ms.foldl (fun x m =>
      let b := r.2.take ((n - r.1) * m.2.2.osz)
      let y := x.2.holdPut (m.2.2.dst + r.1 * m.2.2.osz) b
      (if y.1 then x.1 else some (x.1.getD m), y.2)) x
  let (bad, s1) := o.results.foldl step (none, s)
  match bad with
  | some m => s1.failMember gidx m
  | none =>
    let osz := match ms with | m :: _ => m.2.2.osz | [] => 4
    let new := o.results.map fun r => (r.1, min (r.2.length / osz) (n - r.1))
    let o1 := { o with results := [], written := o.written ++ new }
    if o1.exchanged && decide (n ≤ (o1.written.map (·.2)).sum) then s1.legFinish g t gidx o1 n
    else s1.putOp g t gidx o.seq (some o1)

/-- Every value that is due for slice t below n has arrived. -/
def LegOp.covered (g : GroupRec) (t : Nat) (o : LegOp) : Bool :=
  (List.range g.legs).all fun u =>
    match amGet o.counts u with
    | none => false
    | some c =>
      let hi := min (g.sliceHi t) c.largest
      let got := ((o.got.filter fun x => x.1 == u).map fun x => min (x.2.1 + x.2.2) hi - x.2.1).sum
      decide (hi - g.sliceLo t ≤ got)

/-- The value of element i of slice t from leg u: staged, or zero where none is due (R303, R304). -/
def State.legValue (s : State) (g : GroupRec) (t gidx : Nat) (o : LegOp) (i u : Nat) : Nat :=
  match amGet o.counts u, s.group (g.keyOf (g.w * t + (i - g.sliceLo t) / max 1 (g.runLen t)) gidx) with
  | some c, some m => if i < c.largest then leNat (s.holdGet (g.stageAt t m.stage o.seq i u) 4) else 0
  | _, _ => 0

/-- Steps 4 and 5: reduce the own slice, send it to every other leg, and keep it to be written here. -/
def State.legReduce (s : State) (g : GroupRec) (t gidx : Nat) (o : LegOp) (n : Nat) : State :=
  let ms := s.legMembers g t o
  let lo := g.sliceLo t
  let hi := min (g.sliceHi t) n
  let poisoned := ms.find? fun m => match s.group (groupKey m.1 m.2.1.ctx gidx) with
    | some r => s.poisonedIn (r.stage + (o.seq % 2) * g.bufBytes t) (g.bufBytes t) && decide (lo < hi)
    | none => false
  match poisoned, ms with
  | some m, _ => s.failMember gidx m
  | none, [] => s
  | none, m :: _ =>
    let osz := m.2.2.osz
    let vals := (List.range (hi - lo)).map fun k =>
      stored osz (rankSum (collAdd m.2.2.dtype) g.legs ((List.range g.legs).map (s.legValue g t gidx o (lo + k))))
    let s1 := s.add64 Reg.COL_ADDS_LO ((g.legs - 1) * (hi - lo))
    let pieces := (chunks (2048 / osz) vals).zipIdx
    let pkts := ((List.range g.legs).filter (· ≠ t)).flatMap fun u => pieces.map fun x =>
      s.collPacket g t (g.w * u) gidx o.seq 0x10 1 (lo + 2048 / osz * x.2) (valueBytes osz x.1)
    let (ok, s2) := s1.collSend pkts
    if ok then
      let own := if vals.isEmpty then [] else [(lo, valueBytes osz vals)]
      s2.legWrite g t gidx { o with reduced := true, results := o.results ++ own } n
    else s2.legFailed g t gidx o.seq Status.UNREACHABLE

/-- Go on with an operation at a leg as far as what has arrived allows (Table 5, steps 4-7). -/
def State.legAdvance (s : State) (g : GroupRec) (t gidx : Nat) (o : LegOp) : State :=
  let s1 := s.putOp g t gidx o.seq (some o)
  if !o.exchanged then s1
  else match amGet o.counts t with
    | none => s1
    | some own =>
      let cause := worstOf (o.counts.map fun c => own.differs c.2)
      if cause ≠ 0 then s1.legMismatch g t gidx o.seq cause
      else match o.length g.legs with
        | none => s1
        | some n =>
          if !o.reduced then if o.covered g t then s1.legReduce g t gidx o n else s1
          else s1.legWrite g t gidx o n

/-- The level-1 sums of a leg for elements first to first + k - 1 (R299): zero at or beyond a member's COUNT. -/
def State.legSums (s : State) (ms : List (Nat × Desc × ReduceOp)) (dtype first k : Nat) : List Nat :=
  (List.range k).map fun x =>
    let i := first + x
    rankSum (collAdd dtype) ms.length (ms.map fun m =>
      if i < m.2.2.count then widen dtype (leNat (s.holdGet (m.2.2.src + i * m.2.2.isz) m.2.2.isz)) else 0)

/-- Steps 2 and 3: the members are compared, COUNT goes to every other leg, and the level-1 sums to the owners. -/
def State.legExchange (s : State) (g : GroupRec) (t gidx : Nat) (o : LegOp) : State :=
  let ms := s.legMembers g t o
  let cs := ms.map fun m => s.countOf ((s.group (groupKey m.1 m.2.1.ctx gidx)).getD g) m.1 m.2.1 m.2.2
  match cs, ms with
  | c :: rest, m :: _ =>
    let cause := worstOf ((c :: rest).map c.differs)
    if cause ≠ 0 then s.legMismatch g t gidx o.seq cause
    else
      let own := { c with largest := (cs.map (·.largest)).foldl max 0 }
      let others := (List.range g.legs).filter (· ≠ t)
      let counts := others.map fun u => s.collPacket g t (g.w * u) gidx o.seq 0x11 0 0 (own.bytes o.seq)
      let sums := (g.cuts own.largest).map fun x => (x.1, x.2.1, s.legSums ms m.2.2.dtype x.2.1 x.2.2)
      let parts := (sums.filter fun x => !(x.1 == t)).map fun x =>
        s.collPacket g t (g.w * x.1 + (x.2.1 - g.sliceLo x.1) / max 1 (g.runLen x.1)) gidx o.seq 0x10 0 x.2.1
          (valueBytes 4 x.2.2)
      let mine := sums.filter fun x => x.1 == t
      let s0 := s.add64 Reg.COL_ADDS_LO ((ms.length - 1) * own.largest)
      let s1 := mine.foldl (fun s x => (s.stagePut g t gidx o.seq t x.2.1 x.2.2).2) s0
      let (ok, s2) := s1.collSend (counts ++ parts)
      if ok then
        let got := mine.map fun x => (t, x.2.1, x.2.2.length)
        s2.legAdvance g t gidx { o with exchanged := true, counts := amSet o.counts t own, got := o.got ++ got }
      else s2.legFailed g t gidx o.seq Status.UNREACHABLE
  | _, _ => s

/-- The leg timer that a first member starts (R297, R303). -/
def State.legTimer (s : State) (r : ReduceOp) : Nat :=
  let us := if r.timeout = 0 then max 1 (s.fld F.COL_CFG_TIMEOUT_US) else r.timeout
  s.mclk + us * perUs

/-- ALL_REDUCE (R297-R307): the part of descriptor id at parcel n starts; when it is the last of its leg, the leg
exchanges. A part that fails here ends alone, and the group with it (R305). -/
def execAllReduce (n : Parcel) (id : Nat) (errs : List WordErr) (s : State) : Host.Outcome State Fault Refusal :=
  .next (s.withPart n.val (fun d => d.opcode == 0x61 && d.id == id) fun d =>
    let r := reduceOp d n.val
    let key := groupKey n.val d.ctx r.gidx
    let fails (s : State) (st : Nat) : State := (s.endPart n.val id st).collFailed key id st
    match s.group key with
    | none => (s.endPart n.val id Status.BAD_DESCRIPTOR).collMark id n.val
    | some g =>
      match g.rankOf (s.station n.val) with
      | none => fails s Status.BAD_DESCRIPTOR
      | some rank =>
        let t := rank / g.w
        let o := s.legOp g t r.gidx g.opSeq
        if (amGet o.started rank).isSome then s
        else match g.aborts.find? (·.seq == g.opSeq) with
          | some a => s.applyAbort key g id a
          | none =>
            if !r.ok n.val g.grid (g.stageReg t) then fails s Status.BAD_DESCRIPTOR
            else
              let w := s.who d
              let dest := r.dstReg g.grid :: r.noutReg
              if !s.mayRead w r.src (r.count * r.isz) || !(dest.all fun x => s.mayWrite w x.1 x.2) then
                fails s Status.ACCESS_VIOLATION
              else if (r.srcReg :: dest).any fun x => s.clearingIn x.1 x.2 then s
              else
                let (clean, s1) := s.readAll errs [r.srcReg] 1 d
                if !clean then fails s1 Status.HOLD_UNCORRECTABLE
                else
                  let o1 := { o with started := amSet o.started rank id,
                                     deadline := some (o.deadline.getD (s1.legTimer r)) }
                  let s2 := s1.putOp g t r.gidx g.opSeq (some o1)
                  if o1.started.length = g.legSize t then s2.legExchange g t r.gidx o1 else s2)

/-! ## What arrives (R302) -/

/-- The record, the receiving leg, the sending leg and the OP_SEQ of a collective packet that is accepted. -/
def State.collAccept (s : State) (p : Packet) : Option (GroupRec × Nat × Nat × Nat) :=
  let n := pkParcel p
  let c := p.dstCtx.toNat
  if n ≥ 12 ∨ !s.inService n ∨ s.ctxTag c ≠ p.jobTag.toNat then none
  else match s.group (groupKey n c (p.opx.toNat % 16)) with
    | none => none
    | some g =>
      let seq := if g.opSeq % 65536 = p.txn.toNat then some g.opSeq
        else if nextSeq g.opSeq % 65536 = p.txn.toNat then some (nextSeq g.opSeq) else none
      match seq, g.legOf p.dst.toNat, g.legOf p.src.toNat with
      | some q, some t, some u => if t = u then none else some (g, t, u, q)
      | _, _, _ => none

/-- A collective packet that is not accepted is counted (R302). -/
def State.stray (s : State) : State := (s.addSat F.COL_STRAY_COUNT).setBit F.COL_EVENT_STRAY

/-- Take a collective packet of a type and kind, and act on it where it is accepted. -/
def State.collTake (s : State) (p : Packet) (ptype : BitVec 8) (mine : Nat → Bool)
    (k : State → GroupRec → Nat → Nat → Nat → Nat → State) : State :=
  let kind := p.opx.toNat / 16 % 4
  if p.ptype ≠ ptype || !mine kind then s
  else
    let s1 := s.takePacket p
    match s1.collAccept p with
    | some (g, t, u, q) => if kind ≤ 1 then k s1 g t u q (p.opx.toNat % 16) else s1.stray
    | none => s1.stray

/-- COUNT (R303, R304): kept with the operation, and compared once the leg has started. -/
def execCollCount (p : Packet) (errs : List WordErr) (s : State) : Host.Outcome State Fault Refusal :=
  .next (s.collTake p 0x11 (· ≠ 1) fun s g t u q gidx =>
    let o := s.legOp g t gidx q
    let s1 := s.holdErrors errs 1 false 0 none
    s1.legAdvance g t gidx { o with counts := amSet o.counts u (countOfBytes p.payload) })

/-- PART (R301, R303): the sums of another leg for elements of one run go to staging. -/
def execCollPart (p : Packet) (errs : List WordErr) (s : State) : Host.Outcome State Fault Refusal :=
  .next (s.collTake p 0x10 (· ≠ 1) fun s g t u q gidx =>
    let o := s.legOp g t gidx q
    let j := ((g.rankOf p.dst.toNat).getD 0) % g.w
    let lo := g.sliceLo t + j * g.runLen t
    let hi := min (lo + g.runLen t) (g.sliceHi t)
    let first := p.addr.toNat
    if first < lo ∨ hi ≤ first ∨ o.got.contains (u, first, min (p.payload.length / 4) (hi - first)) then s
    else
      let k := min (p.payload.length / 4) (hi - first)
      let s1 := s.holdErrors errs 1 false 0 none
      let s2 := (s1.stagePut g t gidx q u first ((List.range k).map fun i => leAt p.payload (4 * i) 4)).2
      s2.legAdvance g t gidx { o with got := o.got ++ [(u, first, k)] })

/-- RESULT (R303): stored results of another leg's slice go to every member of the leg. -/
def execCollResult (p : Packet) (s : State) : Host.Outcome State Fault Refusal :=
  .next (s.collTake p 0x10 (· == 1) fun s g t u q gidx =>
    let o := s.legOp g t gidx q
    let osz := match s.legMembers g t o with | m :: _ => m.2.2.osz | [] => 4
    let first := p.addr.toNat
    let b := p.payload.take ((g.sliceHi u - first) * osz)
    if first < g.sliceLo u ∨ g.sliceHi u ≤ first ∨ !o.exchanged ∨ (o.results.map (·.1)).contains first
        ∨ (o.written.map (·.1)).contains first then s
    else s.legAdvance g t gidx { o with results := o.results ++ [(first, b)] })

/-- ABORT (R305, R306): every member of the receiving leg whose part has not ended ends. -/
def execCollAbort (p : Packet) (s : State) : Host.Outcome State Fault Refusal :=
  .next (s.collTake p 0x11 (· == 1) fun s g t _ q gidx =>
    let cause := leAt p.payload 8 1
    s.abortLeg g t gidx q cause (leAt p.payload 12 3) true fun _ => abortStatus cause)

/-- LEG_TIMEOUT (R307): the leg of a member aborts its operation when its timer expires. -/
def execLegTimeout (n : Parcel) (c : Fin 4096) (g : Fin 16) (s : State) : Host.Outcome State Fault Refusal :=
  .next (match s.group (groupKey n.val c.val g.val) with
    | none => s
    | some r =>
      match r.legOf (s.station n.val) with
      | none => s
      | some t => s.atDeadline (s.legOp r t g.val r.opSeq).deadline fun s =>
          s.legAbort r t g.val r.opSeq 1 (s.station n.val) fun _ => Status.COLLECTIVE_TIMEOUT)

/-- COL_ABORT_CLR (R310): a write of 1 clears the abort record. -/
def State.clearAbort (s : State) : State :=
  (((s.setRd Reg.COL_ABORT_INFO 0).setRd Reg.COL_ABORT_TAG_LO 0).setRd Reg.COL_ABORT_TAG_HI 0).setRd
    Reg.COL_ABORT_ORIGIN 0
def execColAbortClr (path : Path) (value : Word) (s : State) : Host.Outcome State Fault Refusal :=
  .next (s.rwl path Reg.COL_ABORT_CLR fun s => if bitAt value.toNat 0 then s.clearAbort else s)

end Sys2Proof.Machine
end

