-- ==== Sys2Proof/Machine/Journal.lean ====
section
/-! DEFINITION. The journal of an armed active binding (R401-R403): its streams, its packets, and what the relief's
acknowledgement frees. -/

namespace Sys2Proof.Machine

/-- The parcel paired with parcel n: masks are paired in ascending order. -/
def pairOf (mine theirs n : Nat) : Option Nat :=
  if bitAt mine n then (setBits theirs 12)[(setBits mine 12).idxOf n]? else none

/-- The station paired with parcel n in binding i. -/
def State.pairStation (s : State) (i n : Nat) : Nat :=
  s.bindPeer i / 256 * 256 + 16 * (pairOf (s.bindLocal i) (s.bindPeerMask i) n).getD 0

/-- The armed active binding that covers a parcel for a job tag. -/
def State.journalBinding (s : State) (n tag : Nat) : Option Nat :=
  (s.activeBinding n).filter fun i => s.bindTag i == tag

/-- The journal stream of parcel n in a binding. -/
def BindSt.stream (b : BindSt) (n : Nat) : JStream := (b.streams.find? (·.parcel == n)).getD { parcel := n }
def BindSt.setStream (b : BindSt) (j : JStream) : BindSt :=
  { b with streams := if b.streams.any (·.parcel == j.parcel) then
      b.streams.map fun x => if x.parcel = j.parcel then j else x else b.streams ++ [j] }

/-- A JOURNAL packet of a kind from parcel n (R401). -/
def State.journalPacket (s : State) (i n kind jseq : Nat) (body : List Byte) : Packet :=
  let b := s.bind i
  { ptype := 0x22, vc := 3, dst := BitVec.ofNat 24 (s.pairStation i n), src := BitVec.ofNat 24 (s.station n),
    dstCtx := BitVec.ofNat 12 b.peerNum, srcCtx := BitVec.ofNat 12 i, jobTag := BitVec.ofNat 32 (s.bindTag i),
    addr := BitVec.ofNat 32 jseq, opx := BitVec.ofNat 8 kind, txn := BitVec.ofNat 16 b.bgen, payload := body }

/-- Records of a stream that may be unacknowledged at once (R402). -/
def journalWindow : Nat := 64

/-- Append a record to a parcel's stream; it is sent where the window allows. The answer is its JSEQ. -/
def State.journal (s : State) (i n kind : Nat) (body : List Byte) : Nat × State :=
  let b := s.bind i
  let j := b.stream n
  let k := j.next % 2 ^ 32
  let j1 := { j with
    next := (k + 1) % 2 ^ 32
    unacked := j.unacked ++ [⟨k, kind, body, s.mclk⟩]
    progressAt := if j.unacked.isEmpty then s.mclk else j.progressAt }
  let epoch := leAt body (if kind = 1 then 0 else 8) 1
  let s1 := s.setBind i { b.setStream j1 with lastEpoch := some epoch }
  (k, if j.unacked.length < journalWindow then s1.sendAny (s1.journalPacket i n kind k body) else s1)

/-- A TOKEN record's 96 bytes (Table 3). -/
def tokenBody (epoch a t req gen index rootPos consumed : Nat) (toks : List Nat) : List Byte :=
  leBytes 1 epoch ++ leBytes 1 a ++ leBytes 1 t ++ leBytes 1 req ++ leBytes 1 gen ++ leBytes 3 0 ++ leBytes 4 index
    ++ leBytes 4 rootPos ++ leBytes 4 consumed ++ leBytes 12 0
    ++ ((List.range 16).map fun k => leBytes 4 (toks.getD k 0)).flatten

/-- A KV record's bytes (Table 3). -/
def kvBody (addr epoch : Nat) (last : Bool) (stream len : Nat) (data : List Byte) : List Byte :=
  leBytes 8 addr ++ leBytes 1 epoch ++ leBytes 1 (b2n last) ++ leBytes 2 stream ++ leBytes 4 len ++ leBytes 16 0 ++ data

end Sys2Proof.Machine
end

