-- ==== Sys2Proof/Machine/Records.lean ====
section
/-! DEFINITION. Completion records and their messages (R209, R215-R221, R224): the record's bytes, where it is written,
reservations, held records and coalescing. -/

namespace Sys2Proof.Machine

/-- Entries of a context's descriptor ring and completion ring, and the modulus of their positions. -/
def State.dringSize (s : State) (c : Nat) : Nat := 2 ^ s.fldB (entryBank c) F.HIF_CTX_RINGS_DRING_LOG2
def State.cringSize (s : State) (c : Nat) : Nat := 2 ^ s.fldB (entryBank c) F.HIF_CTX_RINGS_CRING_LOG2

/-- A 64-bit address in a context's configuration. -/
def State.ctxAddr (s : State) (c lo : Nat) : Nat :=
  (s.rdB (entryBank c) lo).toNat + 2 ^ 32 * (s.rdB (entryBank c) (lo + 4)).toNat

/-- A position as the ring's readers see it: INDEX in bits 15:0, GEN in bits 19:16 (R218). -/
def posWord (size p : Nat) : Nat := p % size + 2 ^ 16 * (p / size % 16)

/-- The 32 bytes of a record, PHASE still 0 (Table 6). -/
def recordBytes (st fn ctx index bm energy ftime : Nat) (spec : Bool) : List Byte :=
  leBytes 1 st ++ leBytes 1 (2 * b2n spec) ++ leBytes 2 fn ++ leBytes 2 ctx ++ leBytes 2 index ++ leBytes 2 bm
    ++ leBytes 2 0 ++ leBytes 4 (min energy (2 ^ 32 - 1)) ++ leBytes 8 ftime ++ leBytes 8 0

/-- A record with the PHASE of its pass (R220). -/
def withPhase (b : List Byte) (pass : Nat) : List Byte := listSet b 1 (b.getD 1 0 + (if pass % 2 = 0 then 1 else 0))

/-- The message of a context after a record was written (R221). -/
def State.coalesce (s : State) (c : Nat) : State :=
  let x := s.ctx c
  let n := s.fldB (entryBank c) F.HIF_CTX_IRQ_CO_N
  let us := s.fldB (entryBank c) F.HIF_CTX_IRQ_US_CO_US
  if n = 0 then s
  else if x.sinceMsg ≥ n ∨ us = 0 then
    (s.setCtx c { x with sinceMsg := 0, msgDeadline := none }).msix (s.ctxFn c) (s.fldB (entryBank c) F.HIF_CTX_IRQ_VEC)
  else if x.msgDeadline.isNone then s.setCtx c { x with msgDeadline := some (s.mclk + us * perUs) }
  else s

/-- Write a record in the next entry of the completion ring. -/
def State.writeRecord (s : State) (c : Nat) (bytes : List Byte) (reserved : Bool) : State :=
  let x := s.ctx c
  let size := s.cringSize c
  let s1 := s.emit (.hostWrite (s.ctxFn c) (s.ctxAddr c Reg.HIF_CTX_CRING_LO + 32 * (x.recPos % size))
    (withPhase bytes (x.recPos / size)))
  let y := { x with
    recPos := (x.recPos + 1) % (16 * size)
    reserved := if reserved then x.reserved - 1 else x.reserved
    sinceMsg := x.sinceMsg + 1 }
  (s1.setCtx c y).coalesce c

/-- Records written and not consumed, plus reservations. -/
def State.ringUse (s : State) (c : Nat) : Nat :=
  let x := s.ctx c
  let m := 16 * s.cringSize c
  (x.recPos + m - x.head % m) % m + x.reserved

/-- The held record of an overflow or a failed fetch goes out once an entry is free (R217). -/
def State.flushHeld (s : State) (c : Nat) : State :=
  let x := s.ctx c
  match x.heldRec with
  | some b =>
    if s.ringUse c < s.cringSize c then
      if (s.fn (s.ctxFn c)).bme then (s.setCtx c { x with heldRec := none }).writeRecord c b false
      else s.bmeWaits (s.ctxFn c)
    else s
  | none => s

/-- Records that waited for Bus Master Enable go out (R224). -/
def State.flushRecords (s : State) (c : Nat) : State :=
  let x := s.ctx c
  (x.waitRecs.foldl (fun s b => s.writeRecord c b true) (s.setCtx c { x with waitRecs := [] })).flushHeld c

/-- Take one reservation back. -/
def State.unreserve (s : State) (c : Nat) : State :=
  s.setCtx c { s.ctx c with reserved := (s.ctx c).reserved - 1 }

/-- Queue the completion record of a descriptor (R219, R220): none where it ended OK and asked for none, or where its
function is disabled (R222). -/
def State.queueRecord (s : State) (d : Desc) (st bm energy : Nat) : State :=
  let fn := s.ctxFn d.ctx
  if (st = Status.OK ∧ d.cmplAlways = false) ∨ (s.fn fn).enabled = false then s.unreserve d.ctx
  else
    let b := recordBytes st fn d.ctx d.index bm energy s.fabTime (d.bit 1 2)
    if (s.fn fn).bme then s.writeRecord d.ctx b true
    else (s.setCtx d.ctx { s.ctx d.ctx with waitRecs := (s.ctx d.ctx).waitRecs ++ [b] }).bmeWaits fn

/-- A context stops with a record that holds no reservation: a ring overflow or a failed fetch (R217). -/
def State.stopWith (s : State) (c st index : Nat) (event : Fld) : State :=
  let b := recordBytes st (s.ctxFn c) c index 0 0 s.fabTime false
  ((s.setBit event).setCtx c { s.ctx c with st := .stopped, heldRec := some b }).flushHeld c

/-- IRQ_COALESCE_TIMER (R221): IRQ_CO_US after the first record not yet announced. -/
def execIrqCoalesceTimer (c : Fin 4096) (s : State) : Host.Outcome State Fault Refusal :=
  .next (s.atDeadline (s.ctx c.val).msgDeadline fun s =>
    (s.setCtx c.val { s.ctx c.val with sinceMsg := 0, msgDeadline := none }).msix (s.ctxFn c.val)
      (s.fldB (entryBank c.val) F.HIF_CTX_IRQ_VEC))

/-- MSIX_UNMASK (R221): a vector is unmasked; where its pending bit is set, the merged message is sent. -/
def execMsixUnmask (fn : Fin 1024) (vec : Fin 2048) (s : State) : Host.Outcome State Fault Refusal :=
  .next (let s1 := s.setRdB (entryBank fn.val) (0x180000 + 16 * vec.val + 12) 0
    let k := fn.val * 2048 + vec.val
    if s1.host.msixPending.contains k then
      if (s1.fn fn.val).enabled && (s1.fn fn.val).bme then
        { s1 with host := { s1.host with msixPending := setDel s1.host.msixPending k } }.emit (.msix fn.val vec.val)
      else s1
    else s1)

end Sys2Proof.Machine
end

