-- ==== Sys2Proof/Machine/Aes.lean ====
section
/-! DEFINITION. AES-128 of FIPS 197, which R172 uses for its draws: one block encrypted under one key, bytes as natural
numbers below 256. -/

namespace Sys2Proof.Machine

/-- Multiplication by x in GF(2^8), modulo x^8 + x^4 + x^3 + x + 1. -/
def xtime (a : Nat) : Nat := if a < 128 then 2 * a else (2 * a - 256) ^^^ 0x1B

/-- Multiplication in GF(2^8): n bits of b, lowest first. -/
def gmul (a : Nat) : Nat → Nat → Nat
  | 0, _ => 0
  | n + 1, b => (if b % 2 = 1 then a else 0) ^^^ gmul (xtime a) n (b / 2)

/-- The inverse: a^254, with 0 for 0. -/
def ginv (a : Nat) : Nat :=
  let sq (x : Nat) : Nat := gmul x 8 x
  let a2 := sq a
  let a4 := sq a2
  let a8 := sq a4
  let a16 := sq a8
  let a32 := sq a16
  let a64 := sq a32
  gmul (sq a64) 8 (gmul a64 8 (gmul a32 8 (gmul a16 8 (gmul a8 8 (gmul a4 8 a2)))))

/-- A byte rotated left. -/
def rotl8 (a k : Nat) : Nat := a * 2 ^ k % 256 + a / 2 ^ (8 - k)

/-- The S-box. -/
def sbox (a : Nat) : Nat :=
  let b := ginv a
  b ^^^ rotl8 b 1 ^^^ rotl8 b 2 ^^^ rotl8 b 3 ^^^ rotl8 b 4 ^^^ 0x63

/-- Bytewise exclusive or. -/
def xorL (a b : List Nat) : List Nat := List.zipWith (· ^^^ ·) a b

/-- The round key after k, with its round constant. -/
def nextRoundKey (k : List Nat) (rcon : Nat) : List Nat :=
  let w (i : Nat) : List Nat := (k.drop (4 * i)).take 4
  let t := match (w 3).map sbox with
    | a :: r => r ++ [a]
    | [] => []
  let w0 := xorL (xorL (w 0) t) [rcon, 0, 0, 0]
  let w1 := xorL w0 (w 1)
  let w2 := xorL w1 (w 2)
  w0 ++ w1 ++ w2 ++ xorL w2 (w 3)

/-- SubBytes and ShiftRows. -/
def subShift (s : List Nat) : List Nat :=
  (List.range 16).map fun i => sbox (s.getD ((i + 4 * (i % 4)) % 16) 0)

/-- MixColumns. -/
def mixColumns (s : List Nat) : List Nat :=
  (List.range 16).map fun i =>
    let x (j : Nat) : Nat := s.getD (i / 4 * 4 + (i + j) % 4) 0
    xtime (x 0) ^^^ (xtime (x 1) ^^^ x 1) ^^^ x 2 ^^^ x 3

/-- n rounds from a state and a round key; the last round has no MixColumns. -/
def aesRounds : Nat → List Nat → List Nat → Nat → List Nat
  | 0, s, _, _ => s
  | n + 1, s, k, rcon =>
    let k1 := nextRoundKey k rcon
    let t := subShift s
    aesRounds n (xorL (if n = 0 then t else mixColumns t) k1) k1 (xtime rcon)

/-- aes128_encrypt (R172). -/
def aes128 (key block : List Nat) : List Nat := aesRounds 10 (xorL block key) key 1

end Sys2Proof.Machine
end

