-- ==== Sys2Proof/Machine/Sampling.lean ====
section
/-! DEFINITION. The gangway's trees and its acceptance walk (R156, R159-R163, R169-R172): the parameter block, candidate
lists, the tree block, the n-gram table, distributions, draws and the walk. -/

namespace Sys2Proof.Machine

/-! ## The parameter block (Table 3) -/

/-- Fields of a parameter block of 64 bytes. -/
def pVocab (b : List Byte) : Nat := bitsOf (leAt b 0 4) 18 0
def pStoch (b : List Byte) : Bool := bitAt (leAt b 4 1) 0
def pNgram (b : List Byte) : Bool := bitAt (leAt b 4 1) 1
/-- Tokens of an n-gram key. -/
def pNgN (b : List Byte) : Nat := bitsOf (leAt b 4 1) 3 2 + 1
def pMaxNodes (b : List Byte) : Nat := leAt b 5 1
def pMaxDepth (b : List Byte) : Nat := leAt b 6 1
def pNgLog2 (b : List Byte) : Nat := leAt b 7 1
def pInvTemp (b : List Byte) : Nat := leAt b 8 4
def pTopP (b : List Byte) : Nat := leAt b 12 4
def pTopK (b : List Byte) : Nat := leAt b 16 2
def pNgBase (b : List Byte) : Nat := leAt b 20 4
def pOutRing (b : List Byte) : Nat := leAt b 24 8
def pOutLog2 (b : List Byte) : Nat := leAt b 32 1
def pIrqLog2 (b : List Byte) : Nat := leAt b 33 1
def pIrqVec (b : List Byte) : Nat := leAt b 34 2
def pCadence (b : List Byte) : Nat := leAt b 36 4
/-- The lead target in microseconds, 0 taken as 250,000. -/
def pLead (b : List Byte) : Nat := if leAt b 40 4 = 0 then 250000 else leAt b 40 4
def pStartLead (b : List Byte) : Nat := leAt b 44 4
def pEgrBase (b : List Byte) : Nat := leAt b 48 4
def pEgrTokens (b : List Byte) : Nat := leAt b 52 4
def pFirstIndex (b : List Byte) : Nat := leAt b 56 4
def pRelief (b : List Byte) : Nat := leAt b 60 3
def pReliefEn (b : List Byte) : Bool := bitAt (leAt b 63 1) 0

/-- FP32 bits above +0 and finite. -/
def posFinite (w : Nat) : Bool := decide (0 < w ∧ w < 0x7F800000)

/-- Every parameter passes its check (Table 3); vecs is the function's vector count. -/
def paramsOk (b : List Byte) (n vecs : Nat) : Bool :=
  decide (leAt b 0 4 < 2 ^ 19 ∧ 2 ≤ pVocab b ∧ pVocab b ≤ 262144 ∧ leAt b 4 1 < 16)
    && decide (1 ≤ pMaxNodes b ∧ pMaxNodes b ≤ 64 ∧ pMaxDepth b ≤ 15)
    && (if pNgram b then decide (6 ≤ pNgLog2 b ∧ pNgLog2 b ≤ 16 ∧ pNgBase b % 64 = 0) && inParcel n (pNgBase b)
        else decide (pNgLog2 b = 0))
    && (!pStoch b || posFinite (pInvTemp b)) && decide (0 < pTopP b ∧ pTopP b ≤ 0x3F800000)
    && decide (pTopK b ≤ 1024) && (decide (pTopP b = 0x3F800000) || decide (1 ≤ pTopK b)) && decide (leAt b 18 2 = 0)
    && decide (6 ≤ pOutLog2 b ∧ pOutLog2 b ≤ 16 ∧ (pIrqLog2 b ≤ 16 ∨ pIrqLog2 b = 255) ∧ pIrqVec b < vecs)
    && decide (1000 ≤ pCadence b ∧ pCadence b ≤ 1000000 ∧ pStartLead b ≤ pLead b)
    && decide (pEgrBase b % 128 = 0 ∧ 256 ≤ pEgrTokens b ∧ pEgrTokens b ≤ 65536 ∧ popcount (pEgrTokens b) 17 = 1)
    && inParcel n (pEgrBase b) && decide (leAt b 63 1 < 2)

/-! ## Trees (R159-R161) -/

/-- No draft distribution: one-hot. -/
def oneHot : Nat := 0xFFFFFFFF

/-- A candidate entry: token, parent entry (none: the root) and Q_ADDR. -/
structure Cand where
  tok : Nat
  parent : Option Nat
  q : Nat
  deriving DecidableEq, Repr

/-- A node. -/
structure Node where
  tok : Nat
  parent : Option Nat
  depth : Nat
  q : Nat
  src : Nat
  deriving DecidableEq, Repr

/-- A candidate list of n entries; none where an entry breaks R159. -/
def candidates (b : List Byte) (n vocab : Nat) : Option (List Cand) :=
  let l := (List.range n).map fun e =>
    let p := leAt b (16 * e + 4) 1
    (⟨leAt b (16 * e) 4, if p = 0xFF then none else some p, leAt b (16 * e + 8) 4⟩ : Cand)
  let good := (List.range n).all fun e =>
    match l[e]? with
    | some c => decide (c.tok < vocab) && (match c.parent with
      | none => true
      | some p => decide (p < e))
    | none => true
  if good then some l else none

/-- The child of node p with a token. -/
def childWith (t : List Node) (p tok : Nat) : Option Nat :=
  (List.range t.length).find? fun i => match t[i]? with
    | some x => x.parent == some p && x.tok == tok
    | none => false

/-- Merge one candidate; m maps the list's earlier entries to nodes. -/
def addCand (maxNodes maxDepth src : Nat) (x : List Node × List (Option Nat)) (c : Cand) :
    List Node × List (Option Nat) :=
  let (t, m) := x
  let p : Option Nat := match c.parent with
    | none => some 0
    | some e => (m[e]?).join
  match p with
  | none => (t, m ++ [none])
  | some p =>
    match childWith t p c.tok with
    | some i => (t, m ++ [some i])
    | none =>
      let dep := ((t[p]?).map (·.depth)).getD 0
      if t.length = maxNodes ∨ dep = maxDepth then (t, m ++ [none])
      else (t ++ [⟨c.tok, some p, dep + 1, c.q, src⟩], m ++ [some t.length])

/-- build (R160): lists in order, each with its source code. -/
def buildTree (root maxNodes maxDepth : Nat) (lists : List (Nat × List Cand)) : List Node :=
  lists.foldl (fun t l => (l.2.foldl (addCand maxNodes maxDepth l.1) (t, [])).1) [⟨root, none, 0, oneHot, 0⟩]

/-- The chain of a repair round (R174); the SOURCE of its nodes is not stated. -/
def chainTree (src : Nat) (toks : List Nat) : List Node :=
  toks.mapIdx fun i tok => ⟨tok, if i = 0 then none else some (i - 1), i, oneHot, if i = 0 then 0 else src⟩

/-- Tree masks, in node order. -/
def treeMasks (t : List Node) : List Nat :=
  t.foldl (fun m x => m ++ [2 ^ m.length + (match x.parent with
    | none => 0
    | some p => m.getD p 0)]) []

/-- Rows of n bytes for nodes, zero from N to 63. -/
def padRows (n : Nat) (l : List (List Byte)) : List Byte := l.flatten ++ List.replicate (n * (64 - l.length)) 0#8

/-- The tree block (Table 7). -/
def treeBlock (t : List Node) (epoch req rootPos : Nat) : List Byte :=
  leBytes 1 t.length ++ leBytes 1 ((t.map (·.depth)).foldl max 0) ++ leBytes 1 epoch ++ leBytes 1 req ++ leBytes 60 0
    ++ padRows 16 (t.map fun x => leBytes 4 x.tok ++ leBytes 1 (x.parent.getD 0xFF) ++ leBytes 1 x.depth
      ++ leBytes 1 x.src ++ leBytes 1 0 ++ leBytes 4 x.q ++ leBytes 4 0)
    ++ padRows 4 (t.map fun x => leBytes 4 x.tok) ++ padRows 4 (t.map fun x => leBytes 4 (rootPos + x.depth))
    ++ padRows 8 ((treeMasks t).map (leBytes 8))

/-- The nodes that a tree block spells; none where it is no tree. -/
def parseTree (b : List Byte) : Option (List Node) :=
  let n := leAt b 0 1 % 128
  let t := (List.range n).map fun i =>
    let o := 64 + 16 * i
    let p := leAt b (o + 4) 1
    (⟨leAt b o 4, if p = 0xFF then none else some p, leAt b (o + 5) 1 % 16, leAt b (o + 8) 4, 0⟩ : Node)
  let good := (List.range n).all fun i => match t[i]? with
    | some x => (match x.parent with
      | none => decide (i = 0)
      | some p => decide (p < i))
    | none => true
  if 1 ≤ n ∧ n ≤ 64 ∧ good then some t else none

/-! ## The n-gram table (R163) -/

/-- The bucket of a key. -/
def ngBucket (key : List Nat) (log2 : Nat) : Nat :=
  key.foldl (fun h k => (h ^^^ k) * 0x01000193 % 2 ^ 32) 0x811C9DC5 % 2 ^ log2

/-- The key of a request: its last n committed tokens. -/
def ngKey (hist : List Nat) (n : Nat) : List Nat := hist.drop (4 - n)

/-- The chain a bucket offers for a key; empty where it does not match. -/
def ngChain (b : List Byte) (key : List Nat) : List Cand :=
  let n := key.length
  let same := decide (leAt b 16 1 = n) && (List.range 4).all fun i => decide (leAt b (4 * i) 4 = key.getD i 0)
  if same then
    (List.range (min 8 (leAt b 17 1))).map fun i => ⟨leAt b (32 + 4 * i) 4, if i = 0 then none else some (i - 1), oneHot⟩
  else []

/-- A bucket's 64 bytes. -/
def ngBytes (key toks : List Nat) : List Byte :=
  let cont := toks.take 8
  ((List.range 4).map fun i => leBytes 4 (key.getD i 0)).flatten ++ leBytes 1 key.length ++ leBytes 1 cont.length
    ++ leBytes 14 0 ++ ((List.range 8).map fun i => leBytes 4 (cont.getD i 0)).flatten

/-! ## Distributions (R170) -/

/-- Weighted tokens, ascending. -/
abbrev Weights := List (Nat × Nat)

/-- +Inf becomes the largest finite value. -/
def clampf (w : Nat) : Nat := if w = 0x7F800000 then 0x7F7FFFFF else w

/-- NaN reads as minus infinity. -/
def nanLow (w : Nat) : Nat := if (ofF32 w).isNan then minusInf else w

/-- Insert into a list sorted by weight descending, by token ascending among equals. -/
def insertDesc (x : Nat × Nat) : Weights → Weights
  | [] => [x]
  | y :: r => if (ofF32 y.2).lt (ofF32 x.2) || (!(ofF32 x.2).lt (ofF32 y.2) && decide (x.1 < y.1)) then x :: y :: r
              else y :: insertDesc x r
def sortDesc (l : Weights) : Weights := l.foldr insertDesc []

/-- Back to ascending tokens. -/
def insertAsc (x : Nat × Nat) : Weights → Weights
  | [] => [x]
  | y :: r => if x.1 < y.1 then x :: y :: r else y :: insertAsc x r
def sortAsc (l : Weights) : Weights := l.foldr insertAsc []

/-- tsum: 512 lanes by token, then the tree. -/
def tsum (l : Weights) : Nat :=
  treeSum 9 (l.foldl (fun p e => listSet p (e.1 % 512) (fAdd (p.getD (e.1 % 512) 0) e.2)) (List.replicate 512 0))

/-- The entries, taken in order, whose running sum is needed to reach a limit. -/
def untilSum (lim : Nat) : Nat → Weights → Weights
  | _, [] => []
  | c, e :: r =>
    let c1 := fAdd c e.2
    e :: (if (ofF32 c1).lt (ofF32 lim) then untilSum lim c1 r else [])

/-- dist: the kept tokens with their weights and their sum; none: NAN_LOGITS. -/
def dist (p : List Byte) (z : List Nat) : Option (Nat × Weights) :=
  let y : Weights := z.mapIdx fun i v => (i, clampf (fMul (clampf (nanLow v)) (pInvTemp p)))
  let keep := if pTopK p = 0 then y else sortAsc ((sortDesc y).take (pTopK p))
  let m := keep.foldl (fun a e => fMax a e.2) minusInf
  if m = minusInf then none
  else
    let e : Weights := keep.map fun x => (x.1, fExp (fSub x.2 m))
    let e1 := if pTopP p = 0x3F800000 then e
      else sortAsc (untilSum (fMul (pTopP p) (tsum e)) 0 (sortDesc e))
    some (tsum e1, e1)

/-- The heaviest kept token, the lowest on ties. -/
def heaviest (e : Weights) : Nat :=
  ((e.foldl (fun (b : Option (Nat × Nat)) x =>
    match b with
    | none => some x
    | some y => if (ofF32 y.2).lt (ofF32 x.2) then some x else b) none).map (·.1)).getD 0

/-- sample. -/
def sampleLoop (target : Fp) : Nat → Nat → Weights → Nat
  | _, last, [] => last
  | c, last, (i, w) :: r =>
    if Fp.zero.lt (ofF32 w) then
      let c1 := fAdd c w
      if target.lt (ofF32 c1) then i else sampleLoop target c1 i r
    else sampleLoop target c last r
def sample (e : Weights) (s r : Nat) : Nat :=
  sampleLoop ((Fp.ofNat r).mul ((ofF32 s).mul (.fin false 1 (-24)))) 0 0 e

/-- The greedy pick: argmax with NaN as minus infinity, the lowest token on ties; none where no value is above it. -/
def argmax (z : List Nat) : Option Nat :=
  let l : Weights := z.mapIdx fun i v => (i, nanLow v)
  if l.all fun e => e.2 == minusInf then none else some (heaviest l)

/-- draw (R172): a 24-bit draw from key, nonce, position and index. -/
def draw (key : List Byte) (nonce pos k : Nat) : Nat :=
  let block := leBytes 4 pos ++ leBytes 2 k ++ leBytes 2 0 ++ leBytes 8 nonce
  let o := aes128 (key.map (·.toNat)) (block.map (·.toNat))
  leNat ((o.take 4).map (BitVec.ofNat 8)) / 256

/-- q(c, i) of R162: draft probabilities read as exact numbers, bad values as 0; none: one-hot at the node's token. -/
def qVal (row : Option (List Byte)) (tok i : Nat) : Fp :=
  match row with
  | none => if i = tok then Fp.ofNat 1 else .zero
  | some b =>
    match ofF32 (leAt b (4 * i) 4) with
    | .fin false m e => .fin false m e
    | _ => .zero

/-- The children of node u of a tree, ascending. -/
def childrenOf (t : List Node) (u : Nat) : List (Nat × Node) :=
  (t.mapIdx fun i x => (i, x)).filter fun e => e.2.parent == some u

/-- What the walk needs: the request's parameters, key and root position, the tree, and where the logits lie. -/
structure WalkJob where
  params : List Byte
  key : List Byte
  nonce : Nat
  rootPos : Nat
  tree : List Node
  logits : Nat
  stride : Nat
  deriving DecidableEq, Repr

/-- The draft row of a node. -/
def KvCtx.qRow (k : KvCtx) (vocab : Nat) (x : Node) (s : State) : KvRes (Option (List Byte)) :=
  if x.q = oneHot then (.ok none, s)
  else thenDo (k.read 0 x.q (4 * vocab) 0 s) fun b s => (.ok (some b), s)

/-- The children tried in order (R171): the accepted child, or the residual weights, their sum and the next draw. -/
def KvCtx.tryChildren (k : KvCtx) (j : WalkJob) (pos : Nat) : List (Nat × Node) → Weights → Nat → Nat → State →
    KvRes (Option Nat × Weights × Nat × Nat)
  | [], e, sum, i, s => (.ok (none, e, sum, i), s)
  | (c, x) :: rest, e, sum, i, s =>
    thenDo (k.qRow (pVocab j.params) x s) fun row s =>
      let r := Fp.ofNat (draw j.key j.nonce pos i)
      let accept := match e.find? (·.1 == x.tok) with
        | some w => ((r.mul (qVal row x.tok x.tok)).mul (ofF32 sum)).lt ((ofF32 w.2).mul (Fp.ofNat (2 ^ 24)))
        | none => false
      if accept then (.ok (some c, e, sum, i + 1), s)
      else
        let e1 : Weights := e.map fun w =>
          (w.1, fMax 0 (toF32 ((ofF32 w.2).add ((qVal row x.tok w.1).mul (ofF32 sum)).negate)))
        k.tryChildren j pos rest e1 (tsum e1) (i + 1) s

/-- One node of the walk: the pick and the next node; none: NAN_LOGITS. -/
def KvCtx.walkNode (k : KvCtx) (j : WalkJob) (u : Nat) (s : State) : KvRes (Option (Nat × Option Nat)) :=
  let v := pVocab j.params
  thenDo (k.read 0 (j.logits + 16 * u * j.stride) (4 * v) 0 s) fun b s =>
    let z := (List.range v).map fun i => leAt b (4 * i) 4
    if !pStoch j.params then
      (.ok ((argmax z).map fun pick => (pick, childWith j.tree u pick)), s)
    else match dist j.params z with
      | none => (.ok none, s)
      | some (sum, e) =>
        let pos := j.rootPos + ((j.tree[u]?).map (·.depth)).getD 0 + 1
        thenDo (k.tryChildren j pos (childrenOf j.tree u) e sum 0 s) fun x s =>
          match x.1 with
          | some c => (.ok (some (((j.tree[c]?).map (·.tok)).getD 0, some c)), s)
          | none =>
            let pick := if Fp.zero.lt (ofF32 x.2.2.1) then
                sample x.2.1 x.2.2.1 (draw j.key j.nonce pos x.2.2.2) else heaviest e
            (.ok (some (pick, none)), s)

/-- walk (R171): at most 16 nodes; the nodes kept and the tokens, or none for NAN_LOGITS. -/
def KvCtx.walk (k : KvCtx) (j : WalkJob) : Nat → Nat → List Nat → List Nat → State →
    KvRes (Option (List Nat × List Nat))
  | 0, _, nodes, toks, s => (.ok (some (nodes, toks)), s)
  | n + 1, u, nodes, toks, s =>
    thenDo (k.walkNode j u s) fun x s =>
      match x with
      | none => (.ok none, s)
      | some (pick, none) => (.ok (some (nodes, toks ++ [pick])), s)
      | some (pick, some c) =>
        if n = 0 then (.ok (some (nodes, toks ++ [pick])), s)
        else k.walk j n c (nodes ++ [c]) (toks ++ [pick]) s

end Sys2Proof.Machine
end

