-- ==== Sys2Proof/Machine/Gangway.lean ====
section
/-! DEFINITION. The gangway (07_gangway_speculation): requests at their home, memberships, notices between them, the
operators GW_OPEN to GW_CLOSE, commit, discard and repair, and the pacing of the output. -/

namespace Sys2Proof.Machine

/-! ## Requests and memberships -/

/-- The key of a request slot, and of a membership. -/
def gwKey (n slot : Nat) : Nat := n * 64 + slot
def bindKey (n c : Nat) : Nat := n * 4096 + c

def State.gwReq (s : State) (k : Nat) : Option GwReq := amGet s.gw.reqs k
def State.setReq (s : State) (k : Nat) (r : GwReq) : State := { s with gw := { s.gw with reqs := amSet s.gw.reqs k r } }
def State.freeReq (s : State) (k : Nat) : State := { s with gw := { s.gw with reqs := amDel s.gw.reqs k } }
def State.gwBind (s : State) (k : Nat) : Option GwBind := amGet s.gw.binds k
def State.setGwBind (s : State) (k : Nat) (b : GwBind) : State :=
  { s with gw := { s.gw with binds := amSet s.gw.binds k b } }

/-- A context is joined to a request somewhere. -/
def State.isJoined (s : State) (c : Nat) : Bool := s.gw.binds.any fun e => e.1 % 4096 == c && e.2.bound

/-- The epoch after an epoch (R158). -/
def nextEpoch (e : Nat) : Nat := if e ≥ 255 then 1 else e + 1

/-- The first failure of a parcel's gangway is recorded (R183). -/
def State.gwError (s : State) (n kind slot fn station : Nat) : State :=
  if s.fld (F.GWY_ERR_INFO_VALID n) = 1 then s
  else ((((s.setBit (F.GWY_ERR_INFO_VALID n)).setFld (F.GWY_ERR_INFO_KIND n) kind).setFld (F.GWY_ERR_INFO_REQ n)
    slot).setFld (F.GWY_ERR_INFO_FN n) fn).setFld (F.GWY_ERR_STATION_STATION n) station

/-- GWY_APPLY_TIMEOUT from now. -/
def State.applyDeadline (s : State) (n : Nat) : Nat := s.mclk + max 1 (s.fld (F.GWY_APPLY_TIMEOUT_US n)) * perUs

/-! ## Notices (R182) -/

/-- A notice's payload (Table 17). -/
structure Notice where
  epoch : Nat := 0
  arg : Nat := 0
  gen : Nat := 0
  result : Nat := 0
  nseq : Nat := 0
  energy : Nat := 0
  nodes : List Nat := []
  deriving DecidableEq, Repr

def Notice.bytes (x : Notice) : List Byte :=
  leBytes 1 x.epoch ++ leBytes 1 x.arg ++ leBytes 1 x.gen ++ leBytes 1 x.result ++ leBytes 4 x.nseq
    ++ leBytes 8 x.energy ++ ((List.range 16).map fun i => leBytes 1 (x.nodes.getD i 0)).flatten
def noticeOf (p : Packet) : Notice :=
  let b := p.payload
  { epoch := leAt b 0 1, arg := leAt b 1 1, gen := leAt b 2 1, result := leAt b 3 1, nseq := leAt b 4 4,
    energy := leAt b 8 8, nodes := (List.range 16).map fun i => leAt b (16 + i) 1 }

/-- The kinds of Table 16. -/
def K_JOIN : Nat := 1
def K_JOIN_ACK : Nat := 2
def K_OPEN : Nat := 3
def K_APPLY : Nat := 4
def K_DISCARD : Nat := 5
def K_ROLLBACK : Nat := 6
def K_LEAVE : Nat := 7
def K_ACK : Nat := 8

/-- A payload keeps Table 17. -/
def noticeOk (p : Packet) : Bool :=
  let x := noticeOf p
  let k := p.opx.toNat
  decide (p.payload.length = 32 ∧ p.addr.toNat < 64 ∧ 1 ≤ k ∧ k ≤ 8)
    && ((k != K_JOIN && k != K_LEAVE) || decide (x.epoch = 0))
    && (if k = K_APPLY then decide (x.arg ≤ 16) else if k = K_JOIN then decide (x.arg ≤ 1)
        else if k = K_ACK then decide (3 ≤ x.arg ∧ x.arg ≤ 7) else k == K_JOIN_ACK || decide (x.arg = 0))
    && (k == K_ACK || (if k = K_JOIN_ACK then decide (x.result ≤ 2) else decide (x.result = 0)))
    && (k == K_ACK || decide (x.energy = 0)) && (k != K_JOIN || decide (x.nseq = 0))
    && ((List.range 16).all fun i => decide (x.nodes.getD i 0 = 0 ∨ (k = K_APPLY ∧ i < x.arg ∧ x.nodes.getD i 0 < 64)))

/-- Send a notice of parcel n: at once where it fits its window, else when it does; where there is no route, the answer
UNREACHABLE comes at once. -/
def State.sendNotice (s : State) (n : Nat) (p : Packet) : State :=
  if s.inService n && s.winFits n p then
    match s.sendRequest n 0 p with
    | (some _, s1) => s1
    | (none, s1) =>
      let p1 := { p with txn := BitVec.ofNat 16 (s1.seq.nextTxn % 65536) }
      let o : OutReq := { txn := s1.seq.nextTxn % 65536, parcel := n, desc := 0, packet := p1, deadline := s1.rspDeadline }
      { s1 with
        seq := { s1.seq with nextTxn := s1.seq.nextTxn + 1, reqs := s1.seq.reqs ++ [o] }
        inbox := s1.inbox ++ [(none, responseTo p1 Status.UNREACHABLE)] }
  else { s with gw := { s.gw with waiting := s.gw.waiting ++ [(n, p)] } }

/-- Notices that waited for their window go out. -/
def State.drainNotices (s : State) : State :=
  s.gw.waiting.foldl (fun s e => s.sendNotice e.1 e.2) { s with gw := { s.gw with waiting := [] } }

/-- A notice packet from context c of parcel n. -/
def State.noticePacket (s : State) (n c dst dstCtx slot kind : Nat) (x : Notice) : Packet :=
  { ptype := 0x03, vc := 0, dst := BitVec.ofNat 24 dst, src := BitVec.ofNat 24 (s.station n),
    dstCtx := BitVec.ofNat 12 dstCtx, srcCtx := BitVec.ofNat 12 c, jobTag := BitVec.ofNat 32 (s.ctxTag c),
    addr := BitVec.ofNat 32 slot, opx := BitVec.ofNat 8 kind, payload := x.bytes }

/-- Change one member of a request. -/
def GwReq.updMember (r : GwReq) (station ctx : Nat) (f : GwMember → GwMember) : GwReq :=
  { r with members := r.members.map fun m => if m.station = station ∧ m.ctx = ctx then f m else m }

/-- Send a notice to a member, which it has to acknowledge within the limit where one is given. -/
def State.notify1 (s : State) (key : Nat) (m : GwMember) (kind : Nat) (x : Notice) (deadline : Option Nat) : State :=
  match s.gwReq key with
  | none => s
  | some r =>
    let r1 := r.updMember m.station m.ctx fun y =>
      { y with
        next := (y.next + 1) % 2 ^ 32
        pend := y.pend ++ [{ kind := kind, nseq := y.next, epoch := x.epoch, deadline := deadline }] }
    let cur := ((r.members.find? fun y => y.station == m.station && y.ctx == m.ctx).map (·.next)).getD 0
    (s.setReq key r1).sendNotice (key / 64)
      (s.noticePacket (key / 64) r.ctx m.station m.ctx (key % 64) kind { x with nseq := cur, gen := r.gen })

/-- Send a notice to every member. -/
def State.notifyAll (s : State) (key kind : Nat) (x : Notice) (deadline : Option Nat) : State :=
  match s.gwReq key with
  | none => s
  | some r => r.members.foldl (fun s m => s.notify1 key m kind x deadline) s

/-- Some member has still to acknowledge a notice of a kind; of any kind. -/
def GwReq.waitsFor (r : GwReq) (kind : Nat) : Bool := r.members.any fun m => m.pend.any (·.kind == kind)
def GwReq.waitsAny (r : GwReq) : Bool := r.members.any fun m => !m.pend.isEmpty

/-! ## The report and the end of a round -/

/-- The report of GW_COMMIT and GW_DISCARD: 64 bytes. -/
def reportBytes (outcome a t epoch index : Nat) (toks failed : List Nat) : List Byte :=
  leBytes 1 outcome ++ leBytes 1 a ++ leBytes 1 t ++ leBytes 1 epoch ++ leBytes 4 index
    ++ ((List.range 4).map fun i => leBytes 4 (toks.getD i 0)).flatten ++ leBytes 2 failed.length ++ leBytes 2 0
    ++ leBytes 3 (failed.headD 0) ++ leBytes 33 0

/-- The part of a gangway descriptor that waits at the home ends. -/
def State.endGw (s : State) (n : Nat) (id : Option Nat) (st : Nat) : State :=
  match id with
  | some i => s.endPart n i st
  | none => s

/-- A GW_DISCARD whose members have all answered or timed out writes its report and ends (R175). -/
def State.discardDone (s : State) (key : Nat) : State :=
  match s.gwReq key with
  | some r =>
    match r.report with
    | some a =>
      if r.waitsFor K_DISCARD then s
      else
        let (ok, s1) := s.holdPut a (reportBytes 1 0 0 r.lastEpoch r.index [] r.failed)
        (s1.setReq key { r with report := none, endDesc := none, failed := [] }).endGw (key / 64) r.endDesc
          (if ok then Status.OK else Status.HOLD_UNCORRECTABLE)
    | none => s
  | none => s

/-- Drop an open round at the home: LAST_EPOCH takes its epoch, and every member gets DISCARD. -/
def State.dropRound (s : State) (key : Nat) : State :=
  match s.gwReq key with
  | some r =>
    if r.openEpoch = 0 then s
    else
      let r1 := { r with openEpoch := 0, lastEpoch := r.openEpoch, latch := none, treeDesc := none,
                         discards := r.discards + 1 }
      ((s.setReq key r1).endGw (key / 64) r.treeDesc Status.ABORTED).notifyAll key K_DISCARD { epoch := r.openEpoch }
        (some (s.applyDeadline (key / 64)))
  | none => s

/-- The request enters repair (R174): the open round is dropped, and the members that applied roll back. -/
def State.repair (s : State) (key station : Nat) : State :=
  match s.gwReq key with
  | some r =>
    if r.st = 6 ∨ r.st = 5 then s
    else
      let n := key / 64
      let s1 := (s.gwError n 3 (key % 64) (s.ctxFn r.ctx) station).setBit (F.GWY_EVENT_REPAIR n)
      let s2 := s1.dropRound key
      match s2.gwReq key with
      | some r2 =>
        let back := r2.members.filter (·.applied)
        let s3 := s2.setReq key { r2 with st := 4, members := r2.members.map fun m => { m with applied := false } }
        back.foldl (fun s m => s.notify1 key m K_ROLLBACK { epoch := r.lastEpoch } (some (s.applyDeadline n))) s3
      | none => s2
  | none => s

/-- The request is lost (R174): its gangway descriptors end FENCED, GW_CLOSE apart. -/
def State.loseReq (s : State) (key station : Nat) : State :=
  match s.gwReq key with
  | some r =>
    let n := key / 64
    let s1 := (s.gwError n 4 (key % 64) (s.ctxFn r.ctx) station).setReq key
      { r with st := 5, openEpoch := 0, treeDesc := none, endDesc := none, report := none }
    (s1.endGw n r.treeDesc Status.FENCED).endGw n r.endDesc Status.FENCED
  | none => s

/-- GW_CLOSE goes on: applies settle, the buffer drains or is dropped, members leave, and the slot is FREE (R176). -/
def State.closeStep (s : State) (key : Nat) : State :=
  match s.gwReq key with
  | some r =>
    if r.st ≠ 6 then s
    else if r.members.any (fun m => m.pend.any (·.kind != K_LEAVE)) then s
    else if !r.buf.isEmpty then s
    else if !r.left then
      let s1 := (s.setReq key { r with left := true }).notifyAll key K_LEAVE {} none
      if r.members.isEmpty then (s1.freeReq key).endGw (key / 64) r.endDesc Status.OK else s1
    else if r.members.isEmpty then (s.freeReq key).endGw (key / 64) r.endDesc Status.OK
    else s
  | none => s

/-- A member failed a notice of a kind: by its answer, by no answer, or by the acknowledgement limit. -/
def State.memberFailed (s : State) (key station ctx kind nseq st : Nat) : State :=
  match s.gwReq key with
  | none => s
  | some r =>
    if !(r.members.any fun m => m.station == station && m.ctx == ctx && m.pend.any (·.nseq == nseq)) then s
    else
      let r1 := r.updMember station ctx fun m => { m with pend := m.pend.filter fun p => !(p.nseq == nseq) }
      let s1 := s.setReq key r1
      if kind = K_OPEN then (s1.setReq key { r1 with treeDesc := none }).endGw (key / 64) r.treeDesc st
      else if kind = K_APPLY then (s1.repair key station).closeStep key
      else if kind = K_DISCARD then
        ((s1.setReq key { r1 with failed := r1.failed ++ [station] }).discardDone key).closeStep key
      else if kind = K_ROLLBACK then if r.st = 6 then s1.closeStep key else s1.loseReq key station
      else if kind = K_LEAVE then
        (s1.setReq key { r1 with members := r1.members.filter fun m => !(m.station == station && m.ctx == ctx) }).closeStep
          key
      else s1

/-! ## Members: leaving, applying, discarding -/

/-- The records held at a member are released in ring order (R167); the energy they carry. -/
def State.releaseHeld (s : State) (k : Nat) (discard : Bool) : Nat × State :=
  match s.gwBind k with
  | none => (0, s)
  | some b =>
    let ordered := b.held.foldr (fun h l => l.takeWhile (fun (x : GwHeld) => decide (x.desc.id < h.desc.id)) ++ [h]
      ++ l.dropWhile (fun (x : GwHeld) => decide (x.desc.id < h.desc.id))) []
    let s1 := s.setGwBind k { b with held := [] }
    ((ordered.map (·.energy)).foldl (· + ·) 0,
      ordered.foldl (fun s h =>
        let st := if h.status = Status.SPECULATION_DISCARDED ∨ (discard ∧ h.status = Status.OK) then Status.ABORTED
                  else h.status
        s.queueRecord h.desc st h.bitmap h.energy) s1)

/-- Deferred parts and signals of a context at a parcel: started as SPEC = 0 work, or dropped (R166). -/
def State.startDeferred (s : State) (n c epoch : Nat) : State :=
  { s with seq := { s.seq with descs := s.seq.descs.map fun d =>
      if d.ctx = c ∧ d.spec ∧ d.epoch = epoch ∧ (d.parts.any fun p => p.parcel == n)
          ∧ (d.parts.all fun p => p.isOver || decide (p.st = .deferred)) then
        { d with unspec := true, parts := d.parts.map fun p => if p.st = .deferred then { p with st := .admitted } else p }
      else d } }
def State.dropDeferred (s : State) (n c : Nat) : State :=
  { s with seq := { s.seq with descs := s.seq.descs.map fun d =>
      if d.ctx = c ∧ d.spec ∧ (d.parts.any fun p => p.parcel == n) then
        let parts := d.parts.map fun p =>
          if p.parcel = n ∧ p.st = .deferred then { p with st := .ended Status.SPECULATION_DISCARDED } else p
        { d with parts := parts, dropped := d.dropped || parts.all (·.isOver) }
      else d } }

/-- A speculative part of a context runs at a parcel. -/
def State.specRunning (s : State) (n c : Nat) : Bool :=
  s.seq.descs.any fun d => d.ctx == c && d.spec && d.parts.any fun p => p.parcel == n && decide (p.st = .running)

/-- Leave a request (R157, R176): the scratch plots are cleared, and records, deferred parts and streams let go. -/
def State.unbind (s : State) (n c : Nat) : State :=
  let k := bindKey n c
  match s.gwBind k with
  | none => s
  | some b =>
    let s1 := ((s.dropDeferred n c).releaseHeld k true).2
    let s2 := { s1 with gw := { s1.gw with binds := amDel s1.gw.binds k } }
    if b.bound then
      (List.range b.plots).foldl (fun s i => s.setFld (F.HLD_PLOT_OWNER_CLEARING n (b.plot + i)) 1) s2
    else s2

/-- The descriptor that stands for the pager's work of a member's context. -/
def memberDesc (c : Nat) : Desc := { id := 0, ctx := c, index := 0, raw := 0 }

/-- LEN of a stream record. -/
def State.streamLen (s : State) (a : Nat) : Nat := bitsOf (leNat (s.holdGet (a + 4) 4)) 21 0

/-- Write back the saved LEN of streams (R174). -/
def State.restoreLens (s : State) (n c : Nat) (saved : List (Nat × Nat)) : State :=
  let k : KvCtx := { n := n, d := memberDesc c, errs := [], terrs := [] }
  saved.foldl (fun s e => (k.asPager.write 0 (e.1 + 4) 0 (leBytes 4 e.2) s).2) s

/-- One KV_COMMIT per stream, in list order, until one fails: the status and the lengths saved (R173 step 5). -/
def KvCtx.commitAll (k : KvCtx) (a epoch : Nat) (nodes : List Nat) : List Nat → List (Nat × Nat) → State →
    KvRes (List (Nat × Nat))
  | [], saved, s => (.ok saved, s)
  | st :: rest, saved, s =>
    let c : CommitOp := { stream := st, a := a, epoch := epoch, nodes := nodes.take a }
    match k.commit c s with
    | (.ok (), s1) => k.commitAll a epoch nodes rest (saved ++ [(st, s.streamLen st)]) s1
    | (.error f, s1) => (.error f, if f.waits then s1 else s1.restoreLens k.n k.d.ctx saved)

/-- The frame lines that a commit of A entries at LEN changed: page and byte offset in the frame of each line. -/
def changedLines (r : StreamRec) (len a : Nat) : List (Nat × Nat) :=
  let rows := (List.range a).flatMap fun i =>
    (r.tokenRows ((len + i) % 64)).flatMap fun x =>
      (List.range ((x.1 + x.2 - 1) / 128 + 1 - x.1 / 128)).map fun j => ((len + i) / 64, (x.1 / 128 + j) * 128)
  ((pagesOf len (min (len + 64) (64 * r.npages))).map fun p => (p, 0)) ++ rows.eraseDups

/-- The KV records of one stream (R402): its changed lines, one a record, the last of them with its new LEN. -/
def State.journalStream (s : State) (i n epoch idx st oldLen a : Nat) : State :=
  let r := streamRec st (s.holdGet st 64)
  let recs := (changedLines r oldLen a).filterMap fun l =>
    let e := pageEnt (s.holdGet (r.pt + 16 * l.1) 16)
    if e.res ∧ e.frame ≠ noFrame then some (e.back + l.2, s.holdGet (e.frame + l.2) 128) else none
  let s1 := recs.foldl (fun s x => (s.journal i n 2 (kvBody x.1 epoch false idx r.len x.2)).2) s
  (s1.journal i n 2 (kvBody 0 epoch false idx r.len [])).2

/-- The journal of an apply: every stream, then LAST; its JSEQ. -/
def State.journalApply (s : State) (i n epoch a : Nat) (saved : List (Nat × Nat)) : Nat × State :=
  let s1 := (saved.mapIdx fun idx e => (idx, e)).foldl
    (fun s x => s.journalStream i n epoch x.1 x.2.1 x.2.2 a) s
  s1.journal i n 2 (kvBody 0 epoch true 0xFFFF 0 [])

/-- A member's acknowledgement of a notice. -/
def State.ackPacket (s : State) (n c : Nat) (b : GwBind) (kind epoch nseq result energy : Nat) : Packet :=
  s.noticePacket n c b.home b.homeCtx b.req K_ACK
    { epoch := epoch, arg := kind, gen := b.gen, result := result, nseq := nseq, energy := energy }

/-- APPLY at a member; none while a speculative part of it runs or a plot is being cleared. -/
def State.applyAt (s : State) (errs terrs : List WordErr) (x : Notice) (n c : Nat) (b : GwBind) : Option State :=
  if s.specRunning n c then none
  else
    let k : KvCtx := { n := n, d := memberDesc c, errs := errs, terrs := terrs, pager := true }
    let key := bindKey n c
    match k.commitAll x.arg x.epoch x.nodes b.streams [] s with
    | (.error f, s1) =>
      if f.waits then none
      else
        let (e, s2) := (s1.setGwBind key { b with openEpoch := 0, lastEpoch := x.epoch }).releaseHeld key false
        some (s2.sendNotice n (s2.ackPacket n c b K_APPLY x.epoch x.nseq f.st e))
    | (.ok saved, s1) =>
      let s2 := s1.setGwBind key { b with openEpoch := 0, lastEpoch := x.epoch, saved := saved }
      let (e, s3) := s2.releaseHeld key false
      let s4 := s3.startDeferred n c x.epoch
      let ack := s4.ackPacket n c b K_APPLY x.epoch x.nseq Status.OK e
      match s4.journalBinding n (s4.ctxTag c) with
      | none => some (s4.sendNotice n ack)
      | some i =>
        let (j, s5) := s4.journalApply i n x.epoch x.arg saved
        some (s5.setGwBind key { (s5.gwBind key).getD b with ackWait := some (j, ack) })

/-- DISCARD at a member (R175). -/
def State.discardAt (s : State) (errs terrs : List WordErr) (x : Notice) (n c : Nat) (b : GwBind) : Option State :=
  if s.specRunning n c then none
  else
    let k : KvCtx := { n := n, d := memberDesc c, errs := errs, terrs := terrs, pager := true }
    let key := bindKey n c
    let s1 := (s.setGwBind key { b with openEpoch := 0, lastEpoch := x.epoch }).dropDeferred n c
    let (e, s2) := s1.releaseHeld key true
    match k.commitAll 0 x.epoch [] b.streams [] s2 with
    | (.error f, s3) =>
      if f.waits then none else some (s3.sendNotice n (s3.ackPacket n c b K_DISCARD x.epoch x.nseq f.st e))
    | (.ok _, s3) => some (s3.sendNotice n (s3.ackPacket n c b K_DISCARD x.epoch x.nseq Status.OK e))

/-- OPEN, ROLLBACK and LEAVE at a member (R158, R174, R176). -/
def State.openAt (s : State) (x : Notice) (n c : Nat) (b : GwBind) : Option State :=
  let s1 := s.setGwBind (bindKey n c) { b with openEpoch := x.epoch }
  some (s1.sendNotice n (s1.ackPacket n c b K_OPEN x.epoch x.nseq Status.OK 0))
def State.rollbackAt (s : State) (x : Notice) (n c : Nat) (b : GwBind) : Option State :=
  let s1 := (s.restoreLens n c b.saved).setGwBind (bindKey n c) { b with saved := [] }
  some (s1.sendNotice n (s1.ackPacket n c b K_ROLLBACK x.epoch x.nseq Status.OK 0))
def State.leaveAt (s : State) (x : Notice) (n c : Nat) (b : GwBind) : Option State :=
  some ((s.sendNotice n (s.ackPacket n c b K_LEAVE 0 x.nseq Status.OK 0)).unbind n c)

/-! ## Receiving notices -/

/-- A generation is older than another, modulo 256 (R178). -/
def olderGen (a b : Nat) : Bool := decide (1 ≤ (b + 256 - a % 256) % 256 ∧ (b + 256 - a % 256) % 256 ≤ 127)

/-- An item of an older generation is dropped and counted. -/
def State.stale (s : State) (n : Nat) : State := (s.addSat (F.GWY_STALE_COUNT_COUNT n)).setBit (F.GWY_EVENT_STALE_NOTICE n)

/-- Why a notice is not taken: its status; OK where it is (R182). JOIN answers a wrong job tag in its JOIN_ACK. -/
def State.noticeStatus (s : State) (p : Packet) (kind : Nat) : Nat :=
  let n := pkParcel p
  let c := p.dstCtx.toNat
  if n ≥ 12 then Status.UNREACHABLE
  else if !s.inService n then Status.FENCED
  else if !noticeOk p ∨ p.opx.toNat ≠ kind then Status.PEER_PROTOCOL
  else if (s.ctx c).st = .free then Status.ACCESS_VIOLATION
  else if !(s.fn (s.ctxFn c)).enabled then Status.FUNCTION_DISABLED
  else if kind ≠ K_JOIN ∧ s.ctxTag c ≠ p.jobTag.toNat then Status.ACCESS_VIOLATION
  else Status.OK

/-- A notice for a member: answered as soon as it is taken, acted on in NSEQ order; up to 8 that arrive ahead of their
turn are held, and such a one acts when the command is given again (R182). -/
def State.memberNotice (s : State) (p : Packet) (kind : Nat) (act : Notice → Nat → Nat → GwBind → State → Option State) :
    State :=
  let n := pkParcel p
  let c := p.dstCtx.toNat
  let key := bindKey n c
  let x := noticeOf p
  let st := s.noticeStatus p kind
  let answer (s : State) (st : Nat) : State := ((s.takePacket p).markSource n p.src.toNat).sendAny (responseTo p st)
  if st ≠ Status.OK then answer s st
  else match s.gwBind key with
    | none => answer s Status.ACCESS_VIOLATION
    | some b =>
      if olderGen x.gen b.gen then (answer s Status.OK).stale n
      else
        let b1 := { b with gen := x.gen, expect := (x.nseq + 1) % 2 ^ 32 }
        if b.early.contains p then
          if x.nseq ≠ b.expect then s
          else
            let b2 := { b1 with early := b.early.filter fun y => !(y == p) }
            (act x n c b2 (s.setGwBind key b2)).getD s
        else if x.nseq = b.expect then
          match act x n c b1 (s.setGwBind key b1) with
          | some s1 => answer s1 Status.OK
          | none => s
        else if (x.nseq + 2 ^ 32 - b.expect) % 2 ^ 32 < 2 ^ 31 then
          if b.early.length ≥ 8 then answer s Status.PEER_PROTOCOL
          else answer (s.setGwBind key { b with early := b.early ++ [p] }) Status.OK
        else answer s Status.OK

/-- OPEN (R158). -/
def execOpenNotice (p : Packet) (s : State) : Host.Outcome State Fault Refusal :=
  .next (s.memberNotice p K_OPEN fun x n c b s => s.openAt x n c b)

/-- APPLY (R173 step 5). -/
def execApplyNotice (p : Packet) (errs terrs : List WordErr) (s : State) : Host.Outcome State Fault Refusal :=
  .next (s.memberNotice p K_APPLY fun x n c b s => s.applyAt errs terrs x n c b)

/-- DISCARD (R175). -/
def execDiscardNotice (p : Packet) (errs terrs : List WordErr) (s : State) : Host.Outcome State Fault Refusal :=
  .next (s.memberNotice p K_DISCARD fun x n c b s => s.discardAt errs terrs x n c b)

/-- ROLLBACK (R174). -/
def execRollbackNotice (p : Packet) (s : State) : Host.Outcome State Fault Refusal :=
  .next (s.memberNotice p K_ROLLBACK fun x n c b s => s.rollbackAt x n c b)

/-- LEAVE (R176). -/
def execLeaveNotice (p : Packet) (s : State) : Host.Outcome State Fault Refusal :=
  .next (s.memberNotice p K_LEAVE fun x n c b s => s.leaveAt x n c b)

/-- JOIN_ACK (R182): the membership is bound, refused, or ended; the GW_JOIN descriptor ends. -/
def execJoinAck (p : Packet) (s : State) : Host.Outcome State Fault Refusal :=
  .next (let n := pkParcel p
    let c := p.dstCtx.toNat
    let st := s.noticeStatus p K_JOIN_ACK
    let x := noticeOf p
    let s1 := ((s.takePacket p).markSource n p.src.toNat).sendAny (responseTo p (if st = Status.OK then Status.OK else st))
    if st ≠ Status.OK then s1
    else match s1.gwBind (bindKey n c) with
      | none => s1
      | some b =>
        if b.leaving then (s1.unbind n c).endGw n b.joinDesc Status.OK
        else if b.bound then s1
        else if x.result ≠ 0 then
          ({ s1 with gw := { s1.gw with binds := amDel s1.gw.binds (bindKey n c) } }).endGw n b.joinDesc
            Status.BAD_DESCRIPTOR
        else
          (s1.setGwBind (bindKey n c) { b with bound := true, joinDesc := none, openEpoch := x.arg, lastEpoch := x.epoch,
                                               gen := x.gen, expect := (x.nseq + 1) % 2 ^ 32 }).endGw n b.joinDesc
            Status.OK)

/-- JOIN (R157, R182): the home binds or releases the member and answers JOIN_ACK. -/
def execJoinNotice (p : Packet) (s : State) : Host.Outcome State Fault Refusal :=
  .next (let n := pkParcel p
    let st := s.noticeStatus p K_JOIN
    let s1 := ((s.takePacket p).markSource n p.src.toNat).sendAny (responseTo p st)
    if st ≠ Status.OK then s1
    else
      let c := p.dstCtx.toNat
      let key := gwKey n (p.addr.toNat % 64)
      let who := p.src.toNat
      let wc := p.srcCtx.toNat
      let reply (s : State) (x : Notice) : State :=
        s.sendNotice n (s.noticePacket n c who wc (p.addr.toNat % 64) K_JOIN_ACK x)
      match s1.gwReq key with
      | none => reply s1 { result := 1 }
      | some r =>
        let isHe (m : GwMember) : Bool := m.station == who && m.ctx == wc
        if (noticeOf p).arg % 2 = 1 then
          let s2 := s1.setReq key { r with members := r.members.filter fun m => !isHe m }
          reply (s2.closeStep key) { gen := r.gen, epoch := r.lastEpoch, arg := r.openEpoch }
        else if s1.ctxTag r.ctx ≠ p.jobTag.toNat then reply s1 { result := 2, gen := r.gen }
        else if r.ctx ≠ c ∨ r.st = 6 ∨ (r.members.length ≥ 256 ∧ !r.members.any isHe) then
          reply s1 { result := 1, gen := r.gen }
        else
          let others := r.members.filter fun m => !isHe m
          reply (s1.setReq key { r with members := others ++ [{ station := who, ctx := wc, next := 1 }] })
            { gen := r.gen, epoch := r.lastEpoch, arg := r.openEpoch })

/-- A member's released energy is billed (R179). -/
def GwReq.bill (r : GwReq) (kind e : Nat) : GwReq :=
  let share := if kind = K_APPLY ∧ !r.billRepair then e * (r.billN - r.billA) / max 1 r.billN else e
  { r with specUj := r.specUj + e, rejectUj := r.rejectUj + share }

/-- ACK at the home (R173-R176). -/
def execAckNotice (p : Packet) (s : State) : Host.Outcome State Fault Refusal :=
  .next (let n := pkParcel p
    let st := s.noticeStatus p K_ACK
    let s1 := ((s.takePacket p).markSource n p.src.toNat).sendAny (responseTo p st)
    let x := noticeOf p
    let key := gwKey n (p.addr.toNat % 64)
    if st ≠ Status.OK then s1
    else match s1.gwReq key with
      | none => s1
      | some r =>
        let who := p.src.toNat
        let wc := p.srcCtx.toNat
        if olderGen x.gen r.gen then s1.stale n
        else if !(r.members.any fun m => m.station == who && m.ctx == wc
            && m.pend.any fun q => q.nseq == x.nseq && q.kind == x.arg) then s1
        else
          let billed := if x.arg = K_APPLY ∨ x.arg = K_DISCARD then r.bill x.arg x.energy else r
          let s2 := s1.setReq key billed
          if x.result ≠ 0 ∧ x.arg ≠ K_LEAVE then s2.memberFailed key who wc x.arg x.nseq x.result
          else
            let r2 := billed.updMember who wc fun m =>
              { m with pend := m.pend.filter (fun q => !(q.nseq == x.nseq)), applied := m.applied || x.arg == K_APPLY }
            let s3 := s2.setReq key r2
            if x.arg = K_OPEN then
              if r2.waitsFor K_OPEN then s3
              else (s3.setReq key { r2 with treeDesc := none }).endGw n r2.treeDesc Status.OK
            else if x.arg = K_APPLY then
              if r2.st = 4 then
                match r2.members.find? fun m => m.station == who && m.ctx == wc with
                | some m =>
                  (s3.setReq key (r2.updMember who wc fun m => { m with applied := false })).notify1 key m K_ROLLBACK
                    { epoch := x.epoch } (some (s3.applyDeadline n))
                | none => s3
              else s3.closeStep key
            else if x.arg = K_DISCARD then (s3.discardDone key).closeStep key
            else if x.arg = K_LEAVE then
              (s3.setReq key { r2 with members := r2.members.filter fun m => !(m.station == who && m.ctx == wc) }).closeStep
                key
            else s3.closeStep key)

/-- The other end of a notice failed: by an answer other than OK, or by none (R182). -/
def State.noticeFailed (s : State) (r : OutReq) (st : Nat) : State :=
  let p := r.packet
  let k := p.opx.toNat
  if k = K_JOIN ∨ k = K_ACK then
    let key := bindKey r.parcel p.srcCtx.toNat
    match s.gwBind key with
    | none => s
    | some b =>
      if b.leaving then (s.unbind r.parcel p.srcCtx.toNat).endGw r.parcel b.joinDesc st
      else if !b.bound then
        ({ s with gw := { s.gw with binds := amDel s.gw.binds key } }).endGw r.parcel b.joinDesc st
      else s.setGwBind key { b with lost := true }
  else
    let key := gwKey r.parcel (p.addr.toNat % 64)
    if k = K_JOIN_ACK then
      match s.gwReq key with
      | some q => s.setReq key { q with members := q.members.filter fun m =>
          !(m.station == p.dst.toNat && m.ctx == p.dstCtx.toNat) }
      | none => s
    else s.memberFailed key p.dst.toNat p.dstCtx.toNat k (noticeOf p).nseq st

/-- RESPONSE_RECEIVE (R83, R182, R287): it settles the request whose TXN it carries, or is late. -/
def execResponseReceive (p : Packet) (s : State) : Host.Outcome State Fault Refusal :=
  .next (let s1 := s.takePacket p
    match s1.requestOf p with
    | some r =>
      let st := answeredStatus p.status.toNat
      let s2 := (s1.settle r st).drainNotices
      if r.packet.ptype = 0x03 ∧ st ≠ Status.OK then s2.noticeFailed r st else s2
    | none => s1.addSat F.FAB_LATE_RSP_COUNT)

/-- RESPONSE_TIMEOUT (R287): a windowed packet stays unanswered: its part ends UNREACHABLE. -/
def execResponseTimeout (txn : BitVec 16) (s : State) : Host.Outcome State Fault Refusal :=
  .next (match s.seq.reqs.find? fun r => r.txn == txn.toNat with
    | some r => s.atDeadline (some r.deadline) fun s =>
        let s1 := ((s.settle r Status.UNREACHABLE).drainNotices).addSat F.FAB_UNREACH_COUNT
        if r.packet.ptype = 0x03 then s1.noticeFailed r Status.UNREACHABLE else s1
    | none => s)

/-- APPLY_TIMEOUT (R174, R175): the earliest acknowledgement limit of a request runs out. -/
def execApplyTimeout (n : Parcel) (slot : Fin 64) (s : State) : Host.Outcome State Fault Refusal :=
  .next (let key := gwKey n.val slot.val
    match s.gwReq key with
    | none => s
    | some r =>
      let all := r.members.flatMap fun m => m.pend.filterMap fun q => q.deadline.map fun t => (t, m, q)
      let first := all.foldl (fun (b : Option Nat) e => match b with
        | none => some e.1
        | some t => some (min t e.1)) none
      s.atDeadline first fun s =>
        (all.filter fun e => decide (e.1 ≤ s.mclk)).foldl (fun s e =>
          s.memberFailed key e.2.1.station e.2.1.ctx e.2.2.kind e.2.2.nseq Status.UNREACHABLE) s)

/-! ## GW_OPEN, GW_JOIN, GW_LEAVE -/

/-- A gangway operator's part ends as its steps say; a part that waits changes nothing. -/
def KvCtx.gwEnd (k : KvCtx) (s0 : State) (dest : List Region) (x : KvRes (Option Nat)) : State :=
  match x.1 with
  | .ok none => x.2
  | .ok (some st) => x.2.endPart k.n k.d.id st
  | .error f =>
    if f.waits then s0
    else (if poisonsOutput f.st then x.2.poisonAll dest else x.2).endPart k.n k.d.id f.st

/-- The context of a gangway part. -/
def gwCtx (n : Nat) (d : Desc) (errs : List WordErr) : KvCtx := { n := n, d := d, errs := errs, terrs := [] }

/-- The running part of a parcel with an opcode and a descriptor's number. -/
def State.withGw (s : State) (n id op : Nat) (k : Desc → State) : State :=
  s.withPart n (fun d => d.opcode == op && d.id == id) k

/-- Vectors of a function (R206). -/
def fnVectors (fn : Nat) : Nat := if fn = 0 then 2048 else 16

/-- A range lies in plots that a function owns and outside every scratch range. -/
def State.ownedClear (s : State) (fn a len : Nat) : Bool :=
  (plotsOf a len).all fun g => plotExists g && s.plotKind g == 1 && s.plotOwner g == fn && (s.scratchOf g).isNone

/-- Open a request slot from a parameter block and a key (R156). -/
def KvCtx.gwOpen (k : KvCtx) (g : GwOpenOp) (s : State) : KvRes (Option Nat) :=
  let fn := s.ctxFn k.d.ctx
  thenDo (need (s.gwReq (gwKey k.n g.req)).isNone Status.BAD_DESCRIPTOR 0 s) fun _ s =>
  thenDo (k.read 0 g.param 64 0 s) fun b s =>
  thenDo (k.read 0 g.key 24 0 s) fun key s =>
    let ngLen := if pNgram b then 64 * 2 ^ pNgLog2 b else 0
    thenDo (need (paramsOk b k.n (fnVectors fn) && decide (g.tok < pVocab b ∧ g.pos < 2097152)
        && s.ownedClear fn (pNgBase b) ngLen && s.ownedClear fn (pEgrBase b) (4 * pEgrTokens b))
      Status.BAD_DESCRIPTOR 0 s) fun _ s =>
      (.ok (some Status.OK), s.setReq (gwKey k.n g.req)
        { ctx := k.d.ctx, params := b, key := key.take 16, nonce := leAt key 16 8, rootTok := g.tok, rootPos := g.pos,
          hist := g.hist, index := pFirstIndex b, consumed := pFirstIndex b })

/-- GW_OPEN (R156). -/
def execGwOpen (n : Parcel) (id : Nat) (errs : List WordErr) (s : State) : Host.Outcome State Fault Refusal :=
  .next (s.withGw n.val id 0x50 fun d =>
    let k := gwCtx n.val d errs
    k.gwEnd s [] (k.gwOpen (gwOpenOp d n.val) s))

/-- The streams of a GW_JOIN, each with a record that keeps R131. -/
def KvCtx.joinStreams (k : KvCtx) : List Nat → State → KvRes Unit
  | l, s => eachDo (fun a s => thenDo (need (decide (a % 64 = 0) && inParcel k.n a) Status.BAD_DESCRIPTOR 0 s) fun _ s =>
      thenDo (k.stream a s) fun _ s => (.ok (), s)) l s

/-- Ask the home to bind the context (R157); the descriptor ends with the answer. -/
def KvCtx.gwJoin (k : KvCtx) (g : GwJoinOp) (s : State) : KvRes (Option Nat) :=
  let fn := s.ctxFn k.d.ctx
  let key := bindKey k.n k.d.ctx
  let scratch := (List.range g.plots).map fun i => k.n * 128 + g.plot + i
  thenDo (need ((s.gwBind key).isNone && decide ((s.gw.binds.filter fun e => e.1 / 4096 == k.n).length < 256))
    Status.BAD_DESCRIPTOR 0 s) fun _ s =>
  thenDo (need (decide (g.plot + g.plots ≤ 96) && scratch.all fun p =>
      s.plotKind p == 1 && s.plotOwner p == fn && !s.plotReaders p && (s.scratchOf p).isNone) Status.BAD_DESCRIPTOR 0 s)
    fun _ s =>
  thenDo (if g.nstreams = 0 then (.ok [], s) else k.read 0 g.streams (4 * g.nstreams) 0 s) fun b s =>
    let streams := (List.range g.nstreams).map fun i => leAt b (4 * i) 4
    thenDo (k.joinStreams streams s) fun _ s =>
      let s1 := s.setGwBind key { req := g.req, home := g.home, homeCtx := g.homeCtx, streams := streams, plot := g.plot,
                                  plots := g.plots, joinDesc := some k.d.id }
      (.ok none, s1.sendNotice k.n (s1.noticePacket k.n k.d.ctx g.home g.homeCtx g.req K_JOIN {}))

/-- GW_JOIN (R157). -/
def execGwJoin (n : Parcel) (id : Nat) (errs : List WordErr) (s : State) : Host.Outcome State Fault Refusal :=
  .next (s.withGw n.val id 0x51 fun d =>
    let g := gwJoinOp d n.val
    let waits := match s.gwBind (bindKey n.val d.ctx) with
      | some b => b.joinDesc == some id
      | none => false
    if g.leave || waits then s
    else
      let k := gwCtx n.val d errs
      k.gwEnd s [] (k.gwJoin g s))

/-- GW_LEAVE (R157): GW_JOIN with LEAVE tells the home; the answer ends the membership and the descriptor. -/
def execGwLeave (n : Parcel) (id : Nat) (s : State) : Host.Outcome State Fault Refusal :=
  .next (s.withGw n.val id 0x51 fun d =>
    if !(gwJoinOp d n.val).leave then s
    else match s.gwBind (bindKey n.val d.ctx) with
      | none => s.endPart n.val id Status.BAD_DESCRIPTOR
      | some b =>
        if b.leaving then s
        else
          let s1 := s.setGwBind (bindKey n.val d.ctx) { b with leaving := true, joinDesc := some id }
          s1.sendNotice n.val (s1.noticePacket n.val d.ctx b.home b.homeCtx b.req K_JOIN { arg := 1, gen := b.gen }))

/-! ## GW_TREE -/

/-- Confirmed tokens in the pacing buffer, and the lead they give in microseconds (R178). -/
def GwReq.confirmed (r : GwReq) : Nat := (r.buf.takeWhile (·.wait.isNone)).length
def GwReq.leadUs (r : GwReq) : Nat := r.confirmed * pCadence r.params / 1000

/-- GW_TREE is not ready: the buffer would overflow, or the lead exceeds its target (R178). -/
def GwReq.treeWaits (r : GwReq) : Bool :=
  decide (r.buf.length + 16 > pEgrTokens r.params) || (r.started && decide (r.leadUs > pLead r.params))

/-- A candidate list in the hold. -/
def KvCtx.candList (k : KvCtx) (use : Bool) (a n vocab : Nat) (s : State) : KvRes (List Cand) :=
  if !use || n == 0 then (.ok [], s)
  else thenDo (k.read 0 a (16 * n) 0 s) fun b s =>
    match candidates b n vocab with
    | some l => (.ok l, s)
    | none => (.error { st := Status.BAD_DESCRIPTOR }, s)

/-- The n-gram chain (R163). -/
def KvCtx.ngList (k : KvCtx) (use : Bool) (r : GwReq) (s : State) : KvRes (List Cand) :=
  if !use then (.ok [], s)
  else if !pNgram r.params then (.error { st := Status.BAD_DESCRIPTOR }, s)
  else
    let key := ngKey r.hist (pNgN r.params)
    thenDo (k.asPager.read 0 (pNgBase r.params + 64 * ngBucket key (pNgLog2 r.params)) 64 0 s) fun b s =>
      let l := ngChain b key
      if l.all fun c => decide (c.tok < pVocab r.params) then (.ok l, s)
      else (.error { st := Status.BAD_DESCRIPTOR }, s)

/-- Open the round of a tree (R158, R161): the block is written, and every member is told. -/
def KvCtx.openRound (k : KvCtx) (g : GwTreeOp) (key : Nat) (r : GwReq) (t : List Node) (pos : Nat) (s : State) :
    KvRes (Option Nat) :=
  let e := nextEpoch r.lastEpoch
  thenDo (k.write 0 g.out 0 (treeBlock t e g.req pos) s) fun _ s =>
    let r1 := { r with openEpoch := e, repair := g.repair, nodes := t.length, latch := none }
    if r.members.isEmpty then (.ok (some Status.OK), s.setReq key r1)
    else (.ok none, (s.setReq key { r1 with treeDesc := some k.d.id }).notifyAll key K_OPEN { epoch := e } none)

/-- GW_TREE for a request that may open a round. -/
def KvCtx.gwTree (k : KvCtx) (g : GwTreeOp) (key : Nat) (r : GwReq) (s : State) : KvRes (Option Nat) :=
  thenDo (k.candList g.useDraft g.draft g.draftN (pVocab r.params) s) fun dl s =>
  thenDo (k.ngList g.useNgram r s) fun nl s =>
  thenDo (k.candList g.useHost g.host g.hostN (pVocab r.params) s) fun hl s =>
    k.openRound g key r (buildTree r.rootTok (pMaxNodes r.params) (pMaxDepth r.params) [(1, dl), (2, nl), (3, hl)])
      r.rootPos s

/-- What GW_TREE meets before it builds: an ending, waiting, or the request. -/
def State.treeGate (s : State) (d : Desc) (key : Nat) (repair : Bool) : Except (Option Nat) GwReq :=
  match s.gwReq key with
  | none => .error (some Status.BAD_DESCRIPTOR)
  | some r =>
    if r.treeDesc = some d.id then .error none
    else if r.st = 5 then .error (some Status.FENCED)
    else if r.ctx ≠ d.ctx ∨ r.st = 6 ∨ r.openEpoch ≠ 0 ∨ d.epoch ≠ nextEpoch r.lastEpoch ∨ repair ≠ (r.st == 4) then
      .error (some Status.BAD_DESCRIPTOR)
    else if (repair && r.waitsAny) || (!repair && r.treeWaits) then .error none
    else .ok r

/-- GW_TREE (R158-R163). -/
def execGwTree (n : Parcel) (id : Nat) (errs : List WordErr) (s : State) : Host.Outcome State Fault Refusal :=
  .next (s.withGw n.val id 0x52 fun d =>
    let g := gwTreeOp d n.val
    let key := gwKey n.val g.req
    if g.repair then s
    else match s.treeGate d key false with
      | .error (some st) => s.endPart n.val id st
      | .error none => s
      | .ok r =>
        let k := gwCtx n.val d errs
        k.gwEnd s [(g.out, 2112)] (k.gwTree g key r s))

/-- GW_TREE_REPAIR (R174): the chain of the last committed path. -/
def execGwTreeRepair (n : Parcel) (id : Nat) (s : State) : Host.Outcome State Fault Refusal :=
  .next (s.withGw n.val id 0x52 fun d =>
    let g := gwTreeOp d n.val
    let key := gwKey n.val g.req
    if !g.repair then s
    else match s.treeGate d key true with
      | .error (some st) => s.endPart n.val id st
      | .error none => s
      | .ok r =>
        let k := gwCtx n.val d []
        let path := r.path.getD ⟨[r.rootTok], r.rootPos⟩
        let (src, s1) := s.free 2
        k.gwEnd s [(g.out, 2112)] (k.openRound g key r (chainTree src path.toks) path.pos s1))

/-! ## GW_ACCEPT -/

/-- The 128 bytes of a result (R169). -/
def resultBytes (nodes toks : List Nat) : List Byte :=
  leBytes 1 nodes.length ++ leBytes 1 toks.length ++ leBytes 14 0
    ++ ((List.range 16).map fun i => leBytes 1 (nodes.getD i 0)).flatten ++ leBytes 32 0
    ++ ((List.range 16).map fun i => leBytes 4 (toks.getD i 0)).flatten

/-- GW_ACCEPT of an open round: the walk, its latched copy and its written result. -/
def KvCtx.gwAccept (k : KvCtx) (g : GwAcceptOp) (key : Nat) (r : GwReq) (s : State) : KvRes (Option Nat) :=
  let latch (x : List Nat × List Nat) (s : State) : KvRes (Option Nat) :=
    thenDo (k.write 0 g.result 0 (resultBytes x.1 x.2) s) fun _ s =>
      (.ok (some Status.OK), s.setReq key { r with latch := some ⟨r.openEpoch, x.1, x.2⟩ })
  thenDo (k.access 0 g.result 128 0 true s) fun _ s =>
  thenDo (k.read 0 g.tree 2112 0 s) fun b s =>
  thenDo (need (decide (leAt b 2 1 = r.openEpoch ∧ pVocab r.params ≤ 4 * g.stride)) Status.BAD_DESCRIPTOR 0 s) fun _ s =>
    match parseTree b with
    | none => (.error { st := Status.BAD_DESCRIPTOR }, s)
    | some t =>
      if r.repair then latch (List.range (min 16 t.length), []) s
      else
        let j : WalkJob := { params := r.params, key := r.key, nonce := r.nonce, rootPos := r.rootPos, tree := t,
                             logits := g.logits, stride := g.stride }
        thenDo (k.walk j 16 0 [0] [] s) fun x s =>
          match x with
          | some y => latch y s
          | none =>
            (.ok (some Status.ABORTED), (s.setBit (F.GWY_EVENT_NAN_LOGITS k.n)).gwError k.n 1 g.req (s.ctxFn k.d.ctx) 0)

/-- GW_ACCEPT (R169-R172). -/
def execGwAccept (n : Parcel) (id : Nat) (errs : List WordErr) (s : State) : Host.Outcome State Fault Refusal :=
  .next (s.withGw n.val id 0x53 fun d =>
    let g := gwAcceptOp d n.val
    let key := gwKey n.val g.req
    let k := gwCtx n.val d errs
    match s.gwReq key with
    | none => s.endPart n.val id Status.BAD_DESCRIPTOR
    | some r =>
      if r.st = 5 then s.endPart n.val id Status.FENCED
      else if r.ctx ≠ d.ctx ∨ r.openEpoch = 0 ∨ d.epoch ≠ r.openEpoch then s.endPart n.val id Status.BAD_DESCRIPTOR
      else k.gwEnd s [(g.result, 128)] (k.gwAccept g key r s))

/-! ## GW_COMMIT -/

/-- Tokens enter the pacing buffer in the hold: 4 bytes each at INDEX mod EGR_TOKENS (R156, R178). -/
def State.putTokens (s : State) (r : GwReq) (index : Nat) (toks : List Nat) : State :=
  (toks.mapIdx fun i t => (i, t)).foldl (fun s e =>
    (s.holdPut (pEgrBase r.params + 4 * ((index + e.1) % pEgrTokens r.params)) (leBytes 4 e.2)).2) s

/-- The n-gram update of a commit (R163). -/
def State.ngUpdate (s : State) (r : GwReq) (toks : List Nat) : State :=
  if pNgram r.params then
    let key := ngKey r.hist (pNgN r.params)
    (s.holdPut (pNgBase r.params + 64 * ngBucket key (pNgLog2 r.params)) (ngBytes key toks)).2
  else s

/-- The commit point and what follows it (Table 11, steps 2-4). -/
def State.commitRound (s : State) (key : Nat) (r : GwReq) (l : GwLatch) : State :=
  let n := key / 64
  let a := l.nodes.length
  let billed := { r with openEpoch := 0, lastEpoch := l.epoch, latch := none, st := 1, commits := r.commits + 1,
                         billN := r.nodes, billA := a, billRepair := r.repair,
                         members := r.members.map fun m => { m with applied := false } }
  let s1 :=
    if r.repair then s.setReq key billed
    else
      let index := r.index + r.buf.length
      let pos := r.rootPos + a
      let bind := if pReliefEn r.params then s.journalBinding n (s.ctxTag r.ctx) else none
      let (wait, s2) := match bind with
        | some i =>
          let (j, s2) := s.journal i n 1 (tokenBody l.epoch a l.toks.length (key % 64) r.gen index pos r.consumed l.toks)
          (some j, s2)
        | none => (none, s)
      let s3 := (s2.putTokens r index l.toks).ngUpdate r l.toks
      s3.setReq key { billed with
        path := some ⟨r.rootTok :: l.toks.take (a - 1), r.rootPos⟩
        rootTok := l.toks.getLastD r.rootTok
        rootPos := pos
        hist := (r.hist ++ l.toks).drop ((r.hist ++ l.toks).length - 4)
        buf := r.buf ++ l.toks.map fun t => ⟨t, wait⟩
        tokens := r.tokens + l.toks.length }
  s1.notifyAll key K_APPLY { epoch := l.epoch, arg := a, nodes := l.nodes } (some (s.applyDeadline n))

/-- A GW_ACCEPT of a round is fetched and has not ended. -/
def State.acceptPending (s : State) (n slot epoch : Nat) : Bool :=
  s.seq.descs.any fun d => d.opcode == 0x53 && d.epoch == epoch && (gwAcceptOp d n).req == slot
    && d.parts.any fun p => p.parcel == n && !p.isOver

/-- A report's 64 bytes may be written: outside every scratch range, by the descriptor's function. -/
def KvCtx.reportGate (k : KvCtx) (a : Nat) (s : State) : KvRes Unit :=
  thenDo (need ((plotsOf a 64).all fun g => (s.scratchOf g).isNone) Status.BAD_DESCRIPTOR 0 s) fun _ s =>
    k.access 0 a 64 0 true s

/-- GW_COMMIT (R173). -/
def execGwCommit (n : Parcel) (id : Nat) (s : State) : Host.Outcome State Fault Refusal :=
  .next (s.withGw n.val id 0x54 fun d =>
    let g := gwEndOp d n.val
    let key := gwKey n.val g.req
    let k := gwCtx n.val d []
    match s.gwReq key with
    | none => s.endPart n.val id Status.BAD_DESCRIPTOR
    | some r =>
      if r.st = 5 then s.endPart n.val id Status.FENCED
      else if r.ctx ≠ d.ctx ∨ r.openEpoch = 0 ∨ g.epoch ≠ r.openEpoch then s.endPart n.val id Status.BAD_DESCRIPTOR
      else if r.waitsFor K_APPLY ∨ s.acceptPending n.val g.req g.epoch then s
      else match r.latch with
        | none => s.endPart n.val id Status.BAD_DESCRIPTOR
        | some l =>
          k.gwEnd s [] (thenDo (k.reportGate g.report s) fun _ s =>
            let s1 := s.commitRound key r l
            let (ok, s2) := s1.holdPut g.report
              (reportBytes 0 l.nodes.length l.toks.length l.epoch (r.index + r.buf.length) l.toks [])
            (.ok (some (if ok then Status.OK else Status.HOLD_UNCORRECTABLE)), s2)))

/-- GW_DISCARD (R175). -/
def execGwDiscard (n : Parcel) (id : Nat) (s : State) : Host.Outcome State Fault Refusal :=
  .next (s.withGw n.val id 0x55 fun d =>
    let g := gwEndOp d n.val
    let key := gwKey n.val g.req
    let k := gwCtx n.val d []
    match s.gwReq key with
    | none => s.endPart n.val id Status.BAD_DESCRIPTOR
    | some r =>
      if r.endDesc = some id then s
      else if r.st = 5 then s.endPart n.val id Status.FENCED
      else if r.ctx ≠ d.ctx ∨ r.openEpoch = 0 ∨ g.epoch ≠ r.openEpoch ∨ r.endDesc.isSome then
        s.endPart n.val id Status.BAD_DESCRIPTOR
      else k.gwEnd s [] (thenDo (k.reportGate g.report s) fun _ s =>
        (.ok none, ((s.setReq key { r with endDesc := some id, report := some g.report, failed := [] }).dropRound
          key).discardDone key)))

/-- GW_CLOSE (R176). -/
def execGwClose (n : Parcel) (id : Nat) (s : State) : Host.Outcome State Fault Refusal :=
  .next (s.withGw n.val id 0x56 fun d =>
    let g := gwEndOp d n.val
    let key := gwKey n.val g.req
    match s.gwReq key with
    | none => s.endPart n.val id Status.BAD_DESCRIPTOR
    | some r =>
      if r.st = 6 then (if r.endDesc = some id then s else s.endPart n.val id Status.BAD_DESCRIPTOR)
      else if r.ctx ≠ d.ctx then s.endPart n.val id Status.BAD_DESCRIPTOR
      else
        let s1 := s.dropRound key
        match s1.gwReq key with
        | some r1 => (s1.setReq key { r1 with st := 6, endDesc := some id, report := none, drain := g.drain,
                                              buf := if g.drain then r1.buf else [] }).closeStep key
        | none => s1)

/-! ## Output (R177, R178, R215) -/

/-- A 16 B output record (Table 12). -/
def outRecord (tok index gen : Nat) (last : Bool) : List Byte :=
  leBytes 4 tok ++ leBytes 4 index ++ leBytes 1 gen ++ leBytes 1 (b2n last) ++ leBytes 6 0

/-- The clock moves on until fabric time reaches t. -/
def State.advanceFab (s : State) (t : Nat) : State :=
  if s.fabRunning then s.advanceTo (s.mclk + ceilDiv (t - s.fabTime) 4) else s

/-- Deliver the first token of the buffer. -/
def State.deliverToken (s : State) (key : Nat) (r : GwReq) (tok : Nat) : State :=
  let fn := s.ctxFn r.ctx
  let i := r.index % 2 ^ 32
  let last := r.st == 6 && r.drain && r.buf.length == 1
  let late := r.owed || decide (s.fabTime > r.nextAt + pCadence r.params) || !r.started
  let r1 := { r with buf := r.buf.drop 1, index := (r.index + 1) % 2 ^ 32, started := true, owed := false,
                     nextAt := (if late then s.fabTime else r.nextAt) + pCadence r.params }
  let s1 := (s.setReq key r1).emit
    (.hostWrite fn (pOutRing r.params + 16 * (i % 2 ^ pOutLog2 r.params)) (outRecord tok i r.gen last))
  let irq := decide (pIrqLog2 r.params ≠ 255) && decide (i % 2 ^ pIrqLog2 r.params = 0)
  (if irq then s1.msix fn (pIrqVec r.params) else s1).closeStep key

/-- EGRESS_DELIVERY (R177, R178): at its delivery time a request's first confirmed token goes out where the ring has
room; with no token there is an underrun. -/
def execEgressDelivery (n : Parcel) (slot : Fin 64) (s : State) : Host.Outcome State Fault Refusal :=
  .next (let key := gwKey n.val slot.val
    match s.gwReq key with
    | none => s
    | some r =>
      let fn := s.ctxFn r.ctx
      let ready := r.started || decide (pStartLead r.params ≤ r.leadUs ∧ 0 < r.confirmed) || (r.st == 6 && r.drain)
      if !ready ∨ !s.inService n.val ∨ !(s.fn fn).enabled then s
      else
        let s1 := if r.started ∧ !r.owed then s.advanceFab r.nextAt else s
        if r.started ∧ !r.owed ∧ s1.fabTime < r.nextAt then s
        else match r.buf.head? with
          | some t =>
            if t.wait.isSome then
              if r.owed then s1
              else ((s1.setReq key { r with owed := true, underruns := min (r.underruns + 1) (2 ^ 32 - 1) }).setBit
                (F.GWY_EVENT_UNDERRUN n.val))
            else if (r.index + 2 ^ 32 - r.consumed) % 2 ^ 32 ≥ 2 ^ pOutLog2 r.params then s1
            else if !(s1.fn fn).bme then s1.bmeWaits fn
            else s1.deliverToken key r t.tok
          | none =>
            if r.owed ∨ r.st = 6 then s1
            else (s1.setReq key { r with owed := true, underruns := min (r.underruns + 1) (2 ^ 32 - 1) }).setBit
              (F.GWY_EVENT_UNDERRUN n.val))

/-- CONSUMED (R177, R215): the reader's consumed index of gangway request r homed on parcel p, written to the doorbell
page of a function; counted as bad where the request's context is not that function's. -/
def execConsumed (fn : Fin 1024) (p : Parcel) (r : Fin 64) (value : Word) (s : State) :
    Host.Outcome State Fault Refusal :=
  .next (if !(s.fn fn.val).enabled then s
    else match s.gwReq (gwKey p.val r.val) with
      | some q =>
        if s.ctxFn q.ctx = fn.val then s.setReq (gwKey p.val r.val) { q with consumed := value.toNat }
        else s.addSat F.HIF_DB_BAD_COUNT
      | none => s.addSat F.HIF_DB_BAD_COUNT)

/-- The relief's acknowledgement confirms tokens and frees a member's acknowledgement (R402, Table 11 step 7). -/
def ackedBy (j acked : Nat) : Bool := decide ((acked + 2 ^ 32 - j) % 2 ^ 32 < 2 ^ 31)
def State.gwJournalAck (s : State) (n tag : Nat) (acked : Option Nat) : State :=
  let done (j : Nat) : Bool := match acked with
    | some a => ackedBy j a
    | none => true
  let reqs := amMap (fun k r =>
    if k / 64 = n ∧ s.ctxTag r.ctx = tag then
      { r with buf := r.buf.map fun t => match t.wait with
          | some j => if done j then { t with wait := none } else t
          | none => t }
    else r) s.gw.reqs
  let free := s.gw.binds.filterMap fun e =>
    if e.1 / 4096 = n ∧ s.ctxTag (e.1 % 4096) = tag then
      e.2.ackWait.bind fun w => if done w.1 then some (e.1, w.2) else none
    else none
  let binds := amMap (fun k b => if free.any (·.1 == k) then { b with ackWait := none } else b) s.gw.binds
  free.foldl (fun s e => s.sendNotice n e.2) { s with gw := { s.gw with reqs := reqs, binds := binds } }

/-- The home returns from a parcel reset with a round open: it is discarded as GW_DISCARD does (R180). -/
def State.gwReturn (s : State) (n : Nat) : State :=
  (s.gw.reqs.filter fun e => e.1 / 64 == n).foldl (fun s e => s.dropRound e.1) s

/-- A function's requests close as GW_CLOSE with DRAIN 0, and its contexts leave what they joined; other functions'
requests that they had joined go into repair (R222, R223). -/
def State.gwDisable (s : State) (fn : Nat) : State :=
  let mine (k : Nat) : Bool := s.ctxFn (k % 4096) == fn
  let s1 := (s.gw.reqs.filter fun e => s.ctxFn e.2.ctx == fn).foldl (fun s e =>
    let s1 := s.dropRound e.1
    match s1.gwReq e.1 with
    | some r => (s1.setReq e.1 { r with st := 6, drain := false, buf := [], endDesc := none, report := none }).closeStep e.1
    | none => s1) s
  (s1.gw.binds.filter fun e => mine e.1).foldl (fun s e =>
    let n := e.1 / 4096
    let station := s.station n
    let s1 := s.unbind n (e.1 % 4096)
    let local' := s1.gw.reqs.filter fun q => q.1 / 64 == e.2.home / 16 % 16 && q.1 % 64 == e.2.req
      && e.2.home / 256 == station / 256 && q.2.members.any fun m => m.station == station && m.ctx == e.1 % 4096
    local'.foldl (fun s q =>
      match s.gwReq q.1 with
      | some r =>
        (s.setReq q.1 { r with members := r.members.filter fun m =>
          !(m.station == station && m.ctx == e.1 % 4096) }).repair q.1 station
      | none => s) s1) s1

/-- GWY_ERR_CLR (R183): a write of 1, under the RWL rule. -/
def State.clearGwErr (s : State) (n : Nat) : State := (s.setRd (Reg.GWY_ERR_INFO n) 0).setRd (Reg.GWY_ERR_STATION n) 0
def execGwyErrClr (path : Path) (n : Parcel) (value : Word) (s : State) : Host.Outcome State Fault Refusal :=
  .next (s.rwl path (Reg.GWY_ERR_CLR n.val) fun s => if bitAt value.toNat 0 then s.clearGwErr n.val else s)

end Sys2Proof.Machine
end

