-- ==== Sys2Proof/Machine/Duration.lean ====
section
/-! DEFINITION. The modelled duration of a descriptor at admission, its least energy class and the energy it draws (R77,
R78, R105, R126, R152, R181, R309, R316). A duration is a fraction of CCLK: numerator and denominator. -/

namespace Sys2Proof.Machine

/-- A number of CCLK: numerator and denominator. -/
abbrev Cclk := Nat × Nat

/-- One pass of 64 rows of the model of R105. -/
def gemmPass (m done nb kb s cpr t bl g cb : Nat) : Nat :=
  let r := min 64 (m - done)
  let panels := nb * s
  let rounds := ceilDiv panels t
  let comp := rounds * ceilDiv kb s * max (r * cpr) (11 * cpr)
  let strm := ceilDiv bl g
  let merge := if s > 1 then r + 4 * (s - 1) else 0
  let last := panels - (rounds - 1) * t
  12 + max comp strm + merge + ceilDiv (min last nb * r * 128 * cb) 4096

/-- The model of R105. -/
def gemmModel (m nb kb s cpr t bl g cb : Nat) : Nat :=
  ((List.range (ceilDiv m 64)).map fun i => gemmPass m (64 * i) nb kb s cpr t bl g cb).sum

/-- B lines read in one pass; a coded group counts as 11 lines (R78, R105). -/
def GemmOp.lines (g : GemmOp) : Nat :=
  if g.coded then 11 * (2 * g.nb * g.kb)
  else
    let blocks := g.nb * g.kb
    let elems := ceilDiv (blocks * 8192 * fmtWidth g.fb / 8) 128
    if g.fb = 1 then elems else elems + ceilDiv (blocks * 256) 128

/-- The bytes of a C element, in eighths rounded up for the block formats. -/
def elemBytes (fmt : Nat) : Nat := ceilDiv (fmtWidth fmt) 8

/-- GEMM and CGEMM at parcel n. -/
def State.gemmCclk (s : State) (n : Nat) (g : GemmOp) : Nat :=
  gemmModel g.m g.nb g.kb (max 1 g.ksplit) (cprOf g.fb) (max 1 (s.tilesInService n)) g.lines
    (max 1 (popcount (s.goodBanks n) 64)) (elemBytes g.fc)

/-- NORM (Table 13): RMS_SCALE, and what the other modes add. -/
def NormOp.cclk (g : NormOp) : Cclk :=
  let x := g.m * g.d
  let scale := (if g.fx = 0 then 2 * x else x) + 20 * 1024
  (match g.kind with
    | 1 => scale
    | 2 => scale + 2 * x + x
    | _ => scale + 2 * x, 1024)

/-- ATTN with every chunk resident (R152): the stream record is read at admission. -/
def State.attnCclk (s : State) (n : Nat) (d : Desc) : Nat :=
  let a := attnOp d n
  let r := streamRec a.stream (s.holdGet a.stream 64)
  let readable := s.mayRead (s.who d) a.stream 64 && !s.poisonedIn a.stream 64 && r.ok n
  let (chunks, hd, lines) := if readable then (ceilDiv (r.len + if a.tent then 64 else 0) 64, r.hd, r.lines)
    else (1, 256, 513)
  let c := max (ceilDiv (64 * a.recs * hd) 65536) (ceilDiv lines 16)
  40 + chunks * c + ceilDiv (a.recs * outBytes a.mode hd) 4096

/-- ATTN_MERGE (Table 11). -/
def MergeOp.cclk (g : MergeOp) : Nat :=
  let hd := headDim g.hdc
  40 + g.p * ceilDiv (g.r * hd) 2048 + ceilDiv (g.r * outBytes g.mode hd) 4096

/-- The bound of a member's apply with A accepted nodes (Table 14). -/
def State.applyCclk (s : State) (n c a : Nat) : Nat :=
  let streams := match s.gwBind (bindKey n c) with | some b => b.streams.length | none => 0
  streams * (30 + 4 * a) + 64

/-- A request's parameter block at its home; zeros where the slot is free. -/
def State.paramsOf (s : State) (n req : Nat) : List Byte :=
  match s.gwReq (gwKey n req) with | some r => r.params | none => []

/-- GW_ACCEPT with the stand-ins of R181: MAX_DEPTH + 1 visited nodes, no rejected children, TOP_P below 1. -/
def acceptCclk (p : List Byte) : Nat :=
  let l := ceilDiv (pVocab p) 256
  let k := ceilDiv (pTopK p) 64
  let h := if !pStoch p then 0 else if pTopK p = 0 then 2 * l else 8 * k + 16 * k
  40 + (pMaxDepth p + 1) * (l + 8 + h)

/-- The gangway operators (Table 14, with the stand-ins of R181). GW_CLOSE, for which no bound is stated, counts as
GW_COMMIT. -/
def State.gwCclk (s : State) (n : Nat) (d : Desc) : Nat :=
  match d.opcode with
  | 0x50 => 60
  | 0x51 => 60 + 4 * (gwJoinOp d n).nstreams
  | 0x52 =>
    let g := gwTreeOp d n
    60 + 4 * (g.draftN + g.hostN + if g.useNgram then 8 else 0)
  | 0x53 => acceptCclk (s.paramsOf n (gwAcceptOp d n).req)
  | 0x55 => 160 + s.applyCclk n d.ctx 16
  | _ => 160

/-- The bound of R309 for n elements of a group (R308). Legs on more than one landing meet through one bridge switch. -/
def State.reduceCclk (s : State) (g : GroupRec) (r : ReduceOp) : Cclk :=
  let x2 := s.fuses.x2
  let d := g.legs
  let devices := (g.members.map fun m => m.1 / 256)
  let big := (devices.map fun x => devices.count x).foldl max 1
  let landings := (g.members.map fun m => m.1 / 4096).eraseDups.length
  let h := (if x2 then 600 else 680) + if landings > 1 then 640 else 0
  let m := if x2 then 3072 else 1536
  let q := 48 * d * m
  let fabric := if d = 1 then 0 else r.count * (4 + r.osz) * m
  let work := r.count * big * 48 * d
  ((400 + if d = 1 then 0 else 2 * h) * q + max fabric (max (work * r.isz) work), q)

/-- The modelled duration of a descriptor's part at parcel n, admitted with the rest of its parcel's parts (R78). -/
def State.modelled (s : State) (n : Nat) (d : Desc) : Cclk :=
  match d.opcode with
  | 0x10 => (s.gemmCclk n (gemmOp d n), 1)
  | 0x11 => (s.gemmCclk n (gemmOp d n), 1)
  | 0x12 => let g := gemvOp d n; (g.n * ceilDiv g.k 512 + 20, 1)
  | 0x18 => (normOp d n).cclk
  | 0x20 =>
    let c := copyOp d n
    let len := (c.slice d.repl n).2
    if (!c.zero && c.sk > 1) || c.dk > 1 then (Config.portCclk len, 1) else (ceilDiv len 256, 1)
  | 0x21 => (ceilDiv (fxOp d n).len 48, 1)
  | 0x30 => let v := vloadOp d n; (ceilDiv v.words 16 + 40, 1)
  | 0x31 => let v := vrunOp d n; (if v.est = 0 then v.limit * 1024 else 16 * v.est, 1)
  | 0x40 => (s.attnCclk n d, 1)
  | 0x41 => ((mergeOp d n).cclk, 1)
  | 0x42 => (30 + 4 * (appendOp d n).n, 1)
  | 0x43 => (30 + 4 * (commitOp d n).a, 1)
  | 0x44 => (20 * (moveOp d n).cnt, 1)
  | 0x60 => (8, 1)
  | 0x61 =>
    match s.group (groupKey n d.ctx (reduceOp d n).gidx) with
    | some g => s.reduceCclk g (reduceOp d n)
    | none => (400, 1)
  | op => if op ≥ 0x50 then (s.gwCclk n d, 1) else (8, 1)

/-- The least class of an opcode and its operands (Table 3, R77). -/
def minClass (d : Desc) (n : Nat) : Nat :=
  let op := d.opcode
  if op ≤ 2 then 0
  else if op = 0x10 ∨ op = 0x11 then
    let g := gemmOp d n
    match fmtWidth g.fb with
    | 16 => 4
    | 4 => if g.m ≤ 32 then 6 else 7
    | _ => 5
  else if op = 0x20 ∨ op = 0x21 ∨ op ≥ 0x60 then 1
  else if op ≥ 0x40 ∧ op < 0x50 then 3
  else 2

/-- The power of a class, in W. -/
def State.classW (s : State) (c : Nat) : Nat :=
  if c = 0 then 0 else ((s.rd (if c < 4 then Reg.TOL_CLASS_W0 else Reg.TOL_CLASS_W1)).toNat / 256 ^ (c % 4)) % 256

/-- The energy of a duration at a power, in microjoules, rounded up (R316): a CCLK is half a nanosecond. -/
def energyUj (w : Nat) (t : Cclk) : Nat := ceilDiv (w * t.1) (2000 * t.2)

end Sys2Proof.Machine
end

