-- ==== Sys2Proof/Machine/Descriptor.lean ====
section
/-! DEFINITION. The life of a descriptor at the sequencers (04_operators_and_tiles R70-R85, 07_gangway_speculation R158,
R164-R167, 13_toll R316-R318, R328): admission, start, the sequencer operators, completion with its signal and record. -/

namespace Sys2Proof.Machine

/-! ## Parts -/

/-- A part is admitted and not over. -/
def Part.inFlight (p : Part) : Bool := !p.isOver && decide (p.st ≠ .held)

/-- The descriptor has a held part to take in at parcel n. -/
def Desc.heldAtParcel (d : Desc) (n : Nat) : Bool := d.parts.any fun p => p.adm == n && decide (p.st = .held)

/-- Descriptors that parcel n has admitted and that have not ended their parts (R70). -/
def State.inFlight (s : State) (n : Nat) : Nat :=
  (s.seq.descs.filter fun d => d.parts.any fun p => p.adm == n && p.inFlight).length

/-- Descriptors of the same ring fetched before a descriptor. -/
def State.earlier (s : State) (d : Desc) : List Desc :=
  (s.seq.descs.takeWhile fun x => x.id ≠ d.id).filter (·.ctx == d.ctx)

/-- Change one descriptor. -/
def State.updDesc (s : State) (id : Nat) (f : Desc → Desc) : State :=
  { s with seq := { s.seq with descs := s.seq.descs.map fun d => if d.id = id then f d else d } }

/-! ## Admission (R70, R77, R316-R318) -/

/-- The signed level of a parcel's bucket, and of the collective pool, in microjoules. -/
def State.bucket (s : State) (n : Nat) : Int := toSigned 32 (s.fld (F.TOL_BUCKET_UJ n))
def State.setBucket (s : State) (n : Nat) (v : Int) : State := s.setFld (F.TOL_BUCKET_UJ n) (ofSigned 32 v)
def State.pool (s : State) : Int := toSigned 32 (s.fld F.TOL_POOL_UJ)
def State.setPool (s : State) (v : Int) : State := s.setFld F.TOL_POOL_UJ (ofSigned 32 v)

/-- Admission of every class above 0 is held: a cut, or a dynamic refill of 0 (R317, R321). -/
def State.leaseClosed (s : State) : Bool := s.tol.cut || s.tol.noRefill

/-- Admission holds the parts of a descriptor at parcel n back from now on. -/
def State.holdBack (s : State) (n id : Nat) : State :=
  s.updDesc id fun d => { d with parts := d.parts.map fun p =>
    if p.adm = n ∧ p.st = .held ∧ p.heldAt.isNone then { p with heldAt := some s.mclk } else p }

/-- The parts of a descriptor at parcel n are admitted at a class. -/
def State.admitParts (s : State) (n id klass : Nat) : State :=
  let s1 := s.updDesc id fun d => { d with
    klass := klass
    parts := d.parts.map fun p => if p.adm = n ∧ p.st = .held then { p with st := .admitted, seq := s.seq.nextSeq } else p }
  { s1 with seq := { s1.seq with nextSeq := s.seq.nextSeq + 1 } }

/-- A class below the minimum is raised, and the parcel notes it (R77). -/
def State.noteRaised (s : State) (n : Nat) (raised : Bool) : State :=
  if raised then (s.setBit (F.SEQ_ADMIT_EVENT_CLASS_RAISED n)).addSat (F.SEQ_CLASS_RAISED_COUNT_COUNT n) else s

/-- What the parts of a descriptor at parcel n draw together (R316). -/
def State.drawOf (s : State) (n : Nat) (d : Desc) (klass : Nat) : Nat :=
  ((d.parts.filter fun p => p.adm == n && decide (p.st = .held)).map fun p =>
    energyUj (s.classW klass) (s.modelled p.parcel d)).sum

/-- The first member of a group on this device, as a record key: it names the operation's pool draw. -/
def State.drawKey (s : State) (g : GroupRec) (gidx : Nat) : Nat :=
  match (List.range g.members.length).find? fun r => (g.member r).1 / 256 == s.station 0 / 256 with
  | some r => g.keyOf r gidx
  | none => 0

/-- The OP_SEQ of the operation that an ALL_REDUCE part held at parcel n will be (R306). -/
def State.opSeqOf (s : State) (n : Nat) (d : Desc) (g : GroupRec) : Nat :=
  let gidx := (reduceOp d n).gidx
  let before := s.seq.descs.filter fun x => x.opcode == 0x61 && x.ctx == d.ctx && (reduceOp x n).gidx == gidx
    && !x.collDone.contains n && x.parts.any fun p => p.parcel == n && p.inFlight
  (g.opSeq + before.length) % 2 ^ 32

/-- The draw of a collective (R318): the first member to reach admission draws for every member of this device; the
others are admitted without a draw. None: the draw waits. -/
def State.poolDraw (s : State) (n : Nat) (d : Desc) (klass : Nat) : Option State :=
  match s.group (groupKey n d.ctx (reduceOp d n).gidx) with
  | none => some s
  | some g =>
    let key := s.drawKey g (reduceOp d n).gidx
    let seq := s.opSeqOf n d g
    let drawn := (amGet s.tol.drawn key).getD []
    if drawn.contains seq then some s
    else if s.leaseClosed ∨ s.pool ≤ 0 then none
    else
      let members := (s.coll.groups.filter fun e => e.2.digest == g.digest).length
      let s1 := s.setPool (s.pool - (members * energyUj (s.classW klass) (s.modelled n d) : Nat))
      some { s1 with tol := { s1.tol with drawn := amSet s1.tol.drawn key ((seq :: drawn).take 4) } }

/-- DESCRIPTOR_ADMIT: parcel n admits the descriptor, in ring order, or holds it back. -/
def execDescriptorAdmit (n : Parcel) (id : Nat) (s : State) : Host.Outcome State Fault Refusal :=
  .next (match s.desc id with
    | none => s
    | some d =>
      if !d.heldAtParcel n.val || s.safe || !s.admits n.val then s
      else
        let before := (s.earlier d).filter (·.heldAtParcel n.val)
        if before.any fun x => x.parts.any fun p => p.adm == n.val && p.heldAt.isSome then s.holdBack n.val id
        else if !before.isEmpty || s.inFlight n.val ≥ 256 then s
        else
          let klass := max d.energyClass (minClass d n.val)
          let admitNow (s : State) : State := (s.admitParts n.val id klass).noteRaised n.val (klass != d.energyClass)
          if klass = 0 then admitNow s
          else if d.opcode = 0x61 then
            match s.poolDraw n.val d klass with
            | some s1 => admitNow s1
            | none => s.holdBack n.val id
          else if s.leaseClosed ∨ s.bucket n.val ≤ 0 then s.holdBack n.val id
          else admitNow (s.setBucket n.val (s.bucket n.val - (s.drawOf n.val d klass : Nat))))

/-- The parts of a descriptor that admission holds back at a parcel end with LEASE_DENIED. -/
def State.denyLease (s : State) (n id : Nat) : State :=
  let s1 := s.updDesc id fun d => { d with parts := d.parts.map fun p =>
    if p.adm = n ∧ p.st = .held then p.fail Status.LEASE_DENIED else p }
  (s1.addSat F.TOL_DENIED_COUNT).setBit F.TOL_EVENT_LEASE_DENIED

/-- Every member of a group's operation that waits on this device (R318). -/
def State.waitingMembers (s : State) (digest : Nat) : List (Nat × Nat) :=
  s.seq.descs.flatMap fun d =>
    if d.opcode ≠ 0x61 then []
    else (d.parts.filter fun p => decide (p.st = .held) && p.heldAt.isSome
      && ((s.group (groupKey p.parcel d.ctx (reduceOp d p.parcel).gidx)).map (·.digest)) == some digest).map
        fun p => (p.adm, d.id)

/-- LEASE_DENY_TIMEOUT (R317, R318). -/
def execLeaseDenyTimeout (n : Parcel) (id : Nat) (s : State) : Host.Outcome State Fault Refusal :=
  .next (match s.desc id with
    | none => s
    | some d =>
      let since := (d.parts.find? fun p => p.adm == n.val && decide (p.st = .held) && p.heldAt.isSome).bind (·.heldAt)
      if s.safe then s
      else s.atDeadline (since.map (· + max 1 (s.fld F.TOL_DENY_MS) * perMs)) fun s =>
        if d.opcode = 0x61 then
          match s.group (groupKey n.val d.ctx (reduceOp d n.val).gidx) with
          | some g => ((s.waitingMembers g.digest).foldl (fun s x => s.denyLease x.1 x.2) s).collSweep
          | none => s.denyLease n.val id
        else s.denyLease n.val id)

/-! ## Start (R71, R80, R85, R158, R166) -/

/-- The engine class of an opcode (R71), and how many of its parts run at once on a parcel; none is no limit. -/
def engineOf (op : Nat) : Nat :=
  if op ≤ 2 then 0 else if op = 0x10 ∨ op = 0x11 then 1 else if op = 0x20 then 3 else if op = 0x21 then 4
  else if op = 0x40 ∨ op = 0x41 then 5 else if op ≥ 0x42 ∧ op ≤ 0x44 then 6 else if op ≥ 0x60 then 8
  else if op ≥ 0x50 then 7 else 2
def engineSlots (e : Nat) : Option Nat :=
  if e = 2 ∨ e = 3 ∨ e = 5 ∨ e = 6 then some 1 else if e = 4 then some 16 else none

/-- The wait mark of a descriptor at a parcel. -/
def State.waitMarkAt (s : State) (n : Nat) (d : Desc) : Mark := (s.mark n d.ctx d.waitMark).getD {}

/-- The mark's ERROR bit, now or at any time since the part came, ends the part before it starts (R80). -/
def State.markFails (s : State) (d : Desc) (p : Part) : Bool := d.waitEn && (p.markErr || (s.waitMarkAt p.parcel d).error)

/-- The mark has reached the threshold, modulo 2^32 (R80). -/
def State.markReached (s : State) (n : Nat) (d : Desc) : Bool :=
  !d.waitEn || decide (toSigned 32 ((s.waitMarkAt n d).count.toNat + 2 ^ 32 - d.waitValue) ≥ 0)

/-- Every earlier descriptor of the ring has ended its part at the parcel (R73, R85). -/
def State.orderReached (s : State) (n : Nat) (d : Desc) : Bool :=
  !(d.ordered || d.opcode == 2) || (s.earlier d).all fun x => x.parts.all fun p => p.parcel != n || p.isOver

/-- What the epoch of a speculative descriptor lets it do at a parcel (R158): run, wait, or end with a status. -/
inductive EpochGate where
  | run
  | wait
  | ends (status : Nat)
  deriving DecidableEq, Repr

def State.epochGate (s : State) (n : Nat) (d : Desc) : EpochGate :=
  if !d.spec || d.opcode == 0x52 then .run
  else match s.gwBind (bindKey n d.ctx) with
    | none => .ends Status.SPECULATION_DISCARDED
    | some b =>
      if b.lost then .ends Status.FENCED
      else if b.openEpoch ≠ 0 ∧ b.openEpoch = d.epoch then .run
      else if b.openEpoch = 0 ∧ d.epoch = nextEpoch b.lastEpoch then .wait
      else .ends Status.SPECULATION_DISCARDED

/-- A part is ready at its parcel. -/
def State.ready (s : State) (d : Desc) (p : Part) : Bool :=
  !s.markFails d p && s.markReached p.parcel d && s.orderReached p.parcel d
    && decide (s.epochGate p.adm d = .run)

/-- No older ready part of the engine class waits at the parcel, and the engine has room (R71). -/
def State.engineFree (s : State) (d : Desc) (p : Part) : Bool :=
  let e := engineOf d.opcode
  let others := s.seq.descs.flatMap fun x => if engineOf x.opcode = e then (x.parts.filter fun y => y.parcel == p.parcel).map fun y => (x, y) else []
  let running := (others.filter fun x => decide (x.2.st = .running)).length
  let older := others.any fun x => decide (x.2.st = .admitted) && decide (x.2.seq < p.seq) && s.ready x.1 x.2
  (match engineSlots e with | some k => decide (running < k) | none => true) && (decide (e = 0 ∨ e ≥ 7) || !older)

/-- A speculative part's effect lies outside the span, so it is deferred (R164): a COPY to anything but the hold, an
FXFER whose target is no span context's scratch. -/
def State.defers (s : State) (n : Nat) (d : Desc) (targetInSpan : Bool) : Bool :=
  s.inService n && d.spec && ((d.opcode == 0x20 && (copyOp d n).dk != 0) || (d.opcode == 0x21 && !targetInSpan))

/-- Deferred parts at a parcel of the request that a context has joined there (R166). -/
def State.deferredAt (s : State) (n c : Nat) : Nat :=
  let req (c : Nat) : Option (Nat × Nat) := (s.gwBind (bindKey n c)).map fun b => (b.home, b.req)
  ((s.seq.descs.filter fun d => req d.ctx == req c).map fun d =>
    (d.parts.filter fun p => p.adm == n && decide (p.st = .deferred)).length).sum

/-- Set the part of a descriptor at a parcel. -/
def State.setPart (s : State) (n id : Nat) (st : PartSt) : State :=
  s.mapParts fun d p => if d.id = id ∧ p.parcel = n then { p with st := st } else p

/-- Defer a part, or refuse the one above 64 (R166). -/
def State.deferPart (s : State) (n adm id : Nat) (d : Desc) : State :=
  if s.deferredAt adm d.ctx < 64 then s.setPart n id .deferred
  else
    let slot := match s.gwBind (bindKey adm d.ctx) with | some b => b.req | none => 0
    ((s.endPart n id Status.BAD_DESCRIPTOR).setBit (F.GWY_EVENT_DEFER_LIMIT adm)).gwError adm 2 slot (s.ctxFn d.ctx)
      (s.station adm)

/-- The block that the descriptor is for has answered a power entry and holds new work at its input (R359). -/
def State.blockHolds (s : State) (n : Nat) (d : Desc) : Bool :=
  (engineOf d.opcode == 7 && s.entryHolds 1 n) || (d.opcode == 0x61 && s.entryHolds 5 0)

/-- What every start goes through: k is applied once the admitted part of the descriptor at parcel n may run. -/
def State.startGate (s : State) (n id : Nat) (k : Desc → Part → State) : State :=
  match s.desc id with
  | none => s
  | some d =>
    match d.parts.find? fun p => p.parcel == n && decide (p.st = .admitted) with
    | none => s
    | some p =>
      if !s.inService n || s.blockHolds n d then s
      else if s.markFails d p then (s.endPart n id Status.ABORTED).collSweep
      else match s.epochGate p.adm d with
        | .ends st => (s.endPart n id st).collSweep
        | .wait => s
        | .run => if s.markReached n d && s.orderReached n d then k d p else s

/-- PART_START: the part of a descriptor at parcel n starts on its engine; targetInSpan says, for an FXFER of speculative
work, that its target is a span context's scratch (R164). -/
def execPartStart (n : Parcel) (id : Nat) (targetInSpan : Bool) (s : State) : Host.Outcome State Fault Refusal :=
  .next (s.startGate n.val id fun d p =>
    if !s.engineFree d p then s
    else if s.defers n.val d targetInSpan then s.deferPart n.val p.adm id d
    else (s.setPart n.val id .running).latchAttn n.val d)

/-! ## The sequencer operators (R84, R85) -/

/-- A sequencer operator runs at once when it is ready: its effect, and its end. -/
def State.seqRun (s : State) (n id : Nat) (is : Desc → Bool) (effect : Desc → State → State) : State :=
  s.startGate n id fun d _ => if is d then (effect d s).endPart n id Status.OK else s

/-- NOP. -/
def execNop (n : Parcel) (id : Nat) (s : State) : Host.Outcome State Fault Refusal :=
  .next (s.seqRun n.val id (·.opcode == 0) fun _ s => s)

/-- FENCE: ready once every earlier descriptor of the ring has ended its part here. -/
def execFence (n : Parcel) (id : Nat) (s : State) : Host.Outcome State Fault Refusal :=
  .next (s.seqRun n.val id (·.opcode == 2) fun _ s => s)

/-- MARK with an ACTION. -/
def State.markOp (s : State) (n id action : Nat) (f : Nat → Mark → Mark) : State :=
  s.seqRun n id (fun d => d.opcode == 1 && d.bits 24 1 0 == action) fun d s =>
    s.updMark n d.ctx (d.bits 25 4 0) (f (d.at 28 4))

/-- MARK with ADD. -/
def execMarkAdd (n : Parcel) (id : Nat) (s : State) : Host.Outcome State Fault Refusal :=
  .next (s.markOp n.val id 0 fun v m => { m with count := m.count + BitVec.ofNat 32 v })

/-- MARK with SET. -/
def execMarkSet (n : Parcel) (id : Nat) (s : State) : Host.Outcome State Fault Refusal :=
  .next (s.markOp n.val id 1 fun v m => { m with count := BitVec.ofNat 32 v })

/-- MARK with CLEAR_ERROR. -/
def execMarkClearError (n : Parcel) (id : Nat) (s : State) : Host.Outcome State Fault Refusal :=
  .next (s.markOp n.val id 2 fun _ m => { m with error := false })

/-! ## Completion (R81-R83, R167, R220, R328) -/

/-- The status of a part that is over. -/
def Part.status (p : Part) : Nat := match p.st with | .ended st => st | _ => Status.OK

/-- The status and the part bitmap of a descriptor whose parts are over (R15). -/
def Desc.outcome (d : Desc) : Nat × Nat :=
  if d.invalid then (Status.BAD_DESCRIPTOR, 0) else combineParts (d.parts.map Part.status)

/-- The energy estimate of a record (R328): modelled picojoules and occupied CCLK under the last settled tick. -/
def State.energyOf (s : State) (pj occ : Nat) : Nat :=
  let m := max 1 s.tol.lastModel
  let dyn := if s.tol.lastModel = 0 then 0 else 24 * pj * s.tol.lastDyn
  min ((dyn + occ * s.tol.lastStatic * m) / (24000000 * m)) (2 ^ 32 - 1)

/-- The parcel that a descriptor's signal leaves from: the first it ran on. -/
def Desc.firstParcel (d : Desc) : Nat := match setBits d.mask 12 with | n :: _ => n | [] => 0

/-- The SIGNAL packet of a descriptor (R83). -/
def State.signalPacket (s : State) (d : Desc) (failed : Bool) : Packet :=
  { ptype := 0x02, vc := 0, dst := BitVec.ofNat 24 d.sigStation, src := BitVec.ofNat 24 (s.station d.firstParcel),
    dstCtx := BitVec.ofNat 12 d.sigContext, srcCtx := BitVec.ofNat 12 d.ctx,
    jobTag := BitVec.ofNat 32 (s.ctxTag d.ctx),
    addr := BitVec.ofNat 32 (d.sigMark + 256 * d.sigInc + 65536 * b2n failed) }

/-- The record of a descriptor that is done: held while its round is open, else queued; SPECULATION_DISCARDED never
leaves (R167). -/
def State.finishDesc (s : State) (d : Desc) (st bm energy : Nat) : State :=
  let s1 := { s with seq := { s.seq with descs := s.seq.descs.filter fun x => !(x.id == d.id) } }
  let out := if st = Status.SPECULATION_DISCARDED then Status.ABORTED else st
  let key := bindKey d.firstParcel d.ctx
  match s.gwBind key with
  | some b =>
    if d.spec ∧ b.openEpoch ≠ 0 ∧ b.openEpoch = d.epoch then
      s1.setGwBind key { b with held := b.held ++ [⟨d, st, bm, energy⟩] }
    else s1.queueRecord d out bm energy
  | none => s1.queueRecord d out bm energy

/-- Send the remote signal of a descriptor, once its window has room; with no route it is done, UNREACHABLE (R82). -/
def State.sendSignal (s : State) (d : Desc) (st bm energy : Nat) : State :=
  let p := s.signalPacket d (st != Status.OK)
  if !s.winFits d.firstParcel p then s
  else match s.sendRequest d.firstParcel d.id p with
    | (some t, s1) => s1.updDesc d.id fun d => { d with sigTxn := some t }
    | (none, s1) => s1.finishDesc d (if st = Status.OK then Status.UNREACHABLE else st) bm energy

/-- DESCRIPTOR_COMPLETE: every part has ended, so the descriptor signals once and queues its record. pj and occ are the
modelled energy and the occupancy attributed to it; targetInSpan says that a remote signal's context is in the span. -/
def execDescriptorComplete (id pj occ : Nat) (targetInSpan : Bool) (s : State) : Host.Outcome State Fault Refusal :=
  .next (match s.desc id with
    | none => s
    | some d =>
      if !(d.parts.all (·.isOver)) || (d.parts.isEmpty && !d.invalid) then s
      else
        let s := s.collSweep
        let (st, bm) := d.outcome
        let energy := s.energyOf pj occ
        if !d.sigEn || d.dropped then s.finishDesc d st bm energy
        else if !d.sigRemote then
          (s.updMark (d.sigStation / 16) d.ctx d.sigMark (·.signal d.sigInc (st != Status.OK))).finishDesc d st bm energy
        else match d.sigAns with
          | some a => s.finishDesc d (if st = Status.OK then a else st) bm energy
          | none =>
            if d.sigTxn.isSome || (d.spec && !targetInSpan) then s
            else s.sendSignal d st bm energy)

end Sys2Proof.Machine
end

