-- ==== Sys2Proof/Machine/Host.lean ====
section
/-! DEFINITION. The host interface (09_host_and_network R206-R224, R493): context commands, doorbells, descriptor
fetches, the aperture, function disable, Bus Master Enable and the host link. -/

namespace Sys2Proof.Machine

/-! ## Ending parts (R213) -/

/-- An FXFER part that must end sends nothing more, and ends once what it has sent is answered; one that has sent
nothing ends at once (R213). -/
def State.stopFxfer (s : State) (n id st : Nat) : State :=
  if (amGet s.seq.fxStatus (fxKey id n)).isNone then s.endPart n id st
  else ((s.fxAnswer id n st).fxSetNext id n none).fxFinish id n

/-- End parts with a status: running FXFER parts as R213 says, every other part that is not over at once; host reads
for them are discarded. -/
def State.endParts (s : State) (pick : Desc → Part → Bool) (st : Nat) : State :=
  let l := s.seq.descs.flatMap fun d => (d.parts.filter fun p => pick d p && !p.isOver).map fun p => (d, p)
  let s1 := l.foldl (fun s x =>
    if x.1.opcode = 0x21 ∧ x.2.st = .running then s.stopFxfer x.2.parcel x.1.id st
    else s.endPart x.2.parcel x.1.id st) s
  let gone (r : HostRd) : Bool := l.any fun x => decide (r.why = .copy x.2.parcel x.1.id)
  ({ s1 with host := { s1.host with reads := s1.host.reads.filter fun r => !gone r } }).collSweep

/-! ## Context commands (R212, R214) -/

/-- The answer of a context command, and the event of a rejected one. -/
def State.ctxResult (s : State) (path : Path) (code : Nat) : State :=
  let s1 := s.setFldB (pathNo path) F.HIF_CTX_RESULT_CODE code
  if code = 0 then s1 else s1.setBit F.HIF_EVENT_CTX_CMD_REJECTED

/-- The context that a path has selected. -/
def State.ctxSel (s : State) (path : Path) : Nat := s.fldB (pathNo path) F.HIF_CTX_SEL_CTX

/-- The fields of a context hold (R214). -/
def State.ctxFieldsOk (s : State) (c : Nat) : Bool :=
  let f (x : Fld) : Nat := s.fldB (entryBank c) x
  let d := f F.HIF_CTX_RINGS_DRING_LOG2
  let r := f F.HIF_CTX_RINGS_CRING_LOG2
  bitAt (s.ctxMask c) (s.ctxHome c) && decide (s.ctxHome c < 12)
    && decide (s.ctxAddr c Reg.HIF_CTX_DRING_LO % 4096 = 0 ∧ s.ctxAddr c Reg.HIF_CTX_CRING_LO % 4096 = 0
      ∧ s.ctxAddr c Reg.HIF_CTX_FSHADOW_LO % 8 = 0 ∧ 6 ≤ d ∧ d ≤ 16 ∧ 6 ≤ r ∧ r ≤ 16
      ∧ f F.HIF_CTX_IRQ_VEC < fnVectors (s.ctxFn c))

/-- Another context that is not FREE has the function and slot (R211). -/
def State.slotTaken (s : State) (c : Nat) : Bool :=
  s.host.ctxs.any fun e => e.1 != c && decide (e.2.st ≠ .free) && s.ctxFn e.1 == s.ctxFn c
    && s.fldB (entryBank e.1) F.HIF_CTX_FN_SLOT == s.fldB (entryBank c) F.HIF_CTX_FN_SLOT

/-- The lowest free mark set of a parcel. -/
def State.freeSet (s : State) (n : Nat) : Option Nat :=
  ((List.range 512).map (n * 512 + ·)).find? fun k => (amGet s.seq.sets k).isNone

/-- Bind a mark set of a parcel to a context, every mark 0 (R79), and unbind one. -/
def State.bindMarks (s : State) (n c : Nat) : State :=
  match s.freeSet n with
  | some k => { s with seq := { s.seq with
      sets := amSet s.seq.sets k c, marks := s.seq.marks.filter fun e => !(e.1 / 32 == k) } }
  | none => s
def State.unbindMarks (s : State) (n c : Nat) : State :=
  match s.markSet n c with
  | some k => { s with seq := { s.seq with
      sets := amDel s.seq.sets k, marks := s.seq.marks.filter fun e => !(e.1 / 32 == k) } }
  | none => s

/-- Bind and unbind the mark sets that a new mask asks for; none where some parcel has no free set. -/
def State.rebind (s : State) (c : Nat) : Option State :=
  let want := setBits (s.ctxMask c) 12
  let have' := (List.range 12).filter fun n => (s.markSet n c).isSome
  let add := want.filter fun n => !have'.contains n
  if add.all fun n => (s.freeSet n).isSome then
    some (add.foldl (fun s n => s.bindMarks n c)
      ((have'.filter fun n => !want.contains n).foldl (fun s n => s.unbindMarks n c) s))
  else none

/-- The checks of CREATE and START, and then the work. -/
def State.ctxChecked (s : State) (path : Path) (c : Nat) (k : State → State) : State :=
  if !s.ctxFieldsOk c then s.ctxResult path 2
  else if s.slotTaken c then s.ctxResult path 3
  else match s.rebind c with
    | some s1 => (k s1).ctxResult path 0
    | none => s.ctxResult path 4

/-- A context command of a path under the RWL rule, from states where it may be given. -/
def State.ctxCommand (s : State) (path : Path) (from' : List CtxState) (k : Nat → State → State) : State :=
  s.rwl path Reg.HIF_CTX_CMD fun s =>
    let c := s.ctxSel path
    if from'.contains (s.ctx c).st then k c s else s.ctxResult path 1

/-- CREATE. -/
def State.createCtx (s : State) (path : Path) : State :=
  s.ctxCommand path [.free] fun c s => s.ctxChecked path c fun s => s.setCtx c { st := .stopped }

/-- START. -/
def State.startCtx (s : State) (path : Path) : State :=
  s.ctxCommand path [.stopped] fun c s => s.ctxChecked path c fun s => s.setCtx c { s.ctx c with st := .running }

/-- STOP. -/
def State.stopCtx (s : State) (path : Path) : State :=
  s.ctxCommand path [.running] fun c s => (s.setCtx c { s.ctx c with st := .stopping }).ctxResult path 0

/-- ABORT: as STOP, and every part of the context that is not over ends ABORTED. -/
def State.abortCtx (s : State) (path : Path) : State :=
  s.ctxCommand path [.running, .stopping, .stopped] fun c s =>
    ((s.setCtx c { s.ctx c with st := .stopping }).endParts (fun d _ => d.ctx == c) Status.ABORTED).ctxResult path 0

/-- DESTROY: the mark sets are unbound, the member records removed (R296), and a held record is discarded (R217). -/
def State.destroyCtx (s : State) (path : Path) : State :=
  s.ctxCommand path [.stopped] fun c s =>
    if s.isJoined c then s.ctxResult path 5
    else (((List.range 12).foldl (fun s n => s.unbindMarks n c) (s.dropGroups c)).setCtx c {}).ctxResult path 0

/-- REWIND: every position is 0, and a held record is discarded. -/
def State.rewindCtx (s : State) (path : Path) : State :=
  s.ctxCommand path [.stopped] fun c s =>
    (s.setCtx c { s.ctx c with fetch := 0, db := 0, recPos := 0, head := 0, heldRec := none }).ctxResult path 0

/-- A write of HIF_CTX_CMD: 0 is no command, 7 is rejected with result 2. -/
def State.writeCtxCmd (s : State) (path : Path) (v : Nat) : State :=
  match v % 8 with
  | 0 => s
  | 1 => s.createCtx path
  | 2 => s.startCtx path
  | 3 => s.stopCtx path
  | 4 => s.abortCtx path
  | 5 => s.destroyCtx path
  | 6 => s.rewindCtx path
  | _ => s.rwl path Reg.HIF_CTX_CMD fun s => s.ctxResult path 2

def execCtxCreate (path : Path) (s : State) : Host.Outcome State Fault Refusal := .next (s.createCtx path)
def execCtxStart (path : Path) (s : State) : Host.Outcome State Fault Refusal := .next (s.startCtx path)
def execCtxStop (path : Path) (s : State) : Host.Outcome State Fault Refusal := .next (s.stopCtx path)
def execCtxAbort (path : Path) (s : State) : Host.Outcome State Fault Refusal := .next (s.abortCtx path)
def execCtxDestroy (path : Path) (s : State) : Host.Outcome State Fault Refusal := .next (s.destroyCtx path)
def execCtxRewind (path : Path) (s : State) : Host.Outcome State Fault Refusal := .next (s.rewindCtx path)

/-- STOPPING_DRAINED: no fetched descriptor of a STOPPING context remains. -/
def execStoppingDrained (c : Fin 4096) (s : State) : Host.Outcome State Fault Refusal :=
  .next (let x := s.ctx c.val
    if x.st = .stopping ∧ x.fetching.isNone ∧ !(s.seq.descs.any fun d => d.ctx == c.val) then
      s.setCtx c.val { x with st := .stopped }
    else s)

/-- The writable bits of a context's configuration registers, by offset. -/
def ctxCfgMask (off : Nat) : Option Nat :=
  if off = Reg.HIF_CTX_FN then some 0x7F03FF
  else if off = Reg.HIF_CTX_PARCELS then some 0xFFF000F
  else if off = Reg.HIF_CTX_RINGS then some 0x1F1F
  else if off = Reg.HIF_CTX_IRQ then some 0x1FF07FF
  else if off = Reg.HIF_CTX_IRQ_US then some 0x3FF
  else if off = Reg.HIF_CTX_JOB_TAG ∨ (off % 4 = 0 ∧ Reg.HIF_CTX_DRING_LO ≤ off ∧ off ≤ Reg.HIF_CTX_FSHADOW_LO + 4) then
    some 0xFFFFFFFF
  else none

/-- A write of a configuration register of the selected context (R214). -/
def State.writeCtxCfg (s : State) (path : Path) (off : Nat) (v : Word) : State :=
  match ctxCfgMask off with
  | none => s
  | some m => s.rwl path off fun s =>
    let c := s.ctxSel path
    if (s.ctx c).st = .free ∨ (s.ctx c).st = .stopped then s.setRdB (entryBank c) off (v &&& BitVec.ofNat 32 m)
    else s.setBit F.HIF_EVENT_CTX_WRITE_DROPPED

/-- CONTEXT_CONFIG_WRITE: off is the register's BAR0 offset. -/
def execContextConfigWrite (path : Path) (off : Nat) (value : Word) (s : State) : Host.Outcome State Fault Refusal :=
  .next (s.writeCtxCfg path off value)

/-! ## Doorbells (R215-R217) -/

/-- The context of a function's doorbell slot. -/
def State.ctxOfSlot (s : State) (fn slot : Nat) : Option Nat :=
  (s.host.ctxs.find? fun e => decide (e.2.st ≠ .free) && s.ctxFn e.1 == fn
    && s.fldB (entryBank e.1) F.HIF_CTX_FN_SLOT == slot).map (·.1)

/-- A doorbell-page write that is discarded. -/
def State.dbBad (s : State) : State := s.addSat F.HIF_DB_BAD_COUNT

/-- A doorbell-page word for a slot: discarded where the function is disabled, where it is not a whole word, where no
context has the slot, or where the word breaks its form; else its position. -/
def State.dbWord (s : State) (fn slot w : Nat) (whole : Bool) (size : Nat → Nat) (k : Nat → Nat → State) : State :=
  if !(s.fn fn).enabled then s
  else match s.ctxOfSlot fn slot with
    | none => s.dbBad
    | some c =>
      if !whole ∨ w / 2 ^ 20 ≠ 0 ∨ w % 65536 ≥ size c then s.dbBad
      else k c (w / 65536 % 16 * size c + w % 65536)

/-- DOORBELL: a descriptor doorbell word (R216, R217); whole says that it is one aligned word with all byte enables. -/
def execDoorbell (fn : Fin 1024) (slot : Fin 128) (w : Word) (whole : Bool) (s : State) :
    Host.Outcome State Fault Refusal :=
  .next (s.dbWord fn.val slot.val w.toNat whole s.dringSize fun c p =>
    let size := s.dringSize c
    let m := 16 * size
    let x := s.ctx c
    let e := (p + m - x.db % m) % m
    if e = 0 then s
    else if e ≥ m / 2 then s.addSat F.HIF_DB_STALE_COUNT
    else if (p + m - x.fetch % m) % m > size then
      s.stopWith c Status.BAD_DESCRIPTOR (w.toNat % 65536) F.HIF_EVENT_RING_OVERFLOW
    else (s.setCtx c { x with db := p }).doorbellWake (s.ctxHome c))

/-- COMPLETION_HEAD: a completion-head word, against the last head and the record position (R216). -/
def execCompletionHead (fn : Fin 1024) (slot : Fin 128) (w : Word) (whole : Bool) (s : State) :
    Host.Outcome State Fault Refusal :=
  .next (s.dbWord fn.val slot.val w.toNat whole s.cringSize fun c p =>
    let m := 16 * s.cringSize c
    let x := s.ctx c
    let e := (p + m - x.head % m) % m
    if e = 0 then s
    else if e ≥ m / 2 then s.addSat F.HIF_DB_STALE_COUNT
    else if e > (x.recPos + m - x.head % m) % m then s.dbBad
    else (s.setCtx c { x with head := p }).flushHeld c)

/-! ## Fetching (R74, R210, R217-R219) -/

/-- How many descriptors the next read may take: up to 64, to the ring's end, to the doorbell, into the free entries of
the completion ring. -/
def State.fetchCount (s : State) (c : Nat) : Nat :=
  let x := s.ctx c
  let size := s.dringSize c
  let m := 16 * size
  min (min 64 (size - x.fetch % size)) (min ((x.db + m - x.fetch % m) % m) (s.cringSize c - s.ringUse c))

/-- A fetch fails: the context stops with a record of the first unfetched index (R217). -/
def State.fetchFails (s : State) (c n : Nat) : State :=
  let x := s.ctx c
  (s.setCtx c { x with fetching := none, reserved := x.reserved - n }).stopWith c Status.ACCESS_VIOLATION
    (x.fetch % s.dringSize c) F.HIF_EVENT_FETCH_FAILED

/-- DESCRIPTOR_FETCH: the home sequencer reads what it may of the ring; refused says that the translation is refused. -/
def execDescriptorFetch (c : Fin 4096) (refused : Bool) (s : State) : Host.Outcome State Fault Refusal :=
  .next (let x := s.ctx c.val
    let fn := s.ctxFn c.val
    let n := s.fetchCount c.val
    if x.st ≠ .running ∨ x.fetching.isSome ∨ n = 0 ∨ s.safe ∨ !(s.fn fn).enabled ∨ !s.fetches (s.ctxHome c.val) then s
    else if s.hostWaits fn then s.bmeWaits fn
    else
      let addr := s.ctxAddr c.val Reg.HIF_CTX_DRING_LO + 64 * (x.fetch % s.dringSize c.val)
      if refused then (s.recordHost 5 fn addr).fetchFails c.val 0
      else
        let s1 := s.setCtx c.val { x with fetching := some s.host.nextRead, reserved := x.reserved + n }
        s1.hostReadFor fn addr (64 * n) (.fetch c.val x.fetch n))

/-- The parts of a valid descriptor (R47, R75): one per parcel of the mask; a COPY without REPL one per parcel of its
split side, admitted at the mask's parcel. A part for a parcel that does not exist, or that is fenced, has ended. -/
def State.partsOf (s : State) (d : Desc) : List Part :=
  let mask := setBits d.mask 12
  let mk (adm n : Nat) : Part :=
    { parcel := n, adm := adm, markErr := d.waitEn && ((s.mark n d.ctx d.waitMark).getD {}).error
      st := if n ≥ 12 then .ended Status.ACCESS_VIOLATION
            else if !s.inService n || !s.inService adm then .ended Status.FENCED else .held }
  if d.opcode = 0x20 ∧ !d.repl then
    let adm := mask.headD 0
    (copyOp d adm).parcels.map (mk adm)
  else mask.map fun n => mk n n

/-- One fetched descriptor joins the sequencers: validated, and delivered to its parcels (R74). -/
def State.accept (s : State) (c index : Nat) (raw : BitVec 512) : State :=
  let d : Desc := { id := s.seq.nextId, ctx := c, index := index, raw := raw }
  let ok := d.valid (s.ctxMask c) fun n => match s.gwBind (bindKey n c) with | some b => b.bound | none => false
  let d1 := if ok then { d with parts := s.partsOf d } else { d with invalid := true }
  { s with seq := { s.seq with nextId := s.seq.nextId + 1, descs := s.seq.descs ++ [d1] } }

/-- The data of a descriptor read: the fetch position and shadow advance, and every descriptor is accepted. -/
def State.fetchDone (s : State) (c pos n : Nat) (bytes : List Byte) : State :=
  let size := s.dringSize c
  let next := (pos + n) % (16 * size)
  let s1 := s.setCtx c { s.ctx c with fetch := next, fetching := none }
  let s2 := s1.emit (.hostWrite (s.ctxFn c) (s.ctxAddr c Reg.HIF_CTX_FSHADOW_LO) (leBytes 4 (posWord size next)))
  let s3 := (List.range n).foldl (fun s i =>
    s.accept c ((pos + i) % size) (BitVec.ofNat 512 (leAt bytes (64 * i) 64))) s2
  s3.collSweep

/-- Take an outstanding host read off the list. -/
def State.takeRead (s : State) (id : Nat) : State :=
  { s with host := { s.host with reads := s.host.reads.filter fun r => !(r.id == id) } }

/-- FETCH_COMPLETE: the descriptor read of a context returns its data. -/
def execFetchComplete (c : Fin 4096) (bytes : List Byte) (s : State) : Host.Outcome State Fault Refusal :=
  .next (match (s.ctx c.val).fetching with
    | none => s
    | some id =>
      match s.host.reads.find? fun r => r.id == id with
      | some r =>
        match r.why with
        | .fetch c' pos n => (s.takeRead id).fetchDone c' pos n bytes
        | _ => s
      | none => s)

/-! ## Disabling a function (R222-R224) -/

/-- A function's VF enables cover it. -/
def State.vfCovers (s : State) (fn : Nat) : Bool := fn == 0 || (s.host.vfEnable && decide (fn ≤ s.host.numVfs))

/-- Steps 1-3 of Table 7: the function is disabled, its outstanding reads are discarded, its messages held back, and its
descriptors that have not started end FUNCTION_DISABLED. flr: by an FLR. -/
def State.disableFn (s : State) (fn : Nat) (flr byBme : Bool) : State :=
  let v := s.fn fn
  if !v.enabled then
    if v.disabling.isSome ∧ flr then s.setFn fn { v with disabling := some true } else s
  else
    let s1 := s.setFn fn { v with enabled := false, disabling := some flr, bmeDeadline := none, byBme := byBme }
    let s2 := { s1 with host := { s1.host with reads := s1.host.reads.filter fun r => !(r.fn == fn) } }
    let s3 := s2.endParts (fun d p => s.ctxFn d.ctx == fn && decide (p.st ≠ .running)) Status.FUNCTION_DISABLED
    if fn = 0 then s3.fwuReadLost else s3

/-- FLR: of PF0 it disables every function. -/
def execFlr (fn : Fin 1024) (s : State) : Host.Outcome State Fault Refusal :=
  .next (let l := if fn.val = 0 then 0 :: (s.host.fns.map (·.1)).filter (· ≠ 0) else [fn.val]
    l.foldl (fun s f => s.disableFn f true false) s)

/-- The signals of a disabled function's descriptors are applied with ERROR set, remote ones included (R222). -/
def State.signalGone (s : State) (d : Desc) : State :=
  if !d.sigEn || d.dropped || d.sigTxn.isSome || d.sigAns.isSome then s
  else if d.sigRemote then if d.spec then s else s.sendAny (s.signalPacket d true)
  else s.updMark (d.sigStation / 16) d.ctx d.sigMark (·.signal d.sigInc true)

/-- A function's Ethernet queues stop. -/
def State.stopQueues (s : State) (fn : Nat) : State :=
  (List.range 2).foldl (fun s e => (List.range 128).foldl (fun s q =>
    if s.qState e q ≠ 0 ∧ s.ctxFn (s.qCtx e q) = fn then s.disableQueue e q else s) s) s

/-- A function's MSI-X table and pending bits as after reset. -/
def State.resetMsix (s : State) (fn : Nat) : State :=
  let mine (e : Nat × BitVec 32) : Bool :=
    e.1 / 2 ^ 26 == entryBank fn && decide (0x180000 ≤ e.1 % 2 ^ 26 ∧ e.1 % 2 ^ 26 < 0x188000)
  let s1 := { s with regs := s.regs.filter fun e => !mine e }
  { s1 with host := { s1.host with msixPending := s1.host.msixPending.filter fun k => !(k / 2048 == fn) } }

/-- FUNCTION_DISABLE_DONE: steps 4-6 of Table 7, and the enabling that R223 gives at step 6. -/
def execFunctionDisableDone (fn : Fin 1024) (s : State) : Host.Outcome State Fault Refusal :=
  .next (let f := fn.val
    let v := s.fn f
    match v.disabling with
    | none => s
    | some flr =>
      let s1 := s.mapParts fun d p => if s.ctxFn d.ctx = f then p.fail Status.FUNCTION_DISABLED else p
      let s2 := s1.collSweep
      let mine := s2.seq.descs.filter fun d => s.ctxFn d.ctx == f
      let s3 := mine.foldl State.signalGone s2
      let s4 := { s3 with seq := { s3.seq with
        descs := s3.seq.descs.filter fun d => !(s.ctxFn d.ctx == f)
        reqs := s3.seq.reqs.filter fun r => !(mine.any fun d => d.id == r.desc && r.packet.ptype != 0x03)
        fxNext := s3.seq.fxNext.filter fun e => !(mine.any fun d => d.id == e.1 / 16)
        fxStatus := s3.seq.fxStatus.filter fun e => !(mine.any fun d => d.id == e.1 / 16) } }
      let s5 := (s4.stopQueues f).gwDisable f
      let ctxs := amMap (fun c x => if x.st ≠ .free ∧ s.ctxFn c = f then { st := .stopped } else x) s5.host.ctxs
      let s6 := { s5 with host := { s5.host with ctxs := ctxs } }
      let s7 := s6.resetMsix f
      let bme := if flr then false else v.bme
      let on := if flr then s7.vfCovers f else if v.byBme then bme && s7.vfCovers f else s7.vfCovers f
      let s8 := s7.setFn f { enabled := on, bme := bme, byBme := v.byBme && !flr && !on }
      if flr then s8.emit (.flrDone f) else s8)

/-- BME_CLEAR. -/
def execBmeClear (fn : Fin 1024) (s : State) : Host.Outcome State Fault Refusal :=
  .next (s.setFn fn.val { s.fn fn.val with bme := false })

/-- What waited for a function's Bus Master Enable goes out: records, then messages that are not masked. -/
def State.bmeFlush (s : State) (fn : Nat) : State :=
  let cs := (s.host.ctxs.filter fun e => s.ctxFn e.1 == fn).map (·.1)
  let s0 := cs.foldl (fun s c => s.flushRecords c) s
  let s1 := if fn = 0 then s0.fwuIssue else s0
  let due := s1.host.msixPending.filter fun k => k / 2048 == fn && !s1.vecMasked fn (k % 2048)
  due.foldl (fun s k =>
    ({ s with host := { s.host with msixPending := setDel s.host.msixPending k } }).emit (.msix fn (k % 2048))) s1

/-- BME_SET: the limit's count stops; a function disabled under R224 is enabled again, not before step 6. -/
def execBmeSet (fn : Fin 1024) (s : State) : Host.Outcome State Fault Refusal :=
  .next (let v := s.fn fn.val
    let again := v.byBme && v.disabling.isNone
    let s1 := s.setFn fn.val { v with
      bme := true, bmeDeadline := none, enabled := v.enabled || again, byBme := v.byBme && !again }
    if v.enabled then s1.bmeFlush fn.val else s1)

/-- BME_LIMIT_EXPIRY: the function is disabled (R224). -/
def execBmeLimitExpiry (fn : Fin 1024) (s : State) : Host.Outcome State Fault Refusal :=
  .next (s.atDeadline (s.fn fn.val).bmeDeadline fun s => s.disableFn fn.val false true)

/-- VF_DISABLE: VF Enable and NumVFs as now written; functions they no longer cover are disabled. -/
def execVfDisable (vfEnable : Bool) (numVfs : Fin 1024) (s : State) : Host.Outcome State Fault Refusal :=
  .next (let s1 := { s with host := { s.host with vfEnable := vfEnable, numVfs := numVfs.val } }
    (s1.host.fns.map (·.1)).foldl (fun s f => if s.vfCovers f then s else s.disableFn f false false) s1)

/-- VF_ENABLE: VF Enable is set with NumVFs; the VFs it covers are enabled, one in a disable not before step 6. -/
def execVfEnable (numVfs : Fin 1024) (s : State) : Host.Outcome State Fault Refusal :=
  .next (let s1 := { s with host := { s.host with vfEnable := true, numVfs := numVfs.val } }
    ((List.range numVfs.val).map (· + 1)).foldl (fun s f =>
      let v := s.fn f
      if v.enabled ∨ v.disabling.isSome ∨ v.byBme then s else s.setFn f { v with enabled := true }) s1)

/-! ## The error record, the aperture, invalidations and the link -/

/-- HIF_ERR_CLR (R238). -/
def State.clearHostErr (s : State) : State := (s.setRd Reg.HIF_ERR_INFO 0).setRd64 Reg.HIF_ERR_ADDR_LO 0
def execHifErrClr (path : Path) (value : Word) (s : State) : Host.Outcome State Fault Refusal :=
  .next (s.rwl path Reg.HIF_ERR_CLR fun s => if bitAt value.toNat 0 then s.clearHostErr else s)

/-- BAR0_BAD_ACCESS (R493): counted and recorded; a read returns zeros. off is the offset of its first byte. -/
def execBar0BadAccess (fn : Fin 1024) (off : Nat) (len : Nat) (isRead : Bool) (s : State) :
    Host.Outcome State Fault Refusal :=
  .next (let s1 := (s.addSat F.HIF_BAR0_BAD_COUNT).recordHost 7 fn.val off
    if isRead then s1.emit (.readData .pf0 (List.replicate len 0#8) false) else s1)

/-- The bytes of an aperture read: those of a bad word read as 0 (R208). -/
def State.apertureBytes (s : State) (a len : Nat) : List Byte :=
  (List.range len).map fun i => if s.poisonedIn (a + i) 1 then 0#8 else (s.holdGet (a + i) 1).headD 0#8

/-- APERTURE_ACCESS (R208): a read of len bytes, or a write of data, at a BAR4 offset. -/
def execApertureAccess (off len : Nat) (data : Option (List Byte)) (errs : List WordErr) (s : State) :
    Host.Outcome State Fault Refusal :=
  .next (let a := s.fld F.HIF_CFG_APERTURE_PARCEL * 2 ^ 28 + off % 2 ^ 28
    let pf0 : Who := { fn := 0 }
    let zeros (s : State) : State := s.emit (.readData .pf0 (List.replicate len 0#8) false)
    let refuse (s : State) : State := (s.addSat F.HIF_AP_REFUSED_COUNT).recordHost 6 0 off
    match data with
    | none =>
      if s.fld F.HIF_CFG_BAR4_EN = 0 then zeros s
      else if !s.mayRead pf0 a len then zeros (refuse s)
      else if s.clearingIn a len then s
      else
        let (clean, s1) := s.readClean errs a len 2 0 none
        let s2 := if clean then s1 else s1.recordHost 8 0 off
        s2.emit (.readData .pf0 (s1.apertureBytes a len) (!clean))
    | some b =>
      if s.fld F.HIF_CFG_BAR4_EN = 0 then s
      else if !s.mayWrite pf0 a b.length then refuse s
      else if s.clearingIn a b.length then s
      else
        let (ok, s1) := s.holdPut a b
        if ok then s1 else s.recordHost 8 0 off)

/-- ATS_INVALIDATE (R210): the Invalidate Completion leaves once the requests that use the translations are done. -/
def execAtsInvalidate (tag : Nat) (users : List Nat) (s : State) : Host.Outcome State Fault Refusal :=
  .next (if s.host.reads.any fun r => users.contains r.id then s else s.emit (.atsComplete tag))

/-- HOST_LINK_TRAINING (R206): x16 or x8 at a speed; a narrower link is held in Detect, with an event on source 56. -/
def execHostLinkTraining (width speed : Nat) (flit : Bool) (s : State) : Host.Outcome State Fault Refusal :=
  .next (if width = 16 ∨ width = 8 then
      ((s.setFld F.HIF_LINK_WIDTH width).setFld F.HIF_LINK_SPEED speed).setFld F.HIF_LINK_FLIT (b2n flit)
    else (s.setRd Reg.HIF_LINK 0).raise 56 0 0 none)

/-- AER_UNCORRECTABLE (R206): an event on source 56. -/
def execAerUncorrectable (s : State) : Host.Outcome State Fault Refusal := .next (s.raise 56 0 1 none)

end Sys2Proof.Machine
end

