-- ==== Sys2Proof/Machine/Power.lean ====
section
/-! DEFINITION. Power states (15_power_states): the commands, the entry handshake, the commit, the save image, the wake
and the pads. -/

namespace Sys2Proof.Machine

/-! ## Commands (R358) -/

/-- A command that is refused, and one that is done at once. -/
def State.pwrRefuse (s : State) (path : Path) (cause : Nat) : State :=
  (s.setRdB (pathNo path) Reg.PWR_RESULT (BitVec.ofNat 32 (3 + 65536 * cause))).setBit F.PWR_EVENT_ENTRY_REFUSED

/-- The instances of a block of Table 3: the parcels, or one. -/
def entryInstances (b : Nat) : List Nat := if b = 1 ∨ b = 4 ∨ b = 7 ∨ b = 8 then List.range 12 else [0]

/-- The entry handshake begins. -/
def State.beginEntry (s : State) (path : Path) (target : Nat) : State :=
  let limit := some (s.mclk + max 1 (s.fld F.PWR_ENTRY_LIMIT_MS) * perMs)
  let s1 := { s with pwr := { path := some path, target := target, block := 1, asked := entryInstances 1, limit := limit } }
  (s1.setBit F.PWR_STATUS_BUSY).pwrResult 2 0 0 0

/-- A write of PWR_CMD.TARGET, under the RWL rule. -/
def State.pwrCommand (s : State) (path : Path) (target : Nat) : State :=
  s.rwl path Reg.PWR_CMD fun s =>
    let st := s.fld F.PWR_STATUS_STATE
    if s.safe then s.pwrRefuse path 6
    else if s.fld F.PWR_STATUS_BUSY = 1 then s.pwrRefuse path 0
    else if target = st then s.setRdB (pathNo path) Reg.PWR_RESULT 1#32
    else if st = 2 ∧ target = 1 then s.pwrRefuse path 7
    else if target = 0 then
      let s1 := { s with pwr := { s.pwr with path := some path } }
      (s1.pwrResult 2 0 0 0).beginWake 1
    else s.beginEntry path target

/-- UNDERWAY. -/
def execUnderway (path : Path) (s : State) : Host.Outcome State Fault Refusal := .next (s.pwrCommand path 0)
/-- MOORED. -/
def execMoored (path : Path) (s : State) : Host.Outcome State Fault Refusal := .next (s.pwrCommand path 1)
/-- LAID_UP. -/
def execLaidUp (path : Path) (s : State) : Host.Outcome State Fault Refusal := .next (s.pwrCommand path 2)
/-- OFF. -/
def execPwrOff (path : Path) (s : State) : Host.Outcome State Fault Refusal := .next (s.pwrCommand path 3)

/-! ## Answers (R359, R360, Table 3) -/

/-- What a block answers. -/
inductive EntryAnswer where
  | grant
  | busy
  | refuse (cause : Nat)
  deriving DecidableEq, Repr

/-- The length of the save image (R362). -/
def State.imageBytes (s : State) : Nat :=
  let held (k : Nat) : Bool := (List.range 32).any fun m => let x := s.markAt k m; x.error || x.count != 0
  12352 + 128 * s.gw.reqs.length + 32 * s.gw.binds.length + 136 * (s.seq.sets.filter fun e => held e.1).length

/-- GWY of a parcel. -/
def State.gwyAnswer (s : State) (n : Nat) : EntryAnswer :=
  let reqs := (s.gw.reqs.filter fun e => e.1 / 64 == n).map (·.2)
  let binds := (s.gw.binds.filter fun e => e.1 / 4096 == n).map (·.2)
  if (reqs.any fun r => r.openEpoch != 0) || (binds.any fun b => b.openEpoch != 0) then .refuse 1
  else if reqs.any fun r => !r.buf.isEmpty then .refuse 2
  else if reqs.any GwReq.waitsAny then .busy
  else .grant

/-- SEQ of a parcel: nothing in flight, no fetch and no record or message under way; a LOAD or a run is work (R425). -/
def State.seqAnswer (s : State) (n : Nat) (transfer : Bool) : EntryAnswer :=
  let fetching := s.host.ctxs.any fun e => e.2.fetching.isSome && s.ctxHome e.1 == n
  if transfer || s.inFlight n != 0 || fetching || s.bru.bench.contains n then .busy else .grant

/-- The parcel's stack is in training. -/
def State.stackTraining (s : State) (n : Nat) : Bool :=
  s.bru.training.contains (if s.fuses.stackCount = 12 then n else n / 2)

/-- What instance n of block b answers; transfer says that the block has a transfer in flight that no state of this
model holds. -/
def State.entryAnswer (s : State) (b n : Nat) (transfer : Bool) : EntryAnswer :=
  let t := s.pwr.target
  let ps := s.parcelState n
  let perParcel := b == 1 || b == 4 || b == 7 || b == 8
  if perParcel && (ps == 6 || !s.logicUp) then .grant
  else if perParcel && ps != 0 then .busy
  else match b with
    | 1 => s.gwyAnswer n
    | 2 => if t ≥ 2 ∧ s.rcv.binds.any (fun e => decide (e.2.st = .reliefArmed ∨ e.2.st = .activeArmed)) then .refuse 3
           else .grant
    | 3 =>
      let on (st : Nat) : Bool := (List.range 2).any fun e => (List.range 128).any fun q => s.qState e q == st
      if t = 1 then (if transfer then .busy else .grant)
      else if on 1 then .refuse 4
      else if on 2 ∨ transfer then .busy else .grant
    | 4 => s.seqAnswer n transfer
    | 5 => if s.seq.descs.any fun d => d.opcode == 0x61 && d.parts.any fun p => decide (p.st = .running) then .busy
           else .grant
    | 6 => if transfer then .busy else .grant
    | 7 => if t ≠ 1 ∧ (transfer ∨ s.stackTraining n) then .busy else .grant
    | 8 => if t = 3 ∧ (List.range 96).any (fun p => s.plotClearing (128 * n + p)) then .busy else .grant
    | 9 => if t = 3 ∧ (transfer ∨ s.nv.compacting) then .busy else .grant
    | _ => if t = 2 ∧ s.imageBytes > 65536 then .refuse 5 else .grant

/-- Every instance of the block asked has granted: the next block is asked. -/
def PwrSt.advance (p : PwrSt) : PwrSt :=
  if p.asked.isEmpty ∧ p.busy.isEmpty then { p with block := p.block + 1, asked := entryInstances (p.block + 1) } else p

/-- ENTRY_ANSWER: instance n of the block now asked answers. -/
def execEntryAnswer (block : Fin 11) (n : Parcel) (transfer : Bool) (s : State) : Host.Outcome State Fault Refusal :=
  .next (let p := s.pwr
    let b := block.val
    if p.block ≠ b ∨ !p.asked.contains n.val ∨ b = 0 then s
    else
      let p1 := { p with asked := setDel p.asked n.val, answered := setIns p.answered (16 * b + n.val) }
      match s.entryAnswer b n.val transfer with
      | .grant => { s with pwr := p1.advance }
      | .busy => { s with pwr := { p1 with busy := amSet p1.busy n.val (s.mclk + 10 * perUs), lastBusy := 16 * b + n.val } }
      | .refuse c => ((s.pwrResult 3 b n.val c).setBit F.PWR_EVENT_ENTRY_REFUSED).pwrIdle)

/-- ENTRY_REASK: 10 us after its BUSY the instance is asked again. -/
def execEntryReask (n : Parcel) (s : State) : Host.Outcome State Fault Refusal :=
  .next (s.atDeadline (amGet s.pwr.busy n.val) fun s =>
    { s with pwr := { s.pwr with busy := amDel s.pwr.busy n.val, asked := setIns s.pwr.asked n.val } })

/-- ENTRY_TIMEOUT: PWR_ENTRY_LIMIT.MS has passed without every grant. -/
def execEntryTimeout (s : State) : Host.Outcome State Fault Refusal :=
  .next (if s.pwr.block = 0 ∨ s.pwr.block = 11 then s
    else s.atDeadline s.pwr.limit fun s =>
      ((s.pwrResult 4 (s.pwr.lastBusy / 16) (s.pwr.lastBusy % 16) 0).setBit F.PWR_EVENT_ENTRY_TIMEOUT).pwrIdle)

/-! ## The commit point (R361, R362, R370) -/

/-- The block of a parcel register, its offset in the block, and whether it is one (the hold's registers are not). -/
def parcelBlock (o : Nat) : Nat := o % 0x100000 / 0x10000
def isParcelReg (o : Nat) : Bool := decide (0x1000000 ≤ o ∧ o < 0x1C00000) && parcelBlock o != 1

/-- Registers of a parcel's blocks that no power state and no wake changes: what the floor plan gives (MT, VU), the
tracts, the training tags and the channels marked failed (R188, R193, R194). -/
def retainedReg (o : Nat) : Bool :=
  let r := o % 0x10000
  match parcelBlock o with
  | 2 => r == 0 || r == 8 || r == 0xC
  | 3 => r == 0
  | 6 => r == 4 || decide (0x100 ≤ r)
  | _ => false

/-- Registers of a parcel's blocks that the save image holds (R362). -/
def imageReg (o : Nat) : Bool :=
  let r := o % 0x10000
  match parcelBlock o with
  | 0 => r == 0x410
  | 2 => r == 0x10 || r == 0x14 || decide (0x20 ≤ r ∧ r < 0x30)
  | 3 => r == 4 || r == 0x20 || r == 0x24
  | 4 => decide (0x18 ≤ r ∧ r < 0x38)
  | 5 => r == 8 || r == 0x18
  | 6 => r == 0xC || decide (0x14 ≤ r ∧ r < 0x24) || r == 0x34
  | 7 => r == 4 || r == 8 || decide (0x20 ≤ r ∧ r < 0x28) || decide (0x100 ≤ r)
  | _ => false

/-- The setpoint of the VDD_HOLD rails (Table 6). -/
def State.setHoldRails (s : State) (mv : Nat → Nat) : State :=
  [4, 5, 6, 7].foldl (fun t k => t.setFld (F.TOL_RAIL_V_SET_MV k) (mv k)) s

/-- What every entry does to the parcels' bells (R391). -/
def State.stopBells (s : State) : State := (List.range 12).foldl State.disarmBells s

/-- Laid-up: the image is written, the rails go to their Laid-up setting, the stacks into self-refresh, the parcels'
switches open; their registers outside the image are at reset, their vector slots FREE. -/
def State.commitLaidUp (s : State) : State :=
  let s1 := ((s.stopBells.setFld F.PWR_IMAGE_BYTES s.imageBytes).setBit F.PWR_IMAGE_VALID).setHoldRails fun _ => 680
  let s2 := s1.dropRegs fun o => isParcelReg o && !imageReg o && !retainedReg o
  let ctl := amMap (fun _ c => { word := c.word, ceSince := c.ceSince, raised := c.raised }) s2.tier.ctl
  let s3 := { s2 with vus := [], kvp := [], tier := { s2.tier with ctl := ctl } }
  ((s3.setFld F.PWR_STATUS_LOGIC_READY 0).setBit F.PWR_STATUS_PADS_HELD).setFld F.PWR_STATUS_STATE 2

/-- Off: the image is zeroed, the report goes out, and every domain but AON is held in reset with FROM_OFF set. -/
def State.commitOff (s : State) : State :=
  let s1 := s.emit (.mgmt (0xF3#8 :: leBytes 4 ((s.rd Reg.PWR_STATUS).toNat ||| 64)))
  let s2 := ({ s1.deviceReset false with hold := [], holdPoison := [] }).setBit F.PWR_STATUS_FROM_OFF
  { s2 with pwr := { off := true } }

/-- ENTRY_COMMIT: the last grant has arrived. -/
def execEntryCommit (s : State) : Host.Outcome State Fault Refusal :=
  .next (if s.pwr.block ≠ 11 then s
    else match s.pwr.target with
      | 1 => ((s.stopBells.setFld F.PWR_STATUS_STATE 1).pwrResult 1 0 0 0).pwrIdle
      | 2 => (s.commitLaidUp.pwrResult 1 0 0 0).pwrIdle
      | _ => s.commitOff)

/-! ## The wake (R363-R368) -/

/-- WAKE_EVENT: 2 a doorbell, 3 a fabric packet, 4 the management port's wake command, for work of parcel n. A doorbell
wakes where the parcel is down or its sequencer has answered an entry; a packet where the parcel is down. -/
def execWakeEvent (cause : Fin 5) (n : Parcel) (s : State) : Host.Outcome State Fault Refusal :=
  .next (match cause.val with
    | 2 => s.doorbellWake n.val
    | 3 => if s.fld F.PWR_STATUS_STATE ≠ 0 then s.wakeEvent 3 else s
    | 4 => s.wakeEvent 4
    | _ => s)

/-- An image whose CRC fails: nothing is restored; slots and bindings are FREE, and every bound mark has its ERROR bit
(R363). -/
def State.imageBad (s : State) : State :=
  let s1 := s.dropRegs fun o => isParcelReg o && !retainedReg o
  let marks := s1.seq.sets.flatMap fun e => (List.range 32).map fun m => (e.1 * 32 + m, ({ error := true } : Mark))
  let s2 := { s1 with gw := {}, seq := { s1.seq with marks := marks } }
  (s2.setBit F.PWR_EVENT_IMAGE_BAD).raise 60 0 0 none

/-- WAKE_STEP: the ready signal of the step before has come, and the next step of Table 5 is done. imageOk says that the
image passes its CRC. -/
def execWakeStep (imageOk : Bool) (s : State) : Host.Outcome State Fault Refusal :=
  .next (let next (s : State) : State := { s with pwr := { s.pwr with wake := s.pwr.wake + 1 } }
    match s.pwr.wake with
    | 2 => next (s.setHoldRails fun k => s.fuses.railMin.getD k 700 + 50)
    | 3 => next s
    | 4 => next s
    | 5 =>
      let s1 := if imageOk ∧ s.fld F.PWR_IMAGE_VALID = 1 then s else s.imageBad
      let s2 := (List.range 12).foldl (fun t n => (t.refreshTiles n).refreshUnits n) s1
      next (s2.setFld F.PWR_IMAGE_VALID 0)
    | 6 => ((((s.setBit F.PWR_STATUS_LOGIC_READY).setFld F.PWR_STATUS_STATE 0).setBit
        F.PWR_STATUS_PADS_HELD).pwrResult 1 0 0 0).pwrIdle
    | _ => s)

/-- WAKE_N is held low from step 1 of the wake until step 6 ends. -/
def State.wakeLow (s : State) : Bool := s.pwr.wake != 0

/-- The pads are released: the stacks leave self-refresh, and the near tiers that were trained and lost no channel are
ready. -/
def State.releasePads (s : State) : State :=
  if s.fld F.PWR_STATUS_LOGIC_READY = 0 then s.setBit F.PWR_EVENT_EARLY_RELEASE
  else if s.fld F.PWR_STATUS_PADS_HELD = 0 then s
  else (List.range 12).foldl (fun t n =>
    if t.fld F.BRU_STATUS_TRAIN = 2 ∧ t.rd (Reg.NT_CH_FAILED n) = 0#32 then t.setBit (F.NT_STATUS_READY n) else t)
    (s.setFld F.PWR_STATUS_PADS_HELD 0)

/-- PAD_RELEASE: a write of PWR_PAD_RELEASE.GO, under the RWL rule. -/
def execPadRelease (path : Path) (value : Word) (s : State) : Host.Outcome State Fault Refusal :=
  .next (s.rwl path Reg.PWR_PAD_RELEASE fun s => if bitAt value.toNat 0 then s.releasePads else s)

/-- PARCEL_DOWN_ACCESS (R364): an access to a register of a parcel whose domain is off, but for its hold: a read returns
0, a write is dropped, and it is counted. -/
def State.downAccess (s : State) : State := (s.addSat F.PWR_DOWN_ACCESS_COUNT).setBit F.PWR_EVENT_DOWN_ACCESS
def execParcelDownAccess (path : Path) (off : Nat) (isRead : Bool) (s : State) : Host.Outcome State Fault Refusal :=
  .next (if s.logicUp ∨ !isParcelReg off then s
    else if isRead then s.downAccess.emit (.readData path (List.replicate 4 0#8) false) else s.downAccess)

end Sys2Proof.Machine
end

