-- ==== Sys2Proof/Machine/Recovery.lean ====
section
/-! DEFINITION. Recovery of a parcel (17_recovery_and_relief R391-R398): bells, fence, parcel reset and return, and the
benchmark run of a parcel (18_bringup R421, R423). -/

namespace Sys2Proof.Machine

/-! ## Bindings that a parcel stands in -/

/-- A binding that is not FREE covers the parcel at this device. -/
def State.coveredBy (s : State) (n : Nat) (e : Nat × BindSt) : Bool :=
  decide (e.2.st ≠ .free) && bitAt (s.bindLocal e.1) n

/-- A binding returns to FREE; its generation stays known (R399). -/
def State.freeBind (s : State) (i : Nat) : State := s.setBind i { bgen := (s.bind i).bgen }

/-- A survey in progress ends with a result (R410), and its asker's command is done. -/
def State.surveyEnds (s : State) (i result : Nat) : State :=
  let b := s.bind i
  match b.surveying with
  | none => s
  | some p =>
    let s1 := (s.setBind i { b with surveying := none }).setRdB (entryBank i) Reg.REC_RLF_SURVEY (BitVec.ofNat 32 result)
    (s1.setFldB (pathNo p) F.REC_RLF_RESULT_CODE 1).setBit F.REC_EVENT_SURVEY_DONE

/-- A takeover fails (R405): the binding is FAILED, and an event is raised on the source of its lowest relief parcel. -/
def State.takeoverFails (s : State) (i : Nat) : State :=
  let b := s.bind i
  let s1 := (s.setBind i { b with st := .failed, step := 0, stepDeadline := none }).setBit F.REC_EVENT_TAKEOVER_FAILED
  s1.raise ((setBits (s.bindLocal i) 12).headD 0) i 0 none

/-- Fence orders whose active parcels are all out of service are answered (R407). -/
def State.answerOrders (s : State) : State :=
  (List.range 16).foldl (fun s i =>
    let b := s.bind i
    let done := (setBits (s.bindLocal i) 12).all fun n => decide (2 ≤ s.parcelState n)
    if b.orders.isEmpty ∨ !done then s
    else b.orders.foldl (fun s p =>
      s.sendAny { p with dst := p.src, src := p.dst, opx := 3, dstCtx := p.srcCtx, srcCtx := BitVec.ofNat 12 i, hops := 0 })
      (s.setBind i { b with orders := [] })) s

/-! ## The bells (R391, R392) -/

/-- A hart's bell expires 10 ms of MCLK after its last ring. -/
def bellMclk : Nat := 2500000

/-- Parcel n's bells may run: it is in service or returning, and its clocks run. -/
def State.bellsRun (s : State) (n : Nat) : Bool :=
  (s.parcelState n == 0 || s.parcelState n == 4) && s.logicUp && s.fld F.PWR_STATUS_STATE == 0

/-- A ring of hart h. -/
def State.ringBell (s : State) (n h : Nat) : State :=
  if s.bellsRun n then
    let s1 := s.setFld (F.REC_BELL_CFG_ARMED n) (setBitsOf (s.fld (F.REC_BELL_CFG_ARMED n)) h h 1)
    { s1 with rcv := { s1.rcv with bells := amSet s1.rcv.bells (4 * n + h) (s.mclk + bellMclk) } }
  else s

/-- BELL_RING (R391): hart h of parcel n writes its own bit; any other ring is ignored. -/
def execBellRing (path : Path) (n : Parcel) (value : Word) (s : State) : Host.Outcome State Fault Refusal :=
  .next (match path with
    | .hart m h => if m = n ∧ bitAt value.toNat h.val then s.ringBell n.val h.val else s
    | _ => s)

/-- The armed bells of a parcel that have expired by now: harts, ascending. -/
def State.expired (s : State) (n : Nat) : List Nat :=
  (List.range 4).filter fun h => match amGet s.rcv.bells (4 * n + h) with
    | some t => decide (t ≤ s.mclk)
    | none => false

/-- The bells of some harts are disarmed, and the harts are HUNG. -/
def State.hangHarts (s : State) (n : Nat) (harts : List Nat) : State :=
  let m := maskOf harts
  let s1 := (s.setFld (F.REC_BELL_CFG_ARMED n) (s.fld (F.REC_BELL_CFG_ARMED n) &&& (15 - m))).setFld
    (F.REC_PARCEL_STATE_HUNG n) (s.fld (F.REC_PARCEL_STATE_HUNG n) ||| m)
  let s2 := s1.setBit F.REC_EVENT_HANG
  { s2 with rcv := { s2.rcv with bells := harts.foldl (fun b h => amDel b (4 * n + h)) s2.rcv.bells } }

/-- What follows an expiry (R392): a cast-off, a fence and reset, or nothing but the grace timer. -/
def State.bellReaction (s : State) (n : Nat) : State :=
  match s.activeBinding n with
  | some i => (s.beginFence n 3 true true true).castOff i 2
  | none => if s.fld (F.REC_BELL_CFG_AUTO_RESET n) = 1 then s.beginFence n 3 true true false else s.abortBench n

/-- BELL_EXPIRY (R392): the earliest bells of parcel n expire. runs gives, for the expiring harts in order, the descriptor
that each was running. -/
def execBellExpiry (n : Parcel) (runs : List (Option Nat)) (s : State) : Host.Outcome State Fault Refusal :=
  .next (
    let t := ((List.range 4).filterMap fun h => amGet s.rcv.bells (4 * n.val + h)).min?
    s.atDeadline t fun s =>
      let harts := s.expired n.val
      let s1 := s.hangHarts n.val harts
      let r := s1.rt n.val
      let s2 := s1.setRt n.val { r with hung := r.hung ++ (runs.take harts.length).filterMap id }
      let a := ((runs.headD none).bind s2.desc).map fun d => s2.attrOf d Status.HANG
      (s2.raise (24 + n.val) 0 (harts.headD 0) a).bellReaction n.val)

/-! ## Fence and parcel reset (R393-R398) -/

/-- A parcel goes to REPLACE (R398): it holds no binding, and the replace request goes out. -/
def State.replaceParcel (s : State) (n : Nat) : State :=
  let gone := (s.rcv.binds.filter (s.coveredBy n)).map (·.1)
  let s1 := gone.foldl State.freeBind ((s.setFld (F.REC_PARCEL_STATE_STATE n) 6).setBit F.REC_EVENT_REPLACE)
  let s2 := s1.setFld F.REC_STATUS_REPLACE (setBitsOf (s1.fld F.REC_STATUS_REPLACE) n n 1)
  s2.mgmtEvent 0xF2 (leBytes 4 (s2.rd Reg.FCU_SERVICE).toNat ++ leBytes 4 (s2.fld F.REC_STATUS_REPLACE))

/-- Registers of a parcel that keep their value through its reset: what the floor plan gives, tracts and training (R194),
the gangway's (R183), the decoders' tables and tags (R64), the vector slots (R120). -/
def parcelKept (o : Nat) : Bool :=
  let r := o % 0x10000
  retainedReg o || parcelBlock o == 5 || (parcelBlock o == 7 && (r == 4 || r == 8 || decide (0x100 ≤ r)))
    || (parcelBlock o == 3 && decide (0x100 ≤ r))

/-- The parcel's logic is reset (R344, R396). -/
def State.resetLogic (s : State) (n : Nat) : State :=
  let base := 0x1000000 + 0x100000 * n
  let s1 := s.dropRegs fun o => isParcelReg o && decide (base ≤ o ∧ o < base + 0x100000) && !parcelKept o
  let c := s1.nearCtl n
  let s2 := s1.setNearCtl n { word := c.word, ceSince := c.ceSince, raised := c.raised }
  let mine (e : Nat × BitVec 32) : Bool := decide (5 + 4 * n ≤ e.1 / 2 ^ 26 ∧ e.1 / 2 ^ 26 < 9 + 4 * n)
  { s2.setVu n { images := (s2.vu n).images } with
    latches := s2.latches.filter fun e => !mine e
    kvp := amDel s2.kvp n, bru := { s2.bru with code := amDel s2.bru.code n } }

/-- The parcel reset is asserted (step 4 of Table 1), or the parcel goes to REPLACE: of the resets within one hour those
that a self-fence or a bell caused are counted (R398). -/
def State.assertReset (s : State) (n : Nat) : State :=
  let r := s.rt n
  let recent := r.resetTimes.filter fun t => decide (s.mclk < t + 3600000 * perMs)
  let times := if r.selfCaused then recent ++ [s.mclk] else recent
  let s1 := s.setRt n { r with resetTimes := times, toReset := false, selfCaused := false, nearReady := false,
                               imageLoaded := false, running := false, fromReset := true, safeHold := false }
  if r.selfCaused ∧ max 1 (s.fld F.REC_CFG_RESET_LIMIT) ≤ times.length then s1.replaceParcel n
  else ((s1.setFld (F.REC_PARCEL_STATE_STATE n) 3).recordCause 9 n s.fabTime).resetLogic n

/-- A fenced parcel stays FENCED, or is held in CAST. -/
def State.restFenced (s : State) (n : Nat) : State :=
  s.setFld (F.REC_PARCEL_STATE_STATE n) (if (s.rt n).castOff then 5 else 2)

/-- PARCEL_FENCE (R393): REC_PARCEL_CMD FENCE, under the RWL rule. -/
def State.fenceCommand (s : State) (path : Path) (n : Nat) : State :=
  s.rwl path (Reg.REC_PARCEL_CMD n) fun s => s.beginFence n 1 false false false
def execParcelFence (path : Path) (n : Parcel) (s : State) : Host.Outcome State Fault Refusal :=
  .next (s.fenceCommand path n.val)

/-- What a RESET command does (R393, R397, R404): refused in the safe state; a parcel that is FENCED is reset at once; one
in CAST once no binding holds it. -/
def State.resetParcel (s : State) (n : Nat) : State :=
  let st := s.parcelState n
  if s.safe then s
  else if st = 2 then
    (if s.fld (F.REC_PARCEL_STATE_CAUSE n) = 0 then s.setFld (F.REC_PARCEL_STATE_CAUSE n) 1 else s).assertReset n
  else if st = 5 then
    if s.rcv.binds.any (s.coveredBy n) then s
    else (s.setRt n { s.rt n with castOff := false, selfCaused := false }).assertReset n
  else s.beginFence n 1 true false false

/-- PARCEL_RESET (R393): REC_PARCEL_CMD RESET, under the RWL rule. -/
def State.resetCommand (s : State) (path : Path) (n : Nat) : State :=
  s.rwl path (Reg.REC_PARCEL_CMD n) fun s => s.resetParcel n
def execParcelReset (path : Path) (n : Parcel) (s : State) : Host.Outcome State Fault Refusal :=
  .next (s.resetCommand path n.val)

/-- A COPY whose side lies in a parcel's near tier (R203, R395). -/
def Desc.usesNear (d : Desc) (p n : Nat) : Bool :=
  d.opcode == 0x20 &&
    (let c := copyOp d p
     (c.dk == 1 && nearParcel c.dst == n) || (!c.zero && c.sk == 1 && nearParcel c.src == n))

/-- Requests of a parcel that are not answered are given up: their window bytes come back, transfers send nothing more,
and signals that wait are answered FENCED (Table 2). -/
def State.dropRequests (s : State) (n : Nat) : State :=
  let mine := s.seq.reqs.filter fun r => r.parcel == n
  let s1 := mine.foldl (fun s r => s.winGive n r.packet) s
  let descs := s1.seq.descs.map fun d =>
    if mine.any fun r => r.packet.ptype == 0x02 && r.desc == d.id then { d with sigAns := some Status.FENCED } else d
  { s1 with seq := { s1.seq with
      descs := descs
      reqs := s1.seq.reqs.filter fun r => !(r.parcel == n)
      fxNext := s1.seq.fxNext.filter fun e => !(e.1 % 16 == n)
      fxStatus := s1.seq.fxStatus.filter fun e => !(e.1 % 16 == n) } }

/-- Host reads for a parcel are discarded; contexts homed there stop, with their positions kept (R395, R396). -/
def State.stopHome (s : State) (n : Nat) : State :=
  let gone (r : HostRd) : Bool := match r.why with
    | .fetch c _ _ => s.ctxHome c == n
    | .copy p _ => p == n
    | .firmware => false
  let back (c : Nat) : Nat := (s.host.reads.filterMap fun r => match r.why with
    | .fetch c' _ k => if c' = c ∧ gone r then some k else none
    | _ => none).sum
  let ctxs := amMap (fun c x =>
    if s.ctxHome c = n ∧ (x.st = .running ∨ x.st = .stopping) then
      { x with st := .stopped, fetching := none, reserved := x.reserved - back c }
    else x) s.host.ctxs
  { s with host := { s.host with reads := s.host.reads.filter fun r => !gone r, ctxs := ctxs } }

/-- The parcel's engines have stopped: running parts end, with HANG for what a hung hart ran and FENCED for the rest, and
so do other parcels' transfers with its near tier (steps 3 of Tables 1 and 2). -/
def State.stopEngines (s : State) (n : Nat) : State :=
  let hung := (s.rt n).hung
  let s1 := s.mapParts fun d p =>
    if p.parcel = n then p.fail (if hung.contains d.id then Status.HANG else Status.FENCED)
    else if d.usesNear p.parcel n ∧ p.st = .running then p.fail Status.FENCED
    else p
  let s2 := s1.setVu n { s1.vu n with run := none }
  ({ s2 with kvp := amDel s2.kvp n }.setRt n { s2.rt n with hung := [] })

/-- FENCE_COMPLETE (R394 step 4): everything at the parcel has ended. In the safe state no reset follows (R382). -/
def execFenceComplete (n : Parcel) (s : State) : Host.Outcome State Fault Refusal :=
  .next (if s.parcelState n.val ≠ 1 then s
    else
      let s1 := (((s.stopEngines n.val).dropRequests n.val).stopHome n.val).collSweep
      let taking := (s1.rcv.binds.filter fun e => decide (e.2.st = .taking) && bitAt (s1.bindLocal e.1) n.val).map (·.1)
      let s2 := taking.foldl State.takeoverFails (s1.setFld (F.REC_PARCEL_STATE_STATE n.val) 2)
      (if (s2.rt n.val).toReset ∧ !s2.safe then s2.assertReset n.val else s2.restFenced n.val).answerOrders)

/-- PARCEL_RESET_RELEASE (R394 step 5): the reset was held for 64 AOSC and is released; tiles and units show the plan. -/
def execParcelResetRelease (n : Parcel) (s : State) : Host.Outcome State Fault Refusal :=
  .next (if s.parcelState n.val ≠ 3 then s
    else
      let s1 := (s.setFld (F.REC_PARCEL_STATE_STATE n.val) 4).setFld (F.REC_PARCEL_STATE_HUNG n.val) 0
      (s1.refreshTiles n.val).refreshUnits n.val)

/-- SEQ_IMAGE_RELOAD (R394 step 7, R419): the verified copy goes into the returning parcel, and its benchmark run
begins. -/
def execSeqImageReload (n : Parcel) (s : State) : Host.Outcome State Fault Refusal :=
  .next (
    let r := s.rt n.val
    if s.parcelState n.val ≠ 4 ∨ !r.fromReset ∨ !r.nearReady ∨ r.imageLoaded then s
    else match s.bru.copy with
      | none => s
      | some img =>
        let s1 := (s.setRt n.val { r with imageLoaded := true, running := true }).setFld (F.BRU_PARCEL_LOAD n.val) 1
        { s1 with bru := { s1.bru with code := amSet s1.bru.code n.val img } })

/-! ## The benchmark run of a parcel (R421) -/

/-- How a run stands: the first failure, by engine and unit, and the losses so far. -/
structure BenchRes where
  fail : Option (Nat × Nat) := none
  losses : List Loss := []
  deriving DecidableEq, Repr

/-- One tile or unit that failed: withdrawn and recorded lost; too few left in service fail the parcel, and the device is
in degraded operation (R388). -/
def State.benchTile (s : State) (n t : Nat) (x : BenchRes) : State × BenchRes :=
  if x.fail.isSome ∨ !bitAt (s.goodTiles n) t ∨ bitAt (s.withdrawnTiles n) t then (s, x)
  else
    let s1 := s.withdrawTile n t
    let low := decide (s1.tilesInService n < s.fuses.minTiles)
    (if low then s1.degrade F.FCU_SERVICE_TILES (some n) else s1,
      { fail := if low then some (1, t) else none, losses := x.losses ++ [⟨n, 1, t⟩] })
def State.benchUnit (s : State) (n u : Nat) (x : BenchRes) : State × BenchRes :=
  if x.fail.isSome ∨ !(s.unitsInService n).contains u then (s, x)
  else
    let s1 := (s.setFld (F.VU_WITHDRAWN_WD n) (setBitsOf (s.fld (F.VU_WITHDRAWN_WD n)) u u 1)).refreshUnits n
    let low := decide ((s1.unitsInService n).length < 6)
    (if low then s1.degrade F.FCU_SERVICE_VECTOR (some n) else s1,
      { fail := if low then some (3, u) else none, losses := x.losses ++ [⟨n, 2, u⟩] })

/-- An engine of order 2, 3, 6 or 7 of Table 4 that fails the parcel. -/
def BenchRes.engine (x : BenchRes) (found : List (Nat × Nat)) (code : Nat) : BenchRes :=
  match x.fail, found.find? fun e => e.1 == code with
  | none, some e => { x with fail := some e }
  | _, _ => x

/-- The checks of Table 4, in order, with what each finds: bad banks, bad tiles, bad vector units, and other engines that
fail (their code and unit). -/
def State.benchChecks (s : State) (n : Nat) (found : BenchRun) : State × BenchRes :=
  let banks := found.banks.filter fun b => decide (b < 64) && bitAt (s.goodBanks n) b
  let x0 : BenchRes := { fail := banks.head?.map fun b => (7, b), losses := banks.map fun b => ⟨n, 3, b⟩ }
  let x1 := (x0.engine found.engines 6).engine found.engines 2
  let y := found.tiles.foldl (fun y t => State.benchTile y.1 n t y.2) (s, x1)
  let z := found.vus.foldl (fun y u => State.benchUnit y.1 n u y.2) y
  (z.1, (z.2.engine found.engines 4).engine found.engines 5)

/-- The BENCH, ENGINE and UNIT fields of a run that has ended; a lost bank awaits a device reset (R423). -/
def State.benchFields (s : State) (n : Nat) (x : BenchRes) : State :=
  let (e, u) := x.fail.getD (0, 0)
  let s1 := ((s.setFld (F.BRU_PARCEL_BENCH n) (if x.fail.isSome then 2 else 1)).setFld (F.BRU_PARCEL_ENGINE n) e).setFld
    (F.BRU_PARCEL_UNIT n) u
  let s2 := if x.losses.isEmpty then s1 else s1.setBit (F.BRU_PARCEL_FP_PENDING n)
  if x.losses.any (·.what == 3) then s2.setBit F.BRU_STATUS_RESET_NEEDED else s2

/-- A parcel's plan without a loss. -/
def ParcelPlan.lose (p : ParcelPlan) (l : Loss) : ParcelPlan :=
  match l.what with
  | 1 => { p with tiles := setBitsOf p.tiles l.unit l.unit 0 }
  | 2 => { p with vus := setBitsOf p.vus l.unit l.unit 0 }
  | _ => { p with banks := setBitsOf p.banks l.unit l.unit 0 }

/-- The field plan takes losses as one record (R423); nothing is written in the safe state (R425). -/
def State.writeLosses (s : State) (l : List Loss) : State :=
  if l.isEmpty ∨ s.safe then s
  else
    let old (n : Nat) : ParcelPlan := match s.nv.fieldInForce with | some (_, c) => c.plan.getD n {} | none => {}
    s.nvWrite (.plan ((List.range 12).map fun n => (l.filter (·.parcel == n)).foldl ParcelPlan.lose (old n)))

/-- PARCEL_BENCH_DONE (R394 steps 8 and 9, R423): the run of a returning parcel ends. A parcel that passes is in SERVICE,
stays FENCED where the safe state was entered meanwhile, or is held in CAST; one that fails goes to REPLACE. -/
def execParcelBenchDone (n : Parcel) (found : BenchRun) (s : State) : Host.Outcome State Fault Refusal :=
  .next (
    let r := s.rt n.val
    if s.parcelState n.val ≠ 4 ∨ !r.running then s
    else
      let (s1, x) := s.benchChecks n.val found
      let s2 := ((s1.benchFields n.val x).writeLosses x.losses).setRt n.val { r with running := false, fromReset := false }
      if x.fail.isSome then s2.replaceParcel n.val
      else
        let s3 := (s2.addWrap (F.REC_RESETS_COUNT n.val)).setFld (F.TOL_BUCKET_UJ n.val) 0
        if r.safeHold ∨ s.safe ∨ r.castOff then (s3.restFenced n.val).answerOrders
        else ((s3.setFld (F.REC_PARCEL_STATE_STATE n.val) 0).gwReturn n.val).drainNotices)

end Sys2Proof.Machine
end

