-- ==== Sys2Proof/Machine/Bringup.lean ====
section
/-! DEFINITION. Bring-up (18_bringup R412-R427): the commands of BRU_CMD, near-tier training, the link wait, the sequencer
image, the benchmark of the parcels, and readiness. -/

namespace Sys2Proof.Machine

/-! ## Commands (R415) -/

/-- BRU_RESULT of a path: 1 accepted; 2 refused with a cause, which is also an event. -/
def State.bruAccepted (s : State) (path : Path) : State := s.setRdB (pathNo path) Reg.BRU_RESULT 1#32
def State.bruRefused (s : State) (path : Path) (cause : Nat) : State :=
  (s.setRdB (pathNo path) Reg.BRU_RESULT (BitVec.ofNat 32 (2 + 16 * cause))).setBit F.BRU_EVENT_CMD_REFUSED

/-- A command of BRU_CMD, under the RWL rule: refused in the safe state, while a power command is in progress and in any
state but Underway (3), in recovery mode (1, R451), and where its own condition gives a cause. -/
def State.bruCommand (s : State) (path : Path) (cause : State → Nat) (k : State → State) : State :=
  s.rwl path Reg.BRU_CMD fun s =>
    if s.safe ∨ s.fld F.PWR_STATUS_BUSY = 1 ∨ s.fld F.PWR_STATUS_STATE ≠ 0 then s.bruRefused path 3
    else if s.rst.recovery then s.bruRefused path 1
    else if cause s ≠ 0 then s.bruRefused path (cause s)
    else (k s).bruAccepted path

/-- The parcels of a mask. -/
def maskParcels (mask : BitVec 12) : List Nat := setBits mask.toNat 12

/-! ## Training and the link wait (R416, R417) -/

/-- TRAIN: every stack begins to train, and the link wait starts. -/
def State.startTrain (s : State) (path : Path) : State :=
  s.bruCommand path (fun s => if s.fld F.BRU_STATUS_TRAIN ≠ 0 then 4 else 0) fun s =>
    let wait := max 1 (s.fld F.BRU_CFG_LINK_WAIT_MS) * perMs
    let s1 := s.setFld F.BRU_STATUS_TRAIN 1
    { s1 with bru := { s1.bru with training := List.range s.fuses.stackCount, linkWait := some (s.mclk + wait) } }
def execBruTrain (path : Path) (s : State) : Host.Outcome State Fault Refusal := .next (s.startTrain path)

/-- A channel of a stack by the parcel that owns it (R184). -/
def Fuses.channelOf (f : Fuses) (stack c : Nat) : Nat × Nat :=
  if f.stackCount = 12 then (stack, c) else (2 * stack + c / 16, c % 16)

/-- The channels of a stack take their tags, or fail: margins gives the margin of each channel, none for a failure. -/
def State.trainChannels (s : State) (stack temp : Nat) (margins : List (Option Nat)) : State :=
  (margins.mapIdx fun c m => (c, m)).foldl (fun s e =>
    let (n, c) := s.fuses.channelOf stack e.1
    match e.2 with
    | some m => s.setTag n c temp 0 m
    | none => s.failChannel n c) s

/-- STACK_TRAIN_DONE (R416): supported says that the stack is one of R185; tempC is its temperature, and margins gives, for
each of its 32 channels, the margin trained or the failure. The parcels whose channels are all trained are ready; the last
stack ends TRAIN. -/
def execStackTrainDone (stack : Fin 12) (supported : Bool) (tempC : Byte) (margins : Vector (Option Byte) 32) (s : State) :
    Host.Outcome State Fault Refusal :=
  .next (
    let k := stack.val
    if !s.bru.training.contains k then s
    else
      let ps := s.fuses.stackParcels k
      let s1 := if supported then s.trainChannels k tempC.toNat (margins.toList.map fun m => m.map (·.toNat))
        else ps.foldl (fun s n => s.degrade F.FCU_SERVICE_NEAR (some n)) s
      let s2 := { s1 with bru := { s1.bru with training := setDel s1.bru.training k } }
      let s3 := if supported then
          ps.foldl (fun s n => if s.rd (Reg.NT_CH_FAILED n) = 0#32 then s.setBit (F.NT_STATUS_READY n) else s) s2
        else s2
      if s3.bru.training.isEmpty then (s3.setFld F.BRU_STATUS_TRAIN 2).setBit F.BRU_EVENT_TRAIN_DONE else s3)

/-- The ports of BRU_LINK_EXPECT that are not ADMITTED. -/
def State.missingPorts (s : State) : List Nat :=
  (setBits (s.fld F.BRU_LINK_EXPECT_PORTS) 20).filter fun p => decide (p < s.fuses.ports) && s.portState p != 2

/-- LINK_WAIT_EXPIRY (R417): every expected port is ADMITTED, or LINK_WAIT_MS has passed. -/
def execLinkWaitExpiry (s : State) : Host.Outcome State Fault Refusal :=
  .next (s.atDeadline (s.bru.linkWait.map fun t => if s.missingPorts.isEmpty then s.mclk else t) fun s =>
    let s1 := (s.setFld F.BRU_LINK_RESULT_NOPEER (maskOf s.missingPorts)).setBit F.BRU_EVENT_LINKS_DONE
    { s1.setBit F.BRU_READY_LINKS with bru := { s1.bru with linkWait := none } })

/-! ## The sequencer image (R418, R419) -/

/-- The image of the active SEQ slot, cut to its length, with its TARGET_HASH, where it verifies and its header keeps
Table 3. -/
def State.seqImage (s : State) : Option (List Byte × List Byte) :=
  let a := s.actRec.active.getD 1 0
  match s.slotImg 2 a with
  | none => none
  | some i =>
    let len := leAt i.plain 4 4
    if s.verifySlot 2 a ∧ leAt i.plain 0 1 = 1 ∧ 64 ≤ len ∧ len ≤ 262144 ∧ len % 64 = 0 ∧ len ≤ i.plain.length then
      some (i.plain.take len, sliceB i.manifest 20 48)
    else none

/-- The CRC-32 of an image agrees with its header. -/
def imageCrcOk (b : List Byte) : Bool := crc32 (b.drop 64) == leAt b 12 4

/-- A parcel holds a loaded image, and its harts start. -/
def State.loadParcel (s : State) (n : Nat) (img : List Byte) : State :=
  let s1 := (s.setFld (F.BRU_PARCEL_LOAD n) 1).setRt n { s.rt n with imageLoaded := true }
  { s1 with bru := { s1.bru with code := amSet s1.bru.code n img } }

/-- Every parcel of a mask is RETURNING with no image. -/
def State.loadable (s : State) (l : List Nat) : Bool := l.all fun n => s.parcelState n == 4 && !(s.rt n).imageLoaded

/-- LOAD: the image is verified, kept and broadcast; bad gives the parcels whose copy fails its CRC twice. -/
def State.startLoad (s : State) (path : Path) (mask bad : BitVec 12) : State :=
  let l := maskParcels mask
  s.bruCommand path (fun s => if s.loadable l then 0 else 2) fun s =>
    let s0 := s.setBit F.BRU_EVENT_LOAD_DONE
    match s.seqImage with
    | none =>
      let s1 := l.foldl (fun s n => s.setFld (F.BRU_PARCEL_LOAD n) 2) (s0.setFld F.BRU_STATUS_LOAD 3)
      (s1.setBit F.BRU_EVENT_LOAD_FAILED).raise 63 0 0 none
    | some (img, hash) =>
      let s1 := (s0.setFld F.BRU_STATUS_LOAD 2).setFld F.BRU_IMAGE_IMAGE_VER (leAt img 8 4)
      let s2 := { s1 with bru := { s1.bru with copy := some img, copyHash := hash } }
      l.foldl (fun s n => if imageCrcOk img && !bitAt bad.toNat n then s.loadParcel n img
        else s.setFld (F.BRU_PARCEL_LOAD n) 2) s2
def execBruLoad (path : Path) (mask bad : BitVec 12) (s : State) : Host.Outcome State Fault Refusal :=
  .next (s.startLoad path mask bad)

/-! ## The benchmark (R421-R423) -/

/-- BENCH: the runs of the parcels begin. -/
def State.startBench (s : State) (path : Path) (mask : BitVec 12) : State :=
  let l := maskParcels mask
  s.bruCommand path (fun s =>
      if s.fld F.BRU_STATUS_BENCH = 1 then 1
      else if l.all fun n => s.parcelState n == 4 && (s.rt n).imageLoaded then 0 else 2) fun s =>
    let s1 := s.setFld F.BRU_STATUS_BENCH 1
    { s1 with bru := { s1.bru with bench := l } }
def execBruBench (path : Path) (mask : BitVec 12) (s : State) : Host.Outcome State Fault Refusal :=
  .next (s.startBench path mask)

/-- A parcel that a BENCH passes is in SERVICE, with an empty bucket (R319); one that fails is FENCED. -/
def State.benchOutcome (s : State) (n : Nat) (x : BenchRes) : State :=
  let s1 := s.benchFields n x
  if s1.parcelState n ≠ 4 then s1
  else if x.fail.isSome then s1.setFld (F.REC_PARCEL_STATE_STATE n) 2
  else (s1.setFld (F.TOL_BUCKET_UJ n) 0).setFld (F.REC_PARCEL_STATE_STATE n) 0

/-- The device checks of R422: what the reduction and the loopback of each ADMITTED port show. -/
def State.deviceChecks (s : State) (colOk : Bool) (loopFail : BitVec 20) : State :=
  let s1 := if colOk then s.setBit F.BRU_READY_COL_OK else (s.setFld F.BRU_READY_COL_OK 0).raise 59 0 0 none
  let bad := (setBits loopFail.toNat 20).filter fun p => s.portState p == 2
  bad.foldl (fun s p => (s.setFld F.BRU_LOOP_FAIL_PORTS (setBitsOf (s.fld F.BRU_LOOP_FAIL_PORTS) p p 1)).raise
    (36 + p) 0 0 none) s1

/-- BENCH_RUN_DONE (R421-R423): the runs of a BENCH and its device checks have ended; found gives what each parcel's run
finds. The losses go to the field plan as one record. -/
def execBenchRunDone (found : Vector BenchRun 12) (colOk : Bool) (loopFail : BitVec 20) (s : State) :
    Host.Outcome State Fault Refusal :=
  .next (if s.fld F.BRU_STATUS_BENCH ≠ 1 then s
    else
      let run (x : State × List Loss) (n : Nat) : State × List Loss :=
        let (s1, r) := x.1.benchChecks n (found.toList.getD n {})
        (s1.benchOutcome n r, x.2 ++ r.losses)
      let (s1, losses) := s.bru.bench.foldl run (s, [])
      let s2 := (s1.writeLosses losses).deviceChecks colOk loopFail
      let s3 := (s2.setFld F.BRU_STATUS_BENCH 2).setBit F.BRU_EVENT_BENCH_DONE
      { s3 with bru := { s3.bru with bench := [] } })

/-! ## Compute-only reset and restore (R420, R424) -/

/-- A parcel is in a reset: asserted, on its way there, or returning from one. -/
def State.inParcelReset (s : State) (n : Nat) : Bool :=
  let st := s.parcelState n
  st == 3 || ((st == 1 || st == 2) && (s.rt n).toReset) || (st == 4 && (s.rt n).fromReset)

/-- COMPUTE_RESET: a parcel reset with cause COMMAND of every parcel of the mask. -/
def State.computeReset (s : State) (path : Path) (mask : BitVec 12) : State :=
  let l := maskParcels mask
  s.bruCommand path (fun s =>
      if l.any fun n => s.parcelState n == 5 || s.parcelState n == 6 || s.inParcelReset n || s.bru.bench.contains n then 2
      else 0) fun s => l.foldl State.resetParcel s
def execComputeReset (path : Path) (mask : BitVec 12) (s : State) : Host.Outcome State Fault Refusal :=
  .next (s.computeReset path mask)

/-- FP_RESTORE: the field plan is rewritten as all-good; the plan in force stays until the next device reset. -/
def State.restorePlan (s : State) (path : Path) : State :=
  s.bruCommand path (fun s => if s.fld F.BRU_STATUS_BENCH = 1 then 1 else 0) fun s =>
    let old : List ParcelPlan := match s.nv.fieldInForce with | some (_, c) => c.plan | none => []
    let s1 := (List.range 12).foldl (fun s n => if old.getD n {} = ({} : ParcelPlan) then s
      else s.setBit (F.BRU_PARCEL_FP_PENDING n)) s
    s1.nvWrite (.plan (List.replicate 12 {}))
def execFpRestore (path : Path) (s : State) : Host.Outcome State Fault Refusal := .next (s.restorePlan path)

/-- A write of BRU_CMD; 0, 6 and 7 are no commands. -/
def State.writeBruCmd (s : State) (path : Path) (v : Nat) : State :=
  let mask := BitVec.ofNat 12 (bitsOf v 27 16)
  match v % 8 with
  | 1 => s.startTrain path
  | 2 => s.startLoad path mask 0
  | 3 => s.startBench path mask
  | 4 => s.computeReset path mask
  | 5 => s.restorePlan path
  | _ => s.rwl path Reg.BRU_CMD fun s => s

/-! ## Readiness (R426) -/

/-- BRU_READY, each criterion computed continuously (Table 5). -/
def State.bruReady (s : State) : Nat :=
  let l := List.range 12
  let service := l.filter fun n => s.parcelState n == 0
  let compute := s.fld F.BRU_STATUS_BENCH == 2 && l.all fun n => s.parcelState n == 0 || s.parcelState n == 6
  let degraded (n : Nat) : Bool := s.fld F.FCU_SERVICE_NEAR == 1 && bitAt (s.fld F.FCU_SERVICE_PARCELS) n
  let near := s.fld F.BRU_STATUS_TRAIN == 2 && service.all fun n => s.fld (F.NT_STATUS_READY n) == 1 || degraded n
  let far := (List.range s.fuses.cxlPorts).all fun q => s.fld (F.FT_PORT_STATE_STATE q) != 2
  let links := s.fld F.BRU_READY_LINKS == 1
  b2n (compute && near && far && links) + 2 * b2n compute + 4 * b2n near + 8 * b2n far + 16 * b2n links
    + 32 * s.fld F.BRU_READY_COL_OK + 2 ^ 16 * maskOf service

end Sys2Proof.Machine
end

