-- ==== Sys2Proof/Machine/Firmware.lean ====
section
/-! DEFINITION. Firmware update (19_nv_store_and_firmware R432, R439-R452): update packages, the session and its commands,
activation, the confirmation of a boot, compaction of the journal, and power failure. -/

namespace Sys2Proof.Machine

/-! ## The update package (R440-R442) -/

/-- Every byte of a range is 0. -/
def zeroRange (l : List Byte) (o n : Nat) : Bool := (sliceB l o n).all (· == 0#8)

/-- A package: its header and its body. -/
def pkgKind (p : List Byte) : Nat := leAt p 1 1 % 16
def pkgFull (p : List Byte) : Bool := leAt p 2 1 % 2 == 1
def pkgBody (p : List Byte) : List Byte := p.drop 512

/-- The most bytes an image of a kind may have: the slot size less its header; SEQ 262,144; KEYS exactly 148. -/
def imageLenOk (k len : Nat) : Bool :=
  match k with
  | 1 => decide (len ≤ 2 ^ 22 - 512)
  | 2 => decide (len ≤ 262144)
  | 3 => decide (len ≤ 2 ^ 21 - 512)
  | _ => decide (len = 148)

/-- Step 1 of R445: VERSION, KIND, PKG_LEN, BODY_LEN, IMAGE_LEN and the fields that are 0 (Table 6); a KEYS package is
FULL (R442), and in recovery mode every package is, of kinds 1-3 (R451). -/
def headerOk (p : List Byte) (kind len : Nat) (recovery : Bool) : Bool :=
  decide (leAt p 0 1 = 1) && decide (leAt p 1 1 = kind) && decide (leAt p 2 1 < 2) && zeroRange p 3 1
    && decide (leAt p 6 2 = 0) && imageLenOk kind (leAt p 8 4) && decide (leAt p 68 4 = len)
    && decide (leAt p 72 4 + 512 = len) && (!pkgFull p || zeroRange p 104 48) && (kind == 4 || zeroRange p 152 96)
    && zeroRange p 248 168 && (pkgFull p || kind != 4) && (!recovery || (pkgFull p && kind != 4))

/-- The delta stream (R442) from position p on: what it makes of base, in exactly olen bytes, or none for E_DELTA. -/
def deltaAux (d base : List Byte) (olen : Nat) : Nat → Nat → List Byte → Option (List Byte)
  | 0, _, _ => none
  | f + 1, p, out =>
    let o := out.length
    if d.length < p + 4 then none
    else
      let op := leAt d p 1
      let len := leAt d (p + 1) 3
      if op = 0 then (if len = 0 ∧ p + 4 = d.length ∧ o = olen then some out else none)
      else if len = 0 ∨ olen < o + len then none
      else if op = 1 then
        if d.length < p + 8 then none
        else
          let src := leAt d (p + 4) 4
          if base.length < src + len then none
          else deltaAux d base olen f (p + 8) (out ++ sliceB base src len)
      else if op = 2 then
        if d.length < p + 4 + len then none
        else deltaAux d base olen f (p + 4 + len) (out ++ sliceB d (p + 4) len)
      else none
def applyDelta (d base : List Byte) (olen : Nat) : Option (List Byte) := deltaAux d base olen (d.length + 1) 0 []

/-- The staged package: the units received, in order, up to PKG_LEN. -/
def State.stagedPkg (s : State) : List Byte :=
  ((List.range (fwuUnits s.fwu.pkgLen)).flatMap fun u =>
    sliceB ((amGet s.nv.staging u).getD []) 0 65536).take s.fwu.pkgLen

/-- SIG_PKG verifies (R441): under IMG_PUB, and for KEYS under ROOT_PUB, whose hash is the fused root hash; with no key
store in force every package fails (R434). -/
def State.signatureOk (s : State) (p : List Byte) : Bool :=
  match s.keyRec with
  | none => false
  | some k =>
    let keys := pkgKind p == 4
    let pub := if keys then sliceB p 152 96 else k.pub
    (!keys || sha384 pub == s.fuses.rootHash)
      && Config.cryptoOk 3 (pub ++ sliceB p 416 96 ++ sha384 (sliceB p 0 416 ++ pkgBody p))

/-- Why a ROT or KEYS package is refused now (R446): 0 it is not; 1 backup low or unknown; 2 a migration; 3 the lock,
as the record reads once a commit in progress is done. -/
def State.backupLow (s : State) : Bool :=
  s.fld F.MGP_STATUS_BACKUP != 1 || s.mgmt.backupAt.any fun t => decide (t + 2000 * perMs < s.mclk)
def State.migrating (s : State) : Bool := s.rcv.binds.any fun e => decide (e.2.st = .taking)
def State.committedLock (s : State) : Bool :=
  match s.own.busy with
  | some c => (s.own.apply c.code c.claimant).locked
  | none => s.own.locked
def State.privileged (s : State) (kind : Nat) : Nat :=
  if kind < 3 then 0
  else if s.backupLow then 1
  else if s.migrating then 2
  else if s.committedLock then 3
  else 0

/-- The inactive slot of a kind. -/
def State.targetSlot (s : State) (k : Nat) : Nat := 1 - s.actRec.active.getD (k - 1) 0

/-- The plaintext that the delta of a package is applied to: of the kind's active slot, where its hash is BASE_HASH;
empty when FULL. -/
def State.basePlain (s : State) (p : List Byte) : Option (List Byte) :=
  if pkgFull p then some []
  else match s.slotImg (pkgKind p) (s.actRec.active.getD (pkgKind p - 1) 0) with
    | some i => if i.good ∧ sha384 i.plain = sliceB p 104 48 then some i.plain else none
    | none => none

/-- How a check of the staged package ends: the first failure as FWU_RESULT's code with its cause, and whether it came at
step 6 or later; or the output plaintext. -/
inductive PkgCheck where
  | bad (code cause : Nat) (late : Bool)
  | good (out : List Byte)
  deriving DecidableEq, Repr

/-- Steps 6-10 of R445. -/
def State.checkBody (s : State) (p : List Byte) (k : KeyRec) : PkgCheck :=
  let kind := pkgKind p
  let sealed := k.enc ++ sliceB p 76 28 ++ sliceB p 0 76 ++ pkgBody p
  if !Config.cryptoOk 4 sealed then .bad 11 0 true
  else match s.basePlain p with
    | none => .bad 12 0 true
    | some base =>
      match applyDelta (sliceB (Config.crypto 4 sealed) 0 (leAt p 72 4)) base (leAt p 8 4) with
      | none => .bad 13 0 true
      | some out =>
        if sha384 out ≠ sliceB p 20 48 then .bad 14 0 true
        else if kind = 4 ∧ ((List.range 4).any (fun i => decide (leAt out (128 + 4 * i) 4 < k.floors.getD i 0))
            ∨ leAt out 144 4 ≠ leAt p 16 4) then .bad 9 0 true
        else .good out

/-- Steps 1-10 of R445, in order. -/
def State.checkPkg (s : State) (kind : Nat) : PkgCheck :=
  let p := s.stagedPkg
  let k := s.keyRec.getD {}
  let svn := leAt p 16 4
  if !headerOk p kind s.fwu.pkgLen s.rst.recovery then .bad 6 0 false
  else if leAt p 4 2 % 4096 ≠ 0x412 ∨ s.fuses.step < leAt p 4 2 / 4096 then .bad 7 0 false
  else if !s.signatureOk p then .bad 8 0 false
  else if svn < k.floors.getD (kind - 1) 0 ∨ (kind = 4 ∧ svn ≤ k.ver) then .bad 9 0 false
  else if s.privileged kind ≠ 0 then .bad 10 (s.privileged kind) false
  else s.checkBody p k

/-! ## The session (R443) -/

/-- A write to the update registers takes effect for the owner and device firmware, whatever the lock holds; any other
is counted under R229. -/
def State.fwuAllowed (s : State) (path : Path) : Bool := pathClaimant path == 0 || pathClaimant path == s.own.owner
def State.fwuBy (s : State) (path : Path) (off : Nat) (k : State → State) : State :=
  if s.fwuAllowed path then k s else s.violation path off

/-- FWU_STATUS.STATE: 0 IDLE, 1 RECEIVING, 2 VERIFYING, 3 READY, 4 SCHEDULED; and setting it. -/
def State.fwuState (s : State) : Nat := s.fld F.FWU_STATUS_STATE
def State.setFwuState (s : State) (st : Nat) : State := s.setFld F.FWU_STATUS_STATE st
def State.fwuKind (s : State) : Nat := s.fld F.FWU_STATUS_KIND

/-- Write the SESSION record, and delete it with the session. -/
def State.saveSession (s : State) : State :=
  s.nvWrite (.record ⟨1, 0, sessionWords s.fwuKind s.fwu.pkgLen s.fwuState s.rcvdUnits⟩)
def State.endSession (s : State) : State := (s.nvWrite (.record ⟨4, 0, [1]⟩)).setFwuState 0

/-- A command of FWU_CMD, from the states where it is accepted. -/
def State.fwuCommand (s : State) (path : Path) (ok : State → Bool) (k : State → State) : State :=
  s.fwuBy path Reg.FWU_CMD fun s => if ok s then k s else s.fwuResult path 3

/-- BEGIN of a package of len bytes. -/
def State.fwuBegin (s : State) (path : Path) (kind len : Nat) : State :=
  s.fwuCommand path (fun s => s.fwuState == 0 && decide (1 ≤ kind ∧ kind ≤ 4 ∧ 512 ≤ len ∧ len ≤ 16777216)
      && !s.actRec.trial.getD (kind - 1) false) fun s =>
    let s1 := { s with fwu := { s.fwu with pkgLen := len } }
    let s2 := ((s1.setFld F.FWU_STATUS_KIND kind).setRcvd 0).setFwuState 1
    (s2.noteRcvd.saveSession).fwuResult path 1
def execFwuBegin (path : Path) (kind : Fin 8) (s : State) : Host.Outcome State Fault Refusal :=
  .next (s.fwuBegin path kind.val (s.fld F.FWU_PKG_LEN_BYTES))

/-- The steps of R444 for a unit: erased, programmed, its bit set, and the SESSION record written. -/
def State.stageUnit (s : State) (u : Nat) (bytes : List Byte) : State :=
  let s1 := { s with nv := { s.nv with staging := amSet s.nv.staging u bytes } }
  (s1.setRcvd (setBitsOf s1.rcvdUnits u u 1)).noteRcvd.saveSession

/-- The block of the registers is a whole unit of the package, or its end. -/
def State.blockOk (s : State) : Bool :=
  let off := s.fld F.FWU_BLK_OFF_OFF
  let len := s.fld F.FWU_BLK_LEN_LEN
  decide (off % 65536 = 0 ∧ off < s.fwu.pkgLen ∧ off + len ≤ s.fwu.pkgLen ∧ 1 ≤ len ∧ len ≤ 65536
    ∧ (len = 65536 ∨ off + len = s.fwu.pkgLen))

/-- BLOCK (R444): a block of the package is read from host memory; one already received is done. -/
def State.fwuBlock (s : State) (path : Path) : State :=
  s.fwuCommand path (fun s => s.fwuState == 1 && s.fwu.reading.isNone) fun s =>
    let u := s.fld F.FWU_BLK_OFF_OFF / 65536
    if !s.blockOk then (s.fwuResult path 4).setBit F.FWU_EVENT_BLOCK_DONE
    else if bitAt s.rcvdUnits u then (s.fwuResult path 1).setBit F.FWU_EVENT_BLOCK_DONE
    else
      let s1 := s.fwuResult path 2
      ({ s1 with fwu := { s1.fwu with reading := some (path, u) } }).fwuIssue
def execFwuBlock (path : Path) (s : State) : Host.Outcome State Fault Refusal := .next (s.fwuBlock path)

/-- The data of the block's host read. -/
def State.fwuData (s : State) (bytes : List Byte) : State :=
  match s.fwu.reading with
  | some (path, u) =>
    let s1 := { s with fwu := { s.fwu with reading := none } }
    ((s1.stageUnit u bytes).fwuResult path 1).setBit F.FWU_EVENT_BLOCK_DONE
  | none => s

/-- The slot that VERIFY writes: nothing valid in it, or the verified image (step 11). -/
def State.clearSlot (s : State) (key : Nat) : State :=
  ({ s with nv := { s.nv with slots := amDel s.nv.slots key }
            fwu := { s.fwu with valid := setDel s.fwu.valid key } }).nvMirror
def State.writeSlot (s : State) (key : Nat) (img : SlotImg) : State :=
  ({ s with nv := { s.nv with slots := amSet s.nv.slots key img }
            fwu := { s.fwu with valid := setIns s.fwu.valid key } }).nvMirror

/-- A check that failed: PRIVILEGED leaves the session RECEIVING; any other failure deletes it. -/
def State.failVerify (s : State) (path : Path) (code cause : Nat) : State :=
  (if code = 10 then s.setFwuState 1 else s.endSession).fwuResult path code cause

/-- VERIFY (R445): the staged package is checked and the target slot written; norOk says that the slot reads back. -/
def State.fwuVerify (s : State) (path : Path) (norOk : Bool) : State :=
  s.fwuCommand path (fun s => s.fwuState == 1 && s.fld F.FWU_STATUS_ALL_RCVD == 1) fun s =>
    let kind := s.fwuKind
    let key := 2 * kind + s.targetSlot kind
    let s1 := s.setBit F.FWU_EVENT_VERIFY_DONE
    match s1.checkPkg kind with
    | .bad code cause late =>
      let s2 := if late && kind != 4 then s1.clearSlot key else s1
      s2.failVerify path code cause
    | .good out =>
      if kind = 4 then ((s1.setFwuState 3).saveSession).fwuResult path 1
      else if !norOk then ((s1.clearSlot key).setBit F.NVS_EVENT_NOR_ERR).failVerify path 15 0
      else
        let img : SlotImg := { manifest := s1.stagedPkg.take 68, plain := out }
        (((s1.writeSlot key img).setFwuState 3).saveSession).fwuResult path 1
def execFwuVerify (path : Path) (norOk : Bool) (s : State) : Host.Outcome State Fault Refusal :=
  .next (s.fwuVerify path norOk)

/-! ## Activation (R447, R448) -/

/-- The record with a kind's target slot active: on trial for MGMT and ROT; fellBack says what FELL_BACK becomes. -/
def ActRec.activate (r : ActRec) (k : Nat) (fellBack : Bool) : ActRec :=
  { r with active := listSet r.active (k - 1) (1 - r.active.getD (k - 1) 0)
           trial := listSet r.trial (k - 1) (k != 2)
           fellBack := listSet r.fellBack (k - 1) fellBack }

/-- The 148 B output of a KEYS package, as the key store holds it (R442). -/
def keyRecOf (out : List Byte) : KeyRec :=
  { pub := sliceB out 0 96, enc := sliceB out 96 32, floors := (List.range 4).map fun i => leAt out (128 + 4 * i) 4
    ver := leAt out 144 4 }

/-- Steps 3 and 4: the session ends; a device reset follows where it was asked for, and always in recovery mode, where
BOOTS becomes 0 too. -/
def State.activated (s : State) : State :=
  let s1 := s.endSession.setBit F.FWU_EVENT_ACTIVATED
  if s.fwu.resetOnAct ∨ s.rst.recovery then s1.requestReset 5 else s1

/-- What the activation does to the stores, or why it does not happen: the result's code and cause. -/
def State.activation (s : State) : Except (Nat × Nat) State :=
  let k := s.fwuKind
  if s.privileged k ≠ 0 then .error (10, s.privileged k)
  else if k = 4 then
    match s.checkPkg 4 with
    | .bad code cause _ => .error (code, cause)
    | .good out => .ok (s.nvWrite (.key (keyRecOf out)))
  else
    let r := s.actRec.activate k false
    .ok (s.nvWrite (.act (if s.rst.recovery then { r with boots := 0 } else r)))

/-- The activation: a refusal under R446 leaves READY; a KEYS package that no longer passes ends its session. -/
def State.activate (s : State) (path : Option Path) : State :=
  let answer (s : State) (code cause : Nat) : State :=
    match path with | some p => s.fwuResult p code cause | none => s
  match s.activation with
  | .ok s1 => answer s1.activated 1 0
  | .error (code, cause) =>
    let s1 := if code = 10 then (s.setFwuState 3).setBit F.FWU_EVENT_ACT_REFUSED else s.endSession
    answer s1 code cause

/-- ACTIVATE (R447): at once where the time is 0 or reached, and always in recovery mode; else SCHEDULED. -/
def State.fwuActivate (s : State) (path : Path) (reset : Bool) (time : Nat) : State :=
  s.fwuCommand path (fun s => s.fwuState == 3) fun s =>
    let s1 := { s with fwu := { s.fwu with resetOnAct := reset, actTime := time } }
    if time = 0 ∨ time ≤ s.fabTime ∨ s.rst.recovery then s1.activate (some path)
    else (s1.setFwuState 4).fwuResult path 1
def execFwuActivate (path : Path) (resetOnAct : Bool) (s : State) : Host.Outcome State Fault Refusal :=
  .next (s.fwuActivate path resetOnAct (s.rd64 Reg.FWU_ACT_TIME_LO))

/-- SCHEDULED_ACTIVATION (R447): FAB_TIME reaches FWU_ACT_TIME. -/
def execScheduledActivation (s : State) : Host.Outcome State Fault Refusal :=
  .next (if s.fwuState ≠ 4 then s
    else
      let s1 := if s.fabRunning then s.advanceTo (s.mclk + ceilDiv (s.fwu.actTime - s.fabTime) 4) else s
      if s1.fabTime < s.fwu.actTime then s else s1.activate none)

/-- ABORT: work stops, and the session is deleted; a slot that was READY stays valid. -/
def State.fwuAbort (s : State) (path : Path) : State :=
  s.fwuCommand path (fun s => decide (1 ≤ s.fwuState ∧ s.fwuState ≤ 4)) fun s =>
    let h := { s.host with reads := s.host.reads.filter fun r => decide (r.why ≠ .firmware) }
    let s1 := { s with host := h, fwu := { s.fwu with reading := none } }
    s1.endSession.fwuResult path 1
def execFwuAbort (path : Path) (s : State) : Host.Outcome State Fault Refusal := .next (s.fwuAbort path)

/-- SWITCH (R448): the other slot of the kind becomes active. -/
def State.fwuSwitch (s : State) (path : Path) (k : Nat) : State :=
  s.fwuCommand path (fun s => s.fwuState == 0 && decide (1 ≤ k ∧ k ≤ 3)
      && s.fwu.valid.contains (2 * k + s.targetSlot k)) fun s =>
    if s.privileged k ≠ 0 then s.fwuResult path 10 (s.privileged k)
    else (s.nvWrite (.act (s.actRec.activate k (s.actRec.fellBack.getD (k - 1) false)))).fwuResult path 1
def execFwuSwitch (path : Path) (kind : Fin 8) (s : State) : Host.Outcome State Fault Refusal :=
  .next (s.fwuSwitch path kind.val)

/-- A write of FWU_CMD; 0 and 7 are no commands. norOk is the outcome of VERIFY's read-back. -/
def State.writeFwuCmd (s : State) (path : Path) (v : Nat) (norOk : Bool) : State :=
  let kind := bitsOf v 6 4
  match v % 8 with
  | 1 => s.fwuBegin path kind (s.fld F.FWU_PKG_LEN_BYTES)
  | 2 => s.fwuBlock path
  | 3 => s.fwuVerify path norOk
  | 4 => s.fwuActivate path (bitAt v 7) (s.rd64 Reg.FWU_ACT_TIME_LO)
  | 5 => s.fwuAbort path
  | 6 => s.fwuSwitch path kind
  | _ => s.fwuBy path Reg.FWU_CMD fun s => s

/-! ## The confirmation of a boot (R450) -/

/-- FWU_CONFIRM: BOOTS and the trials of MGMT and ROT become 0, and every slot is verified. Only the management core's
path may write it. -/
def State.fwuConfirm (s : State) (path : Path) (v : Nat) : State :=
  if path ≠ .mgmtCore ∨ v % 2 = 0 then s
  else
    let r := s.actRec
    let s1 := s.nvWrite (.act { r with boots := 0, trial := [false, r.trial.getD 1 false, false] })
    let ok := [2, 3, 4, 5, 6, 7].filter fun i => s1.verifySlot (i / 2) (i % 2)
    ({ s1 with fwu := { s1.fwu with valid := ok } }).nvMirror
def execFwuConfirm (path : Path) (value : Word) (s : State) : Host.Outcome State Fault Refusal :=
  .next (s.fwuConfirm path value.toNat)

/-! ## Compaction (R439) and power failure (R432, R466) -/

/-- COMPACT: NVS_CMD.COMPACT, under the RWL rule. -/
def State.startCompact (s : State) (path : Path) (v : Nat) : State :=
  s.rwl path Reg.NVS_CMD fun s =>
    if v % 2 = 1 then ({ s with nv := { s.nv with compacting := true } }).nvMirror else s
def execCompact (path : Path) (s : State) : Host.Outcome State Fault Refusal := .next (s.startCompact path 1)

/-- COMPACTION_DONE: the other region holds the live records under the next RGEN and is in force; appends that waited
follow. -/
def execCompactionDone (s : State) : Host.Outcome State Fault Refusal :=
  .next (match s.nv.inForce with
    | none => s
    | some i =>
      if !s.nv.compacting ∨ s.nv.pfHold then s
      else
        let r := s.nv.region i
        let copy : JRegion := { rgen := some ((r.rgen.getD 0 + 1) % 2 ^ 32), recs := liveRecs r.recs }
        let nv := { s.nv.setRegion (1 - i) copy with compacting := false }
        ({ s with nv := nv }).nvDrain.nvMirror)

/-- PWR_FAIL (R466): the NV write hold begins, a severe event latches on source 60 whatever its class, and with it the safe
state and the cast-offs. -/
def execPwrFail (s : State) : Host.Outcome State Fault Refusal :=
  .next (let s1 := ({ s with nv := { s.nv with pfHold := true } }).nvMirror
    s1.latchEvent { source := 60, condition := true } (some 3))

/-- PWR_FAIL_RISE (R432): the hold ends, and the writes that waited proceed. -/
def execPwrFailRise (s : State) : Host.Outcome State Fault Refusal :=
  .next (let s1 := ({ s with nv := { s.nv with pfHold := false } }).nvDrain.nvMirror
    s1.setFld (F.FCU_SRC_STATE_PIN 60) 0)

/-! ## Host reads (R210) -/

/-- A host read that failed: its record, an event on source 56 for a timeout and for poison, and its user's end. -/
def State.readFailed (s : State) (r : HostRd) (cause : Nat) : State :=
  let s1 := (s.takeRead r.id).recordHost cause r.fn r.addr
  let s2 := if cause = 3 ∨ cause = 4 then s1.raise 56 cause 0 none else s1
  match r.why with
  | .fetch c _ n => s2.fetchFails c n
  | .copy n id => s2.endPart n id Status.ACCESS_VIOLATION
  | .firmware => s2.fwuReadLost

/-- HOST_READ_COMPLETION: the data of an outstanding read, or its failure; poisoned data of a COPY arrives as poison. -/
def execHostReadCompletion (id : Nat) (answer : HostAnswer) (s : State) : Host.Outcome State Fault Refusal :=
  .next (match s.host.reads.find? fun r => r.id == id with
    | none => s
    | some r =>
      match answer with
      | .data b =>
        let s1 := s.takeRead id
        match r.why with
        | .fetch c pos n => s1.fetchDone c pos n b
        | .copy n d => s1.copyData n d (sliceB b 0 r.len) false
        | .firmware => s1.fwuData (sliceB b 0 r.len)
      | .poisoned b =>
        let s1 := match r.why with
          | .copy n d => s.copyData n d b true
          | _ => s
        s1.readFailed r 4
      | .ur => s.readFailed r 1
      | .ca => s.readFailed r 2
      | .refusedTranslation => s.readFailed r 5)

/-- HOST_READ_TIMEOUT: no completion has come within the programmed value. -/
def execHostReadTimeout (id : Nat) (s : State) : Host.Outcome State Fault Refusal :=
  .next (match s.host.reads.find? fun r => r.id == id with
    | none => s
    | some r => s.readFailed r 3)

end Sys2Proof.Machine
end

