-- ==== Sys2Proof/Machine/Relief.lean ====
section
/-! DEFINITION. Relief bindings (17_recovery_and_relief R399-R410): arming, the journal at both ends, cast-off, takeover,
fence orders and the relief survey. -/

namespace Sys2Proof.Machine

/-! ## Commands of a binding (R399, R404, R410) -/

/-- The binding that a path has selected, and the answer of its command. -/
def State.rlfSel (s : State) (path : Path) : Nat := s.fldB (pathNo path) F.REC_RLF_SEL_BIND
def State.rlfResult (s : State) (path : Path) (code : Nat) : State := s.setFldB (pathNo path) F.REC_RLF_RESULT_CODE code

/-- A command of REC_RLF_CMD, under the RWL rule: refused with RESULT 3, or its effect on the selected binding. -/
def State.rlfCommand (s : State) (path : Path) (ok : Nat → Bool) (k : Nat → State → State) : State :=
  s.rwl path Reg.REC_RLF_CMD fun s =>
    let i := s.rlfSel path
    if ok i then k i s else s.rlfResult path 3

/-- What both ARM commands ask (R399): a FREE binding, masks of equal count, no parcel in REPLACE, a valid station. -/
def State.armable (s : State) (i : Nat) : Bool :=
  decide ((s.bind i).st = .free) && popcount (s.bindLocal i) 12 == popcount (s.bindPeerMask i) 12
    && ((setBits (s.bindLocal i) 12).all fun n => s.parcelState n != 6) && s.fld F.FAB_STATION_VALID == 1

/-- Another binding that is not FREE shares parcels of this device with binding i, and satisfies a test. -/
def State.shares (s : State) (i : Nat) (test : Nat → BindSt → Bool) : Bool :=
  s.rcv.binds.any fun e => e.1 != i && decide (e.2.st ≠ .free) && (s.bindLocal e.1 &&& s.bindLocal i) != 0 && test e.1 e.2

/-- Another binding that is not FREE names an active parcel of the same peer that binding i names. -/
def State.sharesPeer (s : State) (i : Nat) : Bool :=
  s.rcv.binds.any fun e => e.1 != i && decide (e.2.st ≠ .free) && s.bindPeer e.1 / 256 == s.bindPeer i / 256
    && (s.bindPeerMask e.1 &&& s.bindPeerMask i) != 0

/-- A BEACON of parcel n (R401): last committed epoch, FENCED and JOINED, the last JSEQ sent, and CONSUMED. -/
def State.beaconBody (s : State) (i n : Nat) : List Byte :=
  let tag := s.bindTag i
  let home := s.gw.reqs.find? fun e => e.1 / 64 == n && s.ctxTag e.2.ctx == tag
  let member := s.gw.binds.find? fun e => e.1 / 4096 == n && s.ctxTag (e.1 % 4096) == tag && e.2.bound
  let epoch := match home, member with
    | some e, _ => e.2.lastEpoch
    | none, some e => e.2.lastEpoch
    | none, none => 0
  let last := ((s.bind i).stream n).next + 2 ^ 32 - 1
  leBytes 1 epoch ++ leBytes 1 (b2n (!s.inService n) + 2 * b2n member.isSome) ++ leBytes 2 0 ++ leBytes 4 last
    ++ leBytes 4 ((home.map fun e => e.2.consumed).getD 0) ++ leBytes 20 0

/-- Send a BEACON for every active parcel of a binding; it takes no JSEQ of its own. -/
def State.sendBeacons (s : State) (i : Nat) : State :=
  (setBits (s.bindLocal i) 12).foldl (fun s n =>
    s.sendAny (s.journalPacket i n 3 (((s.bind i).stream n).next + 2 ^ 32 - 1) (s.beaconBody i n))) s

/-- ARM_ACTIVE (R399): a BEACON goes out under BGEN 0, and the binding is armed when it is acknowledged. -/
def execArmActive (path : Path) (s : State) : Host.Outcome State Fault Refusal :=
  .next (s.rlfCommand path (fun i => s.armable i && (s.bind i).arming.isNone && !s.shares i fun _ _ => true) fun i s =>
    let b : BindSt := { arming := some (path, s.mclk + 10 * perMs) }
    ((s.setBind i b).rlfResult path 2).sendBeacons i)

/-- ARM_ACTIVE_TIMEOUT (R399): no acknowledgement came within 10 ms. -/
def execArmActiveTimeout (i : Fin 16) (s : State) : Host.Outcome State Fault Refusal :=
  .next (match (s.bind i.val).arming with
    | none => s
    | some (p, t) => ((s.advanceTo t).setBind i.val { s.bind i.val with arming := none }).rlfResult p 3)

/-- ARM_RELIEF (R399): RELIEF_ARMED under the next generation. -/
def execArmRelief (path : Path) (s : State) : Host.Outcome State Fault Refusal :=
  .next (s.rlfCommand path (fun i => s.armable i && (s.bind i).arming.isNone && !s.sharesPeer i
      && !s.shares i fun _ b => decide (b.st = .taking)) fun i s =>
    (s.setBind i { st := .reliefArmed, bgen := ((s.bind i).bgen + 1) % 256 }).rlfResult path 1)

/-- Tokens and apply acknowledgements of an active binding's parcels no longer wait for the relief (R403). -/
def State.withoutRelief (s : State) (i : Nat) : State :=
  (setBits (s.bindLocal i) 12).foldl (fun s n => s.gwJournalAck n (s.bindTag i) none) s

/-- DISARM (R399): the binding is FREE again, and nothing is sent. -/
def execDisarm (path : Path) (s : State) : Host.Outcome State Fault Refusal :=
  .next (s.rlfCommand path (fun _ => true) fun i s =>
    let b := s.bind i
    let s1 := (s.surveyEnds i 17).freeBind i
    let s2 := match b.arming with | some (p, _) => s1.rlfResult p 3 | none => s1
    (if b.st = .activeArmed then s2.withoutRelief i else s2).rlfResult path 1)

/-- CASTOFF (R404): the owner casts off an armed active binding. -/
def execCastoff (path : Path) (s : State) : Host.Outcome State Fault Refusal :=
  .next (s.rlfCommand path (fun i => decide ((s.bind i).st = .activeArmed)) fun i s => (s.castOff i 3).rlfResult path 1)

/-- SURVEY (R410): the checks begin on an armed relief binding. -/
def execSurvey (path : Path) (s : State) : Host.Outcome State Fault Refusal :=
  .next (s.rlfCommand path (fun i => decide ((s.bind i).st = .reliefArmed) && (s.bind i).surveying.isNone) fun i s =>
    ((s.setBind i { s.bind i with surveying := some path }).setRdB (entryBank i) Reg.REC_RLF_SURVEY 0).rlfResult path 2)

/-- A write of REC_RLF_CMD: 0, 6 and 7 are no commands. -/
def State.writeRlfCmd (s : State) (path : Path) (v : Nat) : State :=
  let go (x : Host.Outcome State Fault Refusal) : State := match x with | .next t => t | _ => s
  match v % 8 with
  | 1 => go (execArmActive path s)
  | 2 => go (execArmRelief path s)
  | 3 => go (execDisarm path s)
  | 4 => go (execCastoff path s)
  | 5 => go (execSurvey path s)
  | _ => s.rwl path Reg.REC_RLF_CMD fun s => s

/-- Poisoned words of the tracts that a function owns on the relief parcels of a binding. -/
def State.badMirrorWords (s : State) (i : Nat) : Nat :=
  let fn := s.ctxFn (s.fldB (entryBank i) F.REC_RLF_CTX_CONTEXT)
  (s.tier.nearPoison.filter fun a => bitAt (s.bindLocal i) (nearParcel a) && s.tractOk 1 fn a 1 true).length

/-- SURVEY_DONE (R410): engines says that the benchmark runs passed, terrs the errors found in the tracts, paths that every
path answered. -/
def execSurveyDone (i : Fin 16) (engines : Bool) (terrs : List WordErr) (paths : Bool) (s : State) :
    Host.Outcome State Fault Refusal :=
  .next (if (s.bind i.val).surveying.isNone then s
    else
      let s1 := s.nearErrors terrs 0 false none
      let ue := min (s1.badMirrorWords i.val) 0xFFFF
      s1.surveyEnds i.val (1 + 2 * b2n engines + 4 * b2n (decide (ue = 0)) + 8 * b2n paths + 2 ^ 16 * ue))

/-! ## The journal at the relief (R401-R403) -/

/-- A packet of REC with a stale generation (R403, R408). -/
def State.staleJournal (s : State) : State := (s.addSat F.REC_STALE_COUNT_COUNT).setBit F.REC_EVENT_STALE_JOURNAL

/-- The relief binding that a journal packet belongs to: its job tag, and its source paired with its destination. -/
def State.reliefBinding (s : State) (p : Packet) : Option (Nat × Nat) :=
  let n := parcelOf p.dst.toNat
  ((s.rcv.binds.find? fun e =>
    (decide (e.2.st = .reliefArmed) || decide (e.2.st = .taking) || decide (e.2.st = .taken) || decide (e.2.st = .failed))
      && s.bindTag e.1 == p.jobTag.toNat && bitAt (s.bindLocal e.1) n && s.pairStation e.1 n == p.src.toNat)).map
        fun e => (e.1, n)

/-- The silence deadline starts anew. -/
def State.heard (s : State) (i : Nat) : State :=
  s.setBind i { s.bind i with
    silenceDeadline := some (s.mclk + max 1 (s.fld F.REC_CFG_SILENCE_MS) * perMs) }

/-- An ACK of parcel n's stream: the highest JSEQ accepted in order (Table 3). -/
def State.ackJournal (s : State) (i n : Nat) : State :=
  s.sendAny (s.journalPacket i n 4 (((s.bind i).stream n).next + 2 ^ 32 - 1) [])

/-- Epoch a is at or after the one known: epochs count 1 to 255. -/
def newestEpoch (known : Option Nat) (a : Nat) : Option Nat :=
  if a = 0 then known
  else match known with
    | none => some a
    | some k => if (a + 255 - k) % 255 < 128 then some a else some k

/-- The function that owns the takeover context of a binding, as which the relief writes (R403). -/
def State.reliefFn (s : State) (i : Nat) : Nat := s.ctxFn (s.fldB (entryBank i) F.REC_RLF_CTX_CONTEXT)

/-- The mirror is bad from here on. -/
def State.mirrorBad (s : State) (i : Nat) : State := s.setBind i { s.bind i with mirrorBad := true }

/-- A write of the relief into a memory (0 hold, 1 near tier): none where it waits for a clear; a refused one marks the
mirror. -/
def State.reliefPut (s : State) (i kind a : Nat) (bytes : List Byte) : Option State :=
  if s.tierStatus kind ⟨s.reliefFn i, none, false⟩ a bytes.length true ≠ Status.OK then some (s.mirrorBad i)
  else if s.tierClearing kind a bytes.length then none
  else
    let (ok, s1) := s.tierWrite kind a bytes
    some (if ok then s1 else s1.mirrorBad i)

/-- Where a range of the active side's near tier lies in the mirror: in the tract window, both ends (R403). -/
def State.mirrorAddr (s : State) (i n a len : Nat) : Option Nat :=
  let f (x : Fld) : Nat := s.fldB (entryBank i) x
  let t := nearOff a / 2 ^ 30
  let u := (nearOff a + len - 1) / 2 ^ 30
  let t0 := f F.REC_RLF_MIRROR_T0
  if t0 ≤ t ∧ u < t0 + f F.REC_RLF_MIRROR_NT ∧ some n = pairOf (s.bindPeerMask i) (s.bindLocal i) (nearParcel a) then
    some (n * 2 ^ 36 + (f F.REC_RLF_MIRROR_R0 + t - t0) * 2 ^ 30 + nearOff a % 2 ^ 30)
  else none

/-- The writes of a KV record (Table 3). -/
def State.kvWrites (s : State) (i n : Nat) (b : List Byte) : Option State :=
  let data := b.drop 32
  let a := leAt b 0 8
  let s1 := if data.isEmpty then some s
    else match s.mirrorAddr i n a data.length with
      | none => some (s.mirrorBad i)
      | some m => s.reliefPut i 1 m data
  let k := leAt b 10 2
  if k = 0xFFFF then s1
  else s1.bind fun s => s.reliefPut i 0
    (n * 2 ^ 28 + s.fldB (entryBank i) F.REC_RLF_STREAMS_BASE % 2 ^ 28 + 64 * k + 4) (leBytes 4 (leAt b 12 4))

/-- The armed parameter block of the request. -/
def State.reliefParams (s : State) (i : Nat) : List Byte := s.holdGet (s.fldB (entryBank i) F.REC_RLF_PARAM_ADDR_ADDR) 64
/-- The relief home: the parcel of the parameter block, where the active set holds the request's home. -/
def State.reliefHome (s : State) (i : Nat) : Option Nat :=
  if s.fldB (entryBank i) F.REC_RLF_REQ_HOME = 1 then some (s.fldB (entryBank i) F.REC_RLF_PARAM_ADDR_ADDR / 2 ^ 28) else none

/-- The writes of a TOKEN record: its tokens go into the pacing area. -/
def State.tokenWrites (s : State) (i : Nat) (b : List Byte) : Option State :=
  let ps := s.reliefParams i
  if (s.reliefHome i).isNone ∨ pEgrTokens ps = 0 then some (s.mirrorBad i)
  else (List.range (min (leAt b 2 1) 16)).foldl (fun s k => s.bind fun s => s.reliefPut i 0
    (pEgrBase ps + 4 * ((leAt b 8 4 + k) % pEgrTokens ps)) (sliceB b (32 + 4 * k) 4)) (some s)

/-- A record of a kind is accepted, acknowledged again, dropped, or counted as stale (R403); writes gives its writes, and
note what the binding and its stream keep of it. -/
def State.takeRecord (s : State) (p : Packet) (writes : Nat → Nat → State → Option State)
    (note : BindSt → JStream → BindSt × JStream) : State :=
  let s := s.takePacket p
  match s.reliefBinding p with
  | none => s
  | some (i, n) =>
    let b := s.bind i
    let gen := p.txn.toNat % 256
    if gen ≠ b.bgen then s.staleJournal
    else if b.st ≠ .reliefArmed then s
    else
      let s1 := (s.setBind i { b with peerNum := p.srcCtx.toNat }).heard i
      let j := b.stream n
      let ahead := (p.addr.toNat + 2 ^ 32 - j.next) % 2 ^ 32
      if !s.inService n then s1
      else if ahead ≠ 0 then (if ahead < 2 ^ 31 then s1 else s1.ackJournal i n)
      else match writes i n s1 with
        | none => s1
        | some s2 =>
          let (b2, j2) := note (s2.bind i) { j with next := (j.next + 1) % 2 ^ 32 }
          (s2.setBind i (b2.setStream j2)).ackJournal i n

/-- TOKEN (R403). -/
def execTokenRecord (p : Packet) (s : State) : Host.Outcome State Fault Refusal :=
  .next (s.takeRecord p (fun i _ s => s.tokenWrites i p.payload) fun b j =>
    let r := p.payload
    let toks := (List.range (min (leAt r 2 1) 16)).map fun k => leAt r (32 + 4 * k) 4
    let all := b.tokens ++ toks
    ({ b with tokRec := some r, consumed := some (leAt r 16 4), tokens := all.drop (all.length - 32),
              lastEpoch := newestEpoch b.lastEpoch (leAt r 0 1) }, j))

/-- KV (R403). -/
def execKvRecord (p : Packet) (s : State) : Host.Outcome State Fault Refusal :=
  .next (s.takeRecord p (fun i n s => s.kvWrites i n p.payload) fun b j =>
    let e := leAt p.payload 8 1
    ({ b with lastEpoch := newestEpoch b.lastEpoch e },
      if bitAt (leAt p.payload 9 1) 0 then { j with lastEpoch := some e } else j))

/-- BEACON (R402, R399): acknowledged at every time; one that asks to arm carries BGEN 0. It takes no JSEQ. -/
def execBeaconRecord (p : Packet) (s : State) : Host.Outcome State Fault Refusal :=
  .next (
    let s := s.takePacket p
    match s.reliefBinding p with
    | none => s
    | some (i, n) =>
      let b := s.bind i
      let gen := p.txn.toNat % 256
      if gen ≠ b.bgen ∧ gen ≠ 0 then s.staleJournal
      else if b.st ≠ .reliefArmed then (if gen = b.bgen then s else s.staleJournal)
      else
        let r := p.payload
        let j := { b.stream n with joined := bitAt (leAt r 1 1) 1 }
        let b1 := { b.setStream j with peerNum := p.srcCtx.toNat, lastEpoch := newestEpoch b.lastEpoch (leAt r 0 1),
                                       consumed := if s.reliefHome i = some n ∧ b.consumed.isSome then some (leAt r 8 4)
                                                   else b.consumed }
        let s1 := (s.setBind i b1).heard i
        if s.inService n then s1.ackJournal i n else s1)

/-! ## The journal at the active side (R402, R403) -/

/-- BEACON_SEND (R402): a BEACON for every active parcel of an armed binding, hung or fenced parcels too. -/
def execBeaconSend (i : Fin 16) (s : State) : Host.Outcome State Fault Refusal :=
  .next (if (s.bind i.val).st = .activeArmed then s.sendBeacons i.val else s)

/-- The records of a stream up to an acknowledged JSEQ are freed, and those that the window now covers go out. -/
def State.ackStream (s : State) (i n acked : Nat) : State :=
  let b := s.bind i
  let j := b.stream n
  let left := j.unacked.filter fun r => !ackedBy r.jseq acked
  let k := j.unacked.length - left.length
  if k = 0 then s
  else
    let s1 := s.setBind i (b.setStream { j with unacked := left, progressAt := s.mclk })
    let fresh := (left.take journalWindow).drop (journalWindow - k)
    (fresh.foldl (fun s r => s.sendAny (s.journalPacket i n r.kind r.jseq r.body)) s1).gwJournalAck n (s.bindTag i)
      (some acked)

/-- JOURNAL_ACK (R399, R402): the acknowledgement of a BEACON arms the binding under the relief's generation; that of a
record frees records, confirms tokens and lets a member acknowledge its apply. -/
def execJournalAck (p : Packet) (s : State) : Host.Outcome State Fault Refusal :=
  .next (
    let s := s.takePacket p
    let i := p.dstCtx.toNat
    let n := parcelOf p.dst.toNat
    let b := s.bind i
    let gen := p.txn.toNat % 256
    if 16 ≤ i ∨ s.bindTag i ≠ p.jobTag.toNat ∨ !bitAt (s.bindLocal i) n ∨ s.pairStation i n ≠ p.src.toNat then s
    else match b.arming with
      | some (path, _) =>
        (s.setBind i { st := .activeArmed, bgen := gen, peerNum := p.srcCtx.toNat }).rlfResult path 1
      | none =>
        if b.st ≠ .activeArmed then s
        else if gen ≠ b.bgen then s.staleJournal
        else s.ackStream i n p.addr.toNat)

/-- JOURNAL_RESEND (R402): 100 us without progress; the records of the window go out again, oldest first. -/
def execJournalResend (i : Fin 16) (n : Parcel) (s : State) : Host.Outcome State Fault Refusal :=
  .next (
    let j := (s.bind i.val).stream n.val
    if (s.bind i.val).st ≠ .activeArmed ∨ j.unacked.isEmpty then s
    else
      let s1 := s.advanceTo (j.progressAt + 100 * perUs)
      let s2 := s1.setBind i.val ((s1.bind i.val).setStream { j with progressAt := s1.mclk })
      (j.unacked.take journalWindow).foldl (fun s r => s.sendAny (s.journalPacket i.val n.val r.kind r.jseq r.body)) s2)

/-- The oldest record of a binding that waits for its acknowledgement: when it was made. -/
def BindSt.oldestMade (b : BindSt) : Option Nat := (b.streams.filterMap fun j => j.unacked.head?.map (·.made)).min?

/-- RELIEF_LOST (R403): records have gone unacknowledged for SILENCE_MS. -/
def execReliefLost (i : Fin 16) (s : State) : Host.Outcome State Fault Refusal :=
  .next (
    let b := s.bind i.val
    if b.st ≠ .activeArmed then s
    else s.atDeadline (b.oldestMade.map (· + max 1 (s.fld F.REC_CFG_SILENCE_MS) * perMs)) fun s =>
      let quiet := b.streams.map fun j => { j with unacked := [] }
      ((s.setBind i.val { b with st := .reliefLost, streams := quiet }).setBit F.REC_EVENT_RELIEF_LOST).withoutRelief i.val)

/-! ## Takeover (R404-R406) -/

/-- The mirror is complete (R405). -/
def BindSt.mirrorOk (b : BindSt) : Bool :=
  !b.mirrorBad && b.streams.all fun j => !j.joined || b.lastEpoch.isNone || j.lastEpoch == b.lastEpoch

/-- The payload of a CASTOFF packet of the relief (R404). -/
def State.takeoverPayload (s : State) (i : Nat) : List Byte :=
  let b := s.bind i
  let gen := match b.tokRec with | some r => leAt r 4 1 | none => 0
  let jseq := (b.streams.head?.map fun j => j.next + 2 ^ 32 - 1).getD 0
  castPayload b.bgen b.cause (s.fldB (entryBank i) F.REC_RLF_REQ_REQ) ((gen + 1) % 256) jseq (s.bindPeer i) (b2n b.mirrorOk)
    (s.bindPeerMask i) (s.bindLocal i) (s.station 0)

/-- The stations of the active parcels. -/
def State.activeStations (s : State) (i : Nat) : List Nat :=
  (setBits (s.bindPeerMask i) 12).map fun n => s.bindPeer i / 256 * 256 + 16 * n

/-- Send a packet on every tree plane and on the mesh port to its device; one for this device goes over the OPN. -/
def State.sendEverywhere (s : State) (p : Packet) : State :=
  let d := p.dst.toNat
  if d / 256 = s.station 0 / 256 then s.sendAny p
  else
    let mesh := if d / 4096 = s.landing then [s.meshPort (d / 256 % 16)] else []
    ((s.fuses.treePorts ++ mesh).filter s.usable).foldl (fun s q => s.linkSend q { pkt := { p with hops := p.hops + 1 } }) s

/-- The request's home, where another device or parcel holds it: the active side's parcel paired with the relief home of
the binding that carries the request (the same job tag and slot); a free value where this device has none. -/
def State.takenHome (s : State) (i : Nat) : Nat × State :=
  let req (x : Nat) : Nat := s.fldB (entryBank x) F.REC_RLF_REQ_REQ
  match s.rcv.binds.find? fun e => (s.reliefHome e.1).isSome && s.bindTag e.1 == s.bindTag i && req e.1 == req i with
  | some e => (s.pairStation e.1 ((s.reliefHome e.1).getD 0), s)
  | none => s.free 24

/-- The tokens of the pacing area from one index up to another. -/
def State.pacedTokens (s : State) (ps : List Byte) (from' count : Nat) : List Nat :=
  (List.range (min count (pEgrTokens ps))).map fun k => leNat (s.holdGet (pEgrBase ps + 4 * ((from' + k) % pEgrTokens ps)) 4)

/-- The relief home opens the request from what is armed and journaled (R405 step 3, R406): root, position and history of
the last TOKEN records, the next generation, the tokens after CONSUMED, and REPAIR where the mirror is incomplete. -/
def State.openRelief (s : State) (i h : Nat) : State :=
  let c := s.fldB (entryBank i) F.REC_RLF_CTX_CONTEXT
  let slot := s.fldB (entryBank i) F.REC_RLF_REQ_REQ
  let b := s.bind i
  let ps := s.reliefParams i
  let key := s.holdGet (s.fldB (entryBank i) F.REC_RLF_KEY_ADDR_ADDR) 24
  let fn := s.ctxFn c
  let ok := decide (h < 12) && (s.gwReq (gwKey h slot)).isNone && paramsOk ps h (fnVectors fn)
    && !s.poisonedIn (s.fldB (entryBank i) F.REC_RLF_PARAM_ADDR_ADDR) 64
    && !s.poisonedIn (s.fldB (entryBank i) F.REC_RLF_KEY_ADDR_ADDR) 24
    && s.ownedClear fn (pEgrBase ps) (4 * pEgrTokens ps)
  if !ok then s
  else
    let (fa, s1) := s.free 32
    let (fb, s2) := s1.free 21
    let r := b.tokRec.getD []
    let t := min (leAt r 2 1) 16
    let next := if b.tokRec.isSome then (leAt r 8 4 + t) % 2 ^ 32 else pFirstIndex ps
    let start := match b.consumed with | some x => (x + 1) % 2 ^ 32 | none => next
    let pos := if b.tokRec.isSome then leAt r 12 4 else fb
    let before := b.tokens.take (b.tokens.length - t)
    let path : GwPath := ⟨(before.getLast?).getD fa :: (b.tokens.drop (b.tokens.length - t)).take (leAt r 1 1 - 1), pos - leAt r 1 1⟩
    let buf := (s2.pacedTokens ps start ((next + 2 ^ 32 - start) % 2 ^ 32)).map fun x => (⟨x, none⟩ : GwTok)
    s2.setReq (gwKey h slot)
      { st := if b.mirrorOk then 1 else 4, ctx := c, params := ps, key := key.take 16, nonce := leAt key 16 8,
        rootTok := b.tokens.getLastD fa, rootPos := pos, hist := b.tokens.drop (b.tokens.length - 4),
        lastEpoch := leAt r 0 1, gen := (leAt r 4 1 + 1) % 256, path := if b.tokRec.isSome then some path else none,
        buf := buf, index := start, consumed := b.consumed.getD (pFirstIndex ps), started := true, nextAt := s2.fabTime }

/-- Step 4: the takeover context starts, and the chain's limit runs. -/
def State.startChain (s : State) (i : Nat) : State :=
  let c := s.fldB (entryBank i) F.REC_RLF_CTX_CONTEXT
  let ms := max 1 (s.fldB (entryBank i) F.REC_RLF_CTX_CHAIN_MS)
  let s1 := s.setBind i { s.bind i with step := 4, stepDeadline := some (s.mclk + ms * perMs) }
  if (s.ctx c).st ≠ .stopped ∨ !s.ctxFieldsOk c ∨ s.slotTaken c then s1
  else match s1.rebind c with
    | some s2 => s2.setCtx c { s2.ctx c with st := .running }
    | none => s1

/-- The deadline of FENCE_WAIT_MS. -/
def State.fenceWait (s : State) : Nat := s.mclk + max 1 (s.fld F.REC_CFG_FENCE_WAIT_MS) * perMs

/-- Step 3: the home is opened here, or is told. -/
def State.takeHome (s : State) (i : Nat) : State :=
  match s.reliefHome i with
  | some h => (s.openRelief i h).startChain i
  | none =>
    let (home, s1) := s.takenHome i
    let s2 := s1.setBind i { s1.bind i with step := 3, stepDeadline := some s1.fenceWait }
    s2.sendAny (s2.castPacket i 4 home (s2.takeoverPayload i))

/-- Step 1 (R405): the takeover starts; other bindings on the relief parcels fail, and a survey ends. Silence goes on with
fence orders. -/
def State.startTakeover (s : State) (i cause : Nat) : State :=
  let others := (s.rcv.binds.filter fun e => e.1 != i && decide (e.2.st = .reliefArmed)
    && (s.bindLocal e.1 &&& s.bindLocal i) != 0).map (·.1)
  let s1 := others.foldl (fun s k => let t := s.surveyEnds k 17
    t.setBind k { t.bind k with st := .failed, silenceDeadline := none }) (s.surveyEnds i 17)
  let b := s1.bind i
  let s2 := s1.setBind i { b with st := .taking, bgen := (b.bgen + 1) % 256, cause := cause, trigAt := s.mclk,
                                  silenceDeadline := none }
  if cause ≠ 4 then s2.takeHome i
  else
    let l := s2.activeStations i
    let s3 := s2.setBind i { s2.bind i with step := 2, awaitFence := l, stepDeadline := some s2.fenceWait }
    if l.isEmpty then s3.takeHome i
    else l.foldl (fun s d => s.sendEverywhere (s.castPacket i 2 d (s.takeoverPayload i))) s3

/-- SILENCE (R404): no record and no BEACON for SILENCE_MS. -/
def execSilence (i : Fin 16) (s : State) : Host.Outcome State Fault Refusal :=
  .next (if (s.bind i.val).st ≠ .reliefArmed then s
    else s.atDeadline (s.bind i.val).silenceDeadline fun s => s.startTakeover i.val 4)

/-- A binding whose peer device and job tag are those of a CASTOFF packet, in one of some states. -/
def State.castBinding (s : State) (p : Packet) (sts : List BindState) : Option Nat :=
  (s.rcv.binds.find? fun e => sts.contains e.2.st && s.bindTag e.1 == p.jobTag.toNat
    && s.bindPeer e.1 / 256 == p.src.toNat / 256).map (·.1)

/-- CASTOFF_RECEIVE (R405, R408): current generation and tag start the takeover; one for a takeover that runs already is
ignored; any other is counted. -/
def execCastoffReceive (p : Packet) (s : State) : Host.Outcome State Fault Refusal :=
  .next (
    let s := s.takePacket p
    let gen := leAt p.payload 0 1
    match s.castBinding p [.reliefArmed] with
    | some i =>
      if gen = (s.bind i).bgen then (s.setBit F.REC_EVENT_CASTOFF_RCVD).startTakeover i (leAt p.payload 1 1)
      else s.staleJournal
    | none =>
      match s.castBinding p [.taking] with
      | some i => if (gen + 1) % 256 = (s.bind i).bgen then s else s.staleJournal
      | none => s.staleJournal)

/-- FENCE_ORDER (R407): the parcels of the binding's active mask are fenced with cause ORDERED and held in CAST; the answer
goes out once they are fenced. -/
def execFenceOrder (p : Packet) (s : State) : Host.Outcome State Fault Refusal :=
  .next (
    let s := s.takePacket p
    match s.castBinding p [.activeArmed, .reliefLost, .cast] with
    | none => s
    | some i =>
      let b := s.bind i
      if !olderGen b.bgen (leAt p.payload 0 1) then s
      else
        let s1 := s.setBind i { b with orders := b.orders ++ [p] }
        if b.st = .cast then s1.answerOrders
        else
          let s2 := (setBits (s1.bindLocal i) 12).foldl (fun s n => s.beginFence n 4 false false true) s1
          let s3 := (s2.setBind i { s2.bind i with st := .cast, cause := 5 }).setBit F.REC_EVENT_FENCE_ORDER_RCVD
          s3.answerOrders)

/-- The binding whose takeover an answer belongs to: in a step, of the present generation. -/
def State.takingBinding (s : State) (p : Packet) (step : Nat) : Option Nat :=
  (s.rcv.binds.find? fun e => decide (e.2.st = .taking) && e.2.step == step && s.bindTag e.1 == p.jobTag.toNat
    && e.2.bgen == leAt p.payload 0 1).map (·.1)

/-- FENCE_ACK (R405): the last answer ends step 2. -/
def execFenceAck (p : Packet) (s : State) : Host.Outcome State Fault Refusal :=
  .next (
    let s := s.takePacket p
    match s.takingBinding p 2 with
    | none => s
    | some i =>
      let l := setDel (s.bind i).awaitFence p.src.toNat
      let s1 := s.setBind i { s.bind i with awaitFence := l }
      if l.isEmpty then s1.takeHome i else s1)

/-- FENCE_WAIT_EXPIRY (R405): step 2 ends; or TAKEN_ACK has not come, and the takeover fails. -/
def execFenceWaitExpiry (i : Fin 16) (s : State) : Host.Outcome State Fault Refusal :=
  .next (
    let b := s.bind i.val
    if b.st ≠ .taking then s
    else if b.step = 2 then s.atDeadline b.stepDeadline fun s => s.takeHome i.val
    else if b.step = 3 then s.atDeadline b.stepDeadline fun s => s.takeoverFails i.val
    else s)

/-- TAKEN (R405): the home raises the generation, drops the failed members and an open round, goes into repair where the
mirror is not complete, and answers. -/
def execTaken (p : Packet) (s : State) : Host.Outcome State Fault Refusal :=
  .next (
    let s := s.takePacket p
    let n := parcelOf p.dst.toNat
    let key := gwKey n (leAt p.payload 2 1 % 64)
    match s.gwReq key with
    | none => s
    | some r =>
      if s.ctxTag r.ctx ≠ p.jobTag.toNat then s
      else
        let dev := leAt p.payload 8 3 / 256
        let mask := leAt p.payload 12 4 % 4096
        let failed (m : GwMember) : Bool := m.station / 256 == dev && bitAt mask (parcelOf m.station)
        let s1 := s.setReq key { r with gen := (r.gen + 1) % 256, members := r.members.filter fun m => !failed m }
        let s2 := s1.dropRound key
        let s3 := if leAt p.payload 11 1 % 2 = 0 then s2.repair key (leAt p.payload 8 3) else s2
        let ack : Packet := { p with dst := p.src, src := p.dst, opx := 5, dstCtx := p.srcCtx, srcCtx := p.dstCtx, hops := 0 }
        ((s3.discardDone key).closeStep key).sendAny ack)

/-- TAKEN_ACK (R405): step 3 ends, and the takeover context starts. -/
def execTakenAck (p : Packet) (s : State) : Host.Outcome State Fault Refusal :=
  .next (
    let s := s.takePacket p
    match s.takingBinding p 3 with
    | none => s
    | some i => s.startChain i)

/-- TAKEOVER_DONE (R405): the takeover mark, at the home parcel of the takeover context, reaches its value, or shows an
ERROR. -/
def execTakeoverDone (i : Fin 16) (s : State) : Host.Outcome State Fault Refusal :=
  .next (
    let b := s.bind i.val
    let f (x : Fld) : Nat := s.fldB (entryBank i.val) x
    let c := f F.REC_RLF_CTX_CONTEXT
    if b.st ≠ .taking ∨ b.step ≠ 4 then s
    else match s.mark (s.ctxHome c) c (f F.REC_RLF_CTX_TK_MARK) with
      | none => s
      | some m =>
        if m.error then s.takeoverFails i.val
        else if toSigned 32 (m.count.toNat + 2 ^ 32 - f F.REC_RLF_TK_VALUE_VALUE) < 0 then s
        else
          let us := (s.mclk - b.trigAt) / perUs
          ((s.setBind i.val { b with st := .taken, step := 0, stepDeadline := none }).setBit F.REC_EVENT_TAKEOVER_DONE).setRdB
            (entryBank i.val) Reg.REC_RLF_TAKEOVER_US (BitVec.ofNat 32 us))

/-- CHAIN_TIMEOUT (R405): CHAIN_MS passes. -/
def execChainTimeout (i : Fin 16) (s : State) : Host.Outcome State Fault Refusal :=
  .next (
    let b := s.bind i.val
    if b.st ≠ .taking ∨ b.step ≠ 4 then s else s.atDeadline b.stepDeadline fun s => s.takeoverFails i.val)

end Sys2Proof.Machine
end

