-- ==== Sys2Proof/Machine/Toll.lean ====
section
/-! DEFINITION. The Toll's commands (13_toll_energy_and_thermal): the tick with its settlement, allowance, refills and
gate levels, telemetry sweeps, gate windows and tile ramps, junction sensors, coolant and the forecast. -/

namespace Sys2Proof.Machine

/-! ## Budget and allowance (R312-R315, R333) -/

/-- The coolant limit in W (R333). -/
def State.coolantLimit (s : State) : Nat :=
  if !s.tol.coolantSet then 1600
  else
    let inlet := s.fld F.TOL_COOLANT_IN_DC
    let hot := 1600 - 4 * (inlet - 450)
    let min' := s.fld F.TOL_FLOW_MIN_DLPM
    if min' ≠ 0 ∧ s.fld F.TOL_COOLANT_FLOW_DLPM < min' then min hot 800 else hot

/-- The budget in force (R312). -/
def State.budget (s : State) : Nat :=
  min (min 1600 (s.fld F.TOL_TRAY_BUDGET_W)) (min s.coolantLimit (min 1600 (s.fld F.TOL_CAP_W)))

/-- The largest a with a + (1900 - a) / 10 ≤ x (R313). -/
def headroom (x : Int) : Nat := if x ≤ 190 then 0 else min 1900 ((x - 190) * 10 / 9).toNat

/-- Millijoules over the first k of the preceding ticks, rounded up. -/
def TolSt.windowMj (t : TolSt) (k : Nat) : Nat := ceilDiv (t.energies.take k).sum 1000

/-- The allowance of the new tick (R313). -/
def TolSt.allowance (t : TolSt) (b : Nat) : Nat :=
  let a := headroom ((100 * b : Nat) - (t.windowMj 99 : Int))
  if t.overRun ≥ 10 ∨ !t.rearmed then min a (headroom b) else a

/-- Step 2 of a tick: the excursion counter, with the tick just closed at the head of the energies (R313). -/
def TolSt.afterTick (t : TolSt) (b : Nat) : TolSt :=
  let overB := decide (t.energies.headD 0 > 1000 * b)
  let t1 := if overB then { t with overRun := t.overRun + 1 }
    else { t with overRun := 0, rearmed := t.rearmed && t.overRun == 0 }
  if t.windowMj 100 ≤ 100 * b then { t1 with rearmed := true } else t1

/-- STATIC_ADJ in W (R314). -/
def State.staticAdj (s : State) : Int := toSigned 16 (s.fld F.TOL_STATIC_ADJ_ADJ_W)

/-- A whole number of W as an FP32 code. -/
def f32OfInt (i : Int) : Nat := toF32 (if i < 0 then (Fp.ofNat i.natAbs).negate else Fp.ofNat i.natAbs)

/-- The largest natural number not above a non-negative FP value; 0 below. -/
def Fp.floorNat : Fp → Nat
  | .fin false m e => if e ≥ 0 then m * 2 ^ e.toNat else m / 2 ^ (-e).toNat
  | _ => 0

/-- The static estimate in W, in FP32 and rounded down (R314). -/
def State.staticEst (s : State) : Nat :=
  let tj : Int := s.fld F.TOL_TJ_TJ_C
  let x := fDiv (f32OfInt (tj - 85)) (f32OfInt 20)
  let leak := fMul (f32OfInt (s.fuses.leak85 : Nat)) (toF32 (ofF32 x).exp2)
  (ofF32 (fAdd (f32OfInt (s.fld F.TOL_STATIC_FIXED_W + s.staticAdj)) leak)).floorNat

/-! ## Settlement (R327, R329) -/

/-- A 64-bit sum that wraps. -/
def wrap64 (n : Nat) : Nat := n % 2 ^ 64

/-- Add energy to a job tag's entry: its own, else the lowest FREE one, else the overflow counter. -/
def State.addJob (s : State) (tag uj : Nat) : State :=
  let set (k : Nat) (e : JobEnt) : State := { s with tol := { s.tol with jobs := amSet s.tol.jobs k e } }
  match s.tol.jobs.find? fun e => e.2.tag == tag with
  | some (k, e) => set k { e with uj := wrap64 (e.uj + uj) }
  | none =>
    match (List.range 256).find? fun k => (amGet s.tol.jobs k).isNone with
    | some k => set k ⟨tag, uj⟩
    | none => s.add64 Reg.TOL_JOB_OVF_UJ_LO uj

/-- Add energy to an account: its function's counter and its job's. -/
def State.addAccount (s : State) (fn tag uj : Nat) : State :=
  let old := (amGet s.tol.fnUj fn).getD 0
  ({ s with tol := { s.tol with fnUj := amSet s.tol.fnUj fn (wrap64 (old + uj)) } }).addJob tag uj

/-- The modelled energy of activity counts in microjoules (R326). -/
def State.modelUj (s : State) (counts : List Nat) : Nat :=
  ((List.range 12).map fun k => counts.getD k 0 * s.fld (F.TOL_COEF_PJ k)).sum / 1000000

/-- What settlement gives one account: its share of the dynamic energy, and of each parcel's static energy. -/
def shareOf (model m dyn ps : Nat) (occ : List Nat) : Nat :=
  (if m = 0 then 0 else dyn * model / m) + ((List.range 12).map fun n => ps * occ.getD n 0 / 2000000).sum

/-- Settlement of the closed tick (R327), and the calibration after an idle one (R314). -/
def State.settleTick (s : State) (uses : List AccountUse) (device : List Nat) (idle : Bool) (e : Nat) : State :=
  let est := s.fld F.TOL_STATIC_ADJ_EST_W
  let st := min e (1000 * est)
  let dyn := e - st
  let devUj := s.modelUj device
  let m := devUj + (uses.map fun u => s.modelUj u.counts).sum
  let shares := uses.map fun u => (u, shareOf (s.modelUj u.counts) m dyn (st / 12) u.occ)
  let s1 := shares.foldl (fun s x => s.addAccount x.1.fn x.1.tag x.2) s
  let s2 := (s1.add64 Reg.TOL_TOTAL_UJ_LO e).add64 Reg.TOL_DEV_UJ_LO (e - (shares.map (·.2)).sum)
  let s3 := { s2 with tol := { s2.tol with lastDyn := dyn, lastModel := m, lastStatic := st } }
  if idle then
    let adj := s.staticAdj + Int.tdiv ((e : Int) - devUj - 1000 * est) 8000
    s3.setFld F.TOL_STATIC_ADJ_ADJ_W (ofSigned 16 (max (-200) (min 200 adj)))
  else s3

/-! ## The levels of a tick (R315, R321, R325, R330, R332) -/

/-- The share weight of a parcel. -/
def State.shareW (s : State) (n : Nat) : Nat :=
  (s.rd (if n < 8 then Reg.TOL_SHARE0 else Reg.TOL_SHARE1)).toNat / 16 ^ (n % 8) % 16

/-- A rail is STALE (R325). -/
def State.telemLost (s : State) : Bool := (List.range 14).any fun k => s.fld (F.TOL_RAIL_I_STALE k) == 1

/-- A parcel's bucket takes its refill: a positive level is clipped to twice the refill first (R315). -/
def refilled (level : Int) (refill : Nat) : Int := (if level > 0 then min level (2 * refill : Nat) else level) + refill

/-- The dynamic refill in microjoules, shared among the parcels in service by their weights (R315). -/
def State.refillAll (s : State) (dyn : Nat) : State :=
  let w (n : Nat) : Nat := if s.inService n then s.shareW n else 0
  let total := ((List.range 12).map w).sum
  (List.range 12).foldl (fun s n =>
    if w n = 0 then s else s.setBucket n (refilled (s.bucket n) (1000 * dyn * w n / total))) s

/-- The thermal level after a tick (R330). -/
def State.thermalStep (s : State) : State :=
  let tj := s.fld F.TOL_TJ_TJ_C
  let old := s.tol.therm
  let new := if tj ≥ 105 then old - 2 else if tj ≤ 102 then min 16 (old + 1) else old
  let s1 := { s with tol := { s.tol with therm := new } }
  let s2 := s1.setFld F.TOL_STATUS_THROTTLE (b2n (new < 16))
  if old = 16 ∧ new < 16 then (s2.setBit F.TOL_EVENT_THROTTLE).raise 61 0 0 none else s2

/-- The gate level of a parcel for the new tick, with what limits it (R321). -/
def State.gateStep (s : State) (n : Nat) : State :=
  let telem := if s.telemLost then 12 else 16
  let stack := if s.tol.stackHot.contains n then 8 else 16
  let g := min s.tol.therm (min telem stack)
  let lim (x : Nat) : Nat := b2n (decide (x < 16 ∧ x = g))
  ((((s.setFld (F.TOL_GATE_LEVEL n) g).setFld (F.TOL_GATE_THERMAL n) (lim s.tol.therm)).setFld (F.TOL_GATE_TELEM n)
    (lim telem)).setFld (F.TOL_GATE_STACK n) (lim stack)).setFld (F.TOL_GATE_CUT n) 0

/-- Step 3: the budget, the allowance, the static estimate, the refills and the gate levels of the new tick. In the safe
state the buckets, the pool and the gates stay 0 (R317). -/
def State.newTick (s : State) : State :=
  let b := s.budget
  let a := s.tol.allowance b
  let s0 := s.thermalStep
  let est := s0.staticEst
  let pool := s0.fld F.TOL_COL_POOL_POOL_W
  let dyn := a - est - pool
  let refill := if s0.telemLost then 3 * dyn / 4 else dyn
  let s1 := ((((s0.setFld F.TOL_STATUS_BUDGET_W b).setFld F.TOL_STATUS_ALLOW_W a).setFld F.TOL_STATIC_ADJ_EST_W
    est).setFld F.TOL_STATUS_EXCURSION (b2n (s.tol.overRun > 0))).setFld F.TOL_STATUS_TELEM_LOST (b2n s0.telemLost)
  let s2 := if refill = 0 then s1.setBit F.TOL_EVENT_BELOW_FLOOR else s1
  let s3 := { s2 with tol := { s2.tol with noRefill := refill == 0, cut := false, sweeps := [] } }
  if s.safe then s3.setFld F.TOL_STATUS_FLOOR 1
  else (List.range 12).foldl State.gateStep ((s3.refillAll refill).setPool (refilled s3.pool (1000 * pool)))

/-- TICK (R311): the closing tick is settled and the new tick's levels applied. uses and device are the activity counts
and occupancies latched at the edge; idle says that no function part ran. -/
def execTick (uses : List AccountUse) (device : List Nat) (idle : Bool) (s : State) : Host.Outcome State Fault Refusal :=
  .next (let e := s.tol.sweeps.sum
    let s1 := s.settleTick uses device idle e
    let t := { s1.tol with energies := (e :: s1.tol.energies).take 100, ticks := s1.tol.ticks + 1 }
    let s2 := { s1 with tol := t.afterTick (s.fld F.TOL_STATUS_BUDGET_W) }
    let s3 := (s2.setFld F.TOL_POWER_TICK_W (e / 1000)).setFld F.TOL_POWER_MEAN100_W (t.energies.sum / 100000)
    s3.newTick)

/-! ## Telemetry (R321, R324, R325) -/

/-- The rails of the variant: select 9 is absent on X1. -/
def Fuses.rails (f : Fuses) : List Nat := (List.range 14).filter fun k => f.x2 || k != 9

/-- One rail of a sweep: its reading is kept, or its failure counted; the third in a row makes it STALE. -/
def State.readRail (s : State) (k : Nat) (r : Option RailRead) : State :=
  match r with
  | some x =>
    let s1 := (((s.setFld (F.TOL_RAIL_V_MV k) x.mv).setFld (F.TOL_RAIL_I_CA k) x.ca).setFld (F.TOL_RAIL_I_TEMP_C k)
      x.tempC).setFld (F.TOL_RAIL_I_STALE k) 0
    let s2 := { s1 with tol := { s1.tol with fails := amDel s1.tol.fails k } }
    let s3 := s2.setFld (F.TOL_RAIL_I_FAULT k) (b2n x.fault)
    if x.fault then (s3.setBit F.TOL_EVENT_REG_FAULT).raise 60 k 1 none else s3
  | none =>
    let n := (amGet s.tol.fails k).getD 0 + 1
    let s1 := s.addSat F.TOL_AVS_ERR_COUNT
    let s2 := { s1 with tol := { s1.tol with fails := amSet s1.tol.fails k n } }
    if n = 3 then
      ((s2.setFld (F.TOL_RAIL_I_STALE k) 1).setBit F.TOL_EVENT_TELEM_LOST).raise 60 k 0 none
    else s2

/-- The measured energy of a sweep in microjoules: voltage times current of every rail over 100 µs, and FIXED_W for the
rest; while a rail is STALE, 1.25 times the model and the static estimate (R325). -/
def State.sweepUj (s : State) (modelUj : Nat) : Nat :=
  if s.telemLost then 5 * (modelUj + 100 * s.fld F.TOL_STATIC_ADJ_EST_W) / 4
  else (s.fuses.rails.map fun k => s.fld (F.TOL_RAIL_V_MV k) * s.fld (F.TOL_RAIL_I_CA k)).sum / 1000
    + 100 * s.fld F.TOL_STATIC_FIXED_W

/-- A cut (R321): every gate is 0 and admission above class 0 held, until step 3 of the next tick. -/
def State.cutTick (s : State) : State :=
  let s1 := { s with tol := { s.tol with cut := true } }
  let s2 := (List.range 12).foldl (fun s n => (s.setFld (F.TOL_GATE_LEVEL n) 0).setFld (F.TOL_GATE_CUT n) 1) s1
  (s2.setBit F.TOL_EVENT_CUT).raise 60 0 2 none

/-- TELEMETRY_SWEEP: the readings of the rails in select order (none: the read and its retry failed), and the modelled
dynamic energy of the sweep. -/
def execTelemetrySweep (reads : List (Option RailRead)) (modelUj : Nat) (s : State) : Host.Outcome State Fault Refusal :=
  .next (let s1 := (s.fuses.rails.map fun k => (k, (reads.getD k none))).foldl (fun s x => s.readRail x.1 x.2) s
    let s2 := s1.setFld F.TOL_STATUS_TELEM_LOST (b2n s1.telemLost)
    let e := s2.sweepUj modelUj
    let sweeps := s2.tol.sweeps ++ [e]
    let s3 := { s2 with tol := { s2.tol with sweeps := sweeps } }
    if !s3.tol.cut && decide (sweeps.sum > 100 * s3.fld F.TOL_STATUS_ALLOW_W * sweeps.length ∨ e > 190000) then
      s3.cutTick else s3)

/-! ## Gating and the ramp (R320, R321) -/

/-- Window j of a tick is open at gate level g. -/
def windowIsOpen (g j : Nat) : Bool := decide ((j % 16 + 1) * g / 16 > j % 16 * g / 16)

/-- GATE_WINDOW: window j of the tick opens or stays closed at a parcel. -/
def execGateWindow (n : Parcel) (j : Nat) (s : State) : Host.Outcome State Fault Refusal :=
  .next (let w := s.tol.windowOpen
    let open' := windowIsOpen (s.fld (F.TOL_GATE_LEVEL n.val)) j
    { s with tol := { s.tol with windowOpen := if open' then setIns w n.val else setDel w n.val } })

/-- A parcel keeps its tile enables on: its window is open and an admitted matrix operator has not ended. -/
def State.wantsTiles (s : State) (n : Nat) : Bool :=
  s.tol.windowOpen.contains n && decide (s.fld (F.TOL_GATE_LEVEL n) ≠ 0)
    && s.seq.descs.any fun d => engineOf d.opcode == 1 && d.parts.any fun p => p.parcel == n && p.inFlight

/-- TILE_RAMP: one step of six tiles, on or off. -/
def execTileRamp (n : Parcel) (s : State) : Host.Outcome State Fault Refusal :=
  .next (let k := (amGet s.tol.ramp n.val).getD 0
    let k' := if s.wantsTiles n.val then min 8 (k + 1) else k - 1
    { s with tol := { s.tol with ramp := amPut s.tol.ramp n.val (if k' = 0 then none else some k') } })

/-! ## Thermal control (R330, R331) -/

/-- A reading that counts. -/
def validTemp (t : Option Int) : Option Nat :=
  match t with
  | some c => if 0 ≤ c ∧ c ≤ 150 then some c.toNat else none
  | none => none

/-- THERMAL_SAMPLE: Tj is the highest valid reading; every excluded sensor raises an event. -/
def execThermalSample (temps : List (Option Int)) (s : State) : Host.Outcome State Fault Refusal :=
  .next (let good := temps.filterMap validTemp
    let s1 := if good.isEmpty then s else s.setFld F.TOL_TJ_TJ_C (good.foldl max 0)
    (temps.zipIdx.filter fun x => (validTemp x.1).isNone).foldl (fun s x =>
      (s.setBit F.TOL_EVENT_SENSOR).raise 61 x.2 1 none) s1)

/-- THERMTRIP: a valid reading of 115 °C asserts THERMTRIP_N and stops every clock except AOSC. -/
def execThermtrip (temps : List (Option Int)) (s : State) : Host.Outcome State Fault Refusal :=
  .next (if (temps.filterMap validTemp).any (· ≥ 115) then
      ({ s with rst := { s.rst with thermtrip := true, coreClocks := false } }).emit (.signal "THERMTRIP_N" 0)
    else s)

/-! ## Coolant (R333) -/

/-- COOLANT_STALE: 2,000 ms without an inlet report. -/
def execCoolantStale (s : State) : Host.Outcome State Fault Refusal :=
  .next (if s.fld F.TOL_STATUS_COOLANT_STALE = 1 then s
    else s.atDeadline (some (s.tol.inletAt + 2000 * perMs)) fun s =>
      ((s.setFld F.TOL_STATUS_COOLANT_STALE 1).setBit F.TOL_EVENT_COOLANT_STALE).raise 61 0 2 none)

/-- A tray report of coolant (R333, R461). -/
def State.coolantIn (s : State) (dc : Nat) : State :=
  let s1 := ((s.setFld F.TOL_COOLANT_IN_DC dc).setRd Reg.TOL_COOLANT_AGE 0).setFld F.TOL_STATUS_COOLANT_STALE 0
  let s2 := { s1 with tol := { s1.tol with coolantSet := true, inletAt := s.mclk } }
  if dc > 450 then (s2.setBit F.TOL_EVENT_COOLANT_HOT).raise 61 0 3 none else s2

/-! ## Job entries (R329) -/

/-- TOL_JOB_FREE: the entry that the path has selected becomes FREE, its counter 0. -/
def State.freeJob (s : State) (path : Path) : State :=
  let k := s.fldB (pathNo path) F.TOL_JOB_SEL_ENTRY
  { s with tol := { s.tol with jobs := amDel s.tol.jobs k } }
def execTolJobFree (path : Path) (value : Word) (s : State) : Host.Outcome State Fault Refusal :=
  .next (s.rwl path Reg.TOL_JOB_FREE fun s => if bitAt value.toNat 0 then s.freeJob path else s)

/-! ## The forecast (R334) -/

/-- A placed descriptor: from and to in CCLK, and its power. -/
structure Placed where
  lo : Nat
  hi : Nat
  w : Nat
  deriving DecidableEq, Repr

/-- The descriptors of a parcel placed back to back on one engine class. -/
def State.placeClass (s : State) (n e : Nat) : List Placed :=
  let ds := s.seq.descs.filter fun d => engineOf d.opcode == e && d.parts.any fun p => p.parcel == n && !p.isOver
  (ds.foldl (fun (x : Nat × List Placed) d =>
    let t := s.modelled n d
    let hi := x.1 + ceilDiv t.1 t.2
    (hi, x.2 ++ [⟨x.1, hi, s.classW (max d.energyClass (minClass d n))⟩])) (0, [])).2

def State.placeAll (s : State) (n : Nat) : List Placed := (List.range 9).flatMap (s.placeClass n)

/-- Power times CCLK of a parcel over a span: what is placed, and its measured mean after its last descriptor. -/
def spanWork (l : List Placed) (mean lo hi : Nat) : Nat :=
  let last := (l.map (·.hi)).foldl max 0
  (l.map fun p => p.w * (min p.hi hi - max p.lo lo)).sum + mean * (hi - max lo last)

/-- The mean power over a span, in W. -/
def State.binW (s : State) (placed : List (List Placed)) (means : List Nat) (lo hi : Nat) : Nat :=
  let base := s.fld F.TOL_STATIC_ADJ_EST_W + s.fld F.TOL_COL_POOL_POOL_W
  let work := ((List.range 12).map fun n => spanWork (placed.getD n []) (means.getD n 0) lo hi).sum
  min 1900 (base + work / (hi - lo))

/-- The spans of bins 0-22, in CCLK. -/
def binSpan (i : Nat) : Nat × Nat :=
  let ms := 2000000
  if i < 10 then (i * ms, (i + 1) * ms)
  else if i < 19 then ((i - 9) * 10 * ms, (i - 8) * 10 * ms)
  else ((i - 18) * 100 * ms, (i - 17) * 100 * ms)

/-- The 80 bytes of Table 4. -/
def State.forecast (s : State) (means : List Nat) (active : Nat) : List Byte :=
  let placed := (List.range 12).map s.placeAll
  let lasts := placed.map fun l => (l.map (·.hi)).foldl max 0
  let bins := (List.range 23).map fun i => s.binW placed means (binSpan i).1 (binSpan i).2
  let peak := ((List.range 100).map fun k => s.binW placed means (2000000 * k) (2000000 * (k + 1))).foldl max 0
  let full (hi : Nat) : Bool := (List.range 12).all fun n => !bitAt active n || decide (hi ≤ lasts.getD n 0)
  let planned := maskOf ((List.range 24).filter fun i => full (if i = 23 then 200000000 else (binSpan i).2))
  let flags := b2n ((List.range 12).any fun n => s.fld (F.TOL_GATE_THERMAL n) == 1) + 2 * b2n (s.tol.overRun > 0)
    + 4 * b2n s.telemLost + 8 * s.fld F.TOL_STATUS_COOLANT_STALE
  leBytes 1 1 ++ leBytes 1 flags ++ leBytes 2 s.tol.fcastSeq ++ leBytes 3 planned ++ leBytes 1 0 ++ leBytes 8 s.fabTime
    ++ leBytes 2 (s.fld F.TOL_STATUS_BUDGET_W) ++ leBytes 2 (s.fld F.TOL_POWER_MEAN100_W) ++ leBytes 12 0
    ++ ((bins ++ [peak]).map (leBytes 2)).flatten

/-- FORECAST (R334, R463): built every tenth tick and put into the management port's forecast slot. means are the parcels' measured dynamic
means over the last 100 ms, active the parcels with work in that time. -/
def execForecast (means : List Nat) (active : Nat) (s : State) : Host.Outcome State Fault Refusal :=
  .next (let b := s.forecast means active
    let s1 := (List.range 20).foldl (fun s w => s.setRd (Reg.TOL_FCAST w) (BitVec.ofNat 32 (leAt b (4 * w) 4))) s
    { s1 with tol := { s1.tol with fcastSeq := (s1.tol.fcastSeq + 1) % 65536 }
              mgmt := { s1.mgmt with forecast := some b } })

end Sys2Proof.Machine
end

