-- ==== Sys2Proof/Machine/RegRead.lean ====
section
/-! DEFINITION. Reading a register (R9-R11): the words the register file holds, the words that a block computes from what
it holds elsewhere, the copies kept per access path, and the latches of 64-bit values. -/

namespace Sys2Proof.Machine

/-! ## Words a block computes -/

/-- A word from its fields: each value at its lowest bit. -/
def packWord (l : List (Nat × Nat)) : Nat := (l.map fun x => x.2 * 2 ^ x.1).sum

/-- A stored word with some of its fields replaced: highest bit, lowest bit, value. -/
def patchWord (w : Nat) (l : List (Nat × Nat × Nat)) : Nat := l.foldl (fun w x => setBitsOf w x.1 x.2.1 x.2.2) w

/-- Word k of a 64-bit value: 0 the low word, 1 the high word. -/
def wordOf (v k : Nat) : Nat := v / 2 ^ (32 * k) % 2 ^ 32

/-- Whole milliseconds since a time, saturating at 16 bits; the full count where nothing has happened yet. -/
def State.ageMs (s : State) (t : Option Nat) : Nat :=
  match t with
  | some t => min 0xFFFF ((s.mclk - t) / perMs)
  | none => 0xFFFF

/-- The capability words (R8, Table 3). -/
def Fuses.capWord (f : Fuses) (off : Nat) : Nat :=
  if off = Reg.CAP_ID then 0x50424120 + f.step % 16
  else if off = Reg.CAP_VARIANT then packWord [(0, f.stackCount), (4, f.ioDies), (6, b2n f.gradeB), (8, 12), (12, 4), (16, 48)]
  else if off = Reg.CAP_GRADE then packWord [(0, f.minTiles), (8, f.minBanks), (16, 48), (24, 64)]
  else if off = Reg.CAP_PORTS then
    packWord [(0, f.ports), (5, f.meshPorts), (10, f.ports - f.meshPorts), (13, f.ethPorts), (15, f.cxlPorts), (18, 1)]
  else if off = Reg.CAP_SERIAL_LO then wordOf f.serial 0
  else if off = Reg.CAP_SERIAL_HI then wordOf f.serial 1
  else 0

/-- The descriptors with a part at a parcel that satisfies a test. -/
def State.descsAt (s : State) (n : Nat) (test : Desc → Part → Bool) : Nat :=
  (s.seq.descs.filter fun d => d.parts.any fun p => p.parcel == n && test d p).length

/-- Some part of an engine runs at a parcel. -/
def State.engineRuns (s : State) (n : Nat) (ops : Nat → Bool) : Bool :=
  s.seq.descs.any fun d => ops d.opcode && d.parts.any fun p => p.parcel == n && decide (p.st = .running)

/-- The mark that a path has selected at a parcel: the key of its set, and its number (R107). -/
def State.markSel (s : State) (path : Path) (n : Nat) : Nat × Nat :=
  let w := (s.rdB (pathNo path) (Reg.SEQ_MARK_SEL n)).toNat
  (n * 512 + bitsOf w 16 8, w % 32)

/-- The request words of the gangway, for the slot that a path has selected (R183, Table 15). -/
def State.gwyWord (s : State) (path : Path) (n lo : Nat) : Nat :=
  match s.gwReq (gwKey n (s.fldB (pathNo path) (F.GWY_REQ_SEL_REQ n))) with
  | none => 0
  | some r =>
    let st := if r.st ≠ 1 then r.st else if r.waitsFor K_APPLY then 3 else if r.openEpoch ≠ 0 then 2 else 1
    match lo with
    | 0x24 => packWord [(0, st), (8, r.openEpoch % 256), (16, r.lastEpoch % 256), (24, r.gen % 256)]
    | 0x28 => packWord [(0, r.members.length), (16, (r.members.filter fun m => !m.pend.isEmpty).length)]
    | 0x2C => r.buf.length
    | 0x30 => r.leadUs
    | 0x34 => r.underruns
    | 0x38 => wordOf r.tokens 0
    | 0x3C => wordOf r.tokens 1
    | 0x40 => wordOf r.specUj 0
    | 0x44 => wordOf r.specUj 1
    | 0x48 => wordOf r.rejectUj 0
    | 0x4C => wordOf r.rejectUj 1
    | 0x50 => r.commits
    | 0x54 => r.discards
    | _ => 0

/-- The computed words of a parcel's blocks: block number, offset in the block; none where the register file has it. -/
def State.parcelWord (s : State) (path : Path) (n block lo : Nat) : Option Nat :=
  let w (off : Nat) : Nat := (s.rd off).toNat
  match block, lo with
  | 0, 0x404 =>
    let (k, m) := s.markSel path n
    some (if (amGet s.seq.sets k).isSome then (s.markAt k m).count.toNat else 0)
  | 0, 0x408 =>
    let (k, m) := s.markSel path n
    some (match amGet s.seq.sets k with
      | some c => packWord [(0, b2n (s.markAt k m).error), (1, 1), (16, c)]
      | none => 0)
  | 0, 0x414 => some (s.descsAt n fun _ p => decide (p.st = .admitted ∨ p.st = .deferred ∨ p.st = .running))
  | 2, 0 => some (patchWord (w (Reg.MT_STATUS n)) [(16, 16, b2n (s.engineRuns n fun op => op == 0x10 || op == 0x11))])
  | 3, 0 => some (patchWord (w (Reg.VU_STATUS n)) [(16, 16, b2n (s.engineRuns n fun op => engineOf op == 2))])
  | 4, 0 => some (patchWord (w (Reg.KVP_STATUS n)) [(0, 0, b2n (s.engineRuns n fun op => engineOf op == 5)),
      (1, 1, b2n (s.engineRuns n fun op => engineOf op == 6))])
  | 5, 0 => some (packWord [(0, (s.gw.reqs.filter fun e => e.1 / 64 == n).length),
      (8, (s.gw.binds.filter fun e => e.1 / 4096 == n).length)])
  | 5, _ => if 0x24 ≤ lo ∧ lo ≤ 0x54 then some (s.gwyWord path n lo) else none
  | 7, 0 => some (packWord [(0, b2n (s.engineRuns n fun op => op == 0x11)), (4, s.stageBad n)])
  | _, _ => none

/-- The state of a context, as HIF_CTX_STATE codes it. -/
def CtxState.code : CtxState → Nat
  | .free => 0
  | .stopped => 1
  | .running => 2
  | .stopping => 3

/-- The computed words of the host interface (R238). -/
def State.hifWord (s : State) (path : Path) (off : Nat) : Option Nat :=
  let c := s.ctxSel path
  let x := s.ctx c
  if off = Reg.HIF_FN_STATUS then
    let f := s.fldB (pathNo path) F.HIF_FN_SEL_FN
    let v := s.fn f
    let n := (s.host.ctxs.filter fun e => decide (e.2.st ≠ .free) && s.ctxFn e.1 == f).length
    some (packWord [(0, b2n v.enabled), (1, b2n v.disabling.isSome), (2, b2n v.bme), (16, n)])
  else if off = Reg.HIF_CTX_STATE then some (packWord [(0, x.st.code), (2, b2n (s.isJoined c))])
  else if off = Reg.HIF_CTX_FETCH_POS then some x.fetch
  else if off = Reg.HIF_CTX_DB_POS then some x.db
  else if off = Reg.HIF_CTX_REC_POS then some x.recPos
  else if off = Reg.HIF_CTX_HEAD_POS then some x.head
  else if (ctxCfgMask off).isSome then some (s.rdB (entryBank c) off).toNat
  else none

/-- The computed words of the OWN block (R239). -/
def State.ownWord (s : State) (off : Nat) : Option Nat :=
  if off = Reg.OWN_STATUS then
    some (packWord [(0, s.own.owner), (2, b2n s.own.locked), (3, b2n s.own.successor.isSome), (4, s.own.successor.getD 0),
      (6, b2n s.own.busy.isSome), (7, b2n s.safe)])
  else if off = Reg.OWN_HANDOVER_LEFT then
    some (match s.own.handoverDeadline with | some t => ceilDiv (t - s.mclk) perMs % 128 | none => 0)
  else if off = Reg.OWN_GEN then some s.own.gen
  else none

/-- The computed words of the reset controller, the Toll and the collector (R354, R335, R390). -/
def State.centralWord (s : State) (path : Path) (off : Nat) : Option Nat :=
  if off = Reg.RST_WDT_LEFT then
    some (match s.rst.wdt with
      | some t => min 0xFFFF (ceilDiv (t - s.mclk) perMs)
      | none => s.fld F.RST_WDT_CFG_MS)
  else if off = Reg.TOL_COOLANT_AGE then some (s.ageMs (some s.tol.inletAt))
  else if off = Reg.TOL_FN_UJ_LO ∨ off = Reg.TOL_FN_UJ_HI then
    some (wordOf ((amGet s.tol.fnUj (s.fldB (pathNo path) F.TOL_FN_SEL_FN)).getD 0) (b2n (off == Reg.TOL_FN_UJ_HI)))
  else if Reg.TOL_JOB_TAG ≤ off ∧ off ≤ Reg.TOL_JOB_UJ_HI then
    some (match amGet s.tol.jobs (s.fldB (pathNo path) F.TOL_JOB_SEL_ENTRY) with
      | none => 0
      | some j =>
        if off = Reg.TOL_JOB_TAG then j.tag
        else if off = Reg.TOL_JOB_STATE then 1
        else wordOf j.uj (b2n (off == Reg.TOL_JOB_UJ_HI)))
  else if off = Reg.FCU_STATUS then
    let set := (List.range 66).filter s.statBit
    let high := (set.map fun i => s.fld (F.FCU_SRC_STATE_LATCHED_SEV i)).foldl max 0
    some (patchWord (s.rd off).toNat [(9, 8, high), (22, 16, set.length)])
  else if off = Reg.FCU_LOG_COUNT then some s.fcu.log.length
  else if Reg.FCU_LOG_WORD 0 ≤ off ∧ off < Reg.FCU_LOG_WORD 8 then
    some (match s.fcu.log.drop (s.fldB (pathNo path) F.FCU_LOG_SEL_ENTRY) with
      | r :: _ => leAt r.bytes (off - Reg.FCU_LOG_WORD 0) 4
      | [] => 0)
  else if Reg.FCU_SRC_STATE 0 ≤ off ∧ off < Reg.FCU_SRC_STATE 66 then
    some (patchWord (s.rd off).toNat [(25, 25, b2n (amGet s.fcu.grace ((off - Reg.FCU_SRC_STATE 0) / 4)).isSome)])
  else none

/-- REC_RLF_STATE.STATE of a binding. -/
def BindState.code : BindState → Nat
  | .free => 0
  | .activeArmed => 1
  | .reliefArmed => 2
  | .taking => 3
  | .taken => 4
  | .cast => 5
  | .failed => 6
  | .reliefLost => 7

/-- The last JSEQ sent, or accepted, of the lowest-numbered parcel of a binding. -/
def BindSt.lastJseq (b : BindSt) : Nat :=
  match (b.streams.map (·.parcel)).min? with
  | some n => ((b.stream n).next + 2 ^ 32 - 1) % 2 ^ 32
  | none => 0

/-- A binding's configuration registers (R411): writable while it is FREE. -/
def rlfCfgReg (off : Nat) : Bool := decide (Reg.REC_RLF_MASKS ≤ off ∧ off ≤ Reg.REC_RLF_MIRROR)

/-- The computed words of recovery and of bring-up (R411, R426). -/
def State.recWord (s : State) (path : Path) (off : Nat) : Option Nat :=
  let i := s.rlfSel path
  let b := s.bind i
  if off = Reg.REC_STATUS then
    some (patchWord (s.rd off).toNat [(27, 16, maskOf ((List.range 12).filter fun n => s.parcelState n == 5))])
  else if off = Reg.REC_RLF_STATE then
    some (packWord [(0, b.st.code), (3, b2n b.mirrorBad), (8, b.bgen % 256), (16, b.lastEpoch.getD 0 % 256),
      (24, b.cause % 8)])
  else if off = Reg.REC_RLF_JSEQ then some b.lastJseq
  else if rlfCfgReg off ∨ off = Reg.REC_RLF_SURVEY ∨ off = Reg.REC_RLF_TAKEOVER_US then some (s.rdB (entryBank i) off).toNat
  else if Reg.REC_BELL_LEFT 0 ≤ off ∧ off < Reg.REC_BELL_LEFT 12 ∧ (off - Reg.REC_BELL_LEFT 0) % 32 = 0 then
    let n := (off - Reg.REC_BELL_LEFT 0) / 32
    some (match ((s.rcv.bells.filter fun e => e.1 / 4 == n).map (·.2)).min? with
      | some t => min 0x3FFF (ceilDiv (t - s.mclk) perUs)
      | none => 0)
  else if off = Reg.BRU_READY then some s.bruReady
  else none

/-- The tray manager is present (R465). -/
def State.trayPresent (s : State) : Bool :=
  decide (s.ageMs s.mgmt.trayAt < max 1 (s.fld F.MGP_CFG_ABSENT_MS)) && s.mgmt.trayAt.isSome

/-- The computed words of the update registers and of the management port (R454, R469). -/
def State.mgpWord (s : State) (off : Nat) : Option Nat :=
  if off = Reg.FWU_STATUS then
    some (patchWord (s.rd off).toNat [(8, 8, b2n s.backupLow), (9, 9, b2n s.migrating)])
  else if off = Reg.MGP_STATUS then
    some (patchWord (s.rd off).toNat [(16, 16, b2n s.trayPresent), (21, 21, b2n !s.mgmt.evq.isEmpty)])
  else if off = Reg.MGP_TRAY_AGE then some (s.ageMs s.mgmt.trayAt)
  else if off = Reg.MGP_BACKUP_AGE then some (s.ageMs s.mgmt.backupAt)
  else if off = Reg.MGP_EVQ then some s.mgmt.evq.length
  else none

/-- The computed words of the fabric, the collective engine and the links (R292, R310, R269). -/
def State.fabWord (s : State) (off : Nat) : Option Nat :=
  if Reg.FAB_PORT_STATE 0 ≤ off ∧ off < Reg.FAB_PORT_STATE 20 then
    let p := (off - Reg.FAB_PORT_STATE 0) / 4
    some (if p < s.fuses.ports then
      patchWord (s.rd off).toNat [(3, 3, b2n (decide (s.fuses.meshPorts ≤ p))), (31, 16, min 0xFFFF (s.depth p))] else 0)
  else if off = Reg.FAB_TIME_LO then some (wordOf s.fabTime 0)
  else if off = Reg.FAB_TIME_HI then some (wordOf s.fabTime 1)
  else if off = Reg.COL_STATUS then
    some (packWord [(0, s.coll.groups.length),
      (16, (s.seq.descs.flatMap fun d => if d.opcode = 0x61 then d.parts.filter fun p => decide (p.st = .running) else []).length)])
  else if 0x2000000 ≤ off ∧ off < 0x2500000 ∧ off % 0x40000 = 0x1C then
    some (s.link ((off - 0x2000000) / 0x40000)).unacked.length
  else none

/-- The registers of an Ethernet queue, shown for the queue that a path has selected (R240). -/
def ethQueueReg (off : Nat) : Bool :=
  decide (0xB00000 ≤ off ∧ off < 0xB80000 ∧ 0x104 ≤ off % 0x40000 ∧ off % 0x40000 ≤ 0x118)
def State.ethSelQueue (s : State) (path : Path) (off : Nat) : Nat := s.qSel path ((off - 0xB00000) / 0x40000)

/-- The word that a block computes for a register, where it is not the register file's. -/
def State.blockWord (s : State) (path : Path) (off : Nat) : Option Nat :=
  if off < 0x100000 then some (s.fuses.capWord off)
  else if off < 0x200000 then s.hifWord path off
  else if off < 0x300000 then s.ownWord off
  else if off < 0x700000 then s.centralWord path off
  else if off < 0x900000 then s.recWord path off
  else if off < 0xB00000 then s.mgpWord off
  else if off < 0xC00000 then
    if ethQueueReg off then some (s.rdB (entryBank (s.ethSelQueue path off)) off).toNat else none
  else if off < 0x1000000 then s.fabWord off
  else if off < 0x2000000 then
    s.parcelWord path ((off - 0x1000000) / 0x100000) (off % 0x100000 / 0x10000) (off % 0x10000)
  else s.fabWord off

/-! ## Reading -/

/-- A register range that the variant leaves out (R6): it reads 0, and writes to it are ignored. -/
def State.regAbsent (s : State) (off : Nat) : Bool :=
  if off < 0xB00000 then false
  else if off < 0xC00000 then !s.ethExists ((off - 0xB00000) / 0x40000)
  else if off < 0xE00000 then false
  else if off < 0xE01000 then !s.farHere ((off - 0xE00100) / 0x40)
  else if off < 0xF00000 then !s.farHere ((off - 0xE01000) / 0x800)
  else if off < 0x2000000 then false
  else decide (s.fuses.ports ≤ (off - 0x2000000) / 0x40000)

/-- The words of PF0's MSI-X table in BAR0 (R208). -/
def msixReg (off : Nat) : Bool := decide (0x180000 ≤ off ∧ off < 0x188000)

/-- The current value of a register as a path reads it: 0 at an offset with no register. -/
def State.regWord (s : State) (path : Path) (off : Nat) : Word :=
  if msixReg off then s.rdB (entryBank 0) off
  else match regRow off with
    | none => 0
    | some r =>
      if s.regAbsent off then 0
      else if r.perPath then s.rdB (pathNo path) off
      else match s.blockWord path off with
        | some v => BitVec.ofNat 32 v
        | none => s.rd off

/-- The register at an offset is the low word of a 64-bit value. -/
def isLowWord (off : Nat) : Bool := (regRow off).any (·.wide)

/-- The key of a path's latch for the high word at an offset. -/
def latchKey (path : Path) (off : Nat) : Nat := regKey (pathNo path) off

/-- A read of one word by a path (R11): a low word copies its high word into the path's latch; a high word returns the
latch, or the live word where the path has read no low word yet; a parcel register whose domain is off reads 0 (R364). -/
def State.readReg (s : State) (path : Path) (off : Nat) : Word × State :=
  if !s.logicUp && isParcelReg off then (0, s.downAccess)
  else if isLowWord off then
    (s.regWord path off, { s with latches := amSet s.latches (latchKey path (off + 4)) (s.regWord path (off + 4)) })
  else if decide (4 ≤ off) && isLowWord (off - 4) then
    ((amGet s.latches (latchKey path off)).getD (s.regWord path off), s)
  else (s.regWord path off, s)

/-- LOW_WORD_READ (R11): a path reads the word at an offset, and its data goes back. -/
def execLowWordRead (path : Path) (off : Nat) (s : State) : Host.Outcome State Fault Refusal :=
  .next (let (v, s1) := s.readReg path (off / 4 * 4)
    s1.emit (.readData path (leBytes 4 v.toNat) false))

end Sys2Proof.Machine
end

