-- ==== Sys2Proof/Machine/Bus.lean ====
section
/-! DEFINITION. Writing a register (R6, R9, R10, R364, R443): the effect of a write of any BAR0 word by any access path, by
the access types of its fields and by the actions that its fields name; and the REG_ACCESS of the fabric manager with
the vendor register commands of the management port (R285, R458). -/

namespace Sys2Proof.Machine

/-! ## Access types (R9, R10) -/

/-- The word after the bits of a mask take a written value. -/
def takeBits (old v mask : Nat) : Nat := (old &&& (0xFFFFFFFF - mask)) ||| (v &&& mask)

/-- Where a register's own copy of a word is for a path: its path's copy, or the entry a selector selects. -/
def State.bankOf (s : State) (path : Path) (off : Nat) (r : RegRow) : Nat :=
  if r.perPath then pathNo path
  else if ethQueueReg off then entryBank (s.ethSelQueue path off)
  else if rlfCfgReg off then entryBank (s.rlfSel path)
  else 0

/-- The fields of one kind: RW and RWL take the value, W1C bits are cleared, W1S bits are set. -/
def State.storeBits (s : State) (path : Path) (off v : Nat) (r : RegRow) (take clear set : Nat) : State :=
  let b := s.bankOf path off r
  let old := (s.rdB b off).toNat
  let w := (takeBits old v take &&& (0xFFFFFFFF - (v &&& clear))) ||| (v &&& set)
  s.setRdB b off (BitVec.ofNat 32 w)

/-- A write by access type: fields under the RWL rule only for the owner with the lock open, and counted otherwise. -/
def State.storeByType (s : State) (path : Path) (off v : Nat) (r : RegRow) : State :=
  if r.rwlRule then s.rwl path off fun s => s.storeBits path off v r (r.rw ||| r.rwl) r.w1c r.w1s
  else
    let s1 := s.storeBits path off v r r.rw r.w1c r.w1s
    if r.rwl = 0 then s1 else s1.rwl path off fun s => s.storeBits path off v r r.rwl 0 0

/-! ## Registers with an action of their own -/

/-- LNK_CTRL (R254, R264, R269): ENABLE under the RWL rule; RETRAIN, RESTART and LANE_REQ act for any writer. -/
def State.writeLnkCtrl (s : State) (path : Path) (p v : Nat) : State :=
  let s1 := s.rwl path (Reg.LNK_CTRL p) fun s =>
    let s1 := s.setFld (F.LNK_CTRL_ENABLE p) (v % 2)
    if v % 2 = 0 then ((s1.leaveUp p).dropCur p).setFld (F.LNK_STATUS_STATE p) 0
    else if s.linkState p = 0 ∧ s.up 6 then s1.setFld (F.LNK_STATUS_STATE p) 1
    else s1
  let s2 := if bitAt v 1 then s1.lnkRetrain p else s1
  let s3 := if bitAt v 2 then s2.lnkRestart p else s2
  if bitAt v 6 then s3.laneReq p (bitsOf v 5 4) else s3

/-- FCU_PIN (R380): MODE takes effect once no pulse is left. -/
def State.writeFcuPin (s : State) (v : Nat) : State :=
  let s1 := s.setRd Reg.FCU_PIN (BitVec.ofNat 32 (v &&& 0xFF000F))
  if s1.fcu.pulse.isSome ∨ s1.fcu.pulseMore then s1 else { s1 with fcu := { s1.fcu with pinMode := v % 2 } }

/-- RST_BLOCK1: ETH 0-1, FT 2-5, FAB 6, COL 7; a frame may be in transmission (a free bit). -/
def State.writeBlock1 (s : State) (v : Nat) : State :=
  (setBits v 8).foldl (fun s b =>
    let (sending, s1) := if b < 2 then s.free 1 else (0, s)
    s1.blockReset (32 + b) (sending == 1)) s

/-- FT_PORT_CTRL (R202): RESET and ACCEPT_STALE. -/
def State.writeFtCtrl (s : State) (q v : Nat) : State :=
  let s1 := if bitAt v 0 then s.resetFarPort q else s
  if bitAt v 1 then s1.setFld (F.FT_PORT_STATE_STALE q) 0 else s1

/-- REC_PARCEL_CMD: 1 FENCE, 2 RESET; others are ignored. -/
def State.writeParcelCmd (s : State) (path : Path) (n v : Nat) : State :=
  match v % 4 with
  | 1 => s.fenceCommand path n
  | 2 => s.resetCommand path n
  | _ => s.rwl path (Reg.REC_PARCEL_CMD n) fun s => s

/-- REC_BELL (R391): a hart rings its own bell. -/
def State.writeBell (s : State) (path : Path) (n v : Nat) : State :=
  match path with
  | .hart m h => if m.val = n ∧ bitAt v h.val then s.ringBell n h.val else s
  | _ => s

/-- An action with a GO or CLEAR bit, under the RWL rule. -/
def State.goWrite (s : State) (path : Path) (off v : Nat) (k : State → State) : State :=
  s.rwl path off fun s => if bitAt v 0 then k s else s

/-- A write of the collector's registers; in self-fault every write is ignored (R384). -/
def State.writeFcu (s : State) (path : Path) (off : Nat) (v : Word) (r : RegRow) : State :=
  let n := v.toNat
  if s.fld F.FCU_STATUS_SELF = 1 then s
  else if off = Reg.FCU_CFG then s.rwl path off fun s => s.writeFcuCfg v
  else if off = Reg.FCU_PIN then s.rwl path off fun s => s.writeFcuPin n
  else if Reg.FCU_STAT_W 0 ≤ off ∧ off < Reg.FCU_STAT_W 4 then
    s.rwl path off fun s => s.clearStat ((off - Reg.FCU_STAT_W 0) / 4) n
  else if off = Reg.FCU_FORCE_SAFE then s.goWrite path off n State.forceSafe
  else if off = Reg.FCU_LOG_POP then s.rwl path off fun s => s.popLog (bitsOf n 8 0)
  else if off = Reg.FCU_FIRST_CLR then s.goWrite path off n State.clearFirst
  else s.storeByType path off n r

/-- A write of the recovery registers (R391, R393, R411). -/
def State.writeRec (s : State) (path : Path) (off v : Nat) (r : RegRow) : State :=
  if off = Reg.REC_RLF_CMD then s.writeRlfCmd path v
  else if rlfCfgReg off then
    s.rwl path off fun s => if (s.bind (s.rlfSel path)).st = .free then s.storeBits path off v r r.rwl 0 0 else s
  else if Reg.REC_PARCEL_CMD 0 ≤ off ∧ off < Reg.REC_PARCEL_CMD 12 then
    let n := (off - Reg.REC_PARCEL_CMD 0) / 32
    match (off - Reg.REC_PARCEL_CMD 0) % 32 with
    | 0 => s.writeParcelCmd path n v
    | 8 => s.writeBell path n v
    | _ => s.storeByType path off v r
  else s.storeByType path off v r

/-- A write of the host interface and of the OWN block (R214, R226, R238, R239). -/
def State.writeHif (s : State) (path : Path) (off : Nat) (v : Word) (r : RegRow) : State :=
  let n := v.toNat
  if off = Reg.HIF_CTX_CMD then s.writeCtxCmd path n
  else if (ctxCfgMask off).isSome then s.writeCtxCfg path off v
  else if off = Reg.HIF_ERR_CLR then s.goWrite path off n State.clearHostErr
  else if off = Reg.OWN_CMD then s.ownCommand path (n % 16) (bitsOf n 5 4)
  else if off = Reg.OWN_VIOL_CLR then s.goWrite path off n State.clearViol
  else s.storeByType path off n r

/-- A write of the reset and power controllers and of the Toll (R344, R352, R353, R358, R329). -/
def State.writeCentral (s : State) (path : Path) (off : Nat) (v : Word) (r : RegRow) : State :=
  let n := v.toNat
  if off = Reg.RST_DEVICE then s.goWrite path off n fun s => s.requestReset 5
  else if off = Reg.RST_BLOCK0 then
    s.rwl path off fun s => (setBits n 20).foldl (fun s p => s.blockReset p false) s
  else if off = Reg.RST_BLOCK1 then s.rwl path off fun s => s.writeBlock1 n
  else if off = Reg.RST_WDT_CFG then s.writeWdtCfg path v
  else if off = Reg.RST_WDT_KICK then if path = .mgmtCore ∧ bitAt n 0 ∧ s.up 3 then s.restartWdt else s
  else if off = Reg.PWR_CMD then s.pwrCommand path (n % 4)
  else if off = Reg.PWR_PAD_RELEASE then s.goWrite path off n State.releasePads
  else if off = Reg.PWR_STATUS then if bitAt n 6 then s.setFld F.PWR_STATUS_FROM_OFF 0 else s
  else if off = Reg.TOL_JOB_FREE then s.goWrite path off n fun s => s.freeJob path
  else s.storeByType path off n r

/-- A write of bring-up, the NV store and the update registers (R415, R439, R443, R450). The slot that a VERIFY writes reads
back well or not (a free bit); the copies that a LOAD makes are good. -/
def State.writeFirmware (s : State) (path : Path) (off v : Nat) (r : RegRow) : State :=
  if off = Reg.BRU_CMD then s.writeBruCmd path v
  else if off = Reg.NVS_CMD then s.startCompact path v
  else if off = Reg.FWU_CMD then
    let (ok, s1) := if v % 8 = 3 then s.free 1 else (1, s)
    s1.writeFwuCmd path v (ok == 1)
  else if off = Reg.FWU_CONFIRM then s.fwuConfirm path v
  else if Reg.FWU_PKG_LEN ≤ off ∧ off ≤ Reg.FWU_ACT_TIME_HI then s.fwuBy path off fun s => s.storeByType path off v r
  else s.storeByType path off v r

/-- A write of an Ethernet port's registers (R240): a queue's configuration is writable while the queue is OFF. -/
def State.writeEth (s : State) (path : Path) (off v : Nat) (r : RegRow) : State :=
  let e := (off - 0xB00000) / 0x40000
  if off = Reg.ETH_Q_CTRL e then s.rwl path off fun s => s.writeQCtrl path e v
  else if ethQueueReg off then
    s.rwl path off fun s => if s.qState e (s.qSel path e) = 0 then s.storeBits path off v r r.rwl 0 0 else s
  else s.storeByType path off v r

/-- A write of the fabric, collective and far-tier blocks (R273, R310, R188, R202). -/
def State.writeFab (s : State) (path : Path) (off v : Nat) (r : RegRow) : State :=
  if off = Reg.FAB_TRAV_CTRL then if bitAt v 0 ∧ s.up 5 then s.travStart else s
  else if off = Reg.COL_ABORT_CLR then s.goWrite path off v State.clearAbort
  else if Reg.FT_TRACT_OWNER 0 ≤ off ∧ off < Reg.FT_TRACT_OWNER 2048 then
    let t := (off - Reg.FT_TRACT_OWNER 0) / 4
    s.rwl path off fun s => s.writeTract off v (F.FT_PORT_EVENT_OWNER_WRITE_DROPPED (t / 512))
  else if 0xE00100 ≤ off ∧ off < 0xE00200 ∧ off % 0x40 = 8 then
    s.rwl path off fun s => s.writeFtCtrl ((off - 0xE00100) / 0x40) v
  else s.storeByType path off v r

/-- A write of a parcel's registers: block number and offset in the block. -/
def State.writeParcel (s : State) (path : Path) (off v : Nat) (r : RegRow) : State :=
  let n := (off - 0x1000000) / 0x100000
  let lo := off % 0x10000
  match off % 0x100000 / 0x10000 with
  | 1 =>
    if lo = 0x10 then s.rwl path off fun s => s.writeArb n v
    else if lo = 0x14 then s.rwl path off fun s => s.writeScrub n v
    else if lo = 0x34 then s.goWrite path off v fun s => s.clearHoldErr n
    else if 0x100 ≤ lo ∧ lo < 0x280 then s.rwl path off fun s => s.writePlotOwner n ((lo - 0x100) / 4) v
    else s.storeByType path off v r
  | 2 => if lo = 0x1C then s.goWrite path off v fun s => s.setRd (Reg.MT_ERR_INFO n) 0 else s.storeByType path off v r
  | 3 =>
    if lo = 8 then s.rwl path off fun s => (setBits v 4).foldl (fun s i => s.freeSlot n i) s
    else if lo = 0x18 then
      s.goWrite path off v fun s => (s.setRd (Reg.VU_ERR_INFO n) 0).setRd (Reg.VU_ERR_CODE n) 0
    else s.storeByType path off v r
  | 4 => if lo = 0x14 then s.goWrite path off v fun s => s.clearKvErr n else s.storeByType path off v r
  | 5 => if lo = 0x14 then s.goWrite path off v fun s => s.clearGwErr n else s.storeByType path off v r
  | 6 =>
    if lo = 0x10 then s.rwl path off fun s => s.writeRetrainReq n v
    else if lo = 0x30 then s.goWrite path off v fun s => s.clearNearErr n
    else if 0x100 ≤ lo ∧ lo < 0x1C0 then
      s.rwl path off fun s => s.writeTract off v (F.NT_EVENT_OWNER_WRITE_DROPPED n)
    else s.storeByType path off v r
  | 7 =>
    if lo = 0xC then if bitAt v 0 then s.wdcCommit n else s
    else if lo = 0x1C then if bitAt v 0 then s.clearWdcErr n else s
    else s.storeByType path off v r
  | _ => s.storeByType path off v r

/-- A write of a link port's registers (R254, R269). -/
def State.writeLnk (s : State) (path : Path) (off v : Nat) (r : RegRow) : State :=
  let p := (off - 0x2000000) / 0x40000
  match off % 0x40000 with
  | 4 => s.writeLnkCtrl path p v
  | 0x38 => s.goWrite path off v fun s => s.setRd (Reg.LNK_VIOL_INFO p) 0
  | _ => s.storeByType path off v r

/-- A write of PF0's MSI-X table (R208, R221): unmasking a vector sends what is pending on it. -/
def State.writeMsix (s : State) (off : Nat) (v : Word) : State :=
  let s1 := s.setRdB (entryBank 0) off (if off % 16 = 12 then v &&& 1#32 else v)
  let vec := (off - 0x180000) / 16
  if off % 16 = 12 ∧ !bitAt v.toNat 0 ∧ s1.host.msixPending.contains vec then
    ({ s1 with host := { s1.host with msixPending := setDel s1.host.msixPending vec } }).msix 0 vec
  else s1

/-! ## Any write -/

/-- A path writes a word: at an offset with no register and in an absent range nothing happens (R6), in a parcel whose domain
is off the write is dropped and counted (R364). -/
def State.writeReg (s : State) (path : Path) (off : Nat) (v : Word) : State :=
  if msixReg off then (if path = .pf0 then s.writeMsix off v else s)
  else if !s.logicUp && isParcelReg off then s.downAccess
  else match regRow off with
    | none => s
    | some r =>
      if s.regAbsent off then s
      else if off < 0x300000 then s.writeHif path off v r
      else if off < 0x600000 then s.writeCentral path off v r
      else if off < 0x700000 then s.writeFcu path off v r
      else if off < 0x800000 then s.writeRec path off v.toNat r
      else if off < 0xB00000 then s.writeFirmware path off v.toNat r
      else if off < 0xC00000 then s.writeEth path off v.toNat r
      else if off < 0x1000000 then s.writeFab path off v.toNat r
      else if off < 0x2000000 then s.writeParcel path off v.toNat r
      else s.writeLnk path off v.toNat r

/-- REGISTER_WRITE (R9): a path writes one aligned word. -/
def execRegisterWrite (path : Path) (off : Nat) (value : Word) (s : State) : Host.Outcome State Fault Refusal :=
  .next (s.writeReg path (off / 4 * 4) value)

/-! ## Checked accesses (R285, R458) -/

/-- A register access of the fabric manager or of the management port: its status, its read data and its effect, the checks
made in the order of R285. A write that R9 refuses is the one that counts an ownership violation. -/
def State.regAccess (s : State) (path : Path) (off : Nat) (write : Option Word) : Nat × Word × State :=
  if off % 4 ≠ 0 ∨ 2 ^ 26 ≤ off then (Status.BAD_DESCRIPTOR, 0, s)
  else match write with
    | none =>
      let (v, s1) := s.readReg path off
      (Status.OK, v, s1)
    | some w =>
      let r := regRow off
      let guarded := r.any (fun r => r.rwlRule || r.rwl != 0) && !s.regAbsent off
      let fwu := decide (Reg.FWU_PKG_LEN ≤ off ∧ off ≤ Reg.FWU_ACT_TIME_HI) || off == Reg.FWU_CMD
      let refused := (guarded && !s.mayRwl path) || (fwu && !s.fwuAllowed path)
      (if refused then Status.ACCESS_VIOLATION else Status.OK, 0, s.writeReg path off w)

/-- REG_ACCESS (R285): a packet that has arrived on a port; accepted on an ADMITTED tree port alone, answered with REG_REPLY
on that port. -/
def execRegAccess (p : Port) (pk : Packet) (s : State) : Host.Outcome State Fault Refusal :=
  .next (let s0 := s.takePacket pk
    if !s.isTree p.val then s0.addSat F.FAB_TRAV_BAD_COUNT
    else if s.portState p.val ≠ 2 then s0
    else
      let write := if bitAt pk.opx.toNat 0 then some (BitVec.ofNat 32 (leAt pk.payload 0 4)) else none
      let (st, v, s1) := s0.regAccess .fabMgr pk.addr.toNat write
      let reply : Packet := { ptype := 0x25, vc := 3, dst := pk.src, src := pk.dst, hops := 1, txn := pk.txn
                              status := BitVec.ofNat 8 st, payload := leBytes 4 v.toNat ++ List.replicate 28 0#8 }
      s1.linkSend p.val { pkt := reply })

end Sys2Proof.Machine
end

