-- ==== Sys2Proof/Machine/Jtag.lean ====
section
/-! DEFINITION. JTAG (21_package_and_electrical R484): the four instructions of the provisioned port. The boundary
register is a list of bits, the pins as the outside sees them and the bits shifted in coming with the command. -/

namespace Sys2Proof.Machine

/-- The device IDCODE. -/
def Fuses.idcode (f : Fuses) : Nat := f.step % 16 * 2 ^ 28 + 0x0412 * 2 ^ 12 + 0x2D5 * 2 + 1

/-- The bits of a word, lowest first, as they shift out. -/
def shiftBits (v n : Nat) : List Bool := (List.range n).map (bitAt v)

/-- No pin is driven from the boundary register. -/
def State.releasePins (s : State) : State := { s with jtag := { s.jtag with driven := none } }

/-- The one-bit bypass register: a 0, then what is shifted in, one bit late. -/
def State.bypass (s : State) (tdi : List Bool) : State := s.releasePins.emit (.jtag ((false :: tdi).take tdi.length))

/-- IDCODE. -/
def execIdcode (s : State) : Host.Outcome State Fault Refusal :=
  .next (s.releasePins.emit (.jtag (shiftBits s.fuses.idcode 32)))

/-- BYPASS. -/
def execBypass (tdi : List Bool) (s : State) : Host.Outcome State Fault Refusal := .next (s.bypass tdi)

/-- SAMPLE_PRELOAD: the pins shift out, and the bits shifted in are preloaded. -/
def execSamplePreload (pins tdi : List Bool) (s : State) : Host.Outcome State Fault Refusal :=
  .next (let s1 := { s with jtag := { preload := tdi, driven := none } }
    s1.emit (.jtag pins))

/-- EXTEST: drives the preloaded values while PERST_N or SYS_RESET_N holds the device in reset; BYPASS otherwise. -/
def execExtest (pins tdi : List Bool) (s : State) : Host.Outcome State Fault Refusal :=
  .next (if s.rst.levels.contains 2 ∨ s.rst.levels.contains 3 then
      let s1 := { s with jtag := { preload := tdi, driven := some s.jtag.preload } }
      s1.emit (.jtag pins)
    else s.bypass tdi)

end Sys2Proof.Machine
end

