-- ==== Sys2Proof/Machine/Mgmt.lean ====
section
/-! DEFINITION. The management port (20_management_port): its address and endpoint, the PLDM, SPDM and vendor messages of
the tray manager, the effecters, the event queue and the absence of the tray manager. A reply is given as its message
type, command and completion code with the data; the framing that only the cited DMTF specifications fix is left out
(log entry 10). -/

namespace Sys2Proof.Machine

/-! ## Transport (R455-R457) -/

/-- The device sends a message over a transport. -/
def State.say (s : State) (tr : Transport) (b : List Byte) : State :=
  match tr with
  | .i3c => s.emit (.mgmt b)
  | .vdm => s.emit (.vdm b)

/-- A message of a transport reaches the management core: its ROM has started, and the port has its address, or answers over
VDM are on. -/
def State.hears (s : State) (tr : Transport) : Bool :=
  s.up 3 && (match tr with
    | .i3c => s.fld F.MGP_STATUS_ADDR_VALID == 1
    | .vdm => s.fld F.MGP_CFG_VDM_EN == 1)

/-- The number of a transport. -/
def transportNo : Transport → Nat
  | .i3c => 0
  | .vdm => 1

/-- The head of a PLDM message. -/
def pldmHead (typ cmd cc : Nat) : List Byte := [0x01#8, BitVec.ofNat 8 typ, BitVec.ofNat 8 cmd, BitVec.ofNat 8 cc]

/-- The device carries a PLDM command out: vdmOk says that R457 lets it be answered over VDM, recOk that the ROM serves it in
recovery mode (R451). -/
def State.serves (s : State) (tr : Transport) (vdmOk recOk : Bool) : Bool :=
  s.hears tr && (decide (tr = .i3c) || vdmOk) && (!s.rst.recovery || recOk)

/-- A PLDM command: refused with 0x05 where it may not be given, else its completion code, data and effect. -/
def State.pldm (s : State) (tr : Transport) (typ cmd : Nat) (vdmOk recOk : Bool)
    (k : State → Nat × List Byte × State) : State :=
  if !s.hears tr then s
  else if !s.serves tr vdmOk recOk then s.say tr (pldmHead typ cmd 5)
  else
    let (cc, d, s1) := k s
    s1.say tr (pldmHead typ cmd cc ++ d)

/-- ENTDAA (R455): the address, once; the port keeps it. -/
def execEntdaa (addr : BitVec 7) (s : State) : Host.Outcome State Fault Refusal :=
  .next (if !s.up 3 ∨ s.fld F.MGP_STATUS_ADDR_VALID = 1 then s
    else (s.setFld F.MGP_STATUS_DYN_ADDR addr.toNat).setBit F.MGP_STATUS_ADDR_VALID)

/-- The port gives its address up. -/
def State.dropAddress (s : State) : State := (s.setFld F.MGP_STATUS_DYN_ADDR 0).setFld F.MGP_STATUS_ADDR_VALID 0

/-- RSTDAA (R455). -/
def execRstdaa (s : State) : Host.Outcome State Fault Refusal := .next s.dropAddress

/-- TARGET_RESET_ACTION (R455). -/
def execTargetResetAction (s : State) : Host.Outcome State Fault Refusal := .next s.dropAddress

/-- SET_ENDPOINT_ID (R456): the Endpoint IDs 0 and 0xFF are no address. -/
def execSetEndpointId (tr : Transport) (eid : BitVec 8) (s : State) : Host.Outcome State Fault Refusal :=
  .next (if !s.hears tr then s
    else if eid = 0 ∨ eid = 0xFF then s.say tr [0x00#8, 0x01#8, 0x02#8]
    else (s.setFld F.MGP_STATUS_EID eid.toNat).say tr [0x00#8, 0x01#8, 0x00#8, 0x00#8, eid, 0x00#8])

/-- MCTP_REASSEMBLY_TIMEOUT (R456): the message is discarded and counted. -/
def execMctpReassemblyTimeout (tr : Transport) (s : State) : Host.Outcome State Fault Refusal :=
  .next (if !s.hears tr then s else (s.addSat F.MGP_BAD_MSG_COUNT).setBit F.MGP_EVENT_BAD_MSG)

/-- UNSUPPORTED_COMMAND (R457, R458): refused as its specification says, or dropped. -/
def execUnsupportedCommand (tr : Transport) (msgType typ cmd : BitVec 8) (s : State) :
    Host.Outcome State Fault Refusal :=
  .next (if !s.hears tr then s
    else match msgType.toNat with
      | 0 => s.say tr [0x00#8, cmd, 0x05#8]
      | 1 => s.say tr [0x01#8, typ, cmd, 0x05#8]
      | 5 => if s.rst.recovery then s else s.say tr [0x05#8, 0x13#8, 0x7F#8, 0x07#8, cmd]
      | _ => s)

/-! ## PLDM messaging control (R458) -/

/-- GET_TID. -/
def execGetTid (tr : Transport) (s : State) : Host.Outcome State Fault Refusal :=
  .next (s.pldm tr 0 2 true false fun s => (0, leBytes 1 s.mgmt.tid, s))

/-- SET_TID: 0 and 0xFF are no terminus ID. -/
def execSetTid (tr : Transport) (tid : BitVec 8) (s : State) : Host.Outcome State Fault Refusal :=
  .next (s.pldm tr 0 1 true false fun s =>
    if tid = 0 ∨ tid = 0xFF then (2, [], s) else (0, [], { s with mgmt := { s.mgmt with tid := tid.toNat } }))

/-- GET_PLDM_VERSION: type 2 is at 1.2, type 5 at 1.1 (Table 2). -/
def execGetPldmVersion (tr : Transport) (typ : BitVec 8) (s : State) : Host.Outcome State Fault Refusal :=
  .next (s.pldm tr 0 3 true false fun s =>
    match typ.toNat with
    | 0 => (0, Config.reply 1 0, s)
    | 2 => (0, [0x00#8, 0xFF#8, 0xF2#8, 0xF1#8], s)
    | 5 => (0, [0x00#8, 0xFF#8, 0xF1#8, 0xF1#8], s)
    | _ => (0x83, [], s))

/-- GET_PLDM_TYPES: a bit for each type, 0, 2 and 5. -/
def execGetPldmTypes (tr : Transport) (s : State) : Host.Outcome State Fault Refusal :=
  .next (s.pldm tr 0 4 true false fun s => (0, leBytes 8 0x25, s))

/-- The commands of Table 2, by PLDM type. -/
def pldmCommands (typ : Nat) : Option (List Nat) :=
  match typ with
  | 0 => some [1, 2, 3, 4, 5]
  | 2 => some [0x04, 0x0B, 0x11, 0x21, 0x31, 0x32, 0x39, 0x3A, 0x50, 0x51]
  | 5 => some [0x01, 0x02, 0x10, 0x13, 0x14, 0x15, 0x16, 0x17, 0x18, 0x1A, 0x1B, 0x1C, 0x1D]
  | _ => none

/-- GET_PLDM_COMMANDS: a bit for each command of a type. -/
def execGetPldmCommands (tr : Transport) (typ : BitVec 8) (s : State) : Host.Outcome State Fault Refusal :=
  .next (s.pldm tr 0 5 true false fun s =>
    match pldmCommands typ.toNat with
    | some l => (0, leBytes 32 (maskOf l), s)
    | none => (0x83, [], s))

/-! ## Platform monitoring: PDRs and sensors (R458, R462) -/

/-- GET_PDR_REPOSITORY_INFO. -/
def execGetPdrRepositoryInfo (tr : Transport) (s : State) : Host.Outcome State Fault Refusal :=
  .next (s.pldm tr 2 0x50 true false fun s => (0, Config.reply 2 0, s))

/-- GET_PDR: in recovery mode only the PDRs of effecters 5 and 6 (R451). -/
def execGetPdr (tr : Transport) (record : BitVec 32) (s : State) : Host.Outcome State Fault Refusal :=
  let served := record.toNat == Config.pdrHandle 5 || record.toNat == Config.pdrHandle 6
  .next (s.pldm tr 2 0x51 true served fun s => (0, Config.reply 3 record.toNat, s))

/-- The reading of a sensor: whether it is a state sensor, and the image of its registers (R462). -/
def State.sensor (s : State) (x : Sensor) : Bool × List Byte :=
  let word (off : Nat) : List Byte := leBytes 4 (s.regWord .mgmtPort off).toNat
  match x with
  | .tj => (false, word Reg.TOL_TJ)
  | .stackTemp n => (false, word (Reg.NT_TEMP n.val))
  | .power => (false, word Reg.TOL_POWER)
  | .totalUj => (false, leBytes 8 (s.rd64 Reg.TOL_TOTAL_UJ_LO))
  | .devUj => (false, leBytes 8 (s.rd64 Reg.TOL_DEV_UJ_LO))
  | .jobUj e => (false, leBytes 8 (match amGet s.tol.jobs e.val with | some j => j.uj | none => 0))
  | .railV k => (false, word (Reg.TOL_RAIL_V k.val))
  | .railI k => (false, word (Reg.TOL_RAIL_I k.val))
  | .fcuStatus => (true, word Reg.FCU_STATUS)
  | .fcuService => (true, word Reg.FCU_SERVICE)
  | .bruReady => (true, word Reg.BRU_READY)
  | .parcelState n => (true, word (Reg.REC_PARCEL_STATE n.val))
  | .powerState => (true, word Reg.PWR_STATUS)

/-- GET_SENSOR_READING of a numeric sensor. -/
def execGetSensorReading (tr : Transport) (sensor : Sensor) (s : State) : Host.Outcome State Fault Refusal :=
  .next (s.pldm tr 2 0x11 true false fun s =>
    let (isState, d) := s.sensor sensor
    if isState then (0x80, [], s) else (0, d, s))

/-- GET_STATE_SENSOR_READINGS of a state sensor. -/
def execGetStateSensorReadings (tr : Transport) (sensor : Sensor) (s : State) : Host.Outcome State Fault Refusal :=
  .next (s.pldm tr 2 0x21 true false fun s =>
    let (isState, d) := s.sensor sensor
    if isState then (0, d, s) else (0x80, [], s))

/-! ## Effecters (R461, R466, R468) -/

/-- An accepted write of an effecter: the tray manager's age restarts. -/
def State.heardTray (s : State) : State := { s with mgmt := { s.mgmt with trayAt := some s.mclk, present := true } }

/-- A state effecter's value is kept for GetStateEffecterStates. -/
def State.keepEffecter (s : State) (id v : Nat) : State :=
  { s with mgmt := { s.mgmt with effecters := amSet s.mgmt.effecters id v } }

/-- SetNumericEffecterValue (Table 4): a value above the range is refused with 0x02 and nothing is stored. -/
def State.setNumeric (s : State) (tr : Transport) (v hi : Nat) (k : State → State) : State :=
  s.pldm tr 2 0x31 false false fun s => if hi < v then (2, [], s) else (0, [], k s.heardTray)

/-- SetStateEffecterStates (Table 4): a state outside 1 to hi is refused with 0x02. -/
def State.setState (s : State) (tr : Transport) (id v hi : Nat) (recOk : Bool) (k : State → State) : State :=
  s.pldm tr 2 0x39 false recOk fun s =>
    if v = 0 ∨ hi < v then (2, [], s) else (0, [], k (s.heardTray.keepEffecter id v))

/-- BUDGET (R461, R312): TOL_TRAY_BUDGET, and the journal keeps the last one with KEY 1. -/
def execBudget (tr : Transport) (value : BitVec 32) (s : State) : Host.Outcome State Fault Refusal :=
  .next (s.setNumeric tr value.toNat 2047 fun s =>
    (s.setFld F.TOL_TRAY_BUDGET_W value.toNat).nvWrite (.record ⟨2, 1, [value.toNat]⟩))

/-- COOLANT_INLET (R461, R333). -/
def execCoolantInlet (tr : Transport) (value : BitVec 32) (s : State) : Host.Outcome State Fault Refusal :=
  .next (s.setNumeric tr value.toNat 1500 fun s => s.coolantIn value.toNat)

/-- COOLANT_OUTLET (R461). -/
def execCoolantOutlet (tr : Transport) (value : BitVec 32) (s : State) : Host.Outcome State Fault Refusal :=
  .next (s.setNumeric tr value.toNat 1500 fun s => s.setRd Reg.TOL_COOLANT_OUT value)

/-- COOLANT_FLOW (R461). -/
def execCoolantFlow (tr : Transport) (value : BitVec 32) (s : State) : Host.Outcome State Fault Refusal :=
  .next (s.setNumeric tr value.toNat 65535 fun s => s.setRd Reg.TOL_COOLANT_FLOW value)

/-- BACKUP_ENERGY_STORE (R461, R446): 1 NORMAL, 2 LOW. -/
def execBackupEnergyStore (tr : Transport) (value : BitVec 8) (s : State) : Host.Outcome State Fault Refusal :=
  .next (s.setState tr 5 value.toNat 2 true fun s =>
    let s1 := s.setFld F.MGP_STATUS_BACKUP value.toNat
    { s1 with mgmt := { s1.mgmt with backupAt := some s.mclk } })

/-- What a leak does (R466, Table 6): the NV write hold, and a severe event on source 61 whatever its class. -/
def State.leak (s : State) : State :=
  let s1 := (s.setBit F.MGP_STATUS_LEAK).setBit F.MGP_EVENT_LEAK
  let s2 := ({ s1 with nv := { s1.nv with pfHold := true } }).nvMirror
  s2.latchEvent { source := 61 } (some 3)

/-- LEAK (R466): 1 NONE, 2 LEAK. -/
def execLeak (tr : Transport) (value : BitVec 8) (s : State) : Host.Outcome State Fault Refusal :=
  .next (s.setState tr 6 value.toNat 2 true fun s => if value = 2 then s.leak else s)

/-- SWAP_ACK with the state of effecter 7 as applied (Table 5). -/
def State.swapAck (s : State) (v : Nat) : State := s.mgmtEvent 0xF4 (leBytes 1 v)

/-- PREPARE_SWAP (R468): effecter 7 written as 2. -/
def execPrepareSwap (tr : Transport) (s : State) : Host.Outcome State Fault Refusal :=
  .next (s.setState tr 7 2 3 false fun s =>
    (((s.setBit F.MGP_STATUS_SWAP_REQ).setBit F.MGP_EVENT_SWAP_REQ).raise 64 0 0 none).swapAck 2)

/-- SWAP_CANCEL (R468): effecter 7 written as 3 CANCEL, or as 1 NONE, which changes nothing. -/
def execSwapCancel (tr : Transport) (value : BitVec 8) (s : State) : Host.Outcome State Fault Refusal :=
  .next (if value = 2 then s
    else s.setState tr 7 value.toNat 3 false fun s =>
      if value = 3 then (s.setFld F.MGP_STATUS_SWAP_REQ 0).swapAck 3 else s)

/-- WAKE (R461, R365): effecter 8 written as 2 WAKE, or as 1 NONE. -/
def execMgpWake (tr : Transport) (value : BitVec 8) (s : State) : Host.Outcome State Fault Refusal :=
  .next (if value = 3 then s
    else s.setState tr 8 value.toNat 3 false fun s => if value = 2 then s.wakeEvent 4 else s)

/-- MGMT_CMD (R344, R461): effecter 8 written as 3 DEVICE_RESET; the reset follows the response. -/
def execMgmtCmd (tr : Transport) (s : State) : Host.Outcome State Fault Refusal :=
  let s1 := s.setState tr 8 3 3 false fun s => s
  .next (if s.serves tr false false then s1.requestReset 4 else s1)

/-- GET_NUMERIC_EFFECTER_VALUE: the registers of effecters 1-4. -/
def execGetNumericEffecterValue (tr : Transport) (id : BitVec 16) (s : State) : Host.Outcome State Fault Refusal :=
  .next (s.pldm tr 2 0x32 false false fun s =>
    let word (off : Nat) : Nat × List Byte × State := (0, leBytes 4 (s.regWord .mgmtPort off).toNat, s)
    match id.toNat with
    | 1 => word Reg.TOL_TRAY_BUDGET
    | 2 => word Reg.TOL_COOLANT_IN
    | 3 => word Reg.TOL_COOLANT_OUT
    | 4 => word Reg.TOL_COOLANT_FLOW
    | _ => (0x80, [], s))

/-- GET_STATE_EFFECTER_STATES: effecters 5-8 as last written, 0 unknown before. -/
def execGetStateEffecterStates (tr : Transport) (id : BitVec 16) (s : State) : Host.Outcome State Fault Refusal :=
  .next (s.pldm tr 2 0x3A false (id == 5 || id == 6) fun s =>
    if 5 ≤ id.toNat ∧ id.toNat ≤ 8 then (0, leBytes 1 ((amGet s.mgmt.effecters id.toNat).getD 0), s)
    else (0x80, [], s))

/-! ## Events (R463, R464) and absence (R465) -/

/-- SET_EVENT_RECEIVER. -/
def execSetEventReceiver (tr : Transport) (eid : BitVec 8) (s : State) : Host.Outcome State Fault Refusal :=
  .next (s.pldm tr 2 4 false false fun s => (0, [], { s with mgmt := { s.mgmt with receiver := some eid.toNat } }))

/-- What a poll finds: the oldest queued event, else the newest forecast not yet returned, else none. -/
def State.pollEvent (s : State) : List Byte × State :=
  match s.mgmt.evq with
  | e :: _ => (BitVec.ofNat 8 e.cls :: e.data, { s with mgmt := { s.mgmt with polled := true, ibiDeadline := none } })
  | [] =>
    match s.mgmt.forecast with
    | some b => (0xF1#8 :: b, { s with mgmt := { s.mgmt with forecast := none } })
    | none => ([0x00#8], s)

/-- The event that a poll returned leaves the queue. -/
def State.pollAck (s : State) : State :=
  if s.mgmt.polled then { s with mgmt := { s.mgmt with evq := s.mgmt.evq.drop 1, polled := false } } else s

/-- POLL_FOR_PLATFORM_EVENT_MESSAGE: a poll, or the acknowledgement of the event that the last poll returned. -/
def execPollForPlatformEventMessage (tr : Transport) (ack : Bool) (s : State) : Host.Outcome State Fault Refusal :=
  .next (s.pldm tr 2 0x0B false false fun s =>
    if ack then (0, leBytes 1 s.mgmt.tid ++ [0x00#8], s.pollAck)
    else
      let (d, s1) := s.pollEvent
      (0, leBytes 1 s.mgmt.tid ++ d, s1))

/-- ALERT_N is low while the queue is not empty. -/
def State.alertLow (s : State) : Bool := !s.mgmt.evq.isEmpty

/-- IBI_RETRY: 10 ms after the last IBI, while the queue is not empty. -/
def execIbiRetry (s : State) : Host.Outcome State Fault Refusal :=
  .next (s.atDeadline s.mgmt.ibiDeadline fun s =>
    if s.alertLow ∧ s.fld F.MGP_CFG_IBI_EN = 1 then
      let s1 := s.emit .ibi
      { s1 with mgmt := { s1.mgmt with ibiDeadline := some (s.mclk + 10 * perMs) } }
    else { s with mgmt := { s.mgmt with ibiDeadline := none } })

/-- When a tray manager that is present becomes absent. -/
def State.absentAt (s : State) : Option Nat :=
  if s.mgmt.present then s.mgmt.trayAt.map fun t => t + max 1 (s.fld F.MGP_CFG_ABSENT_MS) * perMs else none

/-- TRAY_ABSENT (R465). -/
def execTrayAbsent (s : State) : Host.Outcome State Fault Refusal :=
  .next (s.atDeadline s.absentAt fun s =>
    let s1 := { s with mgmt := { s.mgmt with present := false } }
    (s1.setBit F.MGP_EVENT_ABSENT).raise 64 0 0 none)

/-- BACKUP_STALE (R446, R465): the backup state is unknown again. -/
def execBackupStale (s : State) : Host.Outcome State Fault Refusal :=
  .next (if s.fld F.MGP_STATUS_BACKUP = 0 then s
    else s.atDeadline (s.mgmt.backupAt.map fun t => t + 2000 * perMs) fun s => s.setFld F.MGP_STATUS_BACKUP 0)

/-! ## Firmware update over PLDM (R459) -/

def State.setUpd (s : State) (u : PldmUpd) : State := { s with mgmt := { s.mgmt with upd := u } }
def State.setPhase (s : State) (p : Nat) : State := s.setUpd { s.mgmt.upd with phase := p }

/-- The result that a session command gave the management core. -/
def State.coreResult (s : State) : Nat := s.fldB (pathNo .mgmtCore) F.FWU_RESULT_CODE

/-- A command of the firmware-update set: I3C alone, and in recovery mode too. -/
def State.updCmd (s : State) (tr : Transport) (cmd : Nat) (k : State → Nat × List Byte × State) : State :=
  s.pldm tr 5 cmd false true k

/-- QUERY_DEVICE_IDENTIFIERS. -/
def execQueryDeviceIdentifiers (tr : Transport) (s : State) : Host.Outcome State Fault Refusal :=
  .next (s.updCmd tr 1 fun s => (0, Config.reply 4 s.fuses.serial, s))

/-- GET_FIRMWARE_PARAMETERS: for each kind its number, its active slot, and the versions of both slots; then KEY_VER. -/
def execGetFirmwareParameters (tr : Transport) (s : State) : Host.Outcome State Fault Refusal :=
  .next (s.updCmd tr 2 fun s =>
    let ver (k slot : Nat) : Nat := match s.slotImg k slot with | some i => i.ver | none => 0
    let row (k : Nat) : List Byte :=
      leBytes 1 k ++ leBytes 1 (s.actRec.active.getD (k - 1) 0) ++ leBytes 4 (ver k 0) ++ leBytes 4 (ver k 1)
    let keyVer := match s.keyRec with | some r => r.ver | none => 0
    (0, row 1 ++ row 2 ++ row 3 ++ leBytes 4 keyVer, s))

/-- REQUEST_UPDATE: refused with 0x81 unless the session is IDLE. -/
def execRequestUpdate (tr : Transport) (s : State) : Host.Outcome State Fault Refusal :=
  .next (s.updCmd tr 0x10 fun s => if s.fwuState ≠ 0 then (0x81, [], s) else (0, [], s.setUpd { phase := 1 }))

/-- PASS_COMPONENT_TABLE: last marks the end of the table. -/
def execPassComponentTable (tr : Transport) (last : Bool) (s : State) : Host.Outcome State Fault Refusal :=
  .next (s.updCmd tr 0x13 fun s =>
    if s.mgmt.upd.phase = 0 then (0x80, [], s)
    else if s.mgmt.upd.phase ≠ 1 then (0x84, [], s)
    else (0, [0x00#8, 0x00#8], if last then s.setPhase 2 else s))

/-- The device asks for the next 1,024 bytes of the package, or for what is left. -/
def State.askData (s : State) : State :=
  let o := s.mgmt.upd.off
  s.say .i3c ([0x01#8, 0x05#8, 0x15#8] ++ leBytes 4 o ++ leBytes 4 (min 1024 (s.fwu.pkgLen - o)))

/-- UPDATE_COMPONENT: BEGIN of the kind that the component names, with its size as PKG_LEN. -/
def execUpdateComponent (tr : Transport) (component : BitVec 16) (size : BitVec 32) (s : State) :
    Host.Outcome State Fault Refusal :=
  let s1 := s.updCmd tr 0x14 fun s =>
    if s.mgmt.upd.phase = 0 then (0x80, [], s)
    else if s.mgmt.upd.phase ≠ 2 then (0x84, [], s)
    else if component.toNat = 0 ∨ 4 < component.toNat then (2, [], s)
    else
      let s1 := s.fwuBegin .mgmtCore component.toNat size.toNat
      if s1.coreResult = 1 then (0, [0x00#8], s1.setUpd { phase := 3 }) else (0, [0x01#8], s1)
  .next (if s.mgmt.upd.phase = 2 ∧ s1.mgmt.upd.phase = 3 then s1.askData else s1)

/-- The bytes of a reply gathered in the unit that fills; a whole unit, or the package's end, is staged (R444). -/
def State.gather (s : State) (bytes : List Byte) : State :=
  let u := s.mgmt.upd
  let buf := u.buf ++ bytes
  let off := u.off + bytes.length
  if buf.length = 65536 ∨ off = s.fwu.pkgLen then
    (s.stageUnit ((off - buf.length) / 65536) buf).setUpd { u with buf := [], off := off }
  else s.setUpd { u with buf := buf, off := off }

/-- REQUEST_FIRMWARE_DATA: the tray manager's reply to the device's request. A reply that is not good, or not of the length
asked for, is asked for again. -/
def execRequestFirmwareData (cc : BitVec 8) (bytes : List Byte) (s : State) : Host.Outcome State Fault Refusal :=
  .next (let u := s.mgmt.upd
    if !s.hears .i3c ∨ u.phase ≠ 3 ∨ s.fwuState ≠ 1 ∨ s.fwu.pkgLen ≤ u.off then s
    else if cc ≠ 0 ∨ bytes.length ≠ min 1024 (s.fwu.pkgLen - u.off) then s.askData
    else
      let s1 := s.gather bytes
      if s1.mgmt.upd.off < s1.fwu.pkgLen then s1.askData else s1)

/-- TRANSFER_COMPLETE: sent after the last unit. -/
def execTransferComplete (s : State) : Host.Outcome State Fault Refusal :=
  .next (if !s.hears .i3c ∨ s.mgmt.upd.phase ≠ 3 ∨ s.fwu.pkgLen ≠ s.mgmt.upd.off ∨ s.fwuState ≠ 1 then s
    else (s.setPhase 4).say .i3c (pldmHead 5 0x16 0))

/-- VERIFY_COMPLETE: VERIFY runs, and its outcome is reported; a privileged refusal leaves it to be tried again. -/
def execVerifyComplete (norOk : Bool) (s : State) : Host.Outcome State Fault Refusal :=
  .next (if !s.hears .i3c ∨ s.mgmt.upd.phase ≠ 4 ∨ s.fwuState ≠ 1 then s
    else
      let s1 := s.fwuVerify .mgmtCore norOk
      let s2 := s1.setPhase (match s1.coreResult with | 1 => 5 | 10 => 4 | _ => 2)
      s2.say .i3c (pldmHead 5 0x17 (if s1.coreResult = 1 then 0 else s1.coreResult)))

/-- APPLY_COMPLETE: sent once the session is READY. -/
def execApplyComplete (s : State) : Host.Outcome State Fault Refusal :=
  .next (if !s.hears .i3c ∨ s.mgmt.upd.phase ≠ 5 ∨ s.fwuState ≠ 3 then s
    else (s.setPhase 2).say .i3c (pldmHead 5 0x18 0))

/-- ACTIVATE_FIRMWARE: ACTIVATE with FWU_ACT_TIME 0 and RESET_ON_ACT 0; the data says that an activation is pending, for every
kind but KEYS. -/
def execActivateFirmware (tr : Transport) (s : State) : Host.Outcome State Fault Refusal :=
  .next (s.updCmd tr 0x1A fun s =>
    if s.mgmt.upd.phase = 0 then (0x80, [], s)
    else if s.mgmt.upd.phase ≠ 2 then (0x84, [], s)
    else if s.fwuState ≠ 3 then (0x85, [], s)
    else
      let s1 := s.fwuActivate .mgmtCore false 0
      if s1.coreResult = 1 then (0, [if s.fwuKind = 4 then 0x00#8 else 0x01#8], s1.setUpd {})
      else (0x85, [], s1))

/-- GET_STATUS: the phase of the firmware device, and the session's state. -/
def execGetStatus (tr : Transport) (s : State) : Host.Outcome State Fault Refusal :=
  .next (s.updCmd tr 0x1B fun s => (0, leBytes 1 s.mgmt.upd.phase ++ leBytes 1 s.fwuState, s))

/-- CANCEL_UPDATE_COMPONENT: the component under way is given up. -/
def execCancelUpdateComponent (tr : Transport) (s : State) : Host.Outcome State Fault Refusal :=
  .next (s.updCmd tr 0x1C fun s =>
    if s.mgmt.upd.phase = 0 then (0x80, [], s)
    else if s.mgmt.upd.phase < 3 then (0x84, [], s)
    else (0, [], (s.fwuAbort .mgmtCore).setUpd { phase := 2 }))

/-- CANCEL_UPDATE: ABORT. -/
def execCancelUpdate (tr : Transport) (s : State) : Host.Outcome State Fault Refusal :=
  .next (s.updCmd tr 0x1D fun s =>
    if s.mgmt.upd.phase = 0 ∧ s.fwuState = 0 then (0x80, [], s)
    else (0, [0x00#8], (s.fwuAbort .mgmtCore).setUpd {}))

/-! ## SPDM (R460) -/

/-- An SPDM response, or the error that a request meets. -/
def spdmHead (code p1 p2 : Nat) : List Byte := [0x05#8, 0x13#8, BitVec.ofNat 8 code, BitVec.ofNat 8 p1, BitVec.ofNat 8 p2]
def spdmError (e : Nat) : List Byte := spdmHead 0x7F e 0

/-- A request that the connection must have reached a stage for; none in recovery mode. -/
def State.spdmCmd (s : State) (tr : Transport) (stage : Nat) (k : State → List Byte × State) : State :=
  if !s.hears tr ∨ s.rst.recovery then s
  else if (amGet s.mgmt.spdm (transportNo tr)).getD 0 < stage then s.say tr (spdmError 4)
  else
    let (d, s1) := k s
    s1.say tr d
def State.spdmStage (s : State) (tr : Transport) (n : Nat) : State :=
  { s with mgmt := { s.mgmt with spdm := amSet s.mgmt.spdm (transportNo tr) n } }

/-- GET_VERSION: the connection starts again. -/
def execGetVersion (tr : Transport) (s : State) : Host.Outcome State Fault Refusal :=
  .next (s.spdmCmd tr 0 fun s => (spdmHead 0x04 0 0 ++ Config.reply 10 0, s.spdmStage tr 1))

/-- GET_CAPABILITIES. -/
def execGetCapabilities (tr : Transport) (s : State) : Host.Outcome State Fault Refusal :=
  .next (s.spdmCmd tr 1 fun s => (spdmHead 0x61 0 0 ++ Config.reply 11 0, s.spdmStage tr 2))

/-- NEGOTIATE_ALGORITHMS: only P-384 with SHA-384. -/
def execNegotiateAlgorithms (tr : Transport) (p384 sha384 : Bool) (s : State) : Host.Outcome State Fault Refusal :=
  .next (s.spdmCmd tr 2 fun s =>
    if p384 && sha384 then (spdmHead 0x63 0 0 ++ Config.reply 12 0, s.spdmStage tr 3) else (spdmError 1, s))

/-- The one certificate chain, in slot 0. -/
def State.certChain (s : State) : List Byte := Config.crypto 5 (leBytes 8 s.fuses.serial)

/-- GET_DIGESTS. -/
def execGetDigests (tr : Transport) (s : State) : Host.Outcome State Fault Refusal :=
  .next (s.spdmCmd tr 3 fun s => (spdmHead 0x01 0 1 ++ sha384 s.certChain, s))

/-- GET_CERTIFICATE: a portion of the chain, with its length and what remains. -/
def execGetCertificate (tr : Transport) (slot : BitVec 8) (off len : BitVec 16) (s : State) :
    Host.Outcome State Fault Refusal :=
  .next (s.spdmCmd tr 3 fun s =>
    let c := s.certChain
    if slot ≠ 0 ∨ c.length ≤ off.toNat then (spdmError 1, s)
    else
      let part := (c.drop off.toNat).take len.toNat
      (spdmHead 0x02 0 0 ++ leBytes 2 part.length ++ leBytes 2 (c.length - off.toNat - part.length) ++ part, s))

/-- The measurements of Table 3, by index. -/
def State.measurement (s : State) (i : Nat) : List Byte :=
  let hash (k : Nat) : List Byte :=
    match s.slotImg k (s.actRec.active.getD (k - 1) 0) with
    | some img => sliceB img.manifest 20 48
    | none => List.replicate 48 0x00#8
  let word (off : Nat) : List Byte := leBytes 4 (s.regWord .mgmtCore off).toNat
  match i with
  | 1 => Config.crypto 7 []
  | 2 => hash 3
  | 3 => hash 1
  | 4 => s.bru.copyHash
  | 5 => (match s.keyRec with
    | some r => leBytes 4 r.ver ++ (r.floors.map (leBytes 4)).flatten
    | none => List.replicate 20 0x00#8)
  | 6 => word Reg.OWN_STATUS ++ word Reg.OWN_GEN
  | _ => word Reg.CAP_ID ++ word Reg.CAP_VARIANT ++ word Reg.CAP_GRADE ++ word Reg.CAP_SERIAL_LO ++ word Reg.CAP_SERIAL_HI

/-- A measurement block: its index, length and content. -/
def State.measBlock (s : State) (i : Nat) : List Byte :=
  leBytes 1 i ++ leBytes 2 (s.measurement i).length ++ s.measurement i
def State.measAll (s : State) : List Byte := ((List.range 7).map fun i => s.measBlock (i + 1)).flatten

/-- A response with a nonce of the device's own and its signature over request nonce and response. -/
def State.signed (s : State) (nonce d : List Byte) : List Byte × State :=
  let (r, s1) := s.free 256
  let d1 := d ++ leBytes 32 r
  (d1 ++ Config.crypto 6 (nonce ++ d1), s1)

/-- CHALLENGE: the chain's digest and that of all measurements, signed. -/
def execChallenge (tr : Transport) (slot : BitVec 8) (nonce : List Byte) (s : State) : Host.Outcome State Fault Refusal :=
  .next (s.spdmCmd tr 3 fun s =>
    if slot ≠ 0 then (spdmError 1, s)
    else s.signed nonce (spdmHead 0x03 0 1 ++ sha384 s.certChain ++ sha384 s.measAll))

/-- GET_MEASUREMENTS: index 0 asks for their number, 0xFF for all, 1-7 for one; signed where asked. -/
def execGetMeasurements (tr : Transport) (index : BitVec 8) (sign : Bool) (nonce : List Byte) (s : State) :
    Host.Outcome State Fault Refusal :=
  .next (s.spdmCmd tr 3 fun s =>
    let answer (d : List Byte) : List Byte × State := if sign then s.signed nonce d else (d, s)
    if index = 0 then answer (spdmHead 0x60 7 0)
    else if index = 0xFF then answer (spdmHead 0x60 0 0 ++ leBytes 1 7 ++ s.measAll)
    else if index.toNat ≤ 7 then answer (spdmHead 0x60 0 0 ++ leBytes 1 1 ++ s.measBlock index.toNat)
    else (spdmError 1, s))

/-! ## Vendor register access (R457, R458, R451) -/

/-- The blocks that the ROM serves in recovery mode: CAP, OWN, RST, and NVS with FWU. -/
def recoveryReg (off : Nat) : Bool := off < 0x100000 || off / 0x100000 == 2 || off / 0x100000 == 3 || off / 0x100000 == 9

/-- A vendor message: only over I3C, dropped otherwise; answered with the status and data of REG_ACCESS's checks. -/
def State.vendorReg (s : State) (tr : Transport) (off : Nat) (w : Option Word) : State :=
  if tr = .vdm ∨ !s.hears tr ∨ (s.rst.recovery ∧ !recoveryReg off) then s
  else
    let (st, v, s1) := s.regAccess .mgmtPort off w
    s1.say tr ([0x7F#8, BitVec.ofNat 8 st] ++ leBytes 4 v.toNat)

/-- REG_READ. -/
def execRegRead (tr : Transport) (off : BitVec 32) (s : State) : Host.Outcome State Fault Refusal :=
  .next (s.vendorReg tr off.toNat none)

/-- REG_WRITE. -/
def execRegWrite (tr : Transport) (off value : Word) (s : State) : Host.Outcome State Fault Refusal :=
  .next (s.vendorReg tr off.toNat (some value))

end Sys2Proof.Machine
end

