-- ==== Sys2Proof/Machine/Dispatch.lean ====
section
/-! DEFINITION. One arm per command: each is one direct call of the command's meaning. -/

namespace Sys2Proof.Machine

/-- The effect of a command on everything but the queue of waiting commands. -/
def exec (i : Instr) (s : State) : Host.Outcome State Fault Refusal :=
  match i with
  | .registerWrite path off value => Sys2Proof.Machine.execRegisterWrite path off value s
  | .lowWordRead path off => Sys2Proof.Machine.execLowWordRead path off s
  | .bar0BadAccess fn off len isRead => Sys2Proof.Machine.execBar0BadAccess fn off len isRead s
  | .plotOwnerWrite path n plot value => Sys2Proof.Machine.execPlotOwnerWrite path n plot value s
  | .plotClearDone n plot => Sys2Proof.Machine.execPlotClearDone n plot s
  | .scrubStep n errs => Sys2Proof.Machine.execScrubStep n errs s
  | .hldArbWrite path n value => Sys2Proof.Machine.execHldArbWrite path n value s
  | .hldScrubWrite path n value => Sys2Proof.Machine.execHldScrubWrite path n value s
  | .hldErrClr path n value => Sys2Proof.Machine.execHldErrClr path n value s
  | .wdcCommit n value => Sys2Proof.Machine.execWdcCommit n value s
  | .wdcErrClr n value => Sys2Proof.Machine.execWdcErrClr n value s
  | .doorbell fn slot w whole => Sys2Proof.Machine.execDoorbell fn slot w whole s
  | .completionHead fn slot w whole => Sys2Proof.Machine.execCompletionHead fn slot w whole s
  | .consumed fn p r value => Sys2Proof.Machine.execConsumed fn p r value s
  | .descriptorFetch c refused => Sys2Proof.Machine.execDescriptorFetch c refused s
  | .fetchComplete c bytes => Sys2Proof.Machine.execFetchComplete c bytes s
  | .descriptorAdmit n id => Sys2Proof.Machine.execDescriptorAdmit n id s
  | .leaseDenyTimeout n id => Sys2Proof.Machine.execLeaseDenyTimeout n id s
  | .partStart n id targetInSpan => Sys2Proof.Machine.execPartStart n id targetInSpan s
  | .descriptorComplete id pj occ targetInSpan => Sys2Proof.Machine.execDescriptorComplete id pj occ targetInSpan s
  | .irqCoalesceTimer c => Sys2Proof.Machine.execIrqCoalesceTimer c s
  | .msixUnmask fn vec => Sys2Proof.Machine.execMsixUnmask fn vec s
  | .nop n id => Sys2Proof.Machine.execNop n id s
  | .markAdd n id => Sys2Proof.Machine.execMarkAdd n id s
  | .markSet n id => Sys2Proof.Machine.execMarkSet n id s
  | .markClearError n id => Sys2Proof.Machine.execMarkClearError n id s
  | .fence n id => Sys2Proof.Machine.execFence n id s
  | .gemm n errs => Sys2Proof.Machine.execGemm n errs s
  | .cgemm n errs => Sys2Proof.Machine.execCgemm n errs s
  | .gemv n errs => Sys2Proof.Machine.execGemv n errs s
  | .rmsApply n errs => Sys2Proof.Machine.execRmsApply n errs s
  | .rmsScale n errs => Sys2Proof.Machine.execRmsScale n errs s
  | .layerApply n errs => Sys2Proof.Machine.execLayerApply n errs s
  | .copy n errs terrs refused => Sys2Proof.Machine.execCopy n errs terrs refused s
  | .copyZero n => Sys2Proof.Machine.execCopyZero n s
  | .fxfer n id errs => Sys2Proof.Machine.execFxfer n id errs s
  | .writeReceive p => Sys2Proof.Machine.execWriteReceive p s
  | .signalReceive p => Sys2Proof.Machine.execSignalReceive p s
  | .responseReceive p => Sys2Proof.Machine.execResponseReceive p s
  | .responseTimeout txn => Sys2Proof.Machine.execResponseTimeout txn s
  | .tileParityError n tile panel => Sys2Proof.Machine.execTileParityError n tile panel s
  | .mtErrClr path n value => Sys2Proof.Machine.execMtErrClr path n value s
  | .vload n errs => Sys2Proof.Machine.execVload n errs s
  | .vloadFree n => Sys2Proof.Machine.execVloadFree n s
  | .vrun n => Sys2Proof.Machine.execVrun n s
  | .vrunCycleLimit n => Sys2Proof.Machine.execVrunCycleLimit n s
  | .vuParityError n u what => Sys2Proof.Machine.execVuParityError n u what s
  | .vuSlotFree path n value => Sys2Proof.Machine.execVuSlotFree path n value s
  | .vuErrClr path n value => Sys2Proof.Machine.execVuErrClr path n value s
  | .vuNop n u => Sys2Proof.Machine.execVuNop n u s
  | .vuEnd n u => Sys2Proof.Machine.execVuEnd n u s
  | .vuBr n u => Sys2Proof.Machine.execVuBr n u s
  | .vuBnz n u => Sys2Proof.Machine.execVuBnz n u s
  | .vuBlt n u => Sys2Proof.Machine.execVuBlt n u s
  | .vuLoop n u => Sys2Proof.Machine.execVuLoop n u s
  | .vuSync n u => Sys2Proof.Machine.execVuSync n u s
  | .vuTrap n u => Sys2Proof.Machine.execVuTrap n u s
  | .sli n u => Sys2Proof.Machine.execSli n u s
  | .sadd n u => Sys2Proof.Machine.execSadd n u s
  | .smul n u => Sys2Proof.Machine.execSmul n u s
  | .sand n u => Sys2Proof.Machine.execSand n u s
  | .saddi n u => Sys2Proof.Machine.execSaddi n u s
  | .sshl n u => Sys2Proof.Machine.execSshl n u s
  | .sshr n u => Sys2Proof.Machine.execSshr n u s
  | .sarg n u => Sys2Proof.Machine.execSarg n u s
  | .sid n u => Sys2Proof.Machine.execSid n u s
  | .scnt n u => Sys2Proof.Machine.execScnt n u s
  | .sld n u errs => Sys2Proof.Machine.execSld n u errs s
  | .vldF32 n u errs => Sys2Proof.Machine.execVldF32 n u errs s
  | .vldBf16 n u errs => Sys2Proof.Machine.execVldBf16 n u errs s
  | .vldBf16x2 n u errs => Sys2Proof.Machine.execVldBf16x2 n u errs s
  | .vldBcast n u errs => Sys2Proof.Machine.execVldBcast n u errs s
  | .vstF32 n u => Sys2Proof.Machine.execVstF32 n u s
  | .vstBf16 n u => Sys2Proof.Machine.execVstBf16 n u s
  | .vstBf16x2 n u => Sys2Proof.Machine.execVstBf16x2 n u s
  | .vstE4m3 n u => Sys2Proof.Machine.execVstE4m3 n u s
  | .vadd n u => Sys2Proof.Machine.execVadd n u s
  | .vsub n u => Sys2Proof.Machine.execVsub n u s
  | .vmul n u => Sys2Proof.Machine.execVmul n u s
  | .vfma n u => Sys2Proof.Machine.execVfma n u s
  | .vfms n u => Sys2Proof.Machine.execVfms n u s
  | .vfnma n u => Sys2Proof.Machine.execVfnma n u s
  | .vmin n u => Sys2Proof.Machine.execVmin n u s
  | .vmax n u => Sys2Proof.Machine.execVmax n u s
  | .vabs n u => Sys2Proof.Machine.execVabs n u s
  | .vneg n u => Sys2Proof.Machine.execVneg n u s
  | .vmov n u => Sys2Proof.Machine.execVmov n u s
  | .vadds n u => Sys2Proof.Machine.execVadds n u s
  | .vmuls n u => Sys2Proof.Machine.execVmuls n u s
  | .vcmul n u => Sys2Proof.Machine.execVcmul n u s
  | .vcvtF2i n u => Sys2Proof.Machine.execVcvtF2i n u s
  | .vcvtI2f n u => Sys2Proof.Machine.execVcvtI2f n u s
  | .vrcp n u => Sys2Proof.Machine.execVrcp n u s
  | .vrsqrt n u => Sys2Proof.Machine.execVrsqrt n u s
  | .vsqrt n u => Sys2Proof.Machine.execVsqrt n u s
  | .vdiv n u => Sys2Proof.Machine.execVdiv n u s
  | .vexp n u => Sys2Proof.Machine.execVexp n u s
  | .vexp2 n u => Sys2Proof.Machine.execVexp2 n u s
  | .vlog n u => Sys2Proof.Machine.execVlog n u s
  | .vlog2 n u => Sys2Proof.Machine.execVlog2 n u s
  | .vtanh n u => Sys2Proof.Machine.execVtanh n u s
  | .vsig n u => Sys2Proof.Machine.execVsig n u s
  | .verf n u => Sys2Proof.Machine.execVerf n u s
  | .vsin n u => Sys2Proof.Machine.execVsin n u s
  | .vcos n u => Sys2Proof.Machine.execVcos n u s
  | .vcmpeq n u => Sys2Proof.Machine.execVcmpeq n u s
  | .vcmplt n u => Sys2Proof.Machine.execVcmplt n u s
  | .vcmple n u => Sys2Proof.Machine.execVcmple n u s
  | .pand n u => Sys2Proof.Machine.execPand n u s
  | .por n u => Sys2Proof.Machine.execPor n u s
  | .pnot n u => Sys2Proof.Machine.execPnot n u s
  | .pfirst n u => Sys2Proof.Machine.execPfirst n u s
  | .vsel n u => Sys2Proof.Machine.execVsel n u s
  | .viadd n u => Sys2Proof.Machine.execViadd n u s
  | .vand n u => Sys2Proof.Machine.execVand n u s
  | .vor n u => Sys2Proof.Machine.execVor n u s
  | .vxor n u => Sys2Proof.Machine.execVxor n u s
  | .vshl n u => Sys2Proof.Machine.execVshl n u s
  | .vshr n u => Sys2Proof.Machine.execVshr n u s
  | .viota n u => Sys2Proof.Machine.execViota n u s
  | .vsplat n u => Sys2Proof.Machine.execVsplat n u s
  | .vredsum n u => Sys2Proof.Machine.execVredsum n u s
  | .vredmax n u => Sys2Proof.Machine.execVredmax n u s
  | .vrotl n u => Sys2Proof.Machine.execVrotl n u s
  | .pcnt n u => Sys2Proof.Machine.execPcnt n u s
  | .xst n u => Sys2Proof.Machine.execXst n u s
  | .xld n u => Sys2Proof.Machine.execXld n u s
  | .attn n errs terrs => Sys2Proof.Machine.execAttn n errs terrs s
  | .attnMerge n errs => Sys2Proof.Machine.execAttnMerge n errs s
  | .kvAppend n errs terrs => Sys2Proof.Machine.execKvAppend n errs terrs s
  | .kvCommit n errs terrs => Sys2Proof.Machine.execKvCommit n errs terrs s
  | .promote n errs terrs => Sys2Proof.Machine.execPromote n errs terrs s
  | .evict n errs terrs => Sys2Proof.Machine.execEvict n errs terrs s
  | .writeback n errs terrs => Sys2Proof.Machine.execWriteback n errs terrs s
  | .setFrame n errs => Sys2Proof.Machine.execSetFrame n errs s
  | .migrate n errs terrs => Sys2Proof.Machine.execMigrate n errs terrs s
  | .kvPageFetch n errs terrs => Sys2Proof.Machine.execKvPageFetch n errs terrs s
  | .attnParityError n pager => Sys2Proof.Machine.execAttnParityError n pager s
  | .kvpErrClr path n value => Sys2Proof.Machine.execKvpErrClr path n value s
  | .gwOpen n id errs => Sys2Proof.Machine.execGwOpen n id errs s
  | .gwJoin n id errs => Sys2Proof.Machine.execGwJoin n id errs s
  | .gwLeave n id => Sys2Proof.Machine.execGwLeave n id s
  | .gwTree n id errs => Sys2Proof.Machine.execGwTree n id errs s
  | .gwTreeRepair n id => Sys2Proof.Machine.execGwTreeRepair n id s
  | .gwAccept n id errs => Sys2Proof.Machine.execGwAccept n id errs s
  | .gwCommit n id => Sys2Proof.Machine.execGwCommit n id s
  | .gwDiscard n id => Sys2Proof.Machine.execGwDiscard n id s
  | .gwClose n id => Sys2Proof.Machine.execGwClose n id s
  | .joinNotice p => Sys2Proof.Machine.execJoinNotice p s
  | .joinAck p => Sys2Proof.Machine.execJoinAck p s
  | .openNotice p => Sys2Proof.Machine.execOpenNotice p s
  | .applyNotice p errs terrs => Sys2Proof.Machine.execApplyNotice p errs terrs s
  | .discardNotice p errs terrs => Sys2Proof.Machine.execDiscardNotice p errs terrs s
  | .rollbackNotice p => Sys2Proof.Machine.execRollbackNotice p s
  | .leaveNotice p => Sys2Proof.Machine.execLeaveNotice p s
  | .ackNotice p => Sys2Proof.Machine.execAckNotice p s
  | .applyTimeout n slot => Sys2Proof.Machine.execApplyTimeout n slot s
  | .egressDelivery n slot => Sys2Proof.Machine.execEgressDelivery n slot s
  | .gwyErrClr path n value => Sys2Proof.Machine.execGwyErrClr path n value s
  | .ntTractOwnerWrite path n t value => Sys2Proof.Machine.execNtTractOwnerWrite path n t value s
  | .ftTractOwnerWrite path q t value => Sys2Proof.Machine.execFtTractOwnerWrite path q t value s
  | .tractClearDone far unit t => Sys2Proof.Machine.execTractClearDone far unit t s
  | .ntScrubStep n terrs => Sys2Proof.Machine.execNtScrubStep n terrs s
  | .stackFailure stack => Sys2Proof.Machine.execStackFailure stack s
  | .ntMarginCheck n margins tempC => Sys2Proof.Machine.execNtMarginCheck n margins tempC s
  | .ntRetrainReq path n value => Sys2Proof.Machine.execNtRetrainReq path n value s
  | .ntRetrainStart n => Sys2Proof.Machine.execNtRetrainStart n s
  | .ntRetrainSlice n => Sys2Proof.Machine.execNtRetrainSlice n s
  | .ntRetrainDone n ok tempC load margin => Sys2Proof.Machine.execNtRetrainDone n ok tempC load margin s
  | .ntErrClr path n value => Sys2Proof.Machine.execNtErrClr path n value s
  | .ntResetReturn n listed lost => Sys2Proof.Machine.execNtResetReturn n listed lost s
  | .cxlEnumerate q dev => Sys2Proof.Machine.execCxlEnumerate q dev s
  | .ftReset path q => Sys2Proof.Machine.execFtReset path q s
  | .acceptStale path q => Sys2Proof.Machine.execAcceptStale path q s
  | .ftRequestTimeout q n => Sys2Proof.Machine.execFtRequestTimeout q n s
  | .cxlViral q => Sys2Proof.Machine.execCxlViral q s
  | .cxlLinkDown q => Sys2Proof.Machine.execCxlLinkDown q s
  | .apertureAccess off len data errs => Sys2Proof.Machine.execApertureAccess off len data errs s
  | .atsInvalidate tag users => Sys2Proof.Machine.execAtsInvalidate tag users s
  | .hostReadCompletion id answer => Sys2Proof.Machine.execHostReadCompletion id answer s
  | .hostReadTimeout id => Sys2Proof.Machine.execHostReadTimeout id s
  | .ctxCreate path => Sys2Proof.Machine.execCtxCreate path s
  | .ctxStart path => Sys2Proof.Machine.execCtxStart path s
  | .ctxStop path => Sys2Proof.Machine.execCtxStop path s
  | .ctxAbort path => Sys2Proof.Machine.execCtxAbort path s
  | .ctxDestroy path => Sys2Proof.Machine.execCtxDestroy path s
  | .ctxRewind path => Sys2Proof.Machine.execCtxRewind path s
  | .stoppingDrained c => Sys2Proof.Machine.execStoppingDrained c s
  | .contextConfigWrite path off value => Sys2Proof.Machine.execContextConfigWrite path off value s
  | .flr fn => Sys2Proof.Machine.execFlr fn s
  | .functionDisableDone fn => Sys2Proof.Machine.execFunctionDisableDone fn s
  | .bmeClear fn => Sys2Proof.Machine.execBmeClear fn s
  | .bmeSet fn => Sys2Proof.Machine.execBmeSet fn s
  | .bmeLimitExpiry fn => Sys2Proof.Machine.execBmeLimitExpiry fn s
  | .vfDisable vfEnable numVfs => Sys2Proof.Machine.execVfDisable vfEnable numVfs s
  | .vfEnable numVfs => Sys2Proof.Machine.execVfEnable numVfs s
  | .hifErrClr path value => Sys2Proof.Machine.execHifErrClr path value s
  | .ownClaim path => Sys2Proof.Machine.execOwnClaim path s
  | .ownRelease path => Sys2Proof.Machine.execOwnRelease path s
  | .ownHandover path target => Sys2Proof.Machine.execOwnHandover path target s
  | .ownAccept path => Sys2Proof.Machine.execOwnAccept path s
  | .ownLock path => Sys2Proof.Machine.execOwnLock path s
  | .ownUnlock path => Sys2Proof.Machine.execOwnUnlock path s
  | .ownForce path => Sys2Proof.Machine.execOwnForce path s
  | .ownCancel path => Sys2Proof.Machine.execOwnCancel path s
  | .handoverExpiry => Sys2Proof.Machine.execHandoverExpiry s
  | .ownRecordCommit => Sys2Proof.Machine.execOwnRecordCommit s
  | .ownViolClr path value => Sys2Proof.Machine.execOwnViolClr path value s
  | .ethQueueEnable path e => Sys2Proof.Machine.execEthQueueEnable path e s
  | .ethQueueDisable path e => Sys2Proof.Machine.execEthQueueDisable path e s
  | .ethTxDescriptor e errs => Sys2Proof.Machine.execEthTxDescriptor e errs s
  | .ethFrameReceive e frame fcsOk => Sys2Proof.Machine.execEthFrameReceive e frame fcsOk s
  | .ethPauseRelease e => Sys2Proof.Machine.execEthPauseRelease e s
  | .pauseRefresh e => Sys2Proof.Machine.execPauseRefresh e s
  | .macControlReceive e frame fcsOk => Sys2Proof.Machine.execMacControlReceive e frame fcsOk s
  | .pauseTimerExpiry e prio => Sys2Proof.Machine.execPauseTimerExpiry e prio s
  | .ethLinkDown e => Sys2Proof.Machine.execEthLinkDown e s
  | .rxHeader p unit fecOk => Sys2Proof.Machine.execRxHeader p unit fecOk s
  | .rxTail p payload tail fecOk => Sys2Proof.Machine.execRxTail p payload tail fecOk s
  | .lctlUnit p unit => Sys2Proof.Machine.execLctlUnit p unit s
  | .lctlSend p => Sys2Proof.Machine.execLctlSend p s
  | .replayTimeout p => Sys2Proof.Machine.execReplayTimeout p s
  | .nakResend p => Sys2Proof.Machine.execNakResend p s
  | .helloUnit p unit => Sys2Proof.Machine.execHelloUnit p unit s
  | .helloSend p => Sys2Proof.Machine.execHelloSend p s
  | .restartUnit p unit => Sys2Proof.Machine.execRestartUnit p unit s
  | .restartEnd p => Sys2Proof.Machine.execRestartEnd p s
  | .signalDetect p => Sys2Proof.Machine.execSignalDetect p s
  | .trainDone p trained tempC load => Sys2Proof.Machine.execTrainDone p trained tempC load s
  | .trainTimeout p => Sys2Proof.Machine.execTrainTimeout p s
  | .alignLock p => Sys2Proof.Machine.execAlignLock p s
  | .fecLockLost p => Sys2Proof.Machine.execFecLockLost p s
  | .refusedExpiry p => Sys2Proof.Machine.execRefusedExpiry p s
  | .retrain p => Sys2Proof.Machine.execRetrain p s
  | .lnkRestart p => Sys2Proof.Machine.execLnkRestart p s
  | .laneReq p lane => Sys2Proof.Machine.execLaneReq p lane s
  | .lnkViolClr path p value => Sys2Proof.Machine.execLnkViolClr path p value s
  | .csymWindow p counts tempC => Sys2Proof.Machine.execCsymWindow p counts tempC s
  | .retrainReq p unit => Sys2Proof.Machine.execRetrainReq p unit s
  | .retrainAck p unit => Sys2Proof.Machine.execRetrainAck p unit s
  | .widthUnit p unit => Sys2Proof.Machine.execWidthUnit p unit s
  | .laneRetrainDone p ok tempC load => Sys2Proof.Machine.execLaneRetrainDone p ok tempC load s
  | .traverseTrigger => Sys2Proof.Machine.execTraverseTrigger s
  | .travStart => Sys2Proof.Machine.execTravStart s
  | .traverseStartReceive p pk => Sys2Proof.Machine.execTraverseStartReceive p pk s
  | .exchange p pk => Sys2Proof.Machine.execExchange p pk s
  | .exchangeDeadline => Sys2Proof.Machine.execExchangeDeadline s
  | .datum p pk => Sys2Proof.Machine.execDatum p pk s
  | .berthFix => Sys2Proof.Machine.execBerthFix s
  | .confirm p pk => Sys2Proof.Machine.execConfirm p pk s
  | .confirmDeadline => Sys2Proof.Machine.execConfirmDeadline s
  | .landReq => Sys2Proof.Machine.execLandReq s
  | .landGrant p pk => Sys2Proof.Machine.execLandGrant p pk s
  | .landing p pk => Sys2Proof.Machine.execLanding p pk s
  | .landingDeadline => Sys2Proof.Machine.execLandingDeadline s
  | .traverseApply => Sys2Proof.Machine.execTraverseApply s
  | .regAccess p pk => Sys2Proof.Machine.execRegAccess p pk s
  | .windowGrant pk => Sys2Proof.Machine.execWindowGrant pk s
  | .windowRecompute n => Sys2Proof.Machine.execWindowRecompute n s
  | .timeRequestSend => Sys2Proof.Machine.execTimeRequestSend s
  | .timeRequest p pk => Sys2Proof.Machine.execTimeRequest p pk s
  | .timeResponse p pk => Sys2Proof.Machine.execTimeResponse p pk s
  | .timeHoldover => Sys2Proof.Machine.execTimeHoldover s
  | .groupSetDefine n id errs => Sys2Proof.Machine.execGroupSetDefine n id errs s
  | .groupSetFree n id => Sys2Proof.Machine.execGroupSetFree n id s
  | .allReduce n id errs => Sys2Proof.Machine.execAllReduce n id errs s
  | .collCount p errs => Sys2Proof.Machine.execCollCount p errs s
  | .collPart p errs => Sys2Proof.Machine.execCollPart p errs s
  | .collResult p => Sys2Proof.Machine.execCollResult p s
  | .collAbort p => Sys2Proof.Machine.execCollAbort p s
  | .legTimeout n c g => Sys2Proof.Machine.execLegTimeout n c g s
  | .colAbortClr path value => Sys2Proof.Machine.execColAbortClr path value s
  | .tick uses device idle => Sys2Proof.Machine.execTick uses device idle s
  | .forecast means active => Sys2Proof.Machine.execForecast means active s
  | .telemetrySweep reads modelUj => Sys2Proof.Machine.execTelemetrySweep reads modelUj s
  | .gateWindow n j => Sys2Proof.Machine.execGateWindow n j s
  | .tileRamp n => Sys2Proof.Machine.execTileRamp n s
  | .thermalSample temps => Sys2Proof.Machine.execThermalSample temps s
  | .thermtrip temps => Sys2Proof.Machine.execThermtrip temps s
  | .coolantStale => Sys2Proof.Machine.execCoolantStale s
  | .tolJobFree path value => Sys2Proof.Machine.execTolJobFree path value s
  | .refMeasure edges => Sys2Proof.Machine.execRefMeasure edges s
  | .pllLockLost => Sys2Proof.Machine.execPllLockLost s
  | .pllRelock => Sys2Proof.Machine.execPllRelock s
  | .crossingWake unit => Sys2Proof.Machine.execCrossingWake unit s
  | .powerOn => Sys2Proof.Machine.execPowerOn s
  | .perst => Sys2Proof.Machine.execPerst s
  | .sysReset => Sys2Proof.Machine.execSysReset s
  | .rstGo path value => Sys2Proof.Machine.execRstGo path value s
  | .watchdog => Sys2Proof.Machine.execWatchdog s
  | .wdtKick path value => Sys2Proof.Machine.execWdtKick path value s
  | .deviceResetAssert pulse => Sys2Proof.Machine.execDeviceResetAssert pulse s
  | .resetReleaseStep ready => Sys2Proof.Machine.execResetReleaseStep ready s
  | .lnkBlockReset path p => Sys2Proof.Machine.execLnkBlockReset path p s
  | .ethBlockReset path e sending => Sys2Proof.Machine.execEthBlockReset path e sending s
  | .ftBlockReset path q => Sys2Proof.Machine.execFtBlockReset path q s
  | .fabBlockReset path => Sys2Proof.Machine.execFabBlockReset path s
  | .colBlockReset path => Sys2Proof.Machine.execColBlockReset path s
  | .blockResetRelease k => Sys2Proof.Machine.execBlockResetRelease k s
  | .underway path => Sys2Proof.Machine.execUnderway path s
  | .moored path => Sys2Proof.Machine.execMoored path s
  | .laidUp path => Sys2Proof.Machine.execLaidUp path s
  | .pwrOff path => Sys2Proof.Machine.execPwrOff path s
  | .entryAnswer block n transfer => Sys2Proof.Machine.execEntryAnswer block n transfer s
  | .entryReask n => Sys2Proof.Machine.execEntryReask n s
  | .entryTimeout => Sys2Proof.Machine.execEntryTimeout s
  | .entryCommit => Sys2Proof.Machine.execEntryCommit s
  | .wakeEvent cause n => Sys2Proof.Machine.execWakeEvent cause n s
  | .wakeStep imageOk => Sys2Proof.Machine.execWakeStep imageOk s
  | .padRelease path value => Sys2Proof.Machine.execPadRelease path value s
  | .parcelDownAccess path off isRead => Sys2Proof.Machine.execParcelDownAccess path off isRead s
  | .sourceEvent inputs => Sys2Proof.Machine.execSourceEvent inputs s
  | .countWindowExpiry src => Sys2Proof.Machine.execCountWindowExpiry src s
  | .graceExpiry src => Sys2Proof.Machine.execGraceExpiry src s
  | .statusClear path w mask => Sys2Proof.Machine.execStatusClear path w mask s
  | .fcuForceSafe path value => Sys2Proof.Machine.execFcuForceSafe path value s
  | .collectorSelfFault => Sys2Proof.Machine.execCollectorSelfFault s
  | .faultEsc => Sys2Proof.Machine.execFaultEsc s
  | .fcuCfgWrite path value => Sys2Proof.Machine.execFcuCfgWrite path value s
  | .faultPulseEnd => Sys2Proof.Machine.execFaultPulseEnd s
  | .fcuLogPop path value => Sys2Proof.Machine.execFcuLogPop path value s
  | .fcuFirstClr path value => Sys2Proof.Machine.execFcuFirstClr path value s
  | .bellRing path n value => Sys2Proof.Machine.execBellRing path n value s
  | .bellExpiry n runs => Sys2Proof.Machine.execBellExpiry n runs s
  | .parcelFence path n => Sys2Proof.Machine.execParcelFence path n s
  | .parcelReset path n => Sys2Proof.Machine.execParcelReset path n s
  | .fenceComplete n => Sys2Proof.Machine.execFenceComplete n s
  | .parcelResetRelease n => Sys2Proof.Machine.execParcelResetRelease n s
  | .seqImageReload n => Sys2Proof.Machine.execSeqImageReload n s
  | .parcelBenchDone n found => Sys2Proof.Machine.execParcelBenchDone n found s
  | .armActive path => Sys2Proof.Machine.execArmActive path s
  | .armActiveTimeout b => Sys2Proof.Machine.execArmActiveTimeout b s
  | .armRelief path => Sys2Proof.Machine.execArmRelief path s
  | .disarm path => Sys2Proof.Machine.execDisarm path s
  | .castoff path => Sys2Proof.Machine.execCastoff path s
  | .survey path => Sys2Proof.Machine.execSurvey path s
  | .surveyDone b engines terrs paths => Sys2Proof.Machine.execSurveyDone b engines terrs paths s
  | .tokenRecord p => Sys2Proof.Machine.execTokenRecord p s
  | .kvRecord p => Sys2Proof.Machine.execKvRecord p s
  | .beaconRecord p => Sys2Proof.Machine.execBeaconRecord p s
  | .beaconSend b => Sys2Proof.Machine.execBeaconSend b s
  | .journalAck p => Sys2Proof.Machine.execJournalAck p s
  | .journalResend b n => Sys2Proof.Machine.execJournalResend b n s
  | .reliefLost b => Sys2Proof.Machine.execReliefLost b s
  | .silence b => Sys2Proof.Machine.execSilence b s
  | .castoffReceive p => Sys2Proof.Machine.execCastoffReceive p s
  | .fenceOrder p => Sys2Proof.Machine.execFenceOrder p s
  | .fenceAck p => Sys2Proof.Machine.execFenceAck p s
  | .fenceWaitExpiry b => Sys2Proof.Machine.execFenceWaitExpiry b s
  | .taken p => Sys2Proof.Machine.execTaken p s
  | .takenAck p => Sys2Proof.Machine.execTakenAck p s
  | .takeoverDone b => Sys2Proof.Machine.execTakeoverDone b s
  | .chainTimeout b => Sys2Proof.Machine.execChainTimeout b s
  | .bruTrain path => Sys2Proof.Machine.execBruTrain path s
  | .stackTrainDone stack supported tempC margins => Sys2Proof.Machine.execStackTrainDone stack supported tempC margins s
  | .linkWaitExpiry => Sys2Proof.Machine.execLinkWaitExpiry s
  | .bruLoad path mask bad => Sys2Proof.Machine.execBruLoad path mask bad s
  | .bruBench path mask => Sys2Proof.Machine.execBruBench path mask s
  | .benchRunDone found colOk loopFail => Sys2Proof.Machine.execBenchRunDone found colOk loopFail s
  | .computeReset path mask => Sys2Proof.Machine.execComputeReset path mask s
  | .fpRestore path => Sys2Proof.Machine.execFpRestore path s
  | .pwrFail => Sys2Proof.Machine.execPwrFail s
  | .pwrFailRise => Sys2Proof.Machine.execPwrFailRise s
  | .compact path => Sys2Proof.Machine.execCompact path s
  | .compactionDone => Sys2Proof.Machine.execCompactionDone s
  | .fwuBegin path kind => Sys2Proof.Machine.execFwuBegin path kind s
  | .fwuBlock path => Sys2Proof.Machine.execFwuBlock path s
  | .fwuVerify path norOk => Sys2Proof.Machine.execFwuVerify path norOk s
  | .fwuActivate path resetOnAct => Sys2Proof.Machine.execFwuActivate path resetOnAct s
  | .fwuAbort path => Sys2Proof.Machine.execFwuAbort path s
  | .fwuSwitch path kind => Sys2Proof.Machine.execFwuSwitch path kind s
  | .scheduledActivation => Sys2Proof.Machine.execScheduledActivation s
  | .fwuConfirm path value => Sys2Proof.Machine.execFwuConfirm path value s
  | .entdaa addr => Sys2Proof.Machine.execEntdaa addr s
  | .rstdaa => Sys2Proof.Machine.execRstdaa s
  | .setEndpointId tr eid => Sys2Proof.Machine.execSetEndpointId tr eid s
  | .mctpReassemblyTimeout tr => Sys2Proof.Machine.execMctpReassemblyTimeout tr s
  | .getTid tr => Sys2Proof.Machine.execGetTid tr s
  | .setTid tr tid => Sys2Proof.Machine.execSetTid tr tid s
  | .getPldmVersion tr typ => Sys2Proof.Machine.execGetPldmVersion tr typ s
  | .getPldmTypes tr => Sys2Proof.Machine.execGetPldmTypes tr s
  | .getPldmCommands tr typ => Sys2Proof.Machine.execGetPldmCommands tr typ s
  | .getPdrRepositoryInfo tr => Sys2Proof.Machine.execGetPdrRepositoryInfo tr s
  | .getPdr tr record => Sys2Proof.Machine.execGetPdr tr record s
  | .getSensorReading tr sensor => Sys2Proof.Machine.execGetSensorReading tr sensor s
  | .getStateSensorReadings tr sensor => Sys2Proof.Machine.execGetStateSensorReadings tr sensor s
  | .getNumericEffecterValue tr id => Sys2Proof.Machine.execGetNumericEffecterValue tr id s
  | .getStateEffecterStates tr id => Sys2Proof.Machine.execGetStateEffecterStates tr id s
  | .setEventReceiver tr eid => Sys2Proof.Machine.execSetEventReceiver tr eid s
  | .pollForPlatformEventMessage tr ack => Sys2Proof.Machine.execPollForPlatformEventMessage tr ack s
  | .budget tr value => Sys2Proof.Machine.execBudget tr value s
  | .coolantInlet tr value => Sys2Proof.Machine.execCoolantInlet tr value s
  | .coolantOutlet tr value => Sys2Proof.Machine.execCoolantOutlet tr value s
  | .coolantFlow tr value => Sys2Proof.Machine.execCoolantFlow tr value s
  | .backupEnergyStore tr value => Sys2Proof.Machine.execBackupEnergyStore tr value s
  | .leak tr value => Sys2Proof.Machine.execLeak tr value s
  | .prepareSwap tr => Sys2Proof.Machine.execPrepareSwap tr s
  | .swapCancel tr value => Sys2Proof.Machine.execSwapCancel tr value s
  | .mgpWake tr value => Sys2Proof.Machine.execMgpWake tr value s
  | .mgmtCmd tr => Sys2Proof.Machine.execMgmtCmd tr s
  | .queryDeviceIdentifiers tr => Sys2Proof.Machine.execQueryDeviceIdentifiers tr s
  | .getFirmwareParameters tr => Sys2Proof.Machine.execGetFirmwareParameters tr s
  | .requestUpdate tr => Sys2Proof.Machine.execRequestUpdate tr s
  | .passComponentTable tr last => Sys2Proof.Machine.execPassComponentTable tr last s
  | .updateComponent tr component size => Sys2Proof.Machine.execUpdateComponent tr component size s
  | .requestFirmwareData cc bytes => Sys2Proof.Machine.execRequestFirmwareData cc bytes s
  | .transferComplete => Sys2Proof.Machine.execTransferComplete s
  | .verifyComplete norOk => Sys2Proof.Machine.execVerifyComplete norOk s
  | .applyComplete => Sys2Proof.Machine.execApplyComplete s
  | .activateFirmware tr => Sys2Proof.Machine.execActivateFirmware tr s
  | .getStatus tr => Sys2Proof.Machine.execGetStatus tr s
  | .cancelUpdateComponent tr => Sys2Proof.Machine.execCancelUpdateComponent tr s
  | .cancelUpdate tr => Sys2Proof.Machine.execCancelUpdate tr s
  | .getVersion tr => Sys2Proof.Machine.execGetVersion tr s
  | .getCapabilities tr => Sys2Proof.Machine.execGetCapabilities tr s
  | .negotiateAlgorithms tr p384 sha384 => Sys2Proof.Machine.execNegotiateAlgorithms tr p384 sha384 s
  | .getDigests tr => Sys2Proof.Machine.execGetDigests tr s
  | .getCertificate tr slot off len => Sys2Proof.Machine.execGetCertificate tr slot off len s
  | .challenge tr slot nonce => Sys2Proof.Machine.execChallenge tr slot nonce s
  | .getMeasurements tr index sign nonce => Sys2Proof.Machine.execGetMeasurements tr index sign nonce s
  | .regRead tr off => Sys2Proof.Machine.execRegRead tr off s
  | .regWrite tr off value => Sys2Proof.Machine.execRegWrite tr off value s
  | .ibiRetry => Sys2Proof.Machine.execIbiRetry s
  | .trayAbsent => Sys2Proof.Machine.execTrayAbsent s
  | .backupStale => Sys2Proof.Machine.execBackupStale s
  | .idcode => Sys2Proof.Machine.execIdcode s
  | .bypass tdi => Sys2Proof.Machine.execBypass tdi s
  | .samplePreload pins tdi => Sys2Proof.Machine.execSamplePreload pins tdi s
  | .extest pins tdi => Sys2Proof.Machine.execExtest pins tdi s
  | .laneRetrainStart p => Sys2Proof.Machine.execLaneRetrainStart p s
  | .ethLinkUp e => Sys2Proof.Machine.execEthLinkUp e s
  | .hostLinkTraining width speed flit => Sys2Proof.Machine.execHostLinkTraining width speed flit s
  | .aerUncorrectable => Sys2Proof.Machine.execAerUncorrectable s
  | .cxlLinkRetrain q ok wide fast => Sys2Proof.Machine.execCxlLinkRetrain q ok wide fast s
  | .ftPortRttUpdate q ns => Sys2Proof.Machine.execFtPortRttUpdate q ns s
  | .traversePeerAbsent p => Sys2Proof.Machine.execTraversePeerAbsent p s
  | .targetResetAction => Sys2Proof.Machine.execTargetResetAction s
  | .unsupportedCommand tr msgType typ cmd => Sys2Proof.Machine.execUnsupportedCommand tr msgType typ cmd s
  | .resetDeasserted source => Sys2Proof.Machine.execResetDeasserted source s

end Sys2Proof.Machine
end

