-- ==== Sys2Proof/Safety.lean ====
section
/-! DEFINITION. The terms in which claims speak of good states and of what a step may do. -/

namespace Sys2Proof.Safety

open Sys2Proof.Machine

/-- The register file is in its canonical form: offsets rising, no entry equal to what an unlisted register reads as. -/
abbrev RegsOk (s : State) : Prop := storeWf (regDefault s.fuses) s.regs = true

/-- The memories (the hold, the near tier and the far tier) are in their canonical form. -/
abbrev Memory.wf (s : State) : Prop :=
  storeWf zeroByte s.hold = true ∧ storeWf zeroByte s.tier.near = true ∧ storeWf zeroByte s.tier.far = true

/-- Kinds of state that most commands leave alone: the bytes of the hold, the bytes of the near and far tier, the
non-volatile memories, and ownership. A field is true where a command may change that kind. -/
structure Areas where
  hold : Bool := false
  tier : Bool := false
  nv : Bool := false
  own : Bool := false
  deriving DecidableEq, Repr

/-- What every command keeps: the waiting commands, the fuses, the clock that never goes back, what has been sent, the
canonical forms, and each kind of state that the command may not change. -/
structure Evolves (w : Areas) (s t : State) : Prop where
  pending : t.pending = s.pending
  fuses : t.fuses = s.fuses
  clock : s.mclk ≤ t.mclk
  free : s.freeCtr ≤ t.freeCtr
  out : s.out <+: t.out
  regs : RegsOk s → RegsOk t
  memory : Memory.wf s → Memory.wf t
  hold : w.hold = false → t.hold = s.hold
  tier : w.tier = false → t.tier.near = s.tier.near ∧ t.tier.far = s.tier.far
  nv : w.nv = false → t.nv = s.nv
  own : w.own = false → t.own = s.own

/-- The command is carried out, neither a fault nor a refusal, and what it leaves satisfies P. -/
def Does (c : Instr) (s : State) (P : State → Prop) : Prop := ∃ t, exec c s = .next t ∧ P t

/-- t is u but for the registers with the listed keys (`regKey`; of the shared copies, their BAR0 offsets). -/
structure Becomes (u : State) (keys : List Nat) (t : State) : Prop where
  rest : t = { u with regs := t.regs }
  regs : ∀ k, k ∉ keys → storeRead (regDefault u.fuses) t.regs k = storeRead (regDefault u.fuses) u.regs k

/-! # Terms of the obligations -/

/-! ## Parts of the engines -/

/-- The regions that a part reads and the rows that it writes are its function's, no plot of them is being cleared, and no
word of them is poisoned: the part can do its work at once. -/
abbrev Clear (s : State) (d : Desc) (reads dest : List Region) (rows : List (Nat × List Byte)) : Prop :=
  (∀ r ∈ reads, s.mayRead (s.who d) r.1 r.2 = true ∧ s.clearingIn r.1 r.2 = false ∧ s.poisonedIn r.1 r.2 = false) ∧
  (∀ r ∈ dest, s.mayWrite (s.who d) r.1 r.2 = true ∧ s.clearingIn r.1 r.2 = false) ∧
  (∀ r ∈ rows, s.poisonedIn r.1 r.2.length = false)

/-- Rows of bytes written one after the other. -/
def writeRows (m : Store 8) (rows : List (Nat × List Byte)) : Store 8 := rows.foldl (fun m r => memWrite m r.1 r.2) m

/-- What a part that ends with a status leaves of the sequencer: that part alone has ended. -/
abbrev seqAfter (s : State) (n : Nat) (d : Desc) (st : Nat) : SeqSt := (s.endPart n d.id st).seq

/-! ## Vector instructions -/

/-- Unit u of the invocation at parcel n. -/
def unitAt (s : State) (n u : Nat) : UnitSt := ((s.vu n).run.bind fun r => amGet r.units u).getD {}

/-- The unit of an issue goes on at word pc with new registers, which P describes: the lanes of a lane-wise instruction are
counted, and nothing else has changed. -/
def UnitGoes (s : State) (n : Nat) (x : Issue) (pc : Nat) (P : UnitSt → Prop) (t : State) : Prop :=
  let st := unitAt t n x.unit
  let s1 := if isVectorOp x.i.op then
      s.add64 (Reg.VU_LANEOPS_LO n) (if x.i.op = 0x57 then 64 else popcount (x.st.preg x.i.pred) 64) else s
  t = s1.setVu n { s.vu n with run := some { x.run with units := amSet x.run.units x.unit st } } ∧
  st.pc = pc ∧ st.halted = false ∧ st.atSync = false ∧ P st

/-- A scalar register takes a value modulo 2^32; S0 stays 0, and every other register stays. -/
def ScalarTakes (x : Issue) (v : Nat) (st : UnitSt) : Prop :=
  st.v = x.st.v ∧ st.p = x.st.p ∧
  ∀ i < 32, st.sreg i = if i = x.i.d ∧ i ≠ 0 then v % 2 ^ 32 else x.st.sreg i

/-- The lanes of a vector register that are on take f modulo 2^32, those that are off keep their value, or take 0 where
PZ is 1; every other register stays. -/
def LanesTake (x : Issue) (f : Nat → Nat) (st : UnitSt) : Prop :=
  st.sr = x.st.sr ∧ st.p = x.st.p ∧
  ∀ r < 32, ∀ l < 64, st.lane r l =
    if r = x.i.d then (if x.st.isOn x.i l then f l % 2 ^ 32 else if x.i.pz then 0 else x.st.lane r l) else x.st.lane r l

/-- The same for a pair of vector registers. -/
def PairTakes (x : Issue) (f g : Nat → Nat) (st : UnitSt) : Prop :=
  st.sr = x.st.sr ∧ st.p = x.st.p ∧
  ∀ r < 32, ∀ l < 64, st.lane r l =
    if r = x.i.d ∨ r = x.i.d + 1 then
      (if x.st.isOn x.i l then (if r = x.i.d then f l else g l) % 2 ^ 32 else if x.i.pz then 0 else x.st.lane r l)
    else x.st.lane r l

/-- The same for a predicate register; P0 stays all ones. -/
def PredTakes (x : Issue) (f : Nat → Bool) (st : UnitSt) : Prop :=
  st.sr = x.st.sr ∧ st.v = x.st.v ∧
  ∀ i < 32, ∀ l < 64, bitAt (st.preg i) l =
    if i = x.i.d ∧ i ≠ 0 then (if x.st.isOn x.i l then f l else if x.i.pz then false else bitAt (x.st.preg i) l)
    else bitAt (x.st.preg i) l

/-- A unit's access of some pieces goes through: aligned, inside the windows, its function's, not being cleared, and
clean. -/
abbrev AccessClear (s : State) (n : Nat) (x : Issue) (write : Bool) (align : Nat) (pieces : List Region) : Prop :=
  s.accessFault n x write align x.addr pieces = none ∧
  ∀ r ∈ pieces, s.clearingIn r.1 r.2 = false ∧ s.poisonedIn r.1 r.2 = false

/-! ## Sequencers -/

/-- The admitted part p of descriptor d at parcel n is ready: its parcel takes work, its mark and its order are reached. -/
abbrev Ready (s : State) (n id : Nat) (d : Desc) (p : Part) : Prop :=
  s.desc id = some d ∧ d.parts.find? (fun p => p.parcel == n && decide (p.st = .admitted)) = some p ∧
  s.inService n = true ∧ s.blockHolds n d = false ∧ s.markFails d p = false ∧ s.epochGate p.adm d = .run ∧
  s.markReached n d = true ∧ s.orderReached n d = true

/-- No ALL_REDUCE is in a sequencer. -/
abbrev NoReduce (s : State) : Prop := ∀ d ∈ s.seq.descs, d.opcode ≠ 0x61

/-! ## The KV cache -/

/-- A range of the hold that a KV operator may read and its pager may write, that is not being cleared, and clean. -/
abbrev HoldHere (s : State) (d : Desc) (r : Region) : Prop :=
  s.mayRead (s.who d) r.1 r.2 = true ∧ s.mayWrite { s.who d with spec := false } r.1 r.2 = true ∧
  s.clearingIn r.1 r.2 = false ∧ s.poisonedIn r.1 r.2 = false

/-- A stream's page entry i, and its slot j's tag in memory m. -/
def pageOf (s : State) (r : StreamRec) (i : Nat) : PageEnt := pageEnt (memRead s.hold (r.pt + 16 * i) 16)
def tagOf (m : Store 8) (s : State) (r : StreamRec) (j : Nat) : List Byte :=
  memRead m ((pageOf s r (j / 64)).frame + 2 * (j % 64)) 2

/-- The record r of a stream is at address a, and keeps R131. -/
abbrev StreamHere (s : State) (d : Desc) (n a : Nat) (r : StreamRec) : Prop :=
  r = streamRec a (memRead s.hold a 64) ∧ r.ok n = true ∧ HoldHere s d (a, 64)

/-- The entry of a page can be read and written; no move of an earlier part has left BUSY set in it. -/
abbrev EntryHere (s : State) (d : Desc) (r : StreamRec) (i : Nat) : Prop :=
  HoldHere s d (r.pt + 16 * i, 16) ∧ bitAt (leAt (memRead s.hold (r.pt + 16 * i) 16) 12 1) 5 = false

/-- A page is in its frame, which lies as R131 asks and apart from the stream's entries, and is clean. -/
abbrev PageHere (s : State) (d : Desc) (n : Nat) (r : StreamRec) (i : Nat) : Prop :=
  EntryHere s d r i ∧ (pageOf s r i).res = true ∧ (pageOf s r i).poison = false ∧
  r.frameOk n (pageOf s r i).frame = true ∧ HoldHere s d ((pageOf s r i).frame, r.frameBytes) ∧
  overlap (r.pt, 16 * r.npages) ((pageOf s r i).frame, r.frameBytes) = false

/-- What is written for a token at slot j: its rows, then its tag. -/
def tokenWrites (s : State) (r : StreamRec) (j : Nat) (rows : List (List Byte)) (tag : List Byte) :
    List (Nat × List Byte) :=
  let f := (pageOf s r (j / 64)).frame
  List.zipWith (fun (p : Region) b => (f + p.1, b)) (r.tokenRows (j % 64)) rows ++ [(f + 2 * (j % 64), tag)]

/-- The entry of page i after its frame was written in m: DIRTY, and its tentative tags counted. -/
def touched (m : Store 8) (s : State) (r : StreamRec) (i : Nat) : Nat × List Byte :=
  let e := pageOf s r i
  let tags := memRead m e.frame 128
  (r.pt + 16 * i,
   { e with dirty := true, tent := ((List.range 64).filter fun t => leAt tags (2 * t) 1 == 2).length }.bytes)

/-- The hold after a KV_APPEND: the tokens' rows and tags, the entries of their pages, and LEN, which speculative work
leaves alone. -/
def appended (s : State) (d : Desc) (a : AppendOp) (r : StreamRec) : Store 8 :=
  let base := r.len + a.base
  let m := writeRows s.hold (((List.range a.n).map fun i =>
    let v := (List.range (2 * r.hd)).map fun x =>
      toF32 (plainVal a.fmt (memRead s.hold (a.src + 16 * i * a.stride) (2 * r.hd * (if a.fmt = 0 then 4 else 2))) x)
    tokenWrites s r (base + i) (r.convert (v.take r.hd) ++ r.convert (v.drop r.hd))
      (if d.spec then [2#8, BitVec.ofNat 8 d.epoch] else [1#8, 0#8])).flatten)
  writeRows m ((pagesOf base (base + a.n)).map (touched m s r) ++
    (if d.spec then [] else [(r.addr + 4, leBytes 4 (r.len + a.n))]))

/-- The hold after a KV_COMMIT: the accepted nodes' rows in order at the slots from LEN on, the tentative tags above them
cleared, the entries, and LEN. -/
def committed (s : State) (c : CommitOp) (r : StreamRec) : Store 8 :=
  let top := min (r.len + 64) (64 * r.npages)
  let m1 := (c.nodes.mapIdx fun i j => (i, j)).foldl (fun m x =>
    writeRows m (tokenWrites s r (r.len + x.1) ((r.tokenRows ((r.len + x.2) % 64)).map fun p =>
      memRead m ((pageOf s r ((r.len + x.2) / 64)).frame + p.1) p.2) [1#8, 0#8])) s.hold
  let m2 := ((List.range (top - (r.len + c.a))).map (r.len + c.a + ·)).foldl (fun m j =>
    if leAt (tagOf m s r j) 0 1 = 2 then memWrite m ((pageOf s r (j / 64)).frame + 2 * (j % 64)) [0#8, 0#8] else m) m1
  writeRows m2 (((pagesOf r.len top).filter fun i => (pageOf s r i).tent != 0 || decide (64 * i < r.len + c.a)).map
    (touched m2 s r) ++ [(r.addr + 4, leBytes 4 (r.len + c.a))])

/-- A chunk whose visible slots all need tags of the part's epoch, none of which is there, is passed over (R148). -/
def passedOver (s : State) (d : Desc) (j : AttnJob) (c : Nat) : Bool :=
  j.tagOnly c && (List.range j.a.m).all fun row => (List.range 64).all fun t =>
    !(j.see row (64 * c + t) && tagIs (memRead s.hold (pageOf s j.r c).frame 128) t d.epoch)

/-- The chunks that an ATTN works through, and the records it ends with (attn_record, R139). -/
def attnChunks (s : State) (d : Desc) (j : AttnJob) : List Nat := j.toScan.filter fun c => !passedOver s d j c
def attnResult (s : State) (d : Desc) (j : AttnJob) : List AttnAcc :=
  (attnChunks s d j).foldl (fun acc c =>
    let frame := memRead s.hold (pageOf s j.r c).frame j.r.frameBytes
    let vis := visibleIn j.a j.r j.len d.epoch (fun i => j.qpos.getD i 0) (fun i => j.tmask.getD i 0) c frame
    List.zipWith (fun q x => AttnAcc.chunk x j.r frame q.2 j.a.scale (vis q.1)) j.records acc)
    (j.records.map fun _ => { o := List.replicate j.r.hd 0 })

/-- A page's backing copy can be read, and what it holds. -/
abbrev BackingHere (s : State) (d : Desc) (r : StreamRec) (e : PageEnt) : Prop :=
  e.backed = true ∧ s.tierStatus e.kind (s.who d) e.back r.frameBytes false = Status.OK ∧
  s.tierClearing e.kind e.back r.frameBytes = false ∧ s.firstBad e.kind e.back r.frameBytes = none
def backing (s : State) (r : StreamRec) (e : PageEnt) : List Byte := s.tierRead e.kind e.back r.frameBytes

/-- A backing place can be written. -/
abbrev PlaceHere (s : State) (d : Desc) (kind a len : Nat) : Prop :=
  s.tierStatus kind (s.who d) a len true = Status.OK ∧ s.tierClearing kind a len = false ∧ s.firstBad kind a len = none

/-! ## The gangway -/

/-- A packet is taken, its source counted by its parcel, and answered. -/
def answered (s : State) (p : Packet) (st : Nat) : State :=
  ((s.takePacket p).markSource (pkParcel p) p.src.toNat).sendAny (responseTo p st)

/-- A notice of a kind that its member takes in its turn, and the membership after it. -/
abbrev InTurn (s : State) (p : Packet) (kind : Nat) (b : GwBind) : Prop :=
  s.noticeStatus p kind = Status.OK ∧ s.gwBind (bindKey (pkParcel p) p.dstCtx.toNat) = some b ∧
  olderGen (noticeOf p).gen b.gen = false ∧ p ∉ b.early ∧ (noticeOf p).nseq = b.expect
def turned (p : Packet) (b : GwBind) : GwBind :=
  { b with gen := (noticeOf p).gen, expect := ((noticeOf p).nseq + 1) % 2 ^ 32 }

/-- A gangway operator's context with no errors in what it reads. -/
def cleanCtx (n : Nat) (d : Desc) : KvCtx := { n := n, d := d, errs := [], terrs := [] }

/-! ## The management port -/

/-- The device has sent a message over a transport. -/
def told (tr : Transport) (b : List Byte) (u : State) : State :=
  { u with out := u.out ++ [match tr with | .i3c => .mgmt b | .vdm => .vdm b] }

/-- The tray manager has written an effecter. -/
def heardNow (s : State) : State := { s with mgmt := { s.mgmt with trayAt := some s.mclk, present := true } }

/-! ## What each command may change -/

/-- The kinds of state that a command may change. -/
def areasOf : Instr → Areas
  | .plotClearDone _ _ | .gemm _ _ | .cgemm _ _ | .gemv _ _ | .rmsApply _ _ | .rmsScale _ _ | .layerApply _ _
  | .writeReceive _ | .responseReceive _ | .responseTimeout _ | .vstF32 _ _ | .vstBf16 _ _ | .vstBf16x2 _ _
  | .vstE4m3 _ _ | .gwCommit _ _ | .gwDiscard _ _ | .ackNotice _ | .applyTimeout _ _ | .apertureAccess _ _ _ _
  | .ethFrameReceive _ _ _ | .allReduce _ _ _ | .collCount _ _ | .collPart _ _ | .collResult _ | .taken _ =>
    { hold := true }
  | .resetReleaseStep _ | .parcelBenchDone _ _ | .benchRunDone _ _ _ | .fpRestore _ | .pwrFail | .pwrFailRise
  | .compact _ | .compactionDone | .fwuBegin _ _ | .fwuVerify _ _ | .fwuActivate _ _ | .fwuAbort _
  | .fwuSwitch _ _ | .scheduledActivation | .fwuConfirm _ _ | .budget _ _ | .leak _ _ | .updateComponent _ _ _
  | .requestFirmwareData _ _ | .verifyComplete _ | .activateFirmware _ | .cancelUpdateComponent _
  | .cancelUpdate _ =>
    { nv := true }
  | .ownClaim _ | .ownRelease _ | .ownHandover _ _ | .ownAccept _ | .ownLock _ | .ownUnlock _ | .ownForce _
  | .ownCancel _ | .handoverExpiry | .ownRecordCommit =>
    { own := true }
  | .tractClearDone _ _ _ =>
    { tier := true }
  | .copy _ _ _ _ | .copyZero _ | .attn _ _ _ | .attnMerge _ _ | .kvAppend _ _ _ | .kvCommit _ _ _
  | .promote _ _ _ | .evict _ _ _ | .writeback _ _ _ | .setFrame _ _ | .migrate _ _ _ | .kvPageFetch _ _ _
  | .gwTree _ _ _ | .gwTreeRepair _ _ | .gwAccept _ _ _ | .applyNotice _ _ _ | .discardNotice _ _ _
  | .rollbackNotice _ | .tokenRecord _ | .kvRecord _ =>
    { hold := true, tier := true }
  | .registerWrite _ _ _ | .regAccess _ _ | .regRead _ _ | .regWrite _ _ _ =>
    { nv := true, own := true }
  | .deviceResetAssert _ | .entryCommit =>
    { hold := true, nv := true, own := true }
  | .hostReadCompletion _ _ =>
    { hold := true, tier := true, nv := true }
  | _ => {}

end Sys2Proof.Safety
end

