-- ==== Sys2Proof/Certificates/Slice0/Obligations.lean ====
section
/-! DEFINITION. The statements for the provers. Where a clause says `Does c s P`, the command is carried out in every state
that meets the clause's conditions, and P holds of what it leaves; a clause that gives the whole next state, or `Becomes`
with the registers that change, is the command's frame as well. -/

open Sys2Proof Sys2Proof.Machine Sys2Proof.Safety

/-- HLD_ARB (R40): a write whose G_FAB + G_DMA + G_MAINT would exceed 32, G_MAINT 0 taken as 1, changes HLD_EVENT alone,
whose ARB_WRITE_DROPPED is set; any other write stores the three counts, which sum to at most 32, so that class C0 is left
at least 32 of the 64 grants. -/
def Obligations.ArbWriteKeepsGuarantees : Prop :=
  ∀ (s : State) (path : Path) (n : Parcel) (v : Word), RegsOk s → s.mayRwl path = true →
    (32 < bitsOf v.toNat 5 0 + bitsOf v.toNat 13 8 + max 1 (bitsOf v.toNat 21 16) →
      Does (.hldArbWrite path n v) s fun t => Becomes s [Reg.HLD_EVENT n] t ∧
      t.fld (F.HLD_EVENT_ARB_WRITE_DROPPED n) = 1) ∧
    (bitsOf v.toNat 5 0 + bitsOf v.toNat 13 8 + max 1 (bitsOf v.toNat 21 16) ≤ 32 →
      Does (.hldArbWrite path n v) s fun t => Becomes s [Reg.HLD_ARB n] t ∧ t.fld (F.HLD_ARB_G_FAB n) =
      bitsOf v.toNat 5 0 ∧ t.fld (F.HLD_ARB_G_DMA n) = bitsOf v.toNat 13 8 ∧ t.fld (F.HLD_ARB_G_MAINT n) =
      max 1 (bitsOf v.toNat 21 16) ∧
      32 ≤ 64 - (t.fld (F.HLD_ARB_G_FAB n) + t.fld (F.HLD_ARB_G_DMA n) + t.fld (F.HLD_ARB_G_MAINT n)))

/-- The commands of the hold (R33, R34, R46, R49), with the registers, bytes and scrub row that they change. -/
def Obligations.HoldCommandsTakeEffect : Prop :=
  ∀ s : State, RegsOk s → Memory.wf s →
    -- a FREE plot takes its new owner, and its clear begins
    (∀ (path : Path) (n : Parcel) (plot : Fin 96) (v : Word), s.mayRwl path = true →
      s.rd (Reg.HLD_PLOT_OWNER n plot) = 0 → bitsOf v.toNat 1 0 = 1 → Does (.plotOwnerWrite path n plot v) s fun t =>
      Becomes s [Reg.HLD_PLOT_OWNER n plot] t ∧ t.fld (F.HLD_PLOT_OWNER_KIND n plot) = 1 ∧
      t.fld (F.HLD_PLOT_OWNER_OWNER_FN n plot) = bitsOf v.toNat 25 16 ∧ t.fld (F.HLD_PLOT_OWNER_READERS n plot) =
      bitsOf v.toNat 2 2 ∧ t.fld (F.HLD_PLOT_OWNER_CLEARING n plot) = 1) ∧
    -- the end of a clear: the bytes of the plot are zero, every other byte as it was
    (∀ (n : Parcel) (plot : Fin 96), s.fld (F.HLD_PLOT_OWNER_CLEARING n plot) = 1 →
      Does (.plotClearDone n plot) s fun t =>
      Becomes { s with hold := t.hold, holdPoison := t.holdPoison } [Reg.HLD_PLOT_OWNER n plot] t ∧
      t.fld (F.HLD_PLOT_OWNER_CLEARING n plot) = 0 ∧ (∀ i < 2 ^ 21,
      storeRead zeroByte t.hold (n.val * 2 ^ 28 + plot.val * 2 ^ 21 + i) = 0) ∧ ∀ a : Nat,
      a < n.val * 2 ^ 28 + plot.val * 2 ^ 21 ∨ n.val * 2 ^ 28 + plot.val * 2 ^ 21 + 2 ^ 21 ≤ a →
      storeRead zeroByte t.hold a = storeRead zeroByte s.hold a) ∧
    -- a scrub step that finds no error goes on to the next row; the last row ends the pass
    (∀ (n : Parcel), s.fld (F.HLD_SCRUB_ENABLE n) = 1 → (s.slice n).scrubOn = true → (s.slice n).row < 24575 →
      Does (.scrubStep n []) s fun t => Becomes { s with slices := t.slices } [] t ∧ (t.slice n).row =
      (s.slice n).row + 1) ∧
    (∀ (n : Parcel), s.fld (F.HLD_SCRUB_ENABLE n) = 1 → (s.slice n).scrubOn = true → (s.slice n).row = 24575 →
      Does (.scrubStep n []) s fun t => Becomes { s with slices := t.slices } [Reg.HLD_SCRUB_PASS n] t ∧
      (t.slice n).row = 0 ∧ t.fld (F.HLD_SCRUB_PASS_PASSES n) = (s.fld (F.HLD_SCRUB_PASS_PASSES n) + 1) % 2 ^ 32) ∧
    (∀ (path : Path) (n : Parcel) (v : Word), s.mayRwl path = true → Does (.hldScrubWrite path n v) s fun t =>
      Becomes s [Reg.HLD_SCRUB n] t ∧ t.fld (F.HLD_SCRUB_ENABLE n) = bitsOf v.toNat 0 0 ∧
      t.fld (F.HLD_SCRUB_INTERVAL n) = bitsOf v.toNat 27 16) ∧
    (∀ (path : Path) (n : Parcel) (v : Word), s.mayRwl path = true → bitsOf v.toNat 0 0 = 1 →
      Does (.hldErrClr path n v) s fun t =>
      Becomes s [Reg.HLD_CE_COUNT n, Reg.HLD_UE_COUNT n, Reg.HLD_ERR_ADDR n, Reg.HLD_ERR_INFO n] t ∧
      t.fld (F.HLD_CE_COUNT_COUNT n) = 0 ∧ t.fld (F.HLD_UE_COUNT_COUNT n) = 0 ∧ t.rd (Reg.HLD_ERR_ADDR n) = 0 ∧
      t.rd (Reg.HLD_ERR_INFO n) = 0) ∧
    -- the decoder: its failure record is cleared; a commit of valid tables takes the staged tables and tag
    (∀ (n : Parcel) (v : Word), bitsOf v.toNat 0 0 = 1 → Does (.wdcErrClr n v) s fun t =>
      Becomes s [Reg.WDC_ERR_INFO n, Reg.WDC_ERR_ADDR n] t ∧ t.rd (Reg.WDC_ERR_INFO n) = 0 ∧
      t.rd (Reg.WDC_ERR_ADDR n) = 0) ∧
    (∀ (n : Parcel) (v : Word), s.stageBad n = 0 → bitsOf v.toNat 0 0 = 1 → Does (.wdcCommit n v) s fun t =>
      t.fld (F.WDC_LIVE_TAG_TAG n) = s.fld (F.WDC_STAGE_TAG_TAG n) ∧ (∀ i < 16, t.rd64 (Reg.WDC_LIVE_TABLE_LO n i) =
      s.stageTable n i) ∧ t = { s with regs := t.regs })

/-- The commands that are one write of a register, or of a field, under the RWL rule: the path that writes, and the BAR0 offset
written. -/
def lockedWrite : Instr → Option (Path × Nat)
  | .plotOwnerWrite path n plot _ => some (path, Reg.HLD_PLOT_OWNER n plot)
  | .hldArbWrite path n _ => some (path, Reg.HLD_ARB n)
  | .hldScrubWrite path n _ => some (path, Reg.HLD_SCRUB n)
  | .hldErrClr path n _ => some (path, Reg.HLD_ERR_CLR n)
  | .mtErrClr path n _ => some (path, Reg.MT_ERR_CLR n)
  | .vuSlotFree path n _ => some (path, Reg.VU_SLOT_FREE n)
  | .vuErrClr path n _ => some (path, Reg.VU_ERR_CLR n)
  | .kvpErrClr path n _ => some (path, Reg.KVP_ERR_CLR n)
  | .gwyErrClr path n _ => some (path, Reg.GWY_ERR_CLR n)
  | .ntTractOwnerWrite path n t _ => some (path, Reg.NT_TRACT_OWNER n t)
  | .ntRetrainReq path n _ => some (path, Reg.NT_RETRAIN_REQ n)
  | .ntErrClr path n _ => some (path, Reg.NT_ERR_CLR n)
  | .ctxCreate path | .ctxStart path | .ctxStop path | .ctxAbort path | .ctxDestroy path | .ctxRewind path =>
    some (path, Reg.HIF_CTX_CMD)
  | .hifErrClr path _ => some (path, Reg.HIF_ERR_CLR)
  | .ownViolClr path _ => some (path, Reg.OWN_VIOL_CLR)
  | .colAbortClr path _ => some (path, Reg.COL_ABORT_CLR)
  | .tolJobFree path _ => some (path, Reg.TOL_JOB_FREE)
  | .rstGo path _ => some (path, Reg.RST_DEVICE)
  | .lnkBlockReset path _ => some (path, Reg.RST_BLOCK0)
  | .ethBlockReset path _ _ | .ftBlockReset path _ | .fabBlockReset path | .colBlockReset path => some (path, Reg.RST_BLOCK1)
  | .underway path | .moored path | .laidUp path | .pwrOff path => some (path, Reg.PWR_CMD)
  | .padRelease path _ => some (path, Reg.PWR_PAD_RELEASE)
  | .statusClear path w _ => some (path, Reg.FCU_STAT_W w)
  | .fcuForceSafe path _ => some (path, Reg.FCU_FORCE_SAFE)
  | .fcuCfgWrite path _ => some (path, Reg.FCU_CFG)
  | .fcuLogPop path _ => some (path, Reg.FCU_LOG_POP)
  | .fcuFirstClr path _ => some (path, Reg.FCU_FIRST_CLR)
  | .parcelFence path n | .parcelReset path n => some (path, Reg.REC_PARCEL_CMD n)
  | .armActive path | .armRelief path | .disarm path | .castoff path | .survey path => some (path, Reg.REC_RLF_CMD)
  | .bruTrain path | .bruLoad path _ _ | .bruBench path _ | .computeReset path _ | .fpRestore path =>
    some (path, Reg.BRU_CMD)
  | .compact path => some (path, Reg.NVS_CMD)
  | _ => none

/-- A write under the RWL rule by a path that is not the owner, or with the lock closed, is ignored and counted (R9, R229):
every other register and all other state stay; the first such write while OWN_VIOL_INFO.VALID is 0 is recorded with its
path and offset, and a record that is held stays. -/
def Obligations.LockedWritesAreCountedAndIgnored : Prop :=
  ∀ (c : Instr) (path : Path) (off : Nat) (s : State), lockedWrite c = some (path, off) → s.mayRwl path = false → RegsOk s →
    Does c s fun t =>
      Becomes s [Reg.OWN_VIOL_COUNT, Reg.OWN_VIOL_INFO, Reg.OWN_VIOL_ADDR] t ∧
      t.fld F.OWN_VIOL_COUNT_COUNT = min (s.fld F.OWN_VIOL_COUNT_COUNT + 1) (2 ^ 32 - 1) ∧
      t.fld F.OWN_VIOL_INFO_VALID = 1 ∧
      (s.fld F.OWN_VIOL_INFO_VALID = 1 →
        t.rd Reg.OWN_VIOL_INFO = s.rd Reg.OWN_VIOL_INFO ∧ t.rd Reg.OWN_VIOL_ADDR = s.rd Reg.OWN_VIOL_ADDR) ∧
      (s.fld F.OWN_VIOL_INFO_VALID = 0 →
        t.fld F.OWN_VIOL_INFO_PATH = violPath path ∧ t.fld F.OWN_VIOL_ADDR_OFFSET = off % 2 ^ 26)

/-- The ownership commands and the commit of their record (R226, Table 9, R228): a command whose writer and condition are
right waits for its record (OWN_RESULT 2); HANDOVER and CANCEL act at once (OWN_RESULT 1); the commit gives the effect of
Table 9, one more generation, and OWN_RESULT 1. -/
def Obligations.OwnershipCommandsTakeEffect : Prop :=
  ∀ s : State, RegsOk s →
    let waits (c : Instr) (path : Path) (code : Nat) : Prop := Does c s fun t =>
      Becomes { s with own := { s.own with busy := some ⟨code, pathClaimant path, path⟩ } }
        [regKey (pathNo path) Reg.OWN_RESULT] t ∧ t.fldB (pathNo path) F.OWN_RESULT_CODE = 2
    let isOwner (path : Path) : Prop := pathClaimant path ≠ 0 ∧ pathClaimant path = s.own.owner
    let quiet : Prop := s.own.locked = false ∧ s.own.successor = none
    (s.own.busy = none → ∀ path : Path,
      (pathClaimant path ≠ 0 → s.own.owner = 0 → waits (.ownClaim path) path 1) ∧
      (isOwner path → quiet → waits (.ownRelease path) path 2) ∧
      (∀ d, pathClaimant path ≠ 0 → s.own.successor = some (pathClaimant path) → s.own.handoverDeadline = some d → s.mclk < d →
        waits (.ownAccept path) path 4) ∧
      (isOwner path → quiet → waits (.ownLock path) path 5) ∧
      (isOwner path → s.own.locked = true → waits (.ownUnlock path) path 6) ∧
      (pathClaimant path = 2 → s.fld F.FCU_STATUS_SAFE = 1 → waits (.ownForce path) path 7) ∧
      (∀ target : Fin 4, isOwner path → s.own.successor = none → target.val ≠ 0 → target.val ≠ pathClaimant path →
        Does (.ownHandover path target) s fun t =>
          Becomes { s with own := { s.own with
              successor := some target.val, handoverDeadline := some (s.mclk + 25000000) } }
            [regKey (pathNo path) Reg.OWN_RESULT] t ∧ t.fldB (pathNo path) F.OWN_RESULT_CODE = 1) ∧
      (isOwner path → s.own.successor.isSome → Does (.ownCancel path) s fun t =>
        Becomes { s with own := { s.own with successor := none, handoverDeadline := none } }
          [regKey (pathNo path) Reg.OWN_RESULT] t ∧ t.fldB (pathNo path) F.OWN_RESULT_CODE = 1)) ∧
    (∀ c : OwnCommit, s.own.busy = some c → s.nv.pfHold = false → Does .ownRecordCommit s fun t =>
      Becomes { s with own := t.own } [regKey (pathNo c.path) Reg.OWN_RESULT] t ∧
      t.fldB (pathNo c.path) F.OWN_RESULT_CODE = 1 ∧ t.own.busy = none ∧ t.own.gen = (s.own.gen + 1) % 2 ^ 32 ∧
      (c.code = 1 → t.own.owner = c.claimant ∧ t.own.locked = false) ∧
      (c.code = 2 → t.own.owner = 0 ∧ t.own.locked = s.own.locked) ∧
      (c.code = 4 → t.own.owner = c.claimant ∧ t.own.locked = s.own.locked ∧ t.own.successor = none) ∧
      (c.code = 5 → t.own.owner = s.own.owner ∧ t.own.locked = true) ∧
      (c.code = 6 → t.own.owner = s.own.owner ∧ t.own.locked = false) ∧
      (c.code = 7 → t.own.owner = 2 ∧ t.own.locked = s.own.locked ∧ t.own.successor = none)) ∧
    (∀ d, s.own.handoverDeadline = some d → Does .handoverExpiry s fun t =>
      t.own = { s.own with successor := none, handoverDeadline := none } ∧ t.regs = s.regs ∧ t.mclk = max s.mclk d) ∧
    (∀ (path : Path) (v : Word), s.mayRwl path = true → bitsOf v.toNat 0 0 = 1 → Does (.ownViolClr path v) s fun t =>
      Becomes s [Reg.OWN_VIOL_INFO, Reg.OWN_VIOL_ADDR] t ∧ t.rd Reg.OWN_VIOL_INFO = 0 ∧ t.rd Reg.OWN_VIOL_ADDR = 0)

/-- A CLAIM while the device has an owner is refused by its condition (R226): nothing changes but the writer's OWN_RESULT (3)
and the count and record of violations. -/
def Obligations.RefusedClaimChangesNothing : Prop :=
  ∀ s : State, RegsOk s →
    (∀ (path : Path), s.own.busy = none → pathClaimant path ≠ 0 → s.own.owner ≠ 0 → Does (.ownClaim path) s fun t =>
      Becomes s [regKey (pathNo path) Reg.OWN_RESULT, Reg.OWN_VIOL_COUNT, Reg.OWN_VIOL_INFO, Reg.OWN_VIOL_ADDR] t ∧
      t.fldB (pathNo path) F.OWN_RESULT_CODE = 3 ∧ t.fld F.OWN_VIOL_COUNT_COUNT =
      min (s.fld F.OWN_VIOL_COUNT_COUNT + 1) (2 ^ 32 - 1))

/-- With no owner and nothing waiting, a CLAIM and the commit of its record, at the front of the queue, leave the claimant
the owner, whatever path it came on; before the commit its RWL writes are refused, and after it they take effect. -/
def Obligations.ClaimAndCommitGiveOwnership : Prop :=
  ∀ (s : State) (path : Path) (rest : List Instr), pathClaimant path ≠ 0 → s.own.owner = 0 → s.own.busy = none →
    s.nv.pfHold = false → s.pending = .ownClaim path :: .ownRecordCommit :: rest →
    ∃ t u, step s = .next t ∧ step t = .next u ∧ u.own.owner = pathClaimant path ∧ u.own.busy = none ∧ u.pending = rest ∧
      t.mayRwl path = false ∧ u.mayRwl path = true

/-- 64-bit values (R11): a read by a path of the low word at off answers the low word and copies the high word into that
path's latch, every other latch staying; a read of the high word by a path whose latch holds a word answers that word and
changes nothing. -/
def Obligations.HighWordComesFromTheLatch : Prop :=
  ∀ (s : State) (path : Path) (off : Nat), off % 4 = 0 → isLowWord off = true → isLowWord (off + 4) = false →
    (s.logicUp = true ∨ (isParcelReg off = false ∧ isParcelReg (off + 4) = false)) →
    (Does (.lowWordRead path off) s fun t =>
      t = { s with
        latches := amSet s.latches (latchKey path (off + 4)) (s.regWord path (off + 4))
        out := s.out ++ [.readData path (leBytes 4 (s.regWord path off).toNat) false] } ∧
      amGet t.latches (latchKey path (off + 4)) = some (s.regWord path (off + 4)) ∧
      ∀ k, k ≠ latchKey path (off + 4) → amGet t.latches k = amGet s.latches k) ∧
    (∀ w, amGet s.latches (latchKey path (off + 4)) = some w →
      Does (.lowWordRead path (off + 4)) s fun t =>
        t = { s with out := s.out ++ [.readData path (leBytes 4 w.toNat) false] })

/-- Register accesses (R9, R10, R20, R285, R493): a write of HLD_CE_LIMIT by a path that may write it stores its writable
bits, and a reserved bit is discarded; a write where no register stands changes nothing; an access that is not one aligned
word is counted and recorded, and its read answers zeros; a REG_ACCESS write that arrives on an admitted tree port is
carried out and answered on that port. -/
def Obligations.RegisterAccessesTakeEffect : Prop :=
  ∀ s : State, RegsOk s →
    (∀ (path : Path) (n : Parcel) (v : Word), s.mayRwl path = true →
      Does (.registerWrite path (Reg.HLD_CE_LIMIT n) v) s fun t => Becomes s [Reg.HLD_CE_LIMIT n] t ∧
      t.fld (F.HLD_CE_LIMIT_LIMIT n) = v.toNat % 2 ^ 16 ∧ (t.rd (Reg.HLD_CE_LIMIT n)).toNat < 2 ^ 16) ∧
    (∀ (path : Path) (off : Nat) (v : Word), off % 4 = 0 → regRow off = none → msixReg off = false → isParcelReg off =
      false → Does (.registerWrite path off v) s fun t => t = s) ∧
    (∀ (fn : Fin 1024) (off len : Nat), Does (.bar0BadAccess fn off len true) s fun t =>
      Becomes { s with out := t.out } [Reg.HIF_BAR0_BAD, Reg.HIF_EVENT, Reg.HIF_ERR_INFO, Reg.HIF_ERR_ADDR_LO, Reg.HIF_ERR_ADDR_HI] t ∧
      t.fld F.HIF_BAR0_BAD_COUNT = min (s.fld F.HIF_BAR0_BAD_COUNT + 1) (2 ^ 32 - 1) ∧ t.fld F.HIF_EVENT_HOST_ERR =
      1 ∧ t.out = s.out ++ [.readData .pf0 (List.replicate len 0) false] ∧ (s.fld F.HIF_ERR_INFO_VALID = 1 →
      t.rd Reg.HIF_ERR_INFO = s.rd Reg.HIF_ERR_INFO) ∧ (s.fld F.HIF_ERR_INFO_VALID = 0 → t.fld F.HIF_ERR_INFO_VALID =
      1 ∧ t.fld F.HIF_ERR_INFO_CAUSE = 7 ∧ t.fld F.HIF_ERR_INFO_FN = fn ∧ t.rd Reg.HIF_ERR_ADDR_LO =
      BitVec.ofNat 32 off)) ∧
    (∀ (p : Port) (n : Parcel) (pk : Packet), s.isTree p = true → s.portState p = 2 → s.own.locked = false →
      s.own.owner = 3 → pk.ptype = 0x24 → bitsOf pk.opx.toNat 0 0 = 1 → pk.addr.toNat = Reg.HLD_CE_LIMIT n →
      s.linkUp p = false → Does (.regAccess p pk) s fun t => t.fld (F.HLD_CE_LIMIT_LIMIT n) =
      leAt pk.payload 0 4 % 2 ^ 16 ∧ (t.link p).queue.map (·.pkt) =
      (s.link p).queue.map (·.pkt) ++ [{ ptype := 0x25, vc := 3, dst := pk.src, src := pk.dst, hops := 1, txn := pk.txn, status := 0, payload := List.replicate 32 0 }])

/-- The state machine of a fabric port (R254, R255, R257): which state each event leads to, with the lanes, the width, the
epoch and the deadlines that it sets. LNK_STATUS.STATE is 0 DISABLED, 1 DETECT, 2 TRAIN, 3 ALIGN, 4 INIT, 5 UP, 6 RESTART,
7 REFUSED. -/
def Obligations.LinkStateMachineMoves : Prop :=
  ∀ s : State, RegsOk s →
    -- DETECT to TRAIN, with 100 ms for a lane to train
    (∀ (p : Port), s.portExists p = true → s.up 6 = true → s.inBlockReset p = false → s.fld (F.LNK_CTRL_ENABLE p) =
      1 → s.linkState p ≤ 1 → Does (.signalDetect p) s fun t => t.linkState p = 2 ∧ t.fld (F.LNK_STATUS_LANE_EXCL p) =
      0 ∧ (t.link p).stateDeadline = some (s.mclk + 25000000)) ∧
    -- TRAIN to ALIGN, with the lanes that trained
    (∀ (p : Port) (trained : BitVec 4) (tempC : Byte) (load : Fin 4) (w lanes : Nat), s.linkState p = 2 →
      widthOf trained.toNat = some (w, lanes) → Does (.trainDone p trained tempC load) s fun t => t.linkState p = 3 ∧
      t.fld (F.LNK_STATUS_WIDTH p) = w ∧ t.fld (F.LNK_STATUS_LANES p) = lanes ∧ t.fld (F.LNK_STATUS_LANE_EXCL p) =
      15 - trained.toNat) ∧
    -- TRAIN without a lane falls back to DETECT; ALIGN and INIT to TRAIN
    (∀ (p : Port) (d : Nat), s.linkState p = 2 → (s.link p).stateDeadline = some d → Does (.trainTimeout p) s fun t =>
      t.linkState p = 1 ∧ t.mclk = max s.mclk d) ∧
    (∀ (p : Port) (d : Nat), (s.linkState p = 3 ∨ s.linkState p = 4) → (s.link p).stateDeadline = some d →
      Does (.trainTimeout p) s fun t => t.linkState p = 2) ∧
    -- ALIGN to INIT, with a new transmit epoch that is never 0
    (∀ (p : Port), s.linkState p = 3 → Does (.alignLock p) s fun t => t.linkState p = 4 ∧
      t.fld (F.LNK_SEQ_RX_EXPECT p) = 0 ∧ t.fld (F.LNK_EPOCH_TX_EPOCH p) = (if s.fld (F.LNK_EPOCH_TX_EPOCH p) =
      65535 then 1 else s.fld (F.LNK_EPOCH_TX_EPOCH p) + 1) ∧ (t.link p).stateDeadline = some (s.mclk + 250000)) ∧
    -- INIT to UP with a HELLO that says SEEN; a HELLO of another version refuses the link
    (∀ (p : Port) (unit : List Byte), s.linkState p = 4 → crc16 (unit.take 30) = leAt unit 30 2 → leAt unit 1 1 = 1 →
      leAt unit 2 1 % 32 ≤ 19 → leAt unit 3 1 % 4 = s.fld (F.LNK_STATUS_WIDTH p) → bitAt (leAt unit 26 1) 0 = true →
      (s.link p).seen = true → (s.link p).queue = [] → Does (.helloUnit p unit) s fun t => t.linkState p = 5 ∧
      t.portState p = 1 ∧ (t.link p).stateDeadline = none) ∧
    (∀ (p : Port) (unit : List Byte), s.linkState p = 4 → crc16 (unit.take 30) = leAt unit 30 2 → leAt unit 1 1 ≠ 1 →
      Does (.helloUnit p unit) s fun t => t.linkState p = 7 ∧ t.fld (F.LNK_EVENT_REFUSED p) = 1 ∧
      (t.link p).stateDeadline = some (s.mclk + 25000000)) ∧
    (∀ (p : Port) (d : Nat), s.linkState p = 7 → (s.link p).stateDeadline = some d →
      Does (.refusedExpiry p) s fun t => t.linkState p = 2 ∧ t.mclk = max s.mclk d) ∧
    -- UP to TRAIN: the port is DOWN
    (∀ (p : Port), s.linkState p = 5 → Does (.fecLockLost p) s fun t => t.linkState p = 2 ∧ ((s.link p).cur = none →
      t.portState p = 0 ∧ t.fld (F.LNK_EVENT_DOWN p) = 1)) ∧
    (∀ (p : Port), s.portExists p = true → s.up 6 = true → s.inBlockReset p = false → s.fld (F.LNK_CTRL_ENABLE p) =
      1 → Does (.retrain p) s fun t => t.linkState p = 2 ∧ t.fld (F.LNK_STATUS_LANE_EXCL p) = 0) ∧
    -- UP to RESTART for 1 us, and then to INIT
    (∀ (p : Port), s.linkState p = 5 → (s.link p).cur = none → (((s.link p).restartTimes.filter fun d =>
      decide (s.mclk < d + 250000000)).length < 8) → Does (.lnkRestart p) s fun t => t.linkState p = 6 ∧
      t.portState p = 0 ∧ t.fld (F.LNK_RESTARTS_COUNT p) = min (s.fld (F.LNK_RESTARTS_COUNT p) + 1) (2 ^ 32 - 1) ∧
      (t.link p).stateDeadline = some (s.mclk + 250)) ∧
    (∀ (p : Port) (unit : List Byte), s.linkState p = 5 → leAt unit 0 1 = 0xF3 → (s.link p).cur = none →
      (((s.link p).restartTimes.filter fun d => decide (s.mclk < d + 250000000)).length < 8) →
      Does (.restartUnit p unit) s fun t => t.linkState p = 6 ∧ t.portState p = 0) ∧
    (∀ (p : Port) (d : Nat), s.linkState p = 6 → (s.link p).stateDeadline = some d → Does (.restartEnd p) s fun t =>
      t.linkState p = 4 ∧ t.mclk = max s.mclk d)

/-- Units on a link (R242-R252, R257): what a header, a tail and a link-control field do to the receiver and the transmitter,
and what a port sends by itself. -/
def Obligations.LinkUnitsTakeEffect : Prop :=
  ∀ s : State, RegsOk s →
    -- an expected header unit begins a packet
    (∀ (p : Port) (unit : List Byte), s.portExists p = true → s.linkState p = 5 → 0 < leAt unit 0 1 →
      leAt unit 0 1 < 0xF7 → (s.link p).cur = none → crc16 (unit.take 30) = leAt unit 30 2 →
      leAt unit 7 1 % 128 ≤ 64 → leAt unit 2 2 % 4096 = s.fld (F.LNK_SEQ_RX_EXPECT p) →
      leAt unit 7 1 % 128 + 2 ≤ s.fld (F.LNK_CREDIT_GRANTED_FREE p (leAt unit 1 1 % 4)) →
      Does (.rxHeader p unit true) s fun t => t.regs = s.regs ∧ ∃ c, (t.link p).cur = some c ∧ c.header = unit ∧
      c.plen = leAt unit 7 1 % 128 ∧ c.pkt = packetOf unit []) ∧
    -- a good tail hands a TRAVERSE packet on; a link-control field with a bad CRC in it is ignored
    (∀ (p : Port) (c : RxCur) (payload tail : List Byte), s.portExists p = true → s.linkState p = 5 → (s.link p).cur =
      some c → payload.length = 32 * c.plen → leAt tail 0 4 = crc32 (c.header ++ payload) → bitAt (leAt tail 4 1) 0 =
      false → c.viol = none → c.cut = none → c.pkt.ptype = 0x20 → c.pkt.dst = 0 → c.pkt.src = 0 → c.pkt.hops = 0 →
      crc16 ((sliceB tail 8 24).take 22) ≠ leAt (sliceB tail 8 24) 22 2 →
      Does (.rxTail p payload tail true) s fun t => t.inbox =
      s.inbox ++ [(some p.val, { c.pkt with payload := payload })] ∧ (t.link p).cur = none ∧
      t.fld (F.LNK_SEQ_RX_EXPECT p) = (s.fld (F.LNK_SEQ_RX_EXPECT p) + 1) % 4096) ∧
    -- an acknowledgement frees the packets up to its number
    (∀ (p : Port) (unit : List Byte) (n : Nat), s.linkState p = 5 → leAt unit 0 1 = 0xF1 →
      crc16 ((sliceB unit 8 24).take 22) = leAt (sliceB unit 8 24) 22 2 → leAt (sliceB unit 8 24) 10 2 =
      s.fld (F.LNK_EPOCH_TX_EPOCH p) → bitsOf (leAt (sliceB unit 8 24) 0 2) 13 12 = 1 → (s.link p).unacked ≠ [] →
      (s.link p).queue = [] → (∀ e ∈ (s.link p).unacked, e.fromPort = none) → n =
      (leAt (sliceB unit 8 24) 0 2 % 4096 + 4097 - (s.link p).oldest) % 4096 → n ≤ (s.link p).unacked.length →
      (∀ v < 4,
      s.fld (F.LNK_CREDIT_AVAIL p v) + (leAt (sliceB unit 8 24) (2 + 2 * v) 2 % 4096 + 4096 - (s.link p).crIn.getD v 0) % 4096 ≤ (s.link p).grant.getD v 0) →
      Does (.lctlUnit p unit) s fun t => (t.link p).unacked = (s.link p).unacked.drop n ∧ (t.link p).oldest =
      ((s.link p).oldest + n) % 4096) ∧
    (∀ (p : Port), s.linkState p = 5 → Does (.lctlSend p) s fun t => (t.link p).lctlDue = false ∧ t.out =
      s.out ++ [.linkControl p 0xF1 ([0xF1#8] ++ List.replicate 7 0#8 ++ s.lctlField p (s.link p).nakSent)]) ∧
    -- every unacknowledged packet is sent again, in order and with its number
    (∀ (p : Port) (d : Nat), (s.link p).replayDeadline = some d → s.linkState p = 5 → (s.link p).unacked ≠ [] →
      (s.link p).replays < s.fld (F.LNK_CFG_REPLAY_LIMIT p) → Does (.replayTimeout p) s fun t => t.out =
      s.out ++ (s.link p).unacked.map (fun e => Output.linkPacket p e.seq e.pkt e.stomp) ∧ (t.link p).replays =
      (s.link p).replays + 1 ∧ t.fld (F.LNK_REPLAYS_COUNT p) = min (s.fld (F.LNK_REPLAYS_COUNT p) + 1) (2 ^ 32 - 1)) ∧
    (∀ (p : Port) (d : Nat), (s.link p).nakDeadline = some d → s.linkState p = 5 → (s.link p).nakSent = true →
      Does (.nakResend p) s fun t => ∃ b, t.out = s.out ++ [.linkControl p 0xF1 b]) ∧
    (∀ (p : Port), s.linkState p = 4 → Does (.helloSend p) s fun t => t =
      { s with out := s.out ++ [.linkControl p 0xF2 (s.helloUnitOf p)] }) ∧
    (∀ (path : Path) (p : Port) (v : Word), s.portExists p = true → s.mayRwl path = true → bitsOf v.toNat 0 0 = 1 →
      Does (.lnkViolClr path p v) s fun t => Becomes s [Reg.LNK_VIOL_INFO p] t ∧ t.rd (Reg.LNK_VIOL_INFO p) = 0)

/-- In-service lane retraining (R263-R266): the window of corrected symbols, a lane made due, the request and its answer, the
change of width, and the end with a trained or a failed lane. -/
def Obligations.LaneRetrainingRuns : Prop :=
  ∀ s : State, RegsOk s →
    -- each lane in use shows the corrected symbols of the window
    (∀ (p : Port) (counts : List Nat) (tempC : Byte) (lane : Fin 4), s.linkState p = 5 →
      bitAt (s.fld (F.LNK_STATUS_LANES p)) lane = true → Does (.csymWindow p counts tempC) s fun t =>
      t.rd (Reg.LNK_LANE_CSYM p lane) = BitVec.ofNat 32 (min (counts.getD lane 0) 0xFFFFFFFF)) ∧
    (∀ (p : Port) (lane : Fin 4), s.portExists p = true → Does (.laneReq p lane) s fun t => t =
      s.setLink p { s.link p with due := setIns (s.link p).due lane } ∧ lane.val ∈ (t.link p).due) ∧
    -- the lowest lane due is asked for
    (∀ (p : Port) (lane : Nat), s.dueLane p = some lane → s.linkState p = 5 → (s.link p).exch = 0 → s.retraining < 2 →
      Does (.laneRetrainStart p) s fun t => (t.link p).exch = 1 ∧ (t.link p).exchLane = lane ∧
      t.fld (F.LNK_STATUS_RETRAINING p) = 1 ∧ t.fld (F.LNK_STATUS_RT_LANE p) = lane % 4 ∧ t.out =
      s.out ++ [.linkControl p 0xF5 (retrainUnit 0xF5 lane s.fuses.serial)]) ∧
    -- a request is acknowledged; when both ends have asked, the lower serial proceeds
    (∀ (p : Port) (unit : List Byte), s.linkState p = 5 → crc16 (unit.take 30) = leAt unit 30 2 →
      bitAt (s.fld (F.LNK_STATUS_LANES p)) (leAt unit 1 1 % 4) = true → ((s.link p).exch ≠ 1 ∨
      leAt unit 4 8 ≤ s.fuses.serial) → Does (.retrainReq p unit) s fun t => (t.link p).exch = 4 ∧
      (t.link p).exchLane = leAt unit 1 1 % 4 ∧ t.fld (F.LNK_STATUS_RETRAINING p) = 1 ∧ t.out =
      s.out ++ [.linkControl p 0xF6 (retrainUnit 0xF6 (leAt unit 1 1 % 4) (leAt unit 4 8))]) ∧
    -- the link narrows to the lanes left
    (∀ (p : Port) (unit : List Byte) (w lanes : Nat), s.linkState p = 5 → (s.link p).exch = 1 → crc16 (unit.take 30) =
      leAt unit 30 2 → leAt unit 1 1 % 4 = (s.link p).exchLane →
      widthOf (narrowed (s.fld (F.LNK_STATUS_LANES p)) (s.link p).exchLane) = some (w, lanes) →
      Does (.retrainAck p unit) s fun t => (t.link p).exch = 2 ∧ t.fld (F.LNK_STATUS_WIDTH p) = w % 4 ∧
      t.fld (F.LNK_STATUS_LANES p) = lanes % 16 ∧ t.out = s.out ++ [.linkControl p 0xF4 (widthUnitOf w lanes)]) ∧
    (∀ (p : Port) (unit : List Byte), s.linkState p = 5 → crc16 (unit.take 30) = leAt unit 30 2 →
      widthOf (leAt unit 2 1 % 16) = some (leAt unit 1 1 % 4, leAt unit 2 1 % 16) → (∀ i < 4,
      bitAt (leAt unit 2 1 % 16) i = true → bitAt (15 - s.fld (F.LNK_STATUS_LANE_EXCL p)) i = true) →
      Does (.widthUnit p unit) s fun t => t.fld (F.LNK_STATUS_WIDTH p) = leAt unit 1 1 % 4 ∧
      t.fld (F.LNK_STATUS_LANES p) = leAt unit 2 1 % 16) ∧
    -- a trained lane returns with its tag; a failed one is excluded
    (∀ (p : Port) (tempC : Byte) (load : Fin 4) (w lanes : Nat), s.linkState p = 5 → ((s.link p).exch = 2 ∨
      (s.link p).exch = 3) → widthOf (15 - s.fld (F.LNK_STATUS_LANE_EXCL p)) = some (w, lanes) →
      (s.link p).exchLane < 4 → Does (.laneRetrainDone p true tempC load) s fun t => (t.link p).exch = 0 ∧
      t.fld (F.LNK_STATUS_RETRAINING p) = 0 ∧ t.fld (F.LNK_STATUS_LANES p) = lanes % 16 ∧
      t.fld (F.LNK_LANE_TAG_TEMP_C p (s.link p).exchLane) = tempC.toNat ∧ t.fld (F.LNK_RETRAIN_COUNT_COUNT p) =
      (s.fld (F.LNK_RETRAIN_COUNT_COUNT p) + 1) % 2 ^ 32) ∧
    (∀ (p : Port) (tempC : Byte) (load : Fin 4), s.linkState p = 5 → ((s.link p).exch = 2 ∨ (s.link p).exch = 3) →
      (s.link p).exchLane < 4 → Does (.laneRetrainDone p false tempC load) s fun t => (t.link p).exch = 0 ∧
      bitAt (t.fld (F.LNK_STATUS_LANE_EXCL p)) (s.link p).exchLane = true ∧ t.fld (F.LNK_EVENT_RETRAIN_FAILED p) = 1)

/-- The traverse (R272-R278): the epoch that begins, what each packet and each deadline records, and what is applied at its
end. -/
def Obligations.TraverseProceeds : Prop :=
  ∀ s : State, RegsOk s →
    -- the first port that reaches UP begins an epoch
    (s.fab.trav = none → s.rst.recovery = false → s.fab.started = false → s.upPorts ≠ [] →
      Does (.traverseTrigger) s fun t => t.fab.newest = epochNext s.fab.newest ∧ t.fab.started = true ∧ ∃ tr,
      t.fab.trav = some tr ∧ tr.epoch = epochNext s.fab.newest ∧ tr.ports = s.upPorts ∧ tr.t0 = s.mclk ∧ tr.ds =
      s.fuses.serial ∧ tr.phase = 1) ∧
    (s.up 5 = true → s.rst.recovery = false → s.fab.trav = none → Does (.travStart) s fun t => t.fab.newest =
      epochNext s.fab.newest ∧ ∃ tr, t.fab.trav = some tr ∧ tr.epoch = epochNext s.fab.newest ∧ tr.ports = s.upPorts) ∧
    (s.up 5 = true → s.rst.recovery = false → s.fab.trav.isSome → Does (.travStart) s fun t =>
      Becomes s [Reg.FAB_TRAV_STATUS] t ∧ t.fld F.FAB_TRAV_STATUS_NEXT_DUE = 1) ∧
    -- a newer epoch is joined
    (∀ (p : Port) (pk : Packet), pk.ptype = 0x20 → travOk pk 1 = true → epochNewer pk.addr.toNat s.fab.newest = true →
      s.linkUp p = true → s.rst.recovery = false → s.fab.trav = none → Does (.traverseStartReceive p pk) s fun t =>
      t.fab.newest = pk.addr.toNat ∧ ∃ tr, t.fab.trav = some tr ∧ tr.epoch = pk.addr.toNat ∧ tr.ports = s.upPorts) ∧
    (∀ (p : Port) (pk : Packet) (tr : Traverse), pk.ptype = 0x20 → travOk pk 2 = true → s.travOn p pk = some tr →
      tr.phase = 1 → Does (.exchange p pk) s fun t => t.fab =
      { s.fab with trav := some { tr with exchanges := amSet tr.exchanges p ⟨leAt pk.payload 0 8, leAt pk.payload 8 1, leAt pk.payload 9 1⟩ } }) ∧
    -- at 2 ms the ports without EXCHANGE, or no longer UP, are absent
    (∀ (tr : Traverse), s.fab.trav = some tr → tr.phase = 1 → ((tr.ports.all fun p =>
      (amGet tr.exchanges p).all fun x => !s.portMiscabled p x) = true) → Does (.exchangeDeadline) s fun t => t.mclk =
      max s.mclk (tr.t0 + 500000) ∧ ∃ u, t.fab.trav = some u ∧ u.phase = 2 ∧ u.miscabled = tr.miscabled ∧
      ∀ p ∈ tr.ports, (amGet tr.exchanges p = none ∨ s.linkUp p = false) → p ∈ u.absent) ∧
    -- a lower datum, or a shorter way to the same one, is taken with the berth that it implies
    (∀ (p : Port) (pk : Packet) (tr : Traverse), pk.ptype = 0x20 → travOk pk 3 = true → s.travOn p pk = some tr →
      tr.phase = 2 → p.val < s.fuses.meshPorts → tr.absent.contains p.val = false → tr.miscabled.contains p.val =
      false → (leAt pk.payload 0 8 < tr.ds ∨ (leAt pk.payload 0 8 = tr.ds ∧ leAt pk.payload 9 1 + 1 < tr.dist)) →
      Does (.datum p pk) s fun t => t.fab.trav =
      some { tr with ds := leAt pk.payload 0 8, dist := leAt pk.payload 9 1 + 1, b := (leAt pk.payload 8 1 + 2 * s.fuses.landingSize - p.val - 1) % s.fuses.landingSize }) ∧
    (∀ (tr : Traverse), s.fab.trav = some tr → tr.phase = 2 → Does (.berthFix) s fun t => t.mclk =
      max s.mclk (tr.t0 + 2000000) ∧ t.fab.trav = some { tr with phase := 3 }) ∧
    (∀ (p : Port) (pk : Packet) (tr : Traverse), pk.ptype = 0x20 → travOk pk 4 = true → s.travOn p pk = some tr →
      (tr.phase = 2 ∨ tr.phase = 3) → p.val < s.fuses.meshPorts → Does (.confirm p pk) s fun t => t.fab.trav =
      some { tr with confirms := amSet tr.confirms p (leAt pk.payload 0 8, leAt pk.payload 8 1) }) ∧
    (∀ (tr : Traverse), s.fab.trav = some tr → tr.phase = 3 → tr.counted = true → ((tr.confirms.all fun e =>
      e.2.1 == tr.ds && e.2.2 == (tr.b + e.1 + 1) % s.fuses.landingSize) = true) → Does (.confirmDeadline) s fun t =>
      t.mclk = max s.mclk (tr.t0 + 2500000) ∧ t.fab.trav = some { tr with phase := 4 }) ∧
    -- the datum asks for its landing once
    (∀ (tr : Traverse) (p : Nat), s.fab.trav = some tr → tr.phase = 4 → tr.ds = s.fuses.serial → tr.landSent = false →
      ((s.fuses.treePorts.find? fun p => s.portState p == 2 || s.linkUp p) = some p) → Does (.landReq) s fun t =>
      t.fab.trav = some { tr with landSent := true }) ∧
    (∀ (p : Port) (pk : Packet) (tr : Traverse), pk.ptype = 0x20 → travOk pk 6 = true → s.fab.trav = some tr →
      tr.phase = 4 → tr.epoch = pk.addr.toNat → tr.ds = s.fuses.serial → leAt pk.payload 0 8 = tr.ds → s.isTree p =
      true → tr.landing = none → Does (.landGrant p pk) s fun t => t.fab.trav =
      some { tr with landing := some (leAt pk.payload 8 2) }) ∧
    (∀ (p : Port) (pk : Packet) (tr : Traverse), pk.ptype = 0x20 → travOk pk 7 = true → s.travOn p pk = some tr →
      tr.phase = 4 → tr.landing = none → tr.ds ≠ s.fuses.serial → p.val < s.fuses.meshPorts →
      Does (.landing p pk) s fun t => t.fab.trav = some { tr with landing := some (leAt pk.payload 8 2) }) ∧
    -- without a LANDING the device keeps its landing only under an unchanged datum
    (∀ (tr : Traverse), s.fab.trav = some tr → tr.phase = 4 → tr.landing = none → Does (.landingDeadline) s fun t =>
      t.mclk = max s.mclk (tr.t0 + 4500000) ∧ t.fld F.FAB_EVENT_LANDING_LOST = 1 ∧ t.fab.trav =
      some { tr with landing := some (if s.fab.prevDs = some tr.ds then s.landing else 0xFFF) }) ∧
    -- at 20 ms the station address changes
    (∀ (tr : Traverse) (l : Nat), s.fab.trav = some tr → tr.phase = 4 → tr.landing = some l →
      Does (.traverseApply) s fun t => t.fab.trav = none ∧ t.fab.prevDs = some tr.ds ∧ t.fld F.FAB_STATION_LANDING =
      l % 4096 ∧ t.fld F.FAB_STATION_BERTH = tr.b % 16 ∧ t.fld F.FAB_STATION_VALID = 1 ∧ t.fld F.FAB_STATION_DATUM =
      b2n (tr.ds == s.fuses.serial) ∧ t.rd64 Reg.FAB_DATUM_SERIAL_LO = tr.ds % 2 ^ 64) ∧
    (∀ (p : Port) (tr : Traverse) (d : Nat), s.fab.trav = some tr → amGet tr.leaving p = some d →
      Does (.traversePeerAbsent p) s fun t => t.mclk = max s.mclk d ∧ t.fab.trav =
      some { tr with leaving := amDel tr.leaving p, absent := setIns tr.absent p } ∧ t.regs = s.regs)

/-- End-to-end windows (R286-R288) and fabric time (R289-R291): a newer grant is taken, a source whose share changed is told,
requests are answered with the time, and an answer steps or slews the clock. -/
def Obligations.WindowsAndFabricTimeFollowTheirPackets : Prop :=
  ∀ s : State, RegsOk s →
    (∀ (pk : Packet) (w : WinSt), pk.ptype = 0x09 →
      amGet s.fab.wins (pk.dst.toNat / 16 % 16 * 2 ^ 24 + pk.src.toNat) = some w →
      1 ≤ (pk.opx.toNat + 256 - w.gen) % 256 → (pk.opx.toNat + 256 - w.gen) % 256 ≤ 127 →
      Does (.windowGrant pk) s fun t => t.fab =
      { s.fab with wins := amSet s.fab.wins (pk.dst.toNat / 16 % 16 * 2 ^ 24 + pk.src.toNat) { w with window := pk.addr.toNat, gen := pk.opx.toNat } } ∧
      t.regs = s.regs) ∧
    -- one active source within the budget is granted the default window again
    (∀ (n : Parcel) (k : Nat) (x : SrcSt), ((s.fab.srcs.filter fun e =>
      e.1 / 2 ^ 24 == n.val && decide (s.mclk < e.2.last + 25000)) = [(k, x)]) → x.granted ≠ s.e2eDefault →
      s.e2eDefault ≤ s.fld F.FAB_E2E_BUDGET_BUDGET * 2048 → Does (.windowRecompute n) s fun t => t.fab =
      { s.fab with srcs := amSet s.fab.srcs k { x with granted := s.e2eDefault, gen := (x.gen + 1) % 256 } }) ∧
    -- a request carries the time of its sending; it waits on a port that is not UP
    (∀ (p : Nat), s.fld F.FAB_TIME_CFG_ROOT = 0 → s.timeSource = some p → s.linkUp p = false →
      Does (.timeRequestSend) s fun t => t.fld F.FAB_TIME_STATUS_SRC_PORT = p % 32 ∧ (t.link p).queue.map (·.pkt) =
      (s.link p).queue.map (·.pkt) ++ [{ ptype := 0x21, vc := 3, payload := timePayload s.fabTime 0 0 0 s.ownGrade }]) ∧
    (∀ (p : Port) (pk : Packet), pk.ptype = 0x21 → s.portState p = 2 → leAt pk.payload 24 1 = 0 → s.linkUp p = false →
      Does (.timeRequest p pk) s fun t => amGet t.fab.grades p = some (leAt pk.payload 25 1) ∧
      (t.link p).queue.map (·.pkt) =
      (s.link p).queue.map (·.pkt) ++ [{ ptype := 0x21, vc := 3, payload := timePayload (leAt pk.payload 0 8) s.fabTime s.fabTime 1 s.ownGrade }]) ∧
    -- an offset above 100 us steps the clock; the third small one in a row slews it and makes it SYNCED
    (∀ (p : Port) (pk : Packet) (off : Int), pk.ptype = 0x21 → leAt pk.payload 24 1 = 1 → p.val =
      s.fld F.FAB_TIME_STATUS_SRC_PORT → s.portState p = 2 → s.fld F.FAB_TIME_CFG_ROOT = 0 → off =
      Int.tdiv (((leAt pk.payload 8 8 : Int) - (leAt pk.payload 0 8 : Int)) - ((s.fabTime : Int) - (leAt pk.payload 16 8 : Int))) 2 →
      100000 < off → Does (.timeResponse p pk) s fun t => t.fabTime = (s.fabTime + off.toNat) % 2 ^ 64 ∧ t.fabSlew =
      0 ∧ t.fld F.FAB_TIME_STATUS_SYNCED = 0 ∧ t.fab.timeDeadline = some (s.mclk + 2500000)) ∧
    (∀ (p : Port) (pk : Packet) (off : Int), pk.ptype = 0x21 → leAt pk.payload 24 1 = 1 → p.val =
      s.fld F.FAB_TIME_STATUS_SRC_PORT → s.portState p = 2 → s.fld F.FAB_TIME_CFG_ROOT = 0 → off =
      Int.tdiv (((leAt pk.payload 8 8 : Int) - (leAt pk.payload 0 8 : Int)) - ((s.fabTime : Int) - (leAt pk.payload 16 8 : Int))) 2 →
      off.natAbs ≤ 250 → s.fab.stepped = true → 2 ≤ s.fab.streak → Does (.timeResponse p pk) s fun t => t.fabTime =
      s.fabTime ∧ t.fabSlew = off ∧ t.fld F.FAB_TIME_STATUS_SYNCED = 1 ∧ t.fld F.FAB_TIME_STATUS_GRADE =
      (min (leAt pk.payload 25 1 + 1) 0xFF)) ∧
    (∀ (d : Nat), s.fab.timeDeadline = some d → Does (.timeHoldover) s fun t => t.mclk = max s.mclk d ∧
      t.fab.timeDeadline = none ∧ t.fabSlew = 0 ∧ t.fld F.FAB_TIME_STATUS_SYNCED = 0 ∧
      t.fld F.FAB_TIME_STATUS_HOLDOVER = 1 ∧ t.fld F.FAB_TIME_STATUS_GRADE = 0xFF ∧ t.fld F.FAB_EVENT_TIME_LOST = 1)

/-- The vector instructions with a scalar result: parcel, unit, opcode and value. -/
def scalarOp : Instr → Option (Parcel × Fin 8 × Nat × (Issue → Nat))
  | .sli n u => some (n, u, 0x10, fun x => x.i.imm)
  | .sadd n u => some (n, u, 0x11, fun x => x.sa + x.sb)
  | .smul n u => some (n, u, 0x12, fun x => x.sa * x.sb)
  | .sand n u => some (n, u, 0x13, fun x => x.sa &&& x.sb)
  | .saddi n u => some (n, u, 0x14, fun x => x.sa + x.i.imm)
  | .sshl n u => some (n, u, 0x15, fun x => x.sa * 2 ^ (x.i.imm % 32))
  | .sshr n u => some (n, u, 0x16, fun x => x.sa / 2 ^ (x.i.imm % 32))
  | .sarg n u => some (n, u, 0x17, fun x => sargWord x.d n x.i.imm)
  | .sid n u => some (n, u, 0x18, fun x => x.unit)
  | .scnt n u => some (n, u, 0x19, fun x => x.run.phys.length)
  | .vredsum n u => some (n, u, 0x60, fun x => treeSum 6 ((List.range 64).map fun l => if x.st.isOn x.i l then x.va l else 0))
  | .vredmax n u => some (n, u, 0x61, fun x => ((List.range 64).filter fun l => x.st.isOn x.i l).foldl (fun m l => fMax m (x.va l)) 0xFF800000)
  | .pcnt n u => some (n, u, 0x63, fun x => ((List.range 64).filter fun l => x.st.isOn x.i l && bitAt (x.st.preg x.i.a) l).length)
  | _ => none

/-- Each vector instruction with a scalar result (Table 3, R113): the value of S[d], the next word, and everything else
unchanged. -/
def Obligations.VectorScalarResults : Prop :=
  ∀ (c : Instr) (n : Parcel) (u : Fin 8) (op : Nat) (f : Issue → Nat) (s : State) (x : Issue),
    scalarOp c = some (n, u, op, f) → s.issue n u op = some x →
    Does c s (UnitGoes s n x (x.st.pc + 1) (ScalarTakes x (f x)))

/-- The lane-wise vector instructions: parcel, unit, opcode and the value of a lane. -/
def laneOp : Instr → Option (Parcel × Fin 8 × Nat × (Issue → Nat → Nat))
  | .vadd n u => some (n, u, 0x30, fun x l => fAdd (x.va l) (x.vb l))
  | .vsub n u => some (n, u, 0x31, fun x l => fSub (x.va l) (x.vb l))
  | .vmul n u => some (n, u, 0x32, fun x l => fMul (x.va l) (x.vb l))
  | .vfma n u => some (n, u, 0x33, fun x l => fFma (x.va l) (x.vb l) (x.vc l))
  | .vfms n u => some (n, u, 0x34, fun x l => fFma (x.va l) (x.vb l) (fNeg (x.vc l)))
  | .vfnma n u => some (n, u, 0x35, fun x l => fFma (fNeg (x.va l)) (x.vb l) (x.vc l))
  | .vmin n u => some (n, u, 0x36, fun x l => fMin (x.va l) (x.vb l))
  | .vmax n u => some (n, u, 0x37, fun x l => fMax (x.va l) (x.vb l))
  | .vabs n u => some (n, u, 0x38, fun x l => fAbs (x.va l))
  | .vneg n u => some (n, u, 0x39, fun x l => fNeg (x.va l))
  | .vmov n u => some (n, u, 0x3A, fun x l => x.va l)
  | .vadds n u => some (n, u, 0x3B, fun x l => fAdd (x.va l) x.sb)
  | .vmuls n u => some (n, u, 0x3C, fun x l => fMul (x.va l) x.sb)
  | .vcvtF2i n u => some (n, u, 0x3E, fun x l => f2i (x.va l))
  | .vcvtI2f n u => some (n, u, 0x3F, fun x l => i2f (x.va l))
  | .vrcp n u => some (n, u, 0x40, fun x l => fDiv 0x3F800000 (x.va l))
  | .vrsqrt n u => some (n, u, 0x41, fun x l => fRsqrt (x.va l))
  | .vsqrt n u => some (n, u, 0x42, fun x l => toF32 (ofF32 (x.va l)).sqrt)
  | .vdiv n u => some (n, u, 0x43, fun x l => fDiv (x.va l) (x.vb l))
  | .vexp n u => some (n, u, 0x44, fun x l => fExp (x.va l))
  | .vexp2 n u => some (n, u, 0x45, fun x l => fExp2 (x.va l))
  | .vlog n u => some (n, u, 0x46, fun x l => bounded 1 0x46 Fp.ln (x.va l))
  | .vlog2 n u => some (n, u, 0x47, fun x l => bounded 1 0x47 Fp.log2 (x.va l))
  | .vtanh n u => some (n, u, 0x48, fun x l => bounded 2 0x48 Fp.tanh (x.va l))
  | .vsig n u => some (n, u, 0x49, fun x l => bounded 2 0x49 Fp.sigmoid (x.va l))
  | .verf n u => some (n, u, 0x4A, fun x l => bounded 2 0x4A Fp.erf (x.va l))
  | .vsin n u => some (n, u, 0x4B, fun x l => bounded 1 0x4B Fp.sin (x.va l))
  | .vcos n u => some (n, u, 0x4C, fun x l => bounded 1 0x4C Fp.cos (x.va l))
  | .viadd n u => some (n, u, 0x58, fun x l => x.va l + x.vb l)
  | .vand n u => some (n, u, 0x59, fun x l => x.va l &&& x.vb l)
  | .vor n u => some (n, u, 0x5A, fun x l => x.va l ||| x.vb l)
  | .vxor n u => some (n, u, 0x5B, fun x l => x.va l ^^^ x.vb l)
  | .vshl n u => some (n, u, 0x5C, fun x l => x.va l * 2 ^ (x.i.imm % 32))
  | .vshr n u => some (n, u, 0x5D, fun x l => x.va l / 2 ^ (x.i.imm % 32))
  | .viota n u => some (n, u, 0x5E, fun x l => l)
  | .vsplat n u => some (n, u, 0x5F, fun x l => x.sa)
  | .vrotl n u => some (n, u, 0x62, fun x l => x.va ((l + x.i.imm) % 64))
  | _ => none

/-- Each lane-wise vector instruction (Table 3, R113, R114, R117): the value of every lane of V[d] that is on, the lanes that
are off, the lanes counted (R126), and everything else unchanged. -/
def Obligations.VectorLaneResults : Prop :=
  ∀ (c : Instr) (n : Parcel) (u : Fin 8) (op : Nat) (f : Issue → Nat → Nat) (s : State) (x : Issue),
    laneOp c = some (n, u, op, f) → s.issue n u op = some x →
    Does c s (UnitGoes s n x (x.st.pc + 1) (LanesTake x (f x)))

/-- The vector instructions with a predicate result: parcel, unit, opcode and the bit of a lane. -/
def predOp : Instr → Option (Parcel × Fin 8 × Nat × (Issue → Nat → Bool))
  | .vcmpeq n u => some (n, u, 0x50, fun x l => cmpEq (x.va l) (x.vb l))
  | .vcmplt n u => some (n, u, 0x51, fun x l => cmpLt (x.va l) (x.vb l))
  | .vcmple n u => some (n, u, 0x52, fun x l => cmpLe (x.va l) (x.vb l))
  | .pand n u => some (n, u, 0x53, fun x l => bitAt (x.st.preg x.i.a) l && bitAt (x.st.preg x.i.b) l)
  | .por n u => some (n, u, 0x54, fun x l => bitAt (x.st.preg x.i.a) l || bitAt (x.st.preg x.i.b) l)
  | .pnot n u => some (n, u, 0x55, fun x l => !bitAt (x.st.preg x.i.a) l)
  | .pfirst n u => some (n, u, 0x56, fun x l => decide (l < x.i.imm))
  | _ => none

/-- Each vector instruction with a predicate result (Table 3, R113, R114). -/
def Obligations.VectorPredicateResults : Prop :=
  ∀ (c : Instr) (n : Parcel) (u : Fin 8) (op : Nat) (f : Issue → Nat → Bool) (s : State) (x : Issue),
    predOp c = some (n, u, op, f) → s.issue n u op = some x →
    Does c s (UnitGoes s n x (x.st.pc + 1) (PredTakes x (f x)))

/-- The vector instructions that move a unit (Table 3, R116, R123, R124): the branches; END and the end of the part with the
last unit; SYNC, which lets every unit go on and makes the exchange visible; TRAP; XST and XLD; VSEL and VCMUL. -/
def Obligations.VectorControlAndExchange : Prop :=
  ∀ s : State,
    (∀ (n : Parcel) (u : Fin 8) (x : Issue), s.issue n u 0x00 = some x → Does (.vuNop n u) s fun t =>
      UnitGoes s n x (x.st.pc + 1) (fun st => st = { x.st with pc := st.pc }) t) ∧
    (∀ (n : Parcel) (u : Fin 8) (x : Issue), s.issue n u 0x02 = some x → Does (.vuBr n u) s fun t =>
      UnitGoes s n x x.i.imm (fun st => st = { x.st with pc := st.pc }) t) ∧
    (∀ (n : Parcel) (u : Fin 8) (x : Issue), s.issue n u 0x03 = some x → Does (.vuBnz n u) s fun t =>
      UnitGoes s n x (if x.sa = 0 then x.st.pc + 1 else x.i.imm) (fun st => st = { x.st with pc := st.pc }) t) ∧
    (∀ (n : Parcel) (u : Fin 8) (x : Issue), s.issue n u 0x04 = some x → Does (.vuBlt n u) s fun t =>
      UnitGoes s n x (if toSigned 32 x.sa < toSigned 32 x.sb then x.i.imm else x.st.pc + 1) (fun st => st =
      { x.st with pc := st.pc }) t) ∧
    (∀ (n : Parcel) (u : Fin 8) (x : Issue), s.issue n u 0x05 = some x → Does (.vuLoop n u) s fun t =>
      UnitGoes s n x (if (x.sa + (2 ^ 32 - 1)) % 2 ^ 32 = 0 then x.st.pc + 1 else x.i.imm) (fun st =>
      ScalarTakes { x with i := { x.i with d := x.i.a } } (x.sa + (2 ^ 32 - 1)) st) t) ∧
    -- END: while another unit runs this one stops; with the last unit the part ends
    (∀ (n : Parcel) (u : Fin 8) (x : Issue), s.issue n u 0x01 = some x → (∃ e ∈ x.run.units, e.1 ≠ x.unit ∧
      e.2.halted = false ∧ e.2.atSync = false) → Does (.vuEnd n u) s fun t => t =
      s.setVu n { s.vu n with run := some { x.run with units := amSet x.run.units x.unit { x.st with halted := true, pc := x.st.pc + 1 } } }) ∧
    (∀ (n : Parcel) (u : Fin 8) (x : Issue), s.issue n u 0x01 = some x →
      (∀ e ∈ amSet x.run.units x.unit { x.st with halted := true, pc := x.st.pc + 1 }, e.2.halted = true) →
      Does (.vuEnd n u) s fun t => t =
      { s with vus := amSet s.vus n { s.vu n with run := none }, seq := (s.endPart n x.run.id Status.OK).seq }) ∧
    -- SYNC: the unit waits; with the last unit all go on, and what XST wrote becomes visible
    (∀ (n : Parcel) (u : Fin 8) (x : Issue), s.issue n u 0x06 = some x → (∃ e ∈ x.run.units, e.1 ≠ x.unit ∧
      e.2.halted = false ∧ e.2.atSync = false) → Does (.vuSync n u) s fun t => t =
      s.setVu n { s.vu n with run := some { x.run with units := amSet x.run.units x.unit { x.st with atSync := true, pc := x.st.pc + 1 } } }) ∧
    (∀ (n : Parcel) (u : Fin 8) (x : Issue), s.issue n u 0x06 = some x →
      (∀ e ∈ amSet x.run.units x.unit { x.st with atSync := true, pc := x.st.pc + 1 }, e.2.halted = true ∨
      e.2.atSync = true) → Does (.vuSync n u) s fun t => t =
      s.setVu n { s.vu n with run := some { x.run with units := amMap (fun _ y => { y with atSync := false }) (amSet x.run.units x.unit { x.st with pc := x.st.pc + 1 }) }, xr := (s.vu n).xw }) ∧
    -- TRAP: the invocation ends with BAD_DESCRIPTOR, and VU_ERR_CODE is IMM
    (∀ (n : Parcel) (u : Fin 8) (x : Issue), s.issue n u 0x07 = some x → Does (.vuTrap n u) s fun t => (t.vu n).run =
      none ∧ t.seq = seqAfter s n { x.d with id := x.d.id } Status.BAD_DESCRIPTOR ∧ (s.fld (F.VU_ERR_INFO_VALID n) =
      0 → t.fld (F.VU_ERR_INFO_KIND n) = 5 ∧ t.fld (F.VU_ERR_INFO_UNIT n) = u ∧ t.rd (Reg.VU_ERR_CODE n) =
      BitVec.ofNat 32 x.i.imm)) ∧
    (∀ (n : Parcel) (u : Fin 8) (x : Issue), s.issue n u 0x64 = some x → Does (.xst n u) s fun t => (t.vu n).xr =
      (s.vu n).xr ∧ (∀ l < 64, (storeRead (fun _ =>
      0#32) (t.vu n).xw ((x.run.phys.getD u 0 * 8 + x.i.imm % 8) * 64 + l)).toNat = x.st.lane x.i.d l) ∧
      (unitAt t n u) = { x.st with pc := x.st.pc + 1 } ∧ t = { s with vus := t.vus }) ∧
    (∀ (n : Parcel) (u : Fin 8) (x : Issue), s.issue n u 0x65 = some x → x.sa < x.run.phys.length →
      Does (.xld n u) s fun t => UnitGoes s n x (x.st.pc + 1) (fun st => LanesTake x (fun l => (storeRead (fun _ =>
      0#32) (s.vu n).xr ((x.run.phys.getD x.sa 0 * 8 + x.i.imm % 8) * 64 + l)).toNat) st) t) ∧
    (∀ (n : Parcel) (u : Fin 8) (x : Issue), s.issue n u 0x57 = some x → Does (.vsel n u) s fun t =>
      UnitGoes s n x (x.st.pc + 1) (fun st => LanesTake { x with i := { x.i with pred := 0 } } (fun l =>
      if x.st.isOn x.i l then x.va l else x.vb l) st) t) ∧
    (∀ (n : Parcel) (u : Fin 8) (x : Issue), s.issue n u 0x3D = some x → Does (.vcmul n u) s fun t =>
      UnitGoes s n x (x.st.pc + 1) (fun st => PairTakes x (fun l =>
      toF32 (((ofF32 (x.va l)).mul (ofF32 (x.vb l))).add ((ofF32 (x.st.lane (x.i.a + 1) l)).mul (ofF32 (x.st.lane (x.i.b + 1) l))).negate)) (fun l =>
      toF32 (((ofF32 (x.va l)).mul (ofF32 (x.st.lane (x.i.b + 1) l))).add ((ofF32 (x.st.lane (x.i.a + 1) l)).mul (ofF32 (x.vb l))))) st) t)

/-- The vector memory instructions (R54, R114, R115): what a load puts into its lanes, and what a store leaves in every byte
of the hold, where the access is aligned, in its windows and its function's, and no word of it is poisoned. -/
def Obligations.VectorMemoryAccesses : Prop :=
  ∀ s : State,
    (∀ (n : Parcel) (u : Fin 8) (x : Issue), s.issue n u 0x1A = some x → AccessClear s n x false 4 ([(x.addr, 4)]) →
      Does (.sld n u []) s fun t => UnitGoes s n x (x.st.pc + 1) (fun st => ScalarTakes x (s.leHold x.addr 4) st) t) ∧
    (∀ (n : Parcel) (u : Fin 8) (x : Issue), s.issue n u 0x20 = some x →
      AccessClear s n x false 16 (lanePieces x x.addr 4) → Does (.vldF32 n u []) s fun t =>
      UnitGoes s n x (x.st.pc + 1) (fun st => LanesTake x (fun l => s.leHold (x.addr + 4 * l) 4) st) t) ∧
    (∀ (n : Parcel) (u : Fin 8) (x : Issue), s.issue n u 0x21 = some x →
      AccessClear s n x false 16 (lanePieces x x.addr 2) → Does (.vldBf16 n u []) s fun t =>
      UnitGoes s n x (x.st.pc + 1) (fun st => LanesTake x (fun l =>
      toF32 (ofBf16 (s.leHold (x.addr + 2 * l) 2))) st) t) ∧
    (∀ (n : Parcel) (u : Fin 8) (x : Issue), s.issue n u 0x22 = some x →
      AccessClear s n x false 16 (lanePieces x x.addr 4) → Does (.vldBf16x2 n u []) s fun t =>
      UnitGoes s n x (x.st.pc + 1) (fun st => PairTakes x (fun l =>
      toF32 (ofBf16 (s.leHold (x.addr + 4 * l) 2))) (fun l => toF32 (ofBf16 (s.leHold (x.addr + 4 * l + 2) 2))) st) t) ∧
    (∀ (n : Parcel) (u : Fin 8) (x : Issue), s.issue n u 0x23 = some x →
      AccessClear s n x false 4 (if (List.range 64).any (x.st.isOn x.i) then [(x.addr, 4)] else []) →
      Does (.vldBcast n u []) s fun t => UnitGoes s n x (x.st.pc + 1) (fun st => LanesTake x (fun _ =>
      s.leHold x.addr 4) st) t) ∧
    (∀ (n : Parcel) (u : Fin 8) (x : Issue), s.issue n u 0x24 = some x →
      (AccessClear s n x true 16 ((storeLanes x 4 fun l => x.st.lane x.i.d l).map fun r => (r.1, r.2.length))) →
      Does (.vstF32 n u) s fun t => UnitGoes { s with hold := t.hold } n x (x.st.pc + 1) (fun st => st =
      { x.st with pc := st.pc }) t ∧ (∀ l < 64, x.st.isOn x.i l = true → memRead t.hold (x.addr + 4 * l) 4 =
      leBytes 4 (x.st.lane x.i.d l)) ∧ ∀ a, (∀ l < 64, x.st.isOn x.i l = true → a < x.addr + 4 * l ∨
      x.addr + 4 * l + 4 ≤ a) → storeRead zeroByte t.hold a = storeRead zeroByte s.hold a) ∧
    (∀ (n : Parcel) (u : Fin 8) (x : Issue), s.issue n u 0x25 = some x →
      (AccessClear s n x true 16 ((storeLanes x 2 fun l => toBf16 (ofF32 (x.st.lane x.i.d l))).map fun r => (r.1,
      r.2.length))) → Does (.vstBf16 n u) s fun t => UnitGoes { s with hold := t.hold } n x (x.st.pc + 1) (fun st =>
      st = { x.st with pc := st.pc }) t ∧ (∀ l < 64, x.st.isOn x.i l = true → memRead t.hold (x.addr + 2 * l) 2 =
      leBytes 2 (toBf16 (ofF32 (x.st.lane x.i.d l)))) ∧ ∀ a, (∀ l < 64, x.st.isOn x.i l = true → a < x.addr + 2 * l ∨
      x.addr + 2 * l + 2 ≤ a) → storeRead zeroByte t.hold a = storeRead zeroByte s.hold a) ∧
    (∀ (n : Parcel) (u : Fin 8) (x : Issue), s.issue n u 0x26 = some x →
      (AccessClear s n x true 16 ((storeLanes x 4 fun l =>
      toBf16 (ofF32 (x.st.lane x.i.d l)) + 65536 * toBf16 (ofF32 (x.st.lane (x.i.d + 1) l))).map fun r => (r.1,
      r.2.length))) → Does (.vstBf16x2 n u) s fun t => UnitGoes { s with hold := t.hold } n x (x.st.pc + 1) (fun st =>
      st = { x.st with pc := st.pc }) t ∧ (∀ l < 64, x.st.isOn x.i l = true → memRead t.hold (x.addr + 4 * l) 4 =
      leBytes 4 (toBf16 (ofF32 (x.st.lane x.i.d l)) + 65536 * toBf16 (ofF32 (x.st.lane (x.i.d + 1) l)))) ∧ ∀ a,
      (∀ l < 64, x.st.isOn x.i l = true → a < x.addr + 4 * l ∨ x.addr + 4 * l + 4 ≤ a) → storeRead zeroByte t.hold a =
      storeRead zeroByte s.hold a) ∧
    -- VST.E4M3: the elements at S[a] + IMM, and the scale of each block with a lane that is on at S[b]
    (∀ (n : Parcel) (u : Fin 8) (x : Issue), s.issue n u 0x27 = some x →
      (AccessClear s n x true 16 ((e4m3Rows x).map fun r => (r.1, r.2.length))) → 64 ≤ x.sb - x.addr → x.addr ≤ x.sb →
      x.sb < 2 ^ 32 - 1 → Does (.vstE4m3 n u) s fun t =>
      UnitGoes { s with hold := t.hold } n x (x.st.pc + 1) (fun st => st = { x.st with pc := st.pc }) t ∧ ∀ h < 2,
      let block := (List.range 32).map fun j =>
      if x.st.isOn x.i (32 * h + j) then x.st.lane x.i.d (32 * h + j) else 0; (∀ j < 32, x.st.isOn x.i (32 * h + j) =
      true → memRead t.hold (x.addr + 32 * h + j) 1 = leBytes 1 ((toMx 2 block).2.getD j 0) ∧
      memRead t.hold (x.sb + h) 1 = leBytes 1 (toMx 2 block).1) ∧ (∀ j < 32, x.st.isOn x.i (32 * h + j) = false →
      memRead t.hold (x.addr + 32 * h + j) 1 = memRead s.hold (x.addr + 32 * h + j) 1))

/-- The matrix operators (R86-R99, R106), where the part runs and its regions are its function's and clean: the rows of the
result are written, the part ends OK, the activity counters of a GEMM or CGEMM rise by its work, and nothing else changes.
The elements are those of productOf (R91), gemv_row (R97) and norm_row (R99). -/
def Obligations.MatrixOperatorsWriteTheirResult : Prop :=
  ∀ s : State, RegsOk s →
    (∀ (n : Parcel) (d : Desc) (g : GemmOp) (rows : List (Nat × List Byte)), (s.runningPart n (fun d =>
      d.opcode == 0x10) = some d) → s.tilesInService n ≠ 0 → g = gemmOp d n → rows =
      s.cRows g { a := s.aElem g, b := s.bElem g } → Clear s d g.reads g.dest rows → Does (.gemm n []) s fun t =>
      Becomes { s with hold := writeRows s.hold rows, seq := seqAfter s n d Status.OK } [Reg.MT_BLOCKS_LO n, Reg.MT_BLOCKS_HI n, Reg.MT_ROWBLK_LO n, Reg.MT_ROWBLK_HI n] t ∧
      t.rd64 (Reg.MT_BLOCKS_LO n) = (s.rd64 (Reg.MT_BLOCKS_LO n) + ceilDiv g.m 64 * g.nb * g.kb) % 2 ^ 64 ∧
      t.rd64 (Reg.MT_ROWBLK_LO n) = (s.rd64 (Reg.MT_ROWBLK_LO n) + g.m * g.nb * g.kb * cprOf g.fb) % 2 ^ 64) ∧
    (∀ (n : Parcel) (d : Desc) (g : GemmOp) (rows : List (Nat × List Byte)), (s.runningPart n (fun d =>
      d.opcode == 0x11) = some d) → s.tilesInService n ≠ 0 → g = gemmOp d n → ((s.allGroups n d g).all (fun e =>
      match e.2 with | .ok out _ => out.length == 4096 | _ => false) = true) → (rows =
      s.cRows g { a := s.aElem g, b := codedElem g ((s.allGroups n d g).map fun e => match e.2 with | .ok out sc => (out, sc) | _ => ([], [])) }) →
      Clear s d (rowsAt g.a g.astr g.m g.aRow ++ g.rowRegion ++ (if g.accum then rowsAt g.c g.cstr g.m g.cRow else [])) g.dest rows →
      s.mayRead (s.who d) g.aux (8 * g.nb * g.kb) = true → Does (.cgemm n []) s fun t =>
      Becomes { s with hold := writeRows s.hold rows, seq := seqAfter s n d Status.OK } [Reg.MT_BLOCKS_LO n, Reg.MT_BLOCKS_HI n, Reg.MT_ROWBLK_LO n, Reg.MT_ROWBLK_HI n, Reg.WDC_ELEMS_LO n, Reg.WDC_ELEMS_HI n] t ∧
      t.rd64 (Reg.WDC_ELEMS_LO n) =
      (s.rd64 (Reg.WDC_ELEMS_LO n) + ceilDiv g.m 64 * 4096 * (2 * g.nb * g.kb)) % 2 ^ 64) ∧
    (∀ (n : Parcel) (d : Desc) (g : GemvOp), (s.runningPart n (fun d => d.opcode == 0x12) = some d) → g = gemvOp d n →
      Clear s d (g.xReg :: rowsAt g.w g.wstr g.n (rowBytes g.fw g.k) ++ (if g.accum then [g.yReg] else [])) [g.yReg] [(g.y, storeRow g.fy ((List.range g.n).map (s.gemvRow g)))] →
      Does (.gemv n []) s fun t => t =
      { s with hold := memWrite s.hold g.y (storeRow g.fy ((List.range g.n).map (s.gemvRow g))), seq := seqAfter s n d Status.OK }) ∧
    (∀ (n : Parcel) (d : Desc) (g : NormOp) (rows : List (Nat × List Byte)), (s.runningPart n (fun d =>
      d.opcode == 0x18 && d.bits 48 1 0 == 0) = some d) → g = normOp d n → (rows = ((List.range g.m).map fun m =>
      (g.y + 16 * m * g.ystr, storeRow g.fy (s.normRow g m)))) →
      Clear s d (rowsAt g.x g.xstr g.m (rowBytes g.fx g.d) ++ g.gRegions) g.yRows rows →
      Does (.rmsApply n []) s fun t => t = { s with hold := writeRows s.hold rows, seq := seqAfter s n d Status.OK }) ∧
    (∀ (n : Parcel) (d : Desc) (g : NormOp) (rows : List (Nat × List Byte)), (s.runningPart n (fun d =>
      d.opcode == 0x18 && d.bits 48 1 0 == 1) = some d) → g = normOp d n → (rows =
      ([(g.y, ((List.range g.m).map fun m => leBytes 4 (s.normScale g m).1).flatten)])) →
      Clear s d (rowsAt g.x g.xstr g.m (rowBytes g.fx g.d) ++ g.gRegions) g.yRows rows →
      Does (.rmsScale n []) s fun t => t = { s with hold := writeRows s.hold rows, seq := seqAfter s n d Status.OK }) ∧
    (∀ (n : Parcel) (d : Desc) (g : NormOp) (rows : List (Nat × List Byte)), (s.runningPart n (fun d =>
      d.opcode == 0x18 && d.bits 48 1 0 == 2) = some d) → g = normOp d n → (rows = ((List.range g.m).map fun m =>
      (g.y + 16 * m * g.ystr, storeRow g.fy (s.normRow g m)))) →
      Clear s d (rowsAt g.x g.xstr g.m (rowBytes g.fx g.d) ++ g.gRegions) g.yRows rows →
      Does (.layerApply n []) s fun t => t =
      { s with hold := writeRows s.hold rows, seq := seqAfter s n d Status.OK }) ∧
    -- the first parity error of a panel withdraws the tile, and the panel is dealt again
    (∀ (n : Parcel) (d : Desc) (tile : Fin 48) (panel k : Nat), (s.runningPart n (fun d =>
      d.opcode == 0x10 || d.opcode == 0x11) = some d) → bitAt (s.goodTiles n) tile = true →
      bitAt (s.withdrawnTiles n) tile = false → k = (d.id * 16 + n.val) * 2 ^ 32 + panel → amGet s.seq.redealt k =
      none → Does (.tileParityError n tile panel) s fun t => ∃ u v : State,
      Becomes s [Reg.MT_TILE_WITHDRAWN_LO n, Reg.MT_TILE_WITHDRAWN_HI n, Reg.MT_STATUS n, Reg.MT_ERR_INFO n] u ∧
      bitAt (u.withdrawnTiles n) tile = true ∧ u.fld (F.MT_ERR_INFO_VALID n) = 1 ∧ (s.fld (F.MT_ERR_INFO_VALID n) =
      0 → u.fld (F.MT_ERR_INFO_TILE n) = tile) ∧ v = u.raise n tile 0 (some (s.attrOf d)) ∧
      (s.fuses.minTiles ≤ v.tilesInService n → v.tilesInService n ≠ 0 → t =
      { v with seq := { v.seq with redealt := amSet v.seq.redealt k tile } })) ∧
    (∀ (n : Parcel) (d : Desc) (tile : Fin 48) (panel : Nat), (s.runningPart n (fun d =>
      d.opcode == 0x10 || d.opcode == 0x11) = some d) → bitAt (s.withdrawnTiles n) tile = true →
      Does (.tileParityError n tile panel) s fun t => t = s)

/-- Slots and invocations of the vector units (R119, R120, R123-R125): a legal image takes its slot; an illegal one ends the
part BAD_DESCRIPTOR with its first offending word recorded; a freed slot is FREE; VRUN puts every unit in service at the
entry word; the cycle limit and a parity error end the invocation. -/
def Obligations.VectorSlotsAndInvocations : Prop :=
  ∀ s : State, RegsOk s →
    (∀ (n : Parcel) (d : Desc) (v : VloadOp), (s.runningPart n (fun d => d.opcode == 0x30 && !d.bit 24 3) = some d) →
      v = vloadOp d n → Clear s d [(v.src, 8 * v.words)] [] [] → (s.slotLoaded n v.slot = false ∨
      s.slotOwner n v.slot = s.ctxFn d.ctx) → (imageFault ((List.range v.words).map fun i =>
      leNat (memRead s.hold (v.src + 8 * i) 8)) = none) → Does (.vload n []) s fun t =>
      Becomes { s with seq := seqAfter s n d Status.OK, vus := amSet s.vus n { s.vu n with images := amSet (s.vu n).images v.slot ((List.range v.words).map fun i => leNat (memRead s.hold (v.src + 8 * i) 8)) } } [Reg.VU_SLOT n v.slot, Reg.VU_SLOT_WORDS n v.slot] t ∧
      t.fld (F.VU_SLOT_LOADED n v.slot) = 1 ∧ t.fld (F.VU_SLOT_TAG n v.slot) = v.tag ∧
      t.fld (F.VU_SLOT_OWNER_FN n v.slot) = s.ctxFn d.ctx ∧ t.fld (F.VU_SLOT_SHARED n v.slot) = b2n v.shared ∧
      t.rd (Reg.VU_SLOT_WORDS n v.slot) = BitVec.ofNat 32 v.words) ∧
    (∀ (n : Parcel) (d : Desc) (v : VloadOp) (i : Nat), (s.runningPart n (fun d => d.opcode == 0x30 && !d.bit 24 3) =
      some d) → v = vloadOp d n → Clear s d [(v.src, 8 * v.words)] [] [] → s.slotLoaded n v.slot = false →
      (imageFault ((List.range v.words).map fun i => leNat (memRead s.hold (v.src + 8 * i) 8)) = some i) →
      s.fld (F.VU_ERR_INFO_VALID n) = 0 → Does (.vload n []) s fun t =>
      Becomes { s with seq := seqAfter s n d Status.BAD_DESCRIPTOR } [Reg.VU_ERR_INFO n, Reg.VU_ERR_CODE n] t ∧
      t.fld (F.VU_ERR_INFO_VALID n) = 1 ∧ t.fld (F.VU_ERR_INFO_KIND n) = 1 ∧ t.fld (F.VU_ERR_INFO_WORD n) =
      i % 2 ^ 12 ∧ t.rd (Reg.VU_ERR_CODE n) = 0) ∧
    (∀ (n : Parcel) (d : Desc), (s.runningPart n (fun d => d.opcode == 0x30 && d.bit 24 3) = some d) →
      (s.slotLoaded n (vloadOp d n).slot = false ∨ s.slotOwner n (vloadOp d n).slot = s.ctxFn d.ctx) →
      Does (.vloadFree n) s fun t =>
      Becomes { s with seq := seqAfter s n d Status.OK, vus := amSet s.vus n { s.vu n with images := amDel (s.vu n).images (vloadOp d n).slot } } [Reg.VU_SLOT n (vloadOp d n).slot, Reg.VU_SLOT_WORDS n (vloadOp d n).slot] t ∧
      t.rd (Reg.VU_SLOT n (vloadOp d n).slot) = 0 ∧ t.rd (Reg.VU_SLOT_WORDS n (vloadOp d n).slot) = 0) ∧
    (∀ (path : Path) (n : Parcel) (v : Word) (slot : Fin 4), s.mayRwl path = true → v.toNat = 2 ^ slot.val →
      Does (.vuSlotFree path n v) s fun t =>
      Becomes { s with vus := amSet s.vus n { s.vu n with images := amDel (s.vu n).images slot } } [Reg.VU_SLOT n slot, Reg.VU_SLOT_WORDS n slot] t ∧
      t.rd (Reg.VU_SLOT n slot) = 0 ∧ t.rd (Reg.VU_SLOT_WORDS n slot) = 0) ∧
    (∀ (n : Parcel) (d : Desc) (v : VrunOp) (e : Nat), (s.runningPart n (fun d => d.opcode == 0x31) = some d) → v =
      vrunOp d n → (s.vu n).run = none → s.slotLoaded n v.slot = true → s.fld (F.VU_SLOT_TAG n v.slot) = v.tag →
      (s.slotOwner n v.slot = s.ctxFn d.ctx ∨ s.fld (F.VU_SLOT_SHARED n v.slot) = 1) → e =
      entryOf ((amGet (s.vu n).images v.slot).getD []) v.entry → e ≠ 0xFFFF → s.unitsInService n ≠ [] →
      Does (.vrun n) s fun t => t =
      { s with vus := amSet s.vus n { s.vu n with run := some { id := d.id, slot := v.slot, deadline := s.mclk + v.limit * 128, phys := s.unitsInService n, units := (List.range (s.unitsInService n).length).map fun i => (i, { pc := e }) } } }) ∧
    (∀ (n : Parcel) (r : VuRun) (d : Desc), (s.vu n).run = some r → s.desc r.id = some d →
      Does (.vrunCycleLimit n) s fun t => (t.vu n).run = none ∧ t.mclk = max s.mclk r.deadline ∧ t.seq =
      (s.endPart n r.id Status.ABORTED).seq ∧ t.hold = s.hold ∧ (s.fld (F.VU_ERR_INFO_VALID n) = 0 →
      t.fld (F.VU_ERR_INFO_KIND n) = 6)) ∧
    -- a corrected word of the instruction store is counted; an uncorrectable one frees the slot and ends the
    -- invocation
    (∀ (n : Parcel) (u : Fin 8), Does (.vuParityError n u 1) s fun t => Becomes s [Reg.VU_CE_COUNT n] t ∧
      t.fld (F.VU_CE_COUNT_COUNT n) = min (s.fld (F.VU_CE_COUNT_COUNT n) + 1) (2 ^ 32 - 1)) ∧
    (∀ (n : Parcel) (u : Fin 8) (r : VuRun) (d : Desc), (s.vu n).run = some r → s.desc r.id = some d → r.slot < 4 →
      Does (.vuParityError n u 2) s fun t => (t.vu n).run = none ∧ t.rd (Reg.VU_SLOT n r.slot) = 0 ∧ t.seq =
      (s.endPart n r.id Status.HOLD_UNCORRECTABLE).seq ∧ (∀ w ∈ wordsOf (vrunOp d n).wr.1 (vrunOp d n).wr.2,
      w ∈ t.holdPoison)) ∧
    (∀ (path : Path) (n : Parcel) (v : Word), s.mayRwl path = true → bitsOf v.toNat 0 0 = 1 →
      Does (.vuErrClr path n v) s fun t => Becomes s [Reg.VU_ERR_INFO n, Reg.VU_ERR_CODE n] t ∧
      t.rd (Reg.VU_ERR_INFO n) = 0 ∧ t.rd (Reg.VU_ERR_CODE n) = 0) ∧
    (∀ (path : Path) (n : Parcel) (v : Word), s.mayRwl path = true → bitsOf v.toNat 0 0 = 1 →
      Does (.mtErrClr path n v) s fun t => Becomes s [Reg.MT_ERR_INFO n] t ∧ t.rd (Reg.MT_ERR_INFO n) = 0)

/-- Transfers (R82, R83, R100-R103, R210, R286): COPY between two memories, to and from the host; COPY_ZERO; the end of an
FXFER whose packets are answered; a WRITE and a SIGNAL that arrive. -/
def Obligations.TransfersMoveTheirBytes : Prop :=
  ∀ s : State, RegsOk s →
    -- between two memories of the device
    (∀ (n : Parcel) (d : Desc) (c : CopyOp) (off len : Nat), (s.runningPart n (fun d =>
      d.opcode == 0x20 && !d.bit 44 3) = some d) → c = copyOp d n → (off, len) = c.slice d.repl n →
      s.copyGate (s.who d) c off len = .go → s.copyReading n d.id = false → c.sk ≤ 2 → c.dk ≤ 2 →
      s.firstBad c.sk (c.src + off) len = none → s.firstBad c.dk (c.dst + off) len = none →
      Does (.copy n [] [] false) s fun t => t =
      { s with hold := t.hold, tier := { s.tier with near := t.tier.near, far := t.tier.far }, seq := seqAfter s n d Status.OK } ∧
      t.tierRead c.dk (c.dst + off) len = s.tierRead c.sk (c.src + off) len ∧ ∀ k < 3, ∀ a, (k ≠ c.dk ∨
      a < c.dst + off ∨ c.dst + off + len ≤ a) → t.tierRead k a 1 = s.tierRead k a 1) ∧
    -- from the host: one read, whose data are awaited; to the host: one write
    (∀ (n : Parcel) (d : Desc) (c : CopyOp) (off len : Nat), (s.runningPart n (fun d =>
      d.opcode == 0x20 && !d.bit 44 3) = some d) → c = copyOp d n → (off, len) = c.slice d.repl n →
      s.copyGate (s.who d) c off len = .go → s.copyReading n d.id = false → c.sk = 3 → s.hostWaits (s.ctxFn d.ctx) =
      false → Does (.copy n [] [] false) s fun t => t.out =
      s.out ++ [.hostRead (s.ctxFn d.ctx) (c.src + off) len s.host.nextRead] ∧ (∃ r ∈ t.host.reads, r.id =
      s.host.nextRead ∧ r.why = .copy n d.id ∧ r.len = len) ∧ t.seq = s.seq) ∧
    (∀ (n : Parcel) (d : Desc) (c : CopyOp) (off len : Nat), (s.runningPart n (fun d =>
      d.opcode == 0x20 && !d.bit 44 3) = some d) → c = copyOp d n → (off, len) = c.slice d.repl n →
      s.copyGate (s.who d) c off len = .go → s.copyReading n d.id = false → c.sk ≤ 2 → c.dk = 3 →
      s.hostWaits (s.ctxFn d.ctx) = false → s.firstBad c.sk (c.src + off) len = none →
      Does (.copy n [] [] false) s fun t => t =
      { s with seq := seqAfter s n d Status.OK, out := s.out ++ [.hostWrite (s.ctxFn d.ctx) (c.dst + off) (s.tierRead c.sk (c.src + off) len)] }) ∧
    (∀ (n : Parcel) (d : Desc) (c : CopyOp) (off len : Nat), (s.runningPart n (fun d =>
      d.opcode == 0x20 && d.bit 44 3) = some d) → c = copyOp d n → (off, len) = c.slice d.repl n →
      s.copyGate (s.who d) c off len = .go → c.dk ≤ 2 → s.firstBad c.dk (c.dst + off) len = none →
      Does (.copyZero n) s fun t => t =
      { s with hold := t.hold, tier := { s.tier with near := t.tier.near, far := t.tier.far }, seq := seqAfter s n d Status.OK } ∧
      t.tierRead c.dk (c.dst + off) len = List.replicate len 0 ∧ ∀ k < 3, ∀ a, (k ≠ c.dk ∨ a < c.dst + off ∨
      c.dst + off + len ≤ a) → t.tierRead k a 1 = s.tierRead k a 1) ∧
    -- FXFER of one packet to a station of this device: the packet is on its way, with its request outstanding
    (∀ (n : Parcel) (id : Nat) (d : Desc) (f : FxOp) (p : Packet), (s.runningPart n (fun d =>
      d.opcode == 0x21 && d.id == id) = some d) → f = fxOp d n → amGet s.seq.fxStatus (fxKey id n) = none →
      s.mayRead (s.who d) f.src f.len = true → s.clearingIn f.src f.len = false → s.poisonedIn f.src f.len = false →
      1 ≤ f.len → f.len ≤ 2048 → p = { s.fxPacket n d f 0 with txn := BitVec.ofNat 16 s.seq.nextTxn } →
      s.route p.dst.toNat 0 false = .here → Does (.fxfer n id []) s fun t => t.inbox = s.inbox ++ [(none, p)] ∧
      t.seq.nextTxn = s.seq.nextTxn + 1 ∧ t.seq.reqs =
      s.seq.reqs ++ [{ txn := s.seq.nextTxn % 65536, parcel := n, desc := id, packet := p, deadline := s.rspDeadline }] ∧
      t.seq.descs = s.seq.descs ∧ t.hold = s.hold ∧ t.regs = s.regs) ∧
    -- its end, with the first failure answered
    (∀ (n : Parcel) (id : Nat) (d : Desc) (f : FxOp) (st : Nat), (s.runningPart n (fun d =>
      d.opcode == 0x21 && d.id == id) = some d) → f = fxOp d n → amGet s.seq.fxStatus (fxKey id n) = some st →
      amGet s.seq.fxNext (fxKey id n) = none → s.clearingIn f.src f.len = false → (∀ r ∈ s.seq.reqs, r.desc ≠ id ∨
      r.parcel ≠ n.val ∨ r.packet.ptype ≠ 1) → Does (.fxfer n id []) s fun t => t =
      { s with seq := { (s.endPart n id st).seq with fxStatus := amDel s.seq.fxStatus (fxKey id n) } }) ∧
    -- a WRITE for a bound context writes its payload and is answered OK
    (∀ (p : Packet) (n : Nat), s.arrivalStatus p = Status.OK → s.fld F.PWR_STATUS_STATE = 0 → n = pkParcel p →
      s.mayWrite (s.whoCtx p.dstCtx.toNat) p.addr.toNat p.payload.length = true →
      s.clearingIn p.addr.toNat p.payload.length = false → s.poisonedIn p.addr.toNat p.payload.length = false →
      inParcel n p.addr.toNat = true → Does (.writeReceive p) s fun t => t =
      (State.markSource { s with inbox := takeArrival s.inbox p, hold := memWrite s.hold p.addr.toNat p.payload } n p.src.toNat).sendAny (responseTo p Status.OK)) ∧
    -- a SIGNAL raises its mark, sets the ERROR bit where it says so, and is answered OK
    (∀ (p : Packet) (n k : Nat), s.arrivalStatus p = Status.OK → s.fld F.PWR_STATUS_STATE = 0 → n = pkParcel p →
      bitsOf p.addr.toNat 7 5 = 0 → bitsOf p.addr.toNat 31 17 = 0 → bitsOf p.addr.toNat 15 8 ≠ 0 →
      s.markSet n p.dstCtx.toNat = some k → Does (.signalReceive p) s fun t => t =
      (State.setMarkAt (State.markSource { s with inbox := takeArrival s.inbox p } n p.src.toNat) k (p.addr.toNat % 32) { count := (s.markAt k (p.addr.toNat % 32)).count + BitVec.ofNat 32 (bitsOf p.addr.toNat 15 8), error := (s.markAt k (p.addr.toNat % 32)).error || bitAt p.addr.toNat 16 }).sendAny (responseTo p Status.OK))

/-- The sequencers (R70-R73, R77-R85, R219, R317): admission of a class 0 descriptor; a lease denied after its timeout; the
start of a part; NOP, FENCE and MARK, which run as they start; and completion, whose record is queued once with the
outcome. -/
def Obligations.SequencerTakesDescriptors : Prop :=
  ∀ s : State, RegsOk s →
    (∀ (n : Parcel) (id : Nat) (d : Desc), s.desc id = some d → d.heldAtParcel n = true → s.safe = false →
      s.admits n = true → (∀ x ∈ s.earlier d, x.heldAtParcel n = false) → s.inFlight n < 256 →
      max d.energyClass (minClass d n) = 0 → Does (.descriptorAdmit n id) s fun t => t =
      { s with seq := { s.seq with nextSeq := s.seq.nextSeq + 1, descs := t.seq.descs } } ∧ t.seq.descs =
      s.seq.descs.map fun x => if x.id =
      id then { x with klass := 0, parts := x.parts.map fun p => if p.adm = n.val ∧ p.st = .held then { p with st := .admitted, seq := s.seq.nextSeq } else p } else x) ∧
    (∀ (n : Parcel) (id : Nat) (d : Desc) (since : Nat), s.desc id = some d → s.safe = false → d.opcode ≠ 0x61 →
      (((d.parts.find? fun p => p.adm == n.val && decide (p.st = .held) && p.heldAt.isSome).bind (·.heldAt)) =
      some since) → Does (.leaseDenyTimeout n id) s fun t => t.mclk =
      max s.mclk (since + max 1 (s.fld F.TOL_DENY_MS) * 250000) ∧ t.fld F.TOL_EVENT_LEASE_DENIED = 1 ∧
      t.fld F.TOL_DENIED_COUNT = min (s.fld F.TOL_DENIED_COUNT + 1) (2 ^ 32 - 1) ∧ t.seq.descs =
      s.seq.descs.map fun x => if x.id =
      id then { x with parts := x.parts.map fun p => if p.adm = n.val ∧ p.st = .held then { p with st := .ended Status.LEASE_DENIED } else p } else x) ∧
    (∀ (n : Parcel) (id : Nat) (d : Desc) (p : Part), Ready s n id d p → s.engineFree d p = true →
      s.defers n d false = false → d.opcode ≠ 0x40 → Does (.partStart n id false) s fun t => t =
      { s with seq := { s.seq with descs := t.seq.descs } } ∧ t.seq.descs = s.seq.descs.map fun x =>
      { x with parts := x.parts.map fun q => if x.id = id ∧ q.parcel = n.val then { q with st := .running } else q }) ∧
    (∀ (n : Parcel) (id : Nat) (d : Desc) (p : Part), Ready s n id d p → d.opcode = 0 → Does (.nop n id) s fun t =>
      t = { s with seq := seqAfter s n d Status.OK }) ∧
    (∀ (n : Parcel) (id : Nat) (d : Desc) (p : Part), Ready s n id d p → d.opcode = 2 → Does (.fence n id) s fun t =>
      t = { s with seq := seqAfter s n d Status.OK }) ∧
    (∀ (n : Parcel) (id : Nat) (d : Desc) (p : Part) (k : Nat), Ready s n id d p → d.opcode = 1 → d.bits 24 1 0 = 0 →
      s.markSet n d.ctx = some k → Does (.markAdd n id) s fun t => t =
      { s with seq := { s.seq with marks := amSet s.seq.marks (k * 32 + d.bits 25 4 0) { count := (s.markAt k (d.bits 25 4 0)).count + BitVec.ofNat 32 (d.at 28 4), error := (s.markAt k (d.bits 25 4 0)).error }, descs := (seqAfter s n d Status.OK).descs } }) ∧
    (∀ (n : Parcel) (id : Nat) (d : Desc) (p : Part) (k : Nat), Ready s n id d p → d.opcode = 1 → d.bits 24 1 0 = 1 →
      s.markSet n d.ctx = some k → Does (.markSet n id) s fun t => t =
      { s with seq := { s.seq with marks := amSet s.seq.marks (k * 32 + d.bits 25 4 0) { count := BitVec.ofNat 32 (d.at 28 4), error := (s.markAt k (d.bits 25 4 0)).error }, descs := (seqAfter s n d Status.OK).descs } }) ∧
    (∀ (n : Parcel) (id : Nat) (d : Desc) (p : Part) (k : Nat), Ready s n id d p → d.opcode = 1 → d.bits 24 1 0 = 2 →
      s.markSet n d.ctx = some k → Does (.markClearError n id) s fun t => t =
      { s with seq := { s.seq with marks := amSet s.seq.marks (k * 32 + d.bits 25 4 0) { count := (s.markAt k (d.bits 25 4 0)).count, error := false }, descs := (seqAfter s n d Status.OK).descs } }) ∧
    (∀ (id pj occ : Nat) (d : Desc) (st bm : Nat), s.desc id = some d → d.parts ≠ [] → d.parts.all (·.isOver) = true →
      NoReduce s → d.sigEn = false → s.gwBind (bindKey d.firstParcel d.ctx) = none → d.outcome = (st, bm) →
      st ≠ Status.SPECULATION_DISCARDED → Does (.descriptorComplete id pj occ false) s fun t => t =
      State.queueRecord { s with seq := { s.seq with descs := s.seq.descs.filter fun x => x.id ≠ d.id } } d st bm (s.energyOf pj occ))

/-- A record that is queued, with Bus Master Enable set, is one host write at the next entry of the completion ring with its
phase, takes the reservation back and advances the record position (R216, R219, R220), with a message when IRQ_CO_N records
are due; the deferred message goes out at its deadline, and an unmasked vector with a pending bit is sent (R221). -/
def Obligations.RecordsReachTheirRing : Prop :=
  (∀ (s : State) (d : Desc) (st bm energy : Nat), (st ≠ Status.OK ∨ d.cmplAlways = true) → (s.fn (s.ctxFn d.ctx)).enabled = true →
    (s.fn (s.ctxFn d.ctx)).bme = true → s.fldB (entryBank d.ctx) F.HIF_CTX_IRQ_CO_N = 0 →
    let x := s.ctx d.ctx
    let size := s.cringSize d.ctx
    let b := recordBytes st (s.ctxFn d.ctx) d.ctx d.index bm energy s.fabTime (d.bit 1 2)
    let u : State := { s with out := s.out ++ [.hostWrite (s.ctxFn d.ctx)
      (s.ctxAddr d.ctx Reg.HIF_CTX_CRING_LO + 32 * (x.recPos % size)) (withPhase b (x.recPos / size))] }
    let y : Ctx := { x with
      recPos := (x.recPos + 1) % (16 * size), reserved := x.reserved - 1, sinceMsg := x.sinceMsg + 1 }
    let k := s.fldB (entryBank d.ctx) F.HIF_CTX_IRQ_CO_N
    let t := s.queueRecord d st bm energy
    b.length = 32 ∧ (k = 0 → t = u.setCtx d.ctx y) ∧
    (k ≠ 0 → k ≤ y.sinceMsg → t = (u.setCtx d.ctx { y with sinceMsg := 0, msgDeadline := none }).msix (s.ctxFn d.ctx)
      (s.fldB (entryBank d.ctx) F.HIF_CTX_IRQ_VEC))) ∧
  (∀ (s : State) (c : Fin 4096) (d v : Nat), (s.ctx c).msgDeadline = some d → (s.fn (s.ctxFn c)).enabled = true →
    (s.fn (s.ctxFn c)).bme = true → v = s.fldB (entryBank c) F.HIF_CTX_IRQ_VEC → s.vecMasked (s.ctxFn c) v = false →
    Does (.irqCoalesceTimer c) s fun t => t.out = s.out ++ [.msix (s.ctxFn c) v] ∧ t.mclk = max s.mclk d ∧
      t.ctx c = { s.ctx c with sinceMsg := 0, msgDeadline := none }) ∧
  (∀ (s : State) (fn : Fin 1024) (vec : Fin 2048), RegsOk s → Does (.msixUnmask fn vec) s fun t => t.vecMasked fn vec = false ∧
    (fn.val * 2048 + vec.val ∈ s.host.msixPending → (s.fn fn).enabled = true → (s.fn fn).bme = true →
      t.out = s.out ++ [.msix fn vec]) ∧
    (fn.val * 2048 + vec.val ∉ s.host.msixPending → t.out = s.out))

/-- The context commands (R212, R214): CREATE and START check the configuration and bind a mark set at every parcel of the
mask, STOP and ABORT begin to drain, a drained context stops, REWIND sets every position to 0, DESTROY frees; a
configuration register is written while the context is FREE or STOPPED, and a write at any other time is dropped with an
event. -/
def Obligations.ContextCommandsMoveTheirContext : Prop :=
  ∀ s : State, RegsOk s →
    (∀ (path : Path) (c : Nat) (u : State), s.mayRwl path = true → c = s.ctxSel path → (s.ctx c).st = .free →
      s.ctxFieldsOk c = true → s.slotTaken c = false → s.rebind c = some u → Does (.ctxCreate path) s fun t =>
      Becomes { s with seq := u.seq, host := { s.host with ctxs := amSet s.host.ctxs c { st := .stopped } } } [regKey (pathNo path) Reg.HIF_CTX_RESULT] t ∧
      t.fldB (pathNo path) F.HIF_CTX_RESULT_CODE = 0 ∧ ∀ n ∈ setBits (s.ctxMask c) 12, (t.markSet n c).isSome) ∧
    (∀ (path : Path) (c : Nat) (u : State), s.mayRwl path = true → c = s.ctxSel path → (s.ctx c).st = .stopped →
      s.ctxFieldsOk c = true → s.slotTaken c = false → s.rebind c = some u → Does (.ctxStart path) s fun t =>
      Becomes { s with seq := u.seq, host := { s.host with ctxs := amSet s.host.ctxs c { s.ctx c with st := .running } } } [regKey (pathNo path) Reg.HIF_CTX_RESULT] t ∧
      t.fldB (pathNo path) F.HIF_CTX_RESULT_CODE = 0 ∧ ∀ n ∈ setBits (s.ctxMask c) 12, (t.markSet n c).isSome) ∧
    (∀ (path : Path) (c : Nat), s.mayRwl path = true → c = s.ctxSel path → (s.ctx c).st = .running →
      Does (.ctxStop path) s fun t =>
      Becomes { s with host := { s.host with ctxs := amSet s.host.ctxs c { s.ctx c with st := .stopping } } } [regKey (pathNo path) Reg.HIF_CTX_RESULT] t ∧
      t.fldB (pathNo path) F.HIF_CTX_RESULT_CODE = 0) ∧
    (∀ (path : Path) (c : Nat), s.mayRwl path = true → c = s.ctxSel path → (s.ctx c).st ≠ .free → NoReduce s →
      (∀ d ∈ s.seq.descs, d.opcode ≠ 0x21) → Does (.ctxAbort path) s fun t => t.ctx c =
      { s.ctx c with st := .stopping } ∧ t.fldB (pathNo path) F.HIF_CTX_RESULT_CODE = 0 ∧ t.hold = s.hold ∧
      (∀ d ∈ t.seq.descs, d.ctx = c → ∀ p ∈ d.parts, p.isOver = true) ∧ ∀ d ∈ s.seq.descs, d.ctx ≠ c →
      (∀ e ∈ s.seq.descs, e.ctx = c → e.id ≠ d.id) → d ∈ t.seq.descs) ∧
    (∀ (c : Fin 4096), (s.ctx c).st = .stopping → (s.ctx c).fetching = none → (∀ d ∈ s.seq.descs, d.ctx ≠ c.val) →
      Does (.stoppingDrained c) s fun t => t =
      { s with host := { s.host with ctxs := amSet s.host.ctxs c { s.ctx c with st := .stopped } } }) ∧
    (∀ (path : Path) (c : Nat), s.mayRwl path = true → c = s.ctxSel path → (s.ctx c).st = .stopped → s.isJoined c =
      false → Does (.ctxDestroy path) s fun t => t.ctx c = {} ∧ t.fldB (pathNo path) F.HIF_CTX_RESULT_CODE = 0 ∧
      t.hold = s.hold ∧ t.out = s.out ∧ ∀ k, k ≠ c → t.ctx k = s.ctx k) ∧
    (∀ (path : Path) (c : Nat), s.mayRwl path = true → c = s.ctxSel path → (s.ctx c).st = .stopped →
      Does (.ctxRewind path) s fun t =>
      Becomes { s with host := { s.host with ctxs := amSet s.host.ctxs c { s.ctx c with fetch := 0, db := 0, recPos := 0, head := 0, heldRec := none } } } [regKey (pathNo path) Reg.HIF_CTX_RESULT] t ∧
      t.fldB (pathNo path) F.HIF_CTX_RESULT_CODE = 0) ∧
    (∀ (path : Path) (c : Nat) (v : Word), s.mayRwl path = true → c = s.ctxSel path → ((s.ctx c).st = .free ∨
      (s.ctx c).st = .stopped) → Does (.contextConfigWrite path Reg.HIF_CTX_IRQ_US v) s fun t =>
      Becomes s [regKey (entryBank c) Reg.HIF_CTX_IRQ_US] t ∧ t.fldB (entryBank c) F.HIF_CTX_IRQ_US_CO_US =
      v.toNat % 2 ^ 10) ∧
    (∀ (path : Path) (c : Nat) (v : Word), s.mayRwl path = true → c = s.ctxSel path → ((s.ctx c).st = .running ∨
      (s.ctx c).st = .stopping) → Does (.contextConfigWrite path Reg.HIF_CTX_IRQ_US v) s fun t =>
      Becomes s [Reg.HIF_EVENT] t ∧ t.fld F.HIF_EVENT_CTX_WRITE_DROPPED = 1)

/-- The host interface (R206-R210, R215-R218, R222-R224): a new doorbell position is taken, a stale one counted; a head is
taken; a fetch is issued and its descriptors accepted; an FLR, Bus Master Enable and VF Enable change the functions; the
aperture, an ATS invalidation, the link and the error record. -/
def Obligations.HostWordsFetchesAndFunctions : Prop :=
  ∀ s : State, RegsOk s →
    (∀ (fn : Fin 1024) (slot : Fin 128) (w : Word) (c : Nat) (size p : Nat), (s.fn fn).enabled = true →
      s.ctxOfSlot fn slot = some c → w.toNat < 2 ^ 20 → size = s.dringSize c → w.toNat % 65536 < size → p =
      w.toNat / 65536 * size + w.toNat % 65536 → 0 < (p + 16 * size - (s.ctx c).db % (16 * size)) % (16 * size) →
      (p + 16 * size - (s.ctx c).db % (16 * size)) % (16 * size) < 8 * size →
      (p + 16 * size - (s.ctx c).fetch % (16 * size)) % (16 * size) ≤ size → s.fld F.PWR_STATUS_STATE = 0 →
      s.entryHolds 4 (s.ctxHome c) = false → Does (.doorbell fn slot w true) s fun t => t =
      { s with host := { s.host with ctxs := amSet s.host.ctxs c { s.ctx c with db := p } } }) ∧
    (∀ (fn : Fin 1024) (slot : Fin 128) (w : Word) (c : Nat) (size p : Nat), (s.fn fn).enabled = true →
      s.ctxOfSlot fn slot = some c → w.toNat < 2 ^ 20 → size = s.dringSize c → w.toNat % 65536 < size → p =
      w.toNat / 65536 * size + w.toNat % 65536 →
      8 * size ≤ (p + 16 * size - (s.ctx c).db % (16 * size)) % (16 * size) →
      Does (.doorbell fn slot w true) s fun t => Becomes s [Reg.HIF_DB_STALE] t ∧ t.fld F.HIF_DB_STALE_COUNT =
      min (s.fld F.HIF_DB_STALE_COUNT + 1) (2 ^ 32 - 1)) ∧
    (∀ (fn : Fin 1024) (slot : Fin 128) (w : Word) (c : Nat) (size p : Nat), (s.fn fn).enabled = true →
      s.ctxOfSlot fn slot = some c → w.toNat < 2 ^ 20 → size = s.cringSize c → w.toNat % 65536 < size → p =
      w.toNat / 65536 * size + w.toNat % 65536 → 0 < (p + 16 * size - (s.ctx c).head % (16 * size)) % (16 * size) →
      (p + 16 * size - (s.ctx c).head % (16 * size)) % (16 * size) < 8 * size →
      (p + 16 * size - (s.ctx c).head % (16 * size)) % (16 * size) ≤ ((s.ctx c).recPos + 16 * size - (s.ctx c).head % (16 * size)) % (16 * size) →
      (s.ctx c).heldRec = none → Does (.completionHead fn slot w true) s fun t => t =
      { s with host := { s.host with ctxs := amSet s.host.ctxs c { s.ctx c with head := p } } }) ∧
    (∀ (c : Fin 4096) (k : Nat), (s.ctx c).st = .running → (s.ctx c).fetching = none → k = s.fetchCount c → k ≠ 0 →
      s.safe = false → (s.fn (s.ctxFn c)).enabled = true → s.fetches (s.ctxHome c) = true → s.hostWaits (s.ctxFn c) =
      false → Does (.descriptorFetch c false) s fun t => t.ctx c =
      { s.ctx c with fetching := some s.host.nextRead, reserved := (s.ctx c).reserved + k } ∧ t.out =
      s.out ++ [.hostRead (s.ctxFn c) (s.ctxAddr c Reg.HIF_CTX_DRING_LO + 64 * ((s.ctx c).fetch % s.dringSize c)) (64 * k) s.host.nextRead] ∧
      t.regs = s.regs ∧ t.seq = s.seq) ∧
    (∀ (c : Fin 4096) (bytes : List Byte) (id pos : Nat) (r : HostRd), (s.ctx c).fetching = some id → s.host.reads =
      [r] → r.id = id → r.why = .fetch c pos 1 → NoReduce s →
      (BitVec.ofNat 512 (leAt bytes 0 64)).toNat % 256 ≠ 0x61 → Does (.fetchComplete c bytes) s fun t =>
      (t.ctx c).fetch = (pos + 1) % (16 * s.dringSize c) ∧ (t.ctx c).fetching = none ∧ t.host.reads = [] ∧ (∃ d,
      t.seq.descs = s.seq.descs ++ [d] ∧ d.id = s.seq.nextId ∧ d.ctx = c.val ∧ d.index = pos % s.dringSize c ∧ d.raw =
      BitVec.ofNat 512 (leAt bytes 0 64)) ∧ t.out =
      s.out ++ [.hostWrite (s.ctxFn c) (s.ctxAddr c Reg.HIF_CTX_FSHADOW_LO) (leBytes 4 (posWord (s.dringSize c) ((pos + 1) % (16 * s.dringSize c))))]) ∧
    -- an FLR disables its function, and of PF0 every function
    (∀ (fn : Fin 1024), fn.val ≠ 0 → (s.fn fn).enabled = true → NoReduce s → Does (.flr fn) s fun t =>
      (t.fn fn).enabled = false ∧ (t.fn fn).disabling = some true ∧ (∀ r ∈ t.host.reads, r.fn ≠ fn.val) ∧ (∀ f,
      f ≠ fn.val → t.fn f = s.fn f) ∧ ∀ d ∈ t.seq.descs, s.ctxFn d.ctx = fn.val → ∀ p ∈ d.parts, p.st = .running ∨
      p.isOver = true) ∧
    (NoReduce s → Does (.flr 0) s fun t => ∀ f, (t.fn f).enabled = false) ∧
    (∀ (fn : Fin 1024) (flr : Bool), (s.fn fn).disabling = some flr → (∀ d ∈ s.seq.descs, s.ctxFn d.ctx ≠ fn.val) →
      NoReduce s → s.gw.binds = [] → s.gw.reqs = [] → Does (.functionDisableDone fn) s fun t => t.fn fn =
      { enabled := if flr ∨ (s.fn fn).byBme = false then s.vfCovers fn else (s.fn fn).bme && s.vfCovers fn, bme := !flr && (s.fn fn).bme, byBme := (s.fn fn).byBme && !flr && !((s.fn fn).bme && s.vfCovers fn) } ∧
      (flr = true → t.out.getLast? = some (.flrDone fn)) ∧ ∀ c, (s.ctx c).st ≠ .free → s.ctxFn c = fn.val → t.ctx c =
      { st := .stopped }) ∧
    (∀ (fn : Fin 1024), Does (.bmeClear fn) s fun t => t =
      { s with host := { s.host with fns := amSet s.host.fns fn { s.fn fn with bme := false } } }) ∧
    (∀ (fn : Fin 1024), (s.fn fn).enabled = false → Does (.bmeSet fn) s fun t => t =
      { s with host := { s.host with fns := amSet s.host.fns fn { s.fn fn with bme := true, bmeDeadline := none, enabled := (s.fn fn).byBme && (s.fn fn).disabling.isNone, byBme := (s.fn fn).byBme && (s.fn fn).disabling.isSome } } }) ∧
    (∀ (fn : Fin 1024) (d : Nat), (s.fn fn).bmeDeadline = some d → (s.fn fn).enabled = true → NoReduce s →
      Does (.bmeLimitExpiry fn) s fun t => t.fn fn =
      { s.fn fn with enabled := false, disabling := some false, bmeDeadline := none, byBme := true } ∧ t.mclk =
      max s.mclk d) ∧
    (∀ (numVfs : Fin 1024), NoReduce s → Does (.vfDisable false numVfs) s fun t => t.host.vfEnable = false ∧
      t.host.numVfs = numVfs ∧ ∀ f, f ≠ 0 → (t.fn f).enabled = false) ∧
    (∀ (numVfs : Fin 1024), Does (.vfEnable numVfs) s fun t => t.host.vfEnable = true ∧ t.host.numVfs = numVfs ∧ (∀ f,
      1 ≤ f → f ≤ numVfs.val → (s.fn f).disabling = none → (s.fn f).byBme = false → (t.fn f).enabled = true) ∧ (∀ f,
      (f = 0 ∨ numVfs.val < f) → t.fn f = s.fn f) ∧ t.regs = s.regs) ∧
    -- the aperture reads and writes the hold of its parcel
    (∀ (off len a : Nat), s.fld F.HIF_CFG_BAR4_EN = 1 → a = s.fld F.HIF_CFG_APERTURE_PARCEL * 2 ^ 28 + off % 2 ^ 28 →
      s.mayRead (Who.mk 0 none false) a len = true → s.clearingIn a len = false → s.poisonedIn a len = false →
      Does (.apertureAccess off len none []) s fun t => t =
      { s with out := s.out ++ [.readData .pf0 (memRead s.hold a len) false] }) ∧
    (∀ (off len a : Nat) (b : List Byte), s.fld F.HIF_CFG_BAR4_EN = 1 → a =
      s.fld F.HIF_CFG_APERTURE_PARCEL * 2 ^ 28 + off % 2 ^ 28 → s.mayWrite (Who.mk 0 none false) a b.length = true →
      s.clearingIn a b.length = false → s.poisonedIn a b.length = false →
      Does (.apertureAccess off len (some b) []) s fun t => t = { s with hold := memWrite s.hold a b }) ∧
    (∀ (tag : Nat) (users : List Nat), (∀ r ∈ s.host.reads, r.id ∉ users) → Does (.atsInvalidate tag users) s fun t =>
      t = { s with out := s.out ++ [.atsComplete tag] }) ∧
    (∀ (width speed : Nat) (flit : Bool), (width = 16 ∨ width = 8) →
      Does (.hostLinkTraining width speed flit) s fun t => Becomes s [Reg.HIF_LINK] t ∧ t.fld F.HIF_LINK_WIDTH =
      width ∧ t.fld F.HIF_LINK_SPEED = speed % 8 ∧ t.fld F.HIF_LINK_FLIT = b2n flit) ∧
    (Does (.aerUncorrectable) s fun t => t = s.raise 56 0 1 none) ∧
    (∀ (path : Path) (v : Word), s.mayRwl path = true → bitsOf v.toNat 0 0 = 1 → Does (.hifErrClr path v) s fun t =>
      Becomes s [Reg.HIF_ERR_INFO, Reg.HIF_ERR_ADDR_LO, Reg.HIF_ERR_ADDR_HI] t ∧ t.rd Reg.HIF_ERR_INFO = 0 ∧
      t.rd64 Reg.HIF_ERR_ADDR_LO = 0)

/-- The near tier (R188-R198, R204): a tract takes its owner and is cleared to zero; a scrub step advances; a margin check
makes a channel due after enough low readings; retraining takes the lowest due channel through its slices and ends with a
new tag or a back-off; the errors are cleared; a stack failure is an event of every parcel that uses it. -/
def Obligations.NearTierControllersAct : Prop :=
  ∀ s : State, RegsOk s →
    -- a FREE tract takes its owner, and its clear begins; a write while it is being cleared is dropped
    (∀ (path : Path) (n : Parcel) (t : Fin 48) (v : Word), s.mayRwl path = true → s.rd (Reg.NT_TRACT_OWNER n t) = 0 →
      bitsOf v.toNat 1 0 = 1 → Does (.ntTractOwnerWrite path n t v) s fun u => Becomes s [Reg.NT_TRACT_OWNER n t] u ∧
      u.fld (F.NT_TRACT_OWNER_KIND n t) = 1 ∧ u.fld (F.NT_TRACT_OWNER_OWNER_FN n t) = bitsOf v.toNat 25 16 ∧
      u.fld (F.NT_TRACT_OWNER_READERS n t) = bitsOf v.toNat 2 2 ∧ u.fld (F.NT_TRACT_OWNER_CLEARING n t) = 1) ∧
    (∀ (path : Path) (n : Parcel) (t : Fin 48) (v : Word), s.mayRwl path = true →
      s.fld (F.NT_TRACT_OWNER_CLEARING n t) = 1 → Does (.ntTractOwnerWrite path n t v) s fun u =>
      Becomes s [Reg.NT_EVENT n] u ∧ u.fld (F.NT_EVENT_OWNER_WRITE_DROPPED n) = 1) ∧
    (∀ (path : Path) (q : Fin 4) (t : Fin 512) (v : Word), s.mayRwl path = true → q.val < s.fuses.cxlPorts →
      s.rd (Reg.FT_TRACT_OWNER (q * 512 + t)) = 0 → bitsOf v.toNat 1 0 = 1 →
      Does (.ftTractOwnerWrite path q t v) s fun u => Becomes s [Reg.FT_TRACT_OWNER (q * 512 + t)] u ∧
      u.fld (F.FT_TRACT_OWNER_KIND (q * 512 + t)) = 1 ∧ u.fld (F.FT_TRACT_OWNER_OWNER_FN (q * 512 + t)) =
      bitsOf v.toNat 25 16 ∧ u.fld (F.FT_TRACT_OWNER_CLEARING (q * 512 + t)) = 1) ∧
    (∀ (n : Parcel) (t : Fin 48), s.fld (F.NT_TRACT_OWNER_CLEARING n t) = 1 → Does (.tractClearDone false n ⟨t.val,
      by omega⟩) s fun u =>
      Becomes { s with tier := { s.tier with near := u.tier.near, nearPoison := u.tier.nearPoison } } [Reg.NT_TRACT_OWNER n t] u ∧
      u.fld (F.NT_TRACT_OWNER_CLEARING n t) = 0 ∧ (∀ a, n.val * 2 ^ 36 + t.val * 2 ^ 30 ≤ a →
      a < n.val * 2 ^ 36 + (t.val + 1) * 2 ^ 30 → storeRead zeroByte u.tier.near a = 0 ∧ a ∉ u.tier.nearPoison) ∧ ∀ a,
      (a < n.val * 2 ^ 36 + t.val * 2 ^ 30 ∨ n.val * 2 ^ 36 + (t.val + 1) * 2 ^ 30 ≤ a) →
      storeRead zeroByte u.tier.near a = storeRead zeroByte s.tier.near a) ∧
    (∀ (q : Fin 4) (t : Fin 512), q.val < s.fuses.cxlPorts → s.fld (F.FT_TRACT_OWNER_CLEARING (q * 512 + t)) = 1 →
      Does (.tractClearDone true ⟨q.val, by omega⟩ t) s fun u => u.fld (F.FT_TRACT_OWNER_CLEARING (q * 512 + t)) = 0 ∧
      ∀ a, q.val * 2 ^ 39 + t.val * 2 ^ 30 ≤ a → a < q.val * 2 ^ 39 + (t.val + 1) * 2 ^ 30 →
      storeRead zeroByte u.tier.far a = 0 ∧ a ∉ u.tier.farPoison) ∧
    (∀ (n : Parcel), s.nearUp n = true → s.fld (F.NT_SCRUB_ENABLE n) = 1 → Does (.ntScrubStep n []) s fun u => u =
      { s with tier := { s.tier with ctl := amSet s.tier.ctl n { s.nearCtl n with word := if (s.nearCtl n).word + 1 < channelWords then (s.nearCtl n).word + 1 else 0, ceSince := if (s.nearCtl n).word + 1 < channelWords then (s.nearCtl n).ceSince else 0, raised := if (s.nearCtl n).word + 1 < channelWords then (s.nearCtl n).raised else false } } }) ∧
    (∀ (k : Fin 12), Does (.stackFailure k) s fun u => u = (s.fuses.stackParcels k).foldl (fun s n =>
      s.raise (12 + n) k 0 none) s) ∧
    -- enough low readings in a row make a channel due
    (∀ (n : Parcel) (margin tempC : Byte) (low : Nat), s.nearUp n = true → 0 < s.fuses.channels →
      toSigned 8 tempC.toNat ≤ 95 → 90 < toSigned 8 tempC.toNat → s.fld (F.NT_RETRAIN_AUTO n) = 1 → (low =
      if margin.toNat < s.fld (F.NT_RETRAIN_MARGIN_MIN n) then (amGet (s.nearCtl n).low 0).getD 0 + 1 else 0) →
      max 1 (s.fld (F.NT_RETRAIN_CHECKS n)) ≤ low → Does (.ntMarginCheck n [margin] tempC) s fun u =>
      Becomes { s with tier := { s.tier with ctl := amSet s.tier.ctl n { s.nearCtl n with low := amSet (s.nearCtl n).low 0 low, due := setIns (s.nearCtl n).due 0 } } } [Reg.NT_TEMP n, Reg.NT_CH_TAG n 0] u ∧
      u.fld (F.NT_CH_TAG_MARGIN_NOW n 0) = margin.toNat % 2 ^ 8 ∧ u.fld (F.NT_TEMP_STACK_C n) = tempC.toNat) ∧
    (∀ (path : Path) (n : Parcel) (v : Word), s.mayRwl path = true → bitAt v.toNat 8 = true →
      v.toNat % 32 < s.fuses.channels → Does (.ntRetrainReq path n v) s fun u => u =
      { s with tier := { s.tier with ctl := amSet s.tier.ctl n { s.nearCtl n with due := setIns (s.nearCtl n).due (v.toNat % 32), backoff := amDel (s.nearCtl n).backoff (v.toNat % 32) } } }) ∧
    (∀ (n : Parcel) (c : Nat), s.nearUp n = true → (s.nearCtl n).retrain = none → ((s.nearCtl n).due.find? (fun c =>
      decide ((amGet (s.nearCtl n).backoff c).getD 0 ≤ s.mclk)) = some c) → Does (.ntRetrainStart n) s fun u =>
      Becomes { s with tier := { s.tier with ctl := amSet s.tier.ctl n { s.nearCtl n with retrain := some (c, 0), sliceAt := s.mclk } } } [Reg.NT_STATUS n] u ∧
      u.fld (F.NT_STATUS_RETRAINING n) = 1 ∧ u.fld (F.NT_STATUS_RT_CH n) = c % 32) ∧
    (∀ (n : Parcel) (c k m : Nat), (s.nearCtl n).retrain = some (c, k) → k < 64 → (m = if k =
      0 then s.mclk else max s.mclk ((s.nearCtl n).sliceAt + 5000)) → Does (.ntRetrainSlice n) s fun u => u.mclk = m ∧
      u.nearCtl n = { s.nearCtl n with retrain := some (c, k + 1), sliceAt := m } ∧ u.hold = s.hold ∧ u.tier.near =
      s.tier.near) ∧
    -- retraining ends with a new tag, or with the old values and a back-off of 1 s
    (∀ (n : Parcel) (tempC margin : Byte) (load : Fin 4) (c k : Nat), (s.nearCtl n).retrain = some (c, k) → k ≠ 0 →
      c < 32 → Does (.ntRetrainDone n true tempC load margin) s fun u => u.nearCtl n =
      { s.nearCtl n with retrain := none, due := setDel (s.nearCtl n).due c, low := amDel (s.nearCtl n).low c } ∧
      u.fld (F.NT_STATUS_RETRAINING n) = 0 ∧ u.fld (F.NT_CH_TAG_TEMP_C n c) = tempC.toNat ∧
      u.fld (F.NT_CH_TAG_LOAD n c) = load ∧ u.fld (F.NT_CH_TAG_MARGIN n c) = margin.toNat % 2 ^ 8 ∧
      u.fld (F.NT_CH_TAG_MARGIN_NOW n c) = margin.toNat % 2 ^ 8 ∧ u.fld (F.NT_RETRAIN_COUNT_COUNT n) =
      (s.fld (F.NT_RETRAIN_COUNT_COUNT n) + 1) % 2 ^ 32) ∧
    (∀ (n : Parcel) (tempC margin : Byte) (load : Fin 4) (c k : Nat), (s.nearCtl n).retrain = some (c, k) → k ≠ 0 →
      1 ≤ s.fld (F.NT_CH_TAG_MARGIN_NOW n c) → Does (.ntRetrainDone n false tempC load margin) s fun u =>
      Becomes { s with tier := { s.tier with ctl := amSet s.tier.ctl n { s.nearCtl n with retrain := none, backoff := amSet (s.nearCtl n).backoff c (s.mclk + 250000000) } } } [Reg.NT_STATUS n] u ∧
      u.fld (F.NT_STATUS_RETRAINING n) = 0) ∧
    (∀ (path : Path) (n : Parcel) (v : Word), s.mayRwl path = true → bitsOf v.toNat 0 0 = 1 →
      Does (.ntErrClr path n v) s fun u =>
      Becomes s [Reg.NT_CE_COUNT n, Reg.NT_UE_COUNT n, Reg.NT_ERR_ADDR_LO n, Reg.NT_ERR_ADDR_HI n, Reg.NT_ERR_INFO n] u ∧
      u.fld (F.NT_CE_COUNT_COUNT n) = 0 ∧ u.fld (F.NT_UE_COUNT_COUNT n) = 0 ∧ u.rd64 (Reg.NT_ERR_ADDR_LO n) = 0 ∧
      u.rd (Reg.NT_ERR_INFO n) = 0) ∧
    (∀ (n : Parcel), s.parcelState n = 4 → (s.rt n).nearReady = false → s.nearTrained n = true →
      Does (.ntResetReturn n [] []) s fun u => (u.rt n).nearReady = true ∧ u.fld (F.NT_STATUS_READY n) = 1 ∧ u.tier =
      s.tier ∧ u.hold = s.hold)

/-- The far tier (R199-R203, R205): enumeration brings a port UP with its capacity, the tracts beyond it RETIRED, or refuses
the device; a reset, a timeout, viral, a link that goes down and one that comes back; stale data are accepted; the measured
round trip. -/
def Obligations.FarTierPortsAct : Prop :=
  ∀ s : State, RegsOk s →
    (∀ (q : Fin 4) (dev : CxlDevice), s.farHere q = true → (s.farCtl q).enumDue = true → (s.farCtl q).viralSeen =
      false → s.up 5 = true → s.inBlockReset (34 + q) = false → dev.supported = true →
      Does (.cxlEnumerate q (some dev)) s fun t => t.fld (F.FT_PORT_STATE_STATE q) = 3 ∧ t.fld (F.FT_PORT_CAP_GIB q) =
      min dev.gib 512 ∧ t.fld (F.FT_PORT_CAP_EXCESS q) = b2n (decide (512 < dev.gib)) ∧
      t.fld (F.FT_PORT_STATE_WIDTH q) = (if dev.wide then 16 else 8) ∧ t.fld (F.FT_PORT_STATE_SPEED q) =
      (if dev.fast then 2 else 1) ∧ (t.farCtl q).enumDue = false ∧ (∀ k < 512, dev.gib ≤ k →
      t.rd (Reg.FT_TRACT_OWNER (q * 512 + k)) = 3) ∧ t.hold = s.hold) ∧
    (∀ (q : Fin 4), s.farHere q = true → (s.farCtl q).enumDue = true → s.up 5 = true → s.inBlockReset (34 + q) =
      false → Does (.cxlEnumerate q none) s fun t => t.fld (F.FT_PORT_STATE_STATE q) = 0 ∧ (t.farCtl q).enumDue =
      false) ∧
    (∀ (path : Path) (q : Fin 4), s.mayRwl path = true → s.farHere q = true → Does (.ftReset path q) s fun t =>
      Becomes { s with seq := (s.failPort q).seq, tier := { s.tier with ports := amSet s.tier.ports q { s.farCtl q with enumDue := true, retrainAt := none } } } [Reg.FT_PORT_STATE q] t ∧
      t.fld (F.FT_PORT_STATE_STATE q) = 2) ∧
    (∀ (path : Path) (q : Fin 4), s.mayRwl path = true → s.farHere q = true → Does (.acceptStale path q) s fun t =>
      Becomes s [Reg.FT_PORT_STATE q] t ∧ t.fld (F.FT_PORT_STATE_STALE q) = 0) ∧
    (∀ (q : Fin 4) (n : Parcel) (d : Desc), (s.runningPart n (fun d => d.usesPort q) = some d) →
      Does (.ftRequestTimeout q n) s fun t =>
      Becomes { s with seq := seqAfter s n d Status.FAR_ERROR } [Reg.FT_PORT_ERR_COUNT q, Reg.FT_PORT_EVENT q] t ∧
      t.fld (F.FT_PORT_ERR_COUNT_COUNT q) = min (s.fld (F.FT_PORT_ERR_COUNT_COUNT q) + 1) (2 ^ 32 - 1) ∧
      t.fld (F.FT_PORT_EVENT_TIMEOUT q) = 1) ∧
    (∀ (q : Fin 4), s.farHere q = true → s.fld (F.FT_PORT_STATE_STATE q) = 3 → Does (.cxlViral q) s fun t =>
      ∃ u : State, t = u.raise 57 q 1 none ∧
      Becomes { s with seq := (s.failPort q).seq, tier := { s.tier with ports := amSet s.tier.ports q { s.farCtl q with viralSeen := true } } } [Reg.FT_PORT_STATE q, Reg.FT_PORT_EVENT q] u ∧
      u.fld (F.FT_PORT_STATE_STATE q) = 4 ∧ u.fld (F.FT_PORT_EVENT_VIRAL q) = 1) ∧
    (∀ (q : Fin 4), s.farHere q = true → s.fld (F.FT_PORT_STATE_STATE q) = 3 → Does (.cxlLinkDown q) s fun t =>
      Becomes { s with seq := (s.failPort q).seq, tier := { s.tier with ports := amSet s.tier.ports q { s.farCtl q with retrainAt := some s.mclk } } } [Reg.FT_PORT_STATE q, Reg.FT_PORT_EVENT q, Reg.FT_PORT_ERR_COUNT q] t ∧
      t.fld (F.FT_PORT_STATE_STATE q) = 1 ∧ t.fld (F.FT_PORT_STATE_WIDTH q) = 0 ∧
      t.fld (F.FT_PORT_EVENT_LINK_DOWN q) = 1 ∧ t.fld (F.FT_PORT_ERR_COUNT_COUNT q) =
      min (s.fld (F.FT_PORT_ERR_COUNT_COUNT q) + 1) (2 ^ 32 - 1)) ∧
    (∀ (q : Fin 4) (wide fast : Bool) (d : Nat), s.farHere q = true → s.fld (F.FT_PORT_STATE_STATE q) = 1 →
      (s.farCtl q).retrainAt = some d → Does (.cxlLinkRetrain q true wide fast) s fun t => t.mclk = max s.mclk d ∧
      t.fld (F.FT_PORT_STATE_STATE q) = 3 ∧ t.fld (F.FT_PORT_STATE_WIDTH q) = (if wide then 16 else 8) ∧
      (t.farCtl q).retrainAt = none) ∧
    (∀ (q : Fin 4) (wide fast : Bool) (d : Nat), s.farHere q = true → s.fld (F.FT_PORT_STATE_STATE q) = 1 →
      (s.farCtl q).retrainAt = some d → Does (.cxlLinkRetrain q false wide fast) s fun t => t.mclk = max s.mclk d ∧
      t.fld (F.FT_PORT_STATE_STATE q) = 1 ∧ (t.farCtl q).retrainAt = some (max s.mclk d + 25000000)) ∧
    (∀ (q : Fin 4) (ns : BitVec 16), s.farHere q = true → s.fld (F.FT_PORT_STATE_STATE q) = 3 →
      Does (.ftPortRttUpdate q ns) s fun t => Becomes s [Reg.FT_PORT_RTT q] t ∧ t.fld (F.FT_PORT_RTT_NS q) = ns.toNat)

/-- The energy controller (R311, R319-R333): what a tick settles, what a telemetry sweep reads and sums, the gate window and
the tile ramp, the thermal sample and its trip, the coolant report that goes stale, the forecast, and a freed job entry. -/
def Obligations.EnergyAndThermalControlAct : Prop :=
  ∀ s : State, RegsOk s →
    (∀ (uses : List AccountUse) (device : List Nat) (idle : Bool) (e : Nat), e = s.tol.sweeps.sum →
      Does (.tick uses device idle) s fun t => t.tol.ticks = s.tol.ticks + 1 ∧ t.tol.energies =
      (e :: s.tol.energies).take 100 ∧ t.tol.sweeps = [] ∧ t.tol.cut = false ∧ t.fld F.TOL_POWER_TICK_W =
      e / 1000 % 2 ^ 16 ∧ t.rd64 Reg.TOL_TOTAL_UJ_LO = (s.rd64 Reg.TOL_TOTAL_UJ_LO + e) % 2 ^ 64 ∧ t.seq = s.seq ∧
      t.hold = s.hold) ∧
    (∀ (reads : List (Option RailRead)) (modelUj e : Nat), (∀ k ∈ s.fuses.rails, ∃ x, reads.getD k none = some x ∧
      x.fault = false) → (∀ k < 14, k ∉ s.fuses.rails → s.fld (F.TOL_RAIL_I_STALE k) = 0) → (e =
      (s.fuses.rails.map fun k => (reads.getD k none).elim 0 fun x =>
      x.mv % 2 ^ 16 * (x.ca % 2 ^ 16)).sum / 1000 + 100 * s.fld F.TOL_STATIC_FIXED_W) → (s.tol.cut = true ∨
      (e ≤ 190000 ∧ s.tol.sweeps.sum + e ≤ 100 * s.fld F.TOL_STATUS_ALLOW_W * (s.tol.sweeps.length + 1))) →
      Does (.telemetrySweep reads modelUj) s fun t => t.tol.sweeps = s.tol.sweeps ++ [e] ∧ t.tol.cut = s.tol.cut ∧
      t.fld F.TOL_STATUS_TELEM_LOST = 0 ∧ t.seq = s.seq ∧ t.hold = s.hold ∧ ∀ k ∈ s.fuses.rails, ∀ x,
      reads.getD k none = some x → t.fld (F.TOL_RAIL_V_MV k) = x.mv % 2 ^ 16 ∧ t.fld (F.TOL_RAIL_I_CA k) =
      x.ca % 2 ^ 16 ∧ t.fld (F.TOL_RAIL_I_TEMP_C k) = x.tempC % 2 ^ 8 ∧ t.fld (F.TOL_RAIL_I_STALE k) = 0) ∧
    (∀ (n : Parcel) (j : Nat), Does (.gateWindow n j) s fun t => t =
      { s with tol := { s.tol with windowOpen := t.tol.windowOpen } } ∧
      (n.val ∈ t.tol.windowOpen ↔ j % 16 * s.fld (F.TOL_GATE_LEVEL n) / 16 < (j % 16 + 1) * s.fld (F.TOL_GATE_LEVEL n) / 16)) ∧
    (∀ (n : Parcel), Does (.tileRamp n) s fun t => t = { s with tol := { s.tol with ramp := t.tol.ramp } } ∧
      (s.wantsTiles n = true → (amGet t.tol.ramp n).getD 0 = min 8 ((amGet s.tol.ramp n).getD 0 + 1))) ∧
    (∀ (temps : List (Option Int)), (∀ x ∈ temps, ∃ c : Int, x = some c ∧ 0 ≤ c ∧ c ≤ 150) → temps ≠ [] →
      Does (.thermalSample temps) s fun t => Becomes s [Reg.TOL_TJ] t ∧ t.fld F.TOL_TJ_TJ_C =
      (temps.filterMap validTemp).foldl max 0) ∧
    (∀ (temps : List (Option Int)), ((temps.filterMap validTemp).any (fun x => decide (115 ≤ x)) = true) →
      Does (.thermtrip temps) s fun t => t =
      { s with rst := { s.rst with thermtrip := true, coreClocks := false }, out := s.out ++ [.signal "THERMTRIP_N" 0] }) ∧
    (s.fld F.TOL_STATUS_COOLANT_STALE = 0 → Does (.coolantStale) s fun t => ∃ u : State, t = u.raise 61 0 2 none ∧
      u.mclk = max s.mclk (s.tol.inletAt + 500000000) ∧ u.fld F.TOL_STATUS_COOLANT_STALE = 1 ∧
      u.fld F.TOL_EVENT_COOLANT_STALE = 1) ∧
    (∀ (means : List Nat) (active : Nat), Does (.forecast means active) s fun t => t.tol.fcastSeq =
      (s.tol.fcastSeq + 1) % 65536 ∧ t.mgmt.forecast = some (s.forecast means active) ∧ ∀ w < 20,
      t.rd (Reg.TOL_FCAST w) = BitVec.ofNat 32 (leAt (s.forecast means active) (4 * w) 4)) ∧
    (∀ (path : Path) (v : Word), s.mayRwl path = true → bitsOf v.toNat 0 0 = 1 → Does (.tolJobFree path v) s fun t =>
      t = { s with tol := { s.tol with jobs := amDel s.tol.jobs (s.fldB (pathNo path) F.TOL_JOB_SEL_ENTRY) } })

/-- ATTN and ATTN_MERGE (R136-R141): where the operands are readable and the pages in view are in clean frames, the output
rows are those of attn_record over the chunks in order, the dot products are counted, and the part ends OK; the merged
records are written; nothing else changes. -/
def Obligations.AttentionWritesItsResult : Prop :=
  ∀ s : State, RegsOk s →
    (∀ (n : Parcel) (d : Desc) (j : AttnJob), (s.runningPart n (fun d => d.opcode == 0x40) = some d) →
      (((({ n := n, d := d, errs := [], terrs := [] } : KvCtx).attnJob (attnOp d n) s).1.toOption) = some j) →
      (∀ c ∈ j.toScan, PageHere s d n j.r c) → ((s.kvpOf n d.id).getD { desc := d.id }).staged = [] →
      (∀ x ∈ j.rows (attnResult s d j), s.poisonedIn x.1 x.2.length = false) → Does (.attn n [] []) s fun t =>
      Becomes { s with hold := writeRows s.hold (j.rows (attnResult s d j)), kvp := amDel s.kvp n, seq := seqAfter s n d Status.OK } [Reg.KVP_DOTS_LO n, Reg.KVP_DOTS_HI n, Reg.KVP_STATUS n] t ∧
      t.rd64 (Reg.KVP_DOTS_LO n) =
      (s.rd64 (Reg.KVP_DOTS_LO n) + 64 * (attnOp d n).recs * (attnChunks s d j).length) % 2 ^ 64 ∧
      t.fld (F.KVP_STATUS_STAGED n) = 0) ∧
    (∀ (n : Parcel) (d : Desc) (g : MergeOp), (s.runningPart n (fun d => d.opcode == 0x41) = some d) → g =
      mergeOp d n → Clear s d g.arrays [g.out] [] → s.poisonedIn g.out.1 g.out.2 = false →
      Does (.attnMerge n []) s fun t => t =
      { s with hold := memWrite s.hold g.o ((List.range g.r).map fun i => (((g.arrays.map fun a => memRead s.hold a.1 a.2).drop 1).foldl (fun x a => x.fold (partialRec (headDim g.hdc) a i)) (partialRec (headDim g.hdc) ((g.arrays.map fun a => memRead s.hold a.1 a.2).getD 0 []) i)).out g.mode).flatten, seq := seqAfter s n d Status.OK }) ∧
    -- the pager stages the next page that is not resident
    (∀ (n : Parcel) (d : Desc) (j : AttnJob) (x : KvpSt) (c : Nat), (s.runningPart n (fun d => d.opcode == 0x40) =
      some d) → (((({ n := n, d := d, errs := [], terrs := [] } : KvCtx).attnJob (attnOp d n) s).1.toOption) =
      some j) → x = (s.kvpOf n d.id).getD { desc := d.id } → (j.toScan.find? (fun c =>
      (amGet x.staged c).isNone && !(pageOf s j.r c).res) = some c) → x.staged.length < j.r.depth → j.r.promote =
      false → BackingHere s d j.r (pageOf s j.r c) →
      HoldHere s d (j.r.stageBase + x.next % j.r.stage * j.r.frameBytes, j.r.frameBytes) →
      Does (.kvPageFetch n [] []) s fun t =>
      Becomes { s with hold := memWrite s.hold (j.r.stageBase + x.next % j.r.stage * j.r.frameBytes) (backing s j.r (pageOf s j.r c)), kvp := amSet s.kvp n { x with staged := amSet x.staged c (x.next % j.r.stage), next := (x.next + 1) % j.r.stage } } [Reg.KVP_STATUS n, Reg.KVP_FETCH_NEAR_LO n, Reg.KVP_FETCH_NEAR_HI n, Reg.KVP_FETCH_FAR_LO n, Reg.KVP_FETCH_FAR_HI n] t ∧
      t.fld (F.KVP_STATUS_STAGED n) = x.staged.length + 1)

/-- KV_APPEND and KV_COMMIT (R143, R144, R133) on a stream whose pages are in clean frames: the hold after them, byte for
byte; the part ends OK, and nothing else changes. -/
def Obligations.KvEntriesAreWrittenAndCommitted : Prop :=
  ∀ s : State, RegsOk s →
    (∀ (n : Parcel) (d : Desc) (a : AppendOp) (r : StreamRec), (s.runningPart n (fun d => d.opcode == 0x42) =
      some d) → a = appendOp d n → (d.spec = false ∨
      ({ n := n, d := d, errs := [], terrs := [] } : KvCtx).joined a.stream s = true) → (d.spec = true ∨
      s.mayWrite (s.who d) (a.stream + 4) 4 = true) → StreamHere s d n a.stream r →
      r.len + a.base + a.n ≤ 64 * r.npages → (∀ i ∈ pagesOf (r.len + a.base) (r.len + a.base + a.n),
      PageHere s d n r i) → Clear s d (rowsAt a.src a.stride a.n (2 * r.hd * (if a.fmt = 0 then 4 else 2))) [] [] →
      Does (.kvAppend n [] []) s fun t => t = { s with hold := appended s d a r, seq := seqAfter s n d Status.OK }) ∧
    (∀ (n : Parcel) (d : Desc) (c : CommitOp) (r : StreamRec), (s.runningPart n (fun d => d.opcode == 0x43) =
      some d) → c = commitOp d n → d.spec = false → StreamHere s d n c.stream r → r.len + c.a ≤ 64 * r.npages →
      (∀ j ∈ c.nodes, r.len + j < 64 * r.npages ∧ leAt (tagOf s.hold s r (r.len + j)) 0 1 = 2 ∧
      leAt (tagOf s.hold s r (r.len + j)) 1 1 = c.epoch) → (∀ i ∈ pagesOf r.len (min (r.len + 64) (64 * r.npages)),
      PageHere s d n r i) → Does (.kvCommit n [] []) s fun t => t =
      { s with hold := committed s c r, seq := seqAfter s n d Status.OK }) ∧
    -- a parity error of the attention engine ends the part FENCED, is recorded and raised, and the parcel fences
    -- itself
    (∀ (n : Parcel) (d : Desc), (s.runningPart n (fun d => decide (0x40 ≤ d.opcode ∧ d.opcode ≤ 0x41)) = some d) →
      d.opcode = 0x41 → s.fld (F.KVP_ERR_INFO_VALID n) = 0 → Does (.attnParityError n false) s fun t => ∃ u : State,
      t = (u.raise n 0 0 (some (s.attrOf d Status.FENCED))).selfFence n ∧
      Becomes { s with kvp := amDel s.kvp n, seq := seqAfter s n d Status.FENCED } [Reg.KVP_STATUS n, Reg.KVP_ERR_INFO n, Reg.KVP_ERR_PAGE n, Reg.KVP_ERR_ADDR n] u ∧
      u.fld (F.KVP_ERR_INFO_VALID n) = 1 ∧ u.fld (F.KVP_ERR_INFO_OP n) = 1 ∧ u.fld (F.KVP_ERR_INFO_STATUS n) =
      Status.FENCED ∧ u.fld (F.KVP_ERR_INFO_FN n) = s.ctxFn d.ctx) ∧
    (∀ (path : Path) (n : Parcel) (v : Word), s.mayRwl path = true → bitAt v.toNat 0 = true →
      Does (.kvpErrClr path n v) s fun t => Becomes s [Reg.KVP_ERR_INFO n, Reg.KVP_ERR_PAGE n, Reg.KVP_ERR_ADDR n] t ∧
      t.rd (Reg.KVP_ERR_INFO n) = 0 ∧ t.rd (Reg.KVP_ERR_PAGE n) = 0 ∧ t.rd (Reg.KVP_ERR_ADDR n) = 0)

/-- KV_MOVE of one page (R145, R147, Table 10): the bytes that go between frame and backing, the page's entry, the count of
the tier, and nothing else; a page with tentative entries is skipped. -/
def Obligations.KvMovesMoveOnePage : Prop :=
  ∀ s : State, RegsOk s →
    (∀ (n : Parcel) (d : Desc) (m : MoveOp) (r : StreamRec) (e : PageEnt), (s.runningPart n (fun d =>
      d.opcode == 0x44 && (moveOp d n).action == 0) = some d) → m = moveOp d n → m.cnt = 1 →
      StreamHere s d n m.stream r → m.lo < r.npages → EntryHere s d r m.lo → e = pageOf s r m.lo → (e.res = false ∨
      m.force = true) → BackingHere s d r e → r.frameOk n e.frame = true → HoldHere s d (e.frame, r.frameBytes) →
      Does (.promote n [] []) s fun t => t =
      ({ s with hold := writeRows s.hold [(e.frame, backing s r e), (r.pt + 16 * m.lo, { e with res := true, dirty := false, poison := false }.bytes)], seq := seqAfter s n d Status.OK } : State).kvCountPage n e.kind) ∧
    (∀ (n : Parcel) (d : Desc) (m : MoveOp) (r : StreamRec) (e : PageEnt) (b : List Byte), (s.runningPart n (fun d =>
      d.opcode == 0x44 && (moveOp d n).action == 1) = some d) → m = moveOp d n → m.cnt = 1 →
      StreamHere s d n m.stream r → m.lo < r.npages → EntryHere s d r m.lo → e = pageOf s r m.lo → e.tent = 0 →
      e.backed = true → e.dirty = true → e.poison = false → b = memRead s.hold e.frame r.frameBytes →
      PlaceHere s d e.kind e.back r.frameBytes → r.frameOk n e.frame = true → HoldHere s d (e.frame, r.frameBytes) →
      Does (.evict n [] []) s fun t => t =
      (let u := (s.tierWrite e.kind e.back b).2; { u with hold := memWrite s.hold (r.pt + 16 * m.lo) { e with res := false, dirty := false }.bytes, seq := seqAfter s n d Status.OK } : State).kvCountPage n e.kind) ∧
    (∀ (n : Parcel) (d : Desc) (m : MoveOp) (r : StreamRec) (e : PageEnt) (b : List Byte), (s.runningPart n (fun d =>
      d.opcode == 0x44 && (moveOp d n).action == 2) = some d) → m = moveOp d n → m.cnt = 1 →
      StreamHere s d n m.stream r → m.lo < r.npages → EntryHere s d r m.lo → e = pageOf s r m.lo → e.tent = 0 →
      e.backed = true → e.dirty = true → e.poison = false → b = memRead s.hold e.frame r.frameBytes →
      PlaceHere s d e.kind e.back r.frameBytes → r.frameOk n e.frame = true → HoldHere s d (e.frame, r.frameBytes) →
      Does (.writeback n [] []) s fun t => t =
      (let u := (s.tierWrite e.kind e.back b).2; { u with hold := memWrite s.hold (r.pt + 16 * m.lo) { e with dirty := false }.bytes, seq := seqAfter s n d Status.OK } : State).kvCountPage n e.kind) ∧
    (∀ (n : Parcel) (d : Desc) (m : MoveOp) (r : StreamRec) (e : PageEnt), (s.runningPart n (fun d =>
      d.opcode == 0x44 && (moveOp d n).action == 2) = some d) → m = moveOp d n → m.cnt = 1 →
      StreamHere s d n m.stream r → m.lo < r.npages → EntryHere s d r m.lo → e = pageOf s r m.lo → e.tent ≠ 0 →
      Does (.writeback n [] []) s fun t =>
      Becomes { s with seq := seqAfter s n d Status.OK } [Reg.KVP_EVENT n, Reg.KVP_SKIP_COUNT n] t ∧
      t.fld (F.KVP_EVENT_TENT_SKIP n) = 1 ∧ t.fld (F.KVP_SKIP_COUNT_COUNT n) =
      min (s.fld (F.KVP_SKIP_COUNT_COUNT n) + 1) (2 ^ 32 - 1)) ∧
    (∀ (n : Parcel) (d : Desc) (m : MoveOp) (r : StreamRec) (e : PageEnt) (fr : Nat), (s.runningPart n (fun d =>
      d.opcode == 0x44 && (moveOp d n).action == 3) = some d) → m = moveOp d n → m.cnt = 1 →
      StreamHere s d n m.stream r → m.lo < r.npages → EntryHere s d r m.lo → e = pageOf s r m.lo →
      Clear s d [(m.arg, 4)] [] [] → fr = leAt (memRead s.hold m.arg 4) 0 4 → e.res = false → (fr = noFrame ∨
      r.frameOk n fr = true) → Does (.setFrame n []) s fun t => t =
      { s with hold := memWrite s.hold (r.pt + 16 * m.lo) { e with frame := fr }.bytes, seq := seqAfter s n d Status.OK }) ∧
    (∀ (n : Parcel) (d : Desc) (m : MoveOp) (r : StreamRec) (e : PageEnt) (a : List Byte), (s.runningPart n (fun d =>
      d.opcode == 0x44 && (moveOp d n).action == 4) = some d) → m = moveOp d n → m.cnt = 1 →
      StreamHere s d n m.stream r → m.lo < r.npages → EntryHere s d r m.lo → e = pageOf s r m.lo →
      Clear s d [(m.arg, 16)] [] [] → a = memRead s.hold m.arg 16 → e.tent = 0 → e.res = false → BackingHere s d r e →
      (leAt a 8 1 = 1 ∨ leAt a 8 1 = 2) → PlaceHere s d (leAt a 8 1) (leAt a 0 8) r.frameBytes →
      Does (.migrate n [] []) s fun t => t =
      (let u := (s.tierWrite (leAt a 8 1) (leAt a 0 8) (backing s r e)).2; ({ u with hold := memWrite s.hold (r.pt + 16 * m.lo) { e with back := leAt a 0 8, kind := leAt a 8 1, dirty := false }.bytes, seq := seqAfter s n d Status.OK } : State).kvCountPage n e.kind |>.kvCountPage n (leAt a 8 1)))

/-- The Ethernet queues (R230-R235, R240): enabling takes the position from the mark; a descriptor in turn sends its frames,
and a received frame that a filter accepts is placed with its record, each moving its mark and its position on; frames that
are not accepted are only counted. -/
def Obligations.EthernetQueuesMoveFrames : Prop :=
  ∀ s : State, RegsOk s →
    (∀ (path : Path) (e : Fin 2) (q : Nat), s.mayRwl path = true → s.ethExists e = true → q = s.qSel path e →
      s.qState e q = 0 → s.queueOk e q = true → s.fcMode e = 0 → Does (.ethQueueEnable path e) s fun t =>
      Becomes s [regKey (entryBank q) (Reg.ETH_Q_POS e), regKey (entryBank q) (Reg.ETH_Q_CTRL e)] t ∧ t.qState e q =
      1 ∧ t.qK e q = (if q < 64 then s.qMarkC e q else s.qMarkP e q).count.toNat) ∧
    (∀ (path : Path) (e : Fin 2) (q : Nat), s.mayRwl path = true → s.ethExists e = true → q = s.qSel path e →
      s.fld (F.ETH_PORT_STATUS_RX_PAUSED e) = 0 → Does (.ethQueueDisable path e) s fun t =>
      Becomes s [regKey (entryBank q) (Reg.ETH_Q_CTRL e)] t ∧ t.qState e q = 0) ∧
    -- a descriptor of the queue in turn sends its frames, and MARK_C and k move on
    (∀ (e : Fin 2) (q k : Nat) (b fr : List Byte), s.ethLive e = true → s.entryHolds 3 0 = false → s.nextTxQueue e =
      some q → (s.qMarkP e q).error = false → i32Diff (s.qMarkP e q).count.toNat (s.qK e q) ≤ (s.qSize e q : Int) →
      s.markSet (s.qParcel e q) (s.qCtx e q) = some k → s.mayRead ⟨s.qFn e q, none,
      false⟩ (s.qBase e q + 16 * (s.qK e q % s.qSize e q)) 16 = true →
      s.clearingIn (s.qBase e q + 16 * (s.qK e q % s.qSize e q)) 16 = false →
      s.poisonedIn (s.qBase e q + 16 * (s.qK e q % s.qSize e q)) 16 = false → b =
      memRead s.hold (s.qBase e q + 16 * (s.qK e q % s.qSize e q)) 16 → txDescOk b = true → s.mayRead ⟨s.qFn e q,
      none, false⟩ (txDescOf b).addr (txDescOf b).len = true → s.clearingIn (txDescOf b).addr (txDescOf b).len =
      false → s.poisonedIn (txDescOf b).addr (txDescOf b).len = false → fr =
      memRead s.hold (txDescOf b).addr (txDescOf b).len → headersAgree fr (txDescOf b) = true →
      Does (.ethTxDescriptor e []) s fun t =>
      Becomes { s with eth := amSet s.eth e { s.ethPort e with lastTx := q }, out := s.out ++ (framesOf fr (txDescOf b)).map (Output.ethFrame e), seq := t.seq } [regKey (entryBank q) (Reg.ETH_Q_POS e), Reg.ETH_TX_FRAMES e] t ∧
      t.qK e q = (s.qK e q + 1) % 2 ^ 32 ∧ t.qMarkC e q = (s.qMarkC e q).signal 1 false ∧
      t.fld (F.ETH_TX_FRAMES_COUNT e) =
      min (s.fld (F.ETH_TX_FRAMES_COUNT e) + (framesOf fr (txDescOf b)).length) (2 ^ 32 - 1)) ∧
    -- an accepted frame is placed with its record, and MARK_P and k move on; one with a bad FCS and one that no
    -- filter takes are counted
    (∀ (e : Fin 2) (frame : List Byte) (q a k : Nat), s.ethLive e = true → 60 ≤ frame.length → frame.length ≤ 9596 →
      (rxInfo frame).etype ≠ 0x8808 → s.rxMatch e frame = some q → s.qState e q = 1 →
      s.rxHeld e q < (s.qSize e q : Int) → 16 + frame.length ≤ 2 ^ s.qFld q (F.ETH_Q_FMT_BUF_LOG2 e) → s.fcMode e =
      0 → a = (s.qBase e q + 2 ^ s.qFld q (F.ETH_Q_FMT_BUF_LOG2 e) * (s.qK e q % s.qSize e q)) →
      s.mayWrite ⟨s.qFn e q, none, false⟩ a (16 + frame.length) = true → s.clearingIn a (16 + frame.length) = false →
      s.poisonedIn a (16 + frame.length) = false → s.markSet (s.qParcel e q) (s.qCtx e q) = some k →
      Does (.ethFrameReceive e frame true) s fun t =>
      Becomes { s with hold := memWrite (memWrite s.hold (a + 16) frame) a (rxRecord frame s.fabTime), seq := t.seq } [regKey (entryBank q) (Reg.ETH_Q_POS e), Reg.ETH_RX_FRAMES e] t ∧
      t.qK e q = (s.qK e q + 1) % 2 ^ 32 ∧ t.qMarkP e q = (s.qMarkP e q).signal 1 false ∧
      t.fld (F.ETH_RX_FRAMES_COUNT e) = min (s.fld (F.ETH_RX_FRAMES_COUNT e) + 1) (2 ^ 32 - 1)) ∧
    (∀ (e : Fin 2) (frame : List Byte), s.ethLive e = true → 60 ≤ frame.length → frame.length ≤ 9596 →
      (rxInfo frame).etype ≠ 0x8808 → Does (.ethFrameReceive e frame false) s fun t =>
      Becomes s [Reg.ETH_RX_FCS e] t ∧ t.fld (F.ETH_RX_FCS_COUNT e) =
      min (s.fld (F.ETH_RX_FCS_COUNT e) + 1) (2 ^ 32 - 1)) ∧
    (∀ (e : Fin 2) (frame : List Byte), s.ethLive e = true → 60 ≤ frame.length → frame.length ≤ 9596 →
      (rxInfo frame).etype ≠ 0x8808 → s.rxMatch e frame = none → Does (.ethFrameReceive e frame true) s fun t =>
      Becomes s [Reg.ETH_RX_NOMATCH e] t ∧ t.fld (F.ETH_RX_NOMATCH_COUNT e) =
      min (s.fld (F.ETH_RX_NOMATCH_COUNT e) + 1) (2 ^ 32 - 1))

/-- Flow control and the link of an Ethernet port (R230, R236, R237): the release of paused priorities sends one frame of
time 0; the pause is repeated; a received PAUSE stops the priorities for its time, which runs out; other control frames are
counted; a lost link is an event. -/
def Obligations.EthernetFlowControlPausesAndReleases : Prop :=
  ∀ s : State, RegsOk s →
    (∀ (e : Fin 2) (m : Nat), s.ethLive e = true → s.fcMode e ≠ 0 → m = s.fld (F.ETH_PORT_STATUS_RX_PAUSED e) →
      m ≠ 0 → (∀ p < 8, s.mayRelease e p = true) → Does (.ethPauseRelease e) s fun t =>
      Becomes { s with out := s.out ++ [Output.ethFrame e (s.pauseFrame e m 0)], eth := amSet s.eth e { s.ethPort e with refreshAt := none } } [Reg.ETH_PORT_STATUS e, Reg.ETH_PAUSE_TX e] t ∧
      t.fld (F.ETH_PORT_STATUS_RX_PAUSED e) = 0 ∧ t.fld (F.ETH_PAUSE_TX_COUNT e) =
      min (s.fld (F.ETH_PAUSE_TX_COUNT e) + 1) (2 ^ 32 - 1)) ∧
    (∀ (e : Fin 2) (m at0 : Nat), s.ethLive e = true → s.fcMode e ≠ 0 → m = s.fld (F.ETH_PORT_STATUS_RX_PAUSED e) →
      m ≠ 0 → (s.ethPort e).refreshAt = some at0 → Does (.pauseRefresh e) s fun t =>
      Becomes { s with mclk := max s.mclk at0, out := s.out ++ [Output.ethFrame e (s.pauseFrame e m 0xFFFF)], eth := amSet s.eth e { s.ethPort e with refreshAt := some (max s.mclk at0 + max 1 (s.fld (F.ETH_PORT_CFG_REFRESH_US e)) * 250) } } [Reg.ETH_PAUSE_TX e] t ∧
      t.fld (F.ETH_PAUSE_TX_COUNT e) = min (s.fld (F.ETH_PAUSE_TX_COUNT e) + 1) (2 ^ 32 - 1)) ∧
    (∀ (e : Fin 2) (frame : List Byte) (z : Nat), s.ethLive e = true → s.fcMode e = 1 → (rxInfo frame).etype =
      0x8808 → frame.length = 60 → sliceB frame 0 6 = controlMac → beAt frame 14 2 = 1 → z = beAt frame 16 2 →
      Does (.macControlReceive e frame true) s fun t =>
      Becomes { s with eth := t.eth } [Reg.ETH_PORT_STATUS e, Reg.ETH_PAUSE_RX e] t ∧
      t.fld (F.ETH_PORT_STATUS_TX_PAUSED e) = (if z = 0 then 0 else 255) ∧ t.fld (F.ETH_PAUSE_RX_COUNT e) =
      min (s.fld (F.ETH_PAUSE_RX_COUNT e) + 1) (2 ^ 32 - 1) ∧ ∀ p < 8, amGet (t.ethPort e).timers p = if z =
      0 then none else some (s.mclk + ceilDiv (z * 128) 400)) ∧
    (∀ (e : Fin 2) (frame : List Byte), s.ethLive e = true → (rxInfo frame).etype = 0x8808 →
      Does (.macControlReceive e frame false) s fun t => Becomes s [Reg.ETH_MACCTL_DROP e] t ∧
      t.fld (F.ETH_MACCTL_DROP_COUNT e) = min (s.fld (F.ETH_MACCTL_DROP_COUNT e) + 1) (2 ^ 32 - 1)) ∧
    (∀ (e : Fin 2) (prio : Fin 8) (at0 : Nat), amGet (s.ethPort e).timers prio = some at0 →
      Does (.pauseTimerExpiry e prio) s fun t =>
      Becomes { s with mclk := max s.mclk at0, eth := amSet s.eth e { s.ethPort e with timers := amDel (s.ethPort e).timers prio } } [Reg.ETH_PORT_STATUS e] t ∧
      bitAt (t.fld (F.ETH_PORT_STATUS_TX_PAUSED e)) prio = false ∧ t.fld (F.ETH_PORT_STATUS_LINK_UP e) =
      s.fld (F.ETH_PORT_STATUS_LINK_UP e) ∧ ∀ p < 8, p ≠ prio.val → bitAt (t.fld (F.ETH_PORT_STATUS_TX_PAUSED e)) p =
      bitAt (s.fld (F.ETH_PORT_STATUS_TX_PAUSED e)) p) ∧
    (∀ (e : Fin 2), s.ethExists e = true → s.fld (F.ETH_PORT_STATUS_LINK_UP e) = 1 → Does (.ethLinkDown e) s fun t =>
      ∃ u : State, t = u.raise 58 e 0 none ∧ Becomes s [Reg.ETH_PORT_STATUS e, Reg.ETH_EVENT e] u ∧
      u.fld (F.ETH_PORT_STATUS_LINK_UP e) = 0 ∧ u.fld (F.ETH_EVENT_LINK_DOWN e) = 1) ∧
    (∀ (e : Fin 2), s.ethExists e = true → s.up 8 = true → s.fld (F.ETH_PORT_CFG_ENABLE e) = 1 → s.fcMode e = 0 →
      Does (.ethLinkUp e) s fun t => Becomes s [Reg.ETH_PORT_STATUS e] t ∧ t.fld (F.ETH_PORT_STATUS_LINK_UP e) = 1 ∧
      t.fld (F.ETH_PORT_STATUS_RX_PAUSED e) = s.fld (F.ETH_PORT_STATUS_RX_PAUSED e) ∧
      t.fld (F.ETH_PORT_STATUS_TX_PAUSED e) = s.fld (F.ETH_PORT_STATUS_TX_PAUSED e))

/-- The collective engine (R294-R307): a sound GROUP_SET keeps its record and a FREE drops it; a member that starts arms the
leg timer; the last member of a group of one leg and one member writes its result, NOUT and OP_SEQ and ends OK; COUNT, PART
and RESULT of another leg are kept with the operation; an ABORT and a timeout end the members; a packet that is not
accepted is a stray. -/
def Obligations.CollectivesFollowTheirSteps : Prop :=
  ∀ s : State, RegsOk s →
    (∀ (n : Parcel) (id : Nat) (d : Desc) (l : List (Nat × Nat)) (g : GroupRec) (reg : Region),
      (s.runningPart n (fun d => d.opcode == 0x60 && d.id == id && !(groupOp d n).free) = some d) → d.spec = false →
      groupSetOk d n = true → s.fld F.FAB_STATION_VALID = 1 → s.group (groupKey n d.ctx (groupOp d n).gidx) = none →
      s.coll.groups.length < 1024 → Clear s d [((groupOp d n).list, 8 * (groupOp d n).nmemb)] [] [] →
      memberList (memRead s.hold (groupOp d n).list (8 * (groupOp d n).nmemb)) (groupOp d n).nmemb = some l → g =
      { members := l, w := (groupOp d n).w, grid := (groupOp d n).grid, stage := (groupOp d n).stage, digest := crc32 (memRead s.hold (groupOp d n).list (8 * (groupOp d n).nmemb) ++ leBytes 4 (groupOp d n).grid ++ leBytes 4 (groupOp d n).w) } →
      g.sound (s.station n) d.ctx = true → reg = g.stageReg ((g.legOf (s.station n)).getD 0) → regionIn n reg = true →
      s.mayWrite (s.who d) reg.1 reg.2 = true → Does (.groupSetDefine n id []) s fun t => t =
      { s with coll := { s.coll with groups := amSet s.coll.groups (groupKey n d.ctx (groupOp d n).gidx) g }, seq := seqAfter s n { d with id := id } Status.OK }) ∧
    (∀ (n : Parcel) (id : Nat) (d : Desc), (s.runningPart n (fun d =>
      d.opcode == 0x60 && d.id == id && (groupOp d n).free) = some d) → d.spec = false → groupSetOk d n = true →
      s.fld F.FAB_STATION_VALID = 1 → ((s.runningPart n (fun x =>
      x.opcode == 0x61 && x.ctx == d.ctx && (reduceOp x n).gidx == (groupOp d n).gidx)) = none) →
      Does (.groupSetFree n id) s fun t => t =
      { s with coll := { s.coll with groups := amDel s.coll.groups (groupKey n d.ctx (groupOp d n).gidx) }, seq := seqAfter s n { d with id := id } Status.OK }) ∧
    -- a member that is not the last of its leg
    (∀ (n : Parcel) (id : Nat) (d : Desc) (r : ReduceOp) (g : GroupRec) (rank : Nat) (o : LegOp),
      (s.runningPart n (fun d => d.opcode == 0x61 && d.id == id) = some d) → r = reduceOp d n →
      s.group (groupKey n d.ctx r.gidx) = some g → g.rankOf (s.station n) = some rank → o =
      s.legOp g (rank / g.w) r.gidx g.opSeq → amGet o.started rank = none → (g.aborts.find? (fun a =>
      a.seq == g.opSeq) = none) → r.ok n g.grid (g.stageReg (rank / g.w)) = true →
      Clear s d [r.srcReg] (r.dstReg g.grid :: r.noutReg) [] →
      (amSet o.started rank id).length ≠ g.legSize (rank / g.w) → Does (.allReduce n id []) s fun t => t =
      s.putOp g (rank / g.w) r.gidx g.opSeq (some { o with started := amSet o.started rank id, deadline := some (o.deadline.getD (s.mclk + (if r.timeout = 0 then max 1 (s.fld F.COL_CFG_TIMEOUT_US) else r.timeout) * 250)) })) ∧
    -- the only member of a group
    (∀ (n : Parcel) (id : Nat) (d : Desc) (r : ReduceOp) (g : GroupRec), (s.runningPart n (fun d =>
      d.opcode == 0x61 && d.id == id) = some d) → s.desc id = some d → r = reduceOp d n →
      s.group (groupKey n d.ctx r.gidx) = some g → g.members = [(s.station n, d.ctx)] → 1 ≤ g.w →
      amGet s.coll.ops (opKey g 0 r.gidx g.opSeq) = none → (g.aborts.find? (fun a => a.seq == g.opSeq) = none) →
      r.ok n g.grid (g.stageReg 0) = true → Clear s d [r.srcReg] (r.dstReg g.grid :: r.noutReg) [] →
      s.poisonedIn (g.stageReg 0).1 (g.stageReg 0).2 = false → s.poisonedIn (r.dstReg g.grid).1 (r.dstReg g.grid).2 =
      false → (∀ x ∈ r.noutReg, s.poisonedIn x.1 x.2 = false) → Does (.allReduce n id []) s fun t =>
      Becomes { s with hold := t.hold, seq := ((s.endPart n id Status.OK).collMark id n).seq, coll := { s.coll with groups := amSet s.coll.groups (groupKey n d.ctx r.gidx) { g with opSeq := (g.opSeq + 1) % 2 ^ 32 } } } [Reg.COL_ADDS_LO, Reg.COL_ADDS_HI] t ∧
      (∀ i < r.count, memRead t.hold (r.dst + i * r.osz) r.osz =
      leBytes r.osz (stored r.osz (widen r.dtype (leNat (memRead s.hold (r.src + i * r.isz) r.isz))))) ∧
      (∀ x ∈ r.noutReg, memRead t.hold x.1 4 = leBytes 4 r.count) ∧ ∀ a, (∀ x ∈ g.stageReg 0 :: (r.dst,
      r.count * r.osz) :: r.noutReg, a < x.1 ∨ x.1 + x.2 ≤ a) → memRead t.hold a 1 = memRead s.hold a 1) ∧
    -- what another leg sends is kept with the operation
    (∀ (p : Packet) (g : GroupRec) (leg src q : Nat), p.ptype = 0x11 → p.opx.toNat / 16 % 4 = 0 →
      s.fld F.PWR_STATUS_STATE = 0 → s.collAccept p = some (g, leg, src, q) →
      (s.legOp g leg (p.opx.toNat % 16) q).exchanged = false → Does (.collCount p []) s fun t => t =
      { s with inbox := takeArrival s.inbox p, coll := { s.coll with ops := amSet s.coll.ops (opKey g leg (p.opx.toNat % 16) q) { s.legOp g leg (p.opx.toNat % 16) q with counts := amSet (s.legOp g leg (p.opx.toNat % 16) q).counts src (countOfBytes p.payload) } } }) ∧
    (∀ (p : Packet) (g : GroupRec) (leg src q : Nat) (o : LegOp) (lo k : Nat), p.ptype = 0x10 → p.opx.toNat / 16 % 4 =
      0 → s.fld F.PWR_STATUS_STATE = 0 → s.collAccept p = some (g, leg, src, q) → o =
      s.legOp g leg (p.opx.toNat % 16) q → o.exchanged = false → lo =
      g.sliceLo leg + ((g.rankOf p.dst.toNat).getD 0) % g.w * g.runLen leg → lo ≤ p.addr.toNat → k =
      min (p.payload.length / 4) (min (lo + g.runLen leg) (g.sliceHi leg) - p.addr.toNat) → 0 < k → (src,
      p.addr.toNat, k) ∉ o.got → Does (.collPart p []) s fun t => t =
      State.putOp (({ s with inbox := takeArrival s.inbox p } : State).stagePut g leg (p.opx.toNat % 16) q src p.addr.toNat ((List.range k).map fun i =>
      leAt p.payload (4 * i) 4)).2 g leg (p.opx.toNat % 16) q (some { o with got := o.got ++ [(src, p.addr.toNat, k)] })) ∧
    (∀ (p : Packet) (g : GroupRec) (leg src q : Nat) (o : LegOp) (sz : Nat), p.ptype = 0x10 → p.opx.toNat / 16 % 4 =
      1 → s.fld F.PWR_STATUS_STATE = 0 → s.collAccept p = some (g, leg, src, q) → o =
      s.legOp g leg (p.opx.toNat % 16) q → o.exchanged = true → o.counts = [] → g.sliceLo src ≤ p.addr.toNat →
      p.addr.toNat < g.sliceHi src → p.addr.toNat ∉ o.results.map (·.1) → p.addr.toNat ∉ o.written.map (·.1) → sz =
      (match s.legMembers g leg o with | m :: _ => m.2.2.osz | [] => 4) → Does (.collResult p) s fun t => t =
      { s with inbox := takeArrival s.inbox p, coll := { s.coll with ops := amSet s.coll.ops (opKey g leg (p.opx.toNat % 16) q) { o with results := o.results ++ [(p.addr.toNat, p.payload.take ((g.sliceHi src - p.addr.toNat) * sz))] } } }) ∧
    -- an ABORT ends the members of the receiving leg; a leg timer that expires aborts its own leg
    (∀ (p : Packet) (g : GroupRec) (leg src q : Nat), p.ptype = 0x11 → p.opx.toNat / 16 % 4 = 1 →
      s.fld F.PWR_STATUS_STATE = 0 → s.collAccept p = some (g, leg, src, q) → Does (.collAbort p) s fun t => t =
      ({ s with inbox := takeArrival s.inbox p } : State).abortLeg g leg (p.opx.toNat % 16) q (leAt p.payload 8 1) (leAt p.payload 12 3) true (fun _ =>
      abortStatus (leAt p.payload 8 1)) ∧ t.fld F.COL_ABORTS_COUNT = min (s.fld F.COL_ABORTS_COUNT + 1) (2 ^ 32 - 1) ∧
      amGet t.coll.ops (opKey g leg (p.opx.toNat % 16) q) = none) ∧
    (∀ (p : Packet), p.ptype = 0x11 → p.opx.toNat / 16 % 4 = 0 → s.fld F.PWR_STATUS_STATE = 0 → s.collAccept p =
      none → Does (.collCount p []) s fun t =>
      Becomes { s with inbox := takeArrival s.inbox p } [Reg.COL_STRAY, Reg.COL_EVENT] t ∧ t.fld F.COL_STRAY_COUNT =
      min (s.fld F.COL_STRAY_COUNT + 1) (2 ^ 32 - 1) ∧ t.fld F.COL_EVENT_STRAY = 1) ∧
    (∀ (n : Parcel) (c : Fin 4096) (gi : Fin 16) (g : GroupRec) (leg at0 : Nat), s.group (groupKey n c gi) = some g →
      g.legOf (s.station n) = some leg → (s.legOp g leg gi g.opSeq).deadline = some at0 →
      Does (.legTimeout n c gi) s fun t => t = (s.advanceTo at0).legAbort g leg gi g.opSeq 1 (s.station n) (fun _ =>
      Status.COLLECTIVE_TIMEOUT) ∧ max s.mclk at0 ≤ t.mclk ∧ amGet t.coll.ops (opKey g leg gi g.opSeq) = none ∧
      t.fld F.COL_ABORTS_COUNT = min (s.fld F.COL_ABORTS_COUNT + 1) (2 ^ 32 - 1)) ∧
    (∀ (path : Path) (v : Word), s.mayRwl path = true → bitAt v.toNat 0 = true → Does (.colAbortClr path v) s fun t =>
      Becomes s [Reg.COL_ABORT_INFO, Reg.COL_ABORT_TAG_LO, Reg.COL_ABORT_TAG_HI, Reg.COL_ABORT_ORIGIN] t ∧
      t.rd Reg.COL_ABORT_INFO = 0 ∧ t.rd Reg.COL_ABORT_TAG_LO = 0 ∧ t.rd Reg.COL_ABORT_TAG_HI = 0 ∧
      t.rd Reg.COL_ABORT_ORIGIN = 0)

/-- The gangway's operators (R156-R163, R169-R176): what each writes to the hold, what becomes of the request slot, and that
its part ends OK or waits for its members. -/
def Obligations.GangwayOperatorsRunTheirRound : Prop :=
  ∀ s : State, RegsOk s →
    (∀ (n : Parcel) (id : Nat) (d : Desc) (g : GwOpenOp) (b : List Byte), (s.runningPart n (fun d =>
      d.opcode == 0x50 && d.id == id) = some d) → g = gwOpenOp d n → s.gwReq (gwKey n g.req) = none →
      Clear s d [(g.param, 64), (g.key, 24)] [] [] → b = memRead s.hold g.param 64 →
      paramsOk b n (fnVectors (s.ctxFn d.ctx)) = true → g.tok < pVocab b → g.pos < 2097152 →
      s.ownedClear (s.ctxFn d.ctx) (pNgBase b) (if pNgram b then 64 * 2 ^ pNgLog2 b else 0) = true →
      s.ownedClear (s.ctxFn d.ctx) (pEgrBase b) (4 * pEgrTokens b) = true → Does (.gwOpen n id []) s fun t => t =
      { s with gw := { s.gw with reqs := amSet s.gw.reqs (gwKey n g.req) { ctx := d.ctx, params := b, key := memRead s.hold g.key 16, nonce := leAt (memRead s.hold g.key 24) 16 8, rootTok := g.tok, rootPos := g.pos, hist := g.hist, index := pFirstIndex b, consumed := pFirstIndex b } }, seq := seqAfter s n { d with id := id } Status.OK }) ∧
    -- GW_JOIN asks the home, and waits; GW_LEAVE too
    (∀ (n : Parcel) (id : Nat) (d : Desc) (g : GwJoinOp) (l : List Nat), (s.runningPart n (fun d =>
      d.opcode == 0x51 && d.id == id) = some d) → g = gwJoinOp d n → g.leave = false → s.gwBind (bindKey n d.ctx) =
      none → ((s.gw.binds.filter fun e => e.1 / 4096 == n.val).length < 256) → g.plot + g.plots ≤ 96 → (∀ i < g.plots,
      s.plotKind (n * 128 + g.plot + i) = 1 ∧ s.plotOwner (n * 128 + g.plot + i) = s.ctxFn d.ctx ∧
      s.plotReaders (n * 128 + g.plot + i) = false ∧ s.scratchOf (n * 128 + g.plot + i) = none) →
      Clear s d (if g.nstreams = 0 then [] else [(g.streams, 4 * g.nstreams)]) [] [] → (l =
      (List.range g.nstreams).map fun i => leAt (memRead s.hold g.streams (4 * g.nstreams)) (4 * i) 4) → (∀ a ∈ l,
      a % 64 = 0 ∧ inParcel n a = true ∧ (streamRec a (memRead s.hold a 64)).ok n = true ∧
      Clear s d [(a, 64)] [] []) → Does (.gwJoin n id []) s fun t => t =
      (s.setGwBind (bindKey n d.ctx) { req := g.req, home := g.home, homeCtx := g.homeCtx, streams := l, plot := g.plot, plots := g.plots, joinDesc := some id }).sendNotice n (s.noticePacket n d.ctx g.home g.homeCtx g.req K_JOIN {})) ∧
    (∀ (n : Parcel) (id : Nat) (d : Desc) (g : GwJoinOp) (b : GwBind), (s.runningPart n (fun d =>
      d.opcode == 0x51 && d.id == id) = some d) → g = gwJoinOp d n → g.leave = true → s.gwBind (bindKey n d.ctx) =
      some b → b.leaving = false → Does (.gwLeave n id) s fun t => t =
      (s.setGwBind (bindKey n d.ctx) { b with leaving := true, joinDesc := some id }).sendNotice n (s.noticePacket n d.ctx b.home b.homeCtx b.req K_JOIN { arg := 1, gen := b.gen })) ∧
    (∀ (n : Parcel) (id : Nat) (d : Desc) (g : GwTreeOp) (r : GwReq) (dl nl hl : List Cand) (a : Nat) (tree : List Node),
      (s.runningPart n (fun d => d.opcode == 0x52 && d.id == id) = some d) → g = gwTreeOp d n → g.repair = false →
      (s.treeGate d (gwKey n g.req) false).toOption = some r →
      (if !g.useDraft || g.draftN == 0 then some [] else candidates (memRead s.hold g.draft (16 * g.draftN)) g.draftN (pVocab r.params)) =
      some dl →
      (if !g.useHost || g.hostN == 0 then some [] else candidates (memRead s.hold g.host (16 * g.hostN)) g.hostN (pVocab r.params)) =
      some hl →
      Clear s d ((if !g.useDraft || g.draftN == 0 then [] else [(g.draft, 16 * g.draftN)]) ++ (if !g.useHost || g.hostN == 0 then [] else [(g.host, 16 * g.hostN)])) [(g.out, 2112)] [] →
      s.poisonedIn g.out 2112 = false → ((g.useNgram = false ∧ nl = []) ∨ (g.useNgram = true ∧ pNgram r.params =
      true ∧ nl = ngChain (memRead s.hold a 64) (ngKey r.hist (pNgN r.params)) ∧ (∀ c ∈ nl, c.tok < pVocab r.params) ∧
      s.mayRead { s.who d with spec := false } a 64 = true ∧ s.clearingIn a 64 = false ∧ s.poisonedIn a 64 = false)) →
      a = pNgBase r.params + 64 * ngBucket (ngKey r.hist (pNgN r.params)) (pNgLog2 r.params) → tree.length ≤ 64 →
      tree = buildTree r.rootTok (pMaxNodes r.params) (pMaxDepth r.params) [(1, dl), (2, nl), (3, hl)] →
      Does (.gwTree n id []) s fun t => t =
      (let v : State := { s with hold := memWrite s.hold g.out (treeBlock tree (nextEpoch r.lastEpoch) g.req r.rootPos) }; if r.members.isEmpty then { v with gw := { s.gw with reqs := amSet s.gw.reqs (gwKey n g.req) { r with openEpoch := nextEpoch r.lastEpoch, repair := false, nodes := tree.length, latch := none } }, seq := seqAfter s n { d with id := id } Status.OK } else (v.setReq (gwKey n g.req) { r with openEpoch := nextEpoch r.lastEpoch, repair := false, nodes := tree.length, latch := none, treeDesc := some id }).notifyAll (gwKey n g.req) K_OPEN { epoch := nextEpoch r.lastEpoch } none)) ∧
    -- the chain of the last committed path; the SOURCE of its nodes is a free value (log 4)
    (∀ (n : Parcel) (id : Nat) (d : Desc) (g : GwTreeOp) (r : GwReq) (path : GwPath), (s.runningPart n (fun d =>
      d.opcode == 0x52 && d.id == id) = some d) → g = gwTreeOp d n → g.repair = true →
      (s.treeGate d (gwKey n g.req) true).toOption = some r → Clear s d [] [(g.out, 2112)] [] →
      s.poisonedIn g.out 2112 = false → path = r.path.getD ⟨[r.rootTok], r.rootPos⟩ → path.toks.length ≤ 64 →
      r.members = [] → Does (.gwTreeRepair n id) s fun t => t =
      (let v := (s.free 2).2; let tree := chainTree (s.free 2).1 path.toks; { v with hold := memWrite s.hold g.out (treeBlock tree (nextEpoch r.lastEpoch) g.req path.pos), gw := { s.gw with reqs := amSet s.gw.reqs (gwKey n g.req) { r with openEpoch := nextEpoch r.lastEpoch, repair := true, nodes := tree.length, latch := none } }, seq := seqAfter s n { d with id := id } Status.OK })) ∧
    (∀ (n : Parcel) (id : Nat) (d : Desc) (g : GwAcceptOp) (r : GwReq) (tree : List Node) (y : List Nat × List Nat),
      (s.runningPart n (fun d => d.opcode == 0x53 && d.id == id) = some d) → g = gwAcceptOp d n →
      s.gwReq (gwKey n g.req) = some r → r.st ≠ 5 → r.ctx = d.ctx → r.openEpoch ≠ 0 → d.epoch = r.openEpoch →
      Clear s d [(g.tree, 2112)] [(g.result, 128)] [] → s.poisonedIn g.result 128 = false →
      leAt (memRead s.hold g.tree 2112) 2 1 = r.openEpoch → pVocab r.params ≤ 4 * g.stride →
      parseTree (memRead s.hold g.tree 2112) = some tree →
      (if r.repair then some (some (List.range (min 16 tree.length),
      ([] : List Nat))) else ((cleanCtx n d).walk { params := r.params, key := r.key, nonce := r.nonce, rootPos := r.rootPos, tree := tree, logits := g.logits, stride := g.stride } 16 0 [0] [] s).1.toOption) =
      some (some y) → Does (.gwAccept n id []) s fun t => t =
      { s with hold := memWrite s.hold g.result (resultBytes y.1 y.2), gw := { s.gw with reqs := amSet s.gw.reqs (gwKey n g.req) { r with latch := some ⟨r.openEpoch, y.1, y.2⟩ } }, seq := seqAfter s n { d with id := id } Status.OK }) ∧
    -- a commit of a request without members; with members each is sent APPLY
    (∀ (n : Parcel) (id : Nat) (d : Desc) (g : GwEndOp) (r : GwReq) (x : GwLatch), (s.runningPart n (fun d =>
      d.opcode == 0x54 && d.id == id) = some d) → g = gwEndOp d n → s.gwReq (gwKey n g.req) = some r → r.st ≠ 5 →
      r.ctx = d.ctx → r.openEpoch ≠ 0 → g.epoch = r.openEpoch → r.members = [] → s.acceptPending n g.req g.epoch =
      false → r.latch = some x → r.repair = false → pReliefEn r.params = false → (∀ p ∈ plotsOf g.report 64,
      s.scratchOf p = none) → Clear s d [] [(g.report, 64)] [] → s.poisonedIn g.report 64 = false →
      Does (.gwCommit n id) s fun t => t =
      (let v := (s.putTokens r (r.index + r.buf.length) x.toks).ngUpdate r x.toks; { v with hold := memWrite v.hold g.report (reportBytes 0 x.nodes.length x.toks.length x.epoch (r.index + r.buf.length) x.toks []), gw := { s.gw with reqs := amSet s.gw.reqs (gwKey n g.req) { r with openEpoch := 0, lastEpoch := x.epoch, latch := none, st := 1, commits := r.commits + 1, billN := r.nodes, billA := x.nodes.length, billRepair := false, path := some ⟨r.rootTok :: x.toks.take (x.nodes.length - 1), r.rootPos⟩, rootTok := x.toks.getLastD r.rootTok, rootPos := r.rootPos + x.nodes.length, hist := (r.hist ++ x.toks).drop ((r.hist ++ x.toks).length - 4), buf := r.buf ++ x.toks.map fun k => ⟨k, none⟩, tokens := r.tokens + x.toks.length } }, seq := seqAfter s n { d with id := id } Status.OK })) ∧
    (∀ (n : Parcel) (id : Nat) (d : Desc) (g : GwEndOp) (r : GwReq), (s.runningPart n (fun d =>
      d.opcode == 0x55 && d.id == id) = some d) → g = gwEndOp d n → s.gwReq (gwKey n g.req) = some r → r.st ≠ 5 →
      r.ctx = d.ctx → r.openEpoch ≠ 0 → g.epoch = r.openEpoch → r.endDesc = none → r.treeDesc = none → r.members =
      [] → (∀ p ∈ plotsOf g.report 64, s.scratchOf p = none) → Clear s d [] [(g.report, 64)] [] →
      s.poisonedIn g.report 64 = false → Does (.gwDiscard n id) s fun t => t =
      { s with hold := memWrite s.hold g.report (reportBytes 1 0 0 r.openEpoch r.index [] []), gw := { s.gw with reqs := amSet s.gw.reqs (gwKey n g.req) { r with openEpoch := 0, lastEpoch := r.openEpoch, latch := none, discards := r.discards + 1, report := none, failed := [] } }, seq := seqAfter s n { d with id := id } Status.OK }) ∧
    (∀ (n : Parcel) (id : Nat) (d : Desc) (g : GwEndOp) (r : GwReq), (s.runningPart n (fun d =>
      d.opcode == 0x56 && d.id == id) = some d) → g = gwEndOp d n → s.gwReq (gwKey n g.req) = some r → r.st ≠ 6 →
      r.ctx = d.ctx → r.treeDesc = none → r.members = [] → (g.drain = false ∨ r.buf = []) →
      Does (.gwClose n id) s fun t => t =
      { s with gw := { s.gw with reqs := amDel s.gw.reqs (gwKey n g.req) }, seq := seqAfter s n { d with id := id } Status.OK }) ∧
    (∀ (path : Path) (n : Parcel) (v : Word), s.mayRwl path = true → bitAt v.toNat 0 = true →
      Does (.gwyErrClr path n v) s fun t => Becomes s [Reg.GWY_ERR_INFO n, Reg.GWY_ERR_STATION n] t ∧
      t.rd (Reg.GWY_ERR_INFO n) = 0 ∧ t.rd (Reg.GWY_ERR_STATION n) = 0)

/-- Between home and members (R157, R158, R173-R178, R182, R287): OPEN, APPLY, DISCARD, ROLLBACK and LEAVE in their turn with
their acknowledgement; JOIN and its answer; an acknowledgement at the home; a RESPONSE and its absence; the pacing of the
output and the reader's index. -/
def Obligations.NoticesAndDeliveryKeepTheGangwayInStep : Prop :=
  ∀ s : State, RegsOk s →
    (∀ (p : Packet) (n c : Nat) (x : Notice) (b : GwBind), n = pkParcel p → c = p.dstCtx.toNat → x = noticeOf p →
      InTurn s p K_OPEN b → Does (.openNotice p) s fun t => t =
      answered ((s.setGwBind (bindKey n c) { turned p b with openEpoch := x.epoch }).sendNotice n (s.ackPacket n c (turned p b) K_OPEN x.epoch x.nseq Status.OK 0)) p Status.OK) ∧
    -- APPLY commits every stream of the member, releases what it holds and acknowledges
    (∀ (p : Packet) (n c : Nat) (x : Notice) (b : GwBind) (saved : List (Nat × Nat)) (y : Nat × State), n =
      pkParcel p → c = p.dstCtx.toNat → x = noticeOf p → InTurn s p K_APPLY b → s.specRunning n c = false → saved =
      ((({ n := n, d := memberDesc c, errs := [], terrs := [], pager := true } : KvCtx).commitAll x.arg x.epoch x.nodes b.streams [] (s.setGwBind (bindKey n c) (turned p b))).1.toOption).getD [] →
      (({ n := n, d := memberDesc c, errs := [], terrs := [], pager := true } : KvCtx).commitAll x.arg x.epoch x.nodes b.streams [] (s.setGwBind (bindKey n c) (turned p b))).1.toOption ≠ none →
      y =
      (((({ n := n, d := memberDesc c, errs := [], terrs := [], pager := true } : KvCtx).commitAll x.arg x.epoch x.nodes b.streams [] (s.setGwBind (bindKey n c) (turned p b))).2).setGwBind (bindKey n c) { turned p b with openEpoch := 0, lastEpoch := x.epoch, saved := saved }).releaseHeld (bindKey n c) false →
      s.journalBinding n (s.ctxTag c) = none → Does (.applyNotice p [] []) s fun t => t =
      answered ((y.2.startDeferred n c x.epoch).sendNotice n (s.ackPacket n c (turned p b) K_APPLY x.epoch x.nseq Status.OK y.1)) p Status.OK) ∧
    (∀ (p : Packet) (n c : Nat) (x : Notice) (b : GwBind) (y : Nat × State), n = pkParcel p → c = p.dstCtx.toNat → x =
      noticeOf p → InTurn s p K_DISCARD b → s.specRunning n c = false → y =
      ((s.setGwBind (bindKey n c) { turned p b with openEpoch := 0, lastEpoch := x.epoch }).dropDeferred n c).releaseHeld (bindKey n c) true →
      (({ n := n, d := memberDesc c, errs := [], terrs := [], pager := true } : KvCtx).commitAll 0 x.epoch [] b.streams [] y.2).1.toOption ≠ none →
      Does (.discardNotice p [] []) s fun t => t =
      answered (((({ n := n, d := memberDesc c, errs := [], terrs := [], pager := true } : KvCtx).commitAll 0 x.epoch [] b.streams [] y.2).2).sendNotice n (s.ackPacket n c (turned p b) K_DISCARD x.epoch x.nseq Status.OK y.1)) p Status.OK) ∧
    (∀ (p : Packet) (n c : Nat) (x : Notice) (b : GwBind), n = pkParcel p → c = p.dstCtx.toNat → x = noticeOf p →
      InTurn s p K_ROLLBACK b → b.saved = [] → Does (.rollbackNotice p) s fun t => t =
      answered ((s.setGwBind (bindKey n c) (turned p b)).sendNotice n (s.ackPacket n c (turned p b) K_ROLLBACK x.epoch x.nseq Status.OK 0)) p Status.OK) ∧
    (∀ (p : Packet) (n c : Nat) (x : Notice) (b : GwBind), n = pkParcel p → c = p.dstCtx.toNat → x = noticeOf p →
      InTurn s p K_LEAVE b → Does (.leaveNotice p) s fun t => t =
      answered (((s.setGwBind (bindKey n c) (turned p b)).sendNotice n (s.ackPacket n c (turned p b) K_LEAVE 0 x.nseq Status.OK 0)).unbind n c) p Status.OK) ∧
    (∀ (p : Packet) (n : Nat) (x : Notice) (key : Nat) (r : GwReq), n = pkParcel p → x = noticeOf p → key =
      gwKey n (p.addr.toNat % 64) → s.noticeStatus p K_JOIN = Status.OK → s.gwReq key = some r → x.arg = 0 → r.ctx =
      p.dstCtx.toNat → s.ctxTag r.ctx = p.jobTag.toNat → r.st ≠ 6 → r.members.length < 256 →
      Does (.joinNotice p) s fun t => t =
      ((answered s p Status.OK).setReq key { r with members := (r.members.filter fun m => !(m.station == p.src.toNat && m.ctx == p.srcCtx.toNat)) ++ [{ station := p.src.toNat, ctx := p.srcCtx.toNat, next := 1 }] }).sendNotice n (s.noticePacket n r.ctx p.src.toNat p.srcCtx.toNat (p.addr.toNat % 64) K_JOIN_ACK { gen := r.gen, epoch := r.lastEpoch, arg := r.openEpoch })) ∧
    (∀ (p : Packet) (n c : Nat) (x : Notice) (b : GwBind) (id : Nat), n = pkParcel p → c = p.dstCtx.toNat → x =
      noticeOf p → s.noticeStatus p K_JOIN_ACK = Status.OK → s.gwBind (bindKey n c) = some b → b.leaving = false →
      b.bound = false → x.result = 0 → b.joinDesc = some id → Does (.joinAck p) s fun t => t =
      ((answered s p Status.OK).setGwBind (bindKey n c) { b with bound := true, joinDesc := none, openEpoch := x.arg, lastEpoch := x.epoch, gen := x.gen, expect := (x.nseq + 1) % 2 ^ 32 }).endPart n id Status.OK) ∧
    -- the last acknowledgement of OPEN ends the GW_TREE
    (∀ (p : Packet) (n : Nat) (x : Notice) (key : Nat) (r r2 : GwReq), n = pkParcel p → x = noticeOf p → key =
      gwKey n (p.addr.toNat % 64) → s.noticeStatus p K_ACK = Status.OK → s.gwReq key = some r → olderGen x.gen r.gen =
      false → x.arg = K_OPEN → x.result = 0 → ((r.members.any fun m =>
      m.station == p.src.toNat && m.ctx == p.srcCtx.toNat && m.pend.any fun q =>
      q.nseq == x.nseq && q.kind == x.arg) = true) → (r2 = r.updMember p.src.toNat p.srcCtx.toNat fun m =>
      { m with pend := m.pend.filter fun q => !(q.nseq == x.nseq) }) → r2.waitsFor K_OPEN = false →
      Does (.ackNotice p) s fun t => t =
      ((answered s p Status.OK).setReq key { r2 with treeDesc := none }).endGw n r.treeDesc Status.OK) ∧
    (∀ (n : Parcel) (slot : Fin 64) (r : GwReq) (m : GwMember) (q : GwPend) (at0 : Nat), s.gwReq (gwKey n slot) =
      some r → r.members = [m] → m.pend = [q] → q.deadline = some at0 → Does (.applyTimeout n slot) s fun t => t =
      (s.advanceTo at0).memberFailed (gwKey n slot) m.station m.ctx q.kind q.nseq Status.UNREACHABLE ∧
      max s.mclk at0 ≤ t.mclk) ∧
    -- a RESPONSE settles its request, a late one is counted, and one that does not come counts as UNREACHABLE
    (∀ (p : Packet) (r : OutReq), s.requestOf p = some r → r.packet.ptype = 2 → s.gw.waiting = [] →
      s.fld F.PWR_STATUS_STATE = 0 → Does (.responseReceive p) s fun t => t =
      { s with inbox := takeArrival s.inbox p, fab := t.fab, seq := { s.seq with reqs := s.seq.reqs.filter (fun y => !(y.txn == r.txn)), descs := s.seq.descs.map fun d => if d.id = r.desc then { d with sigAns := some (answeredStatus p.status.toNat) } else d } }) ∧
    (∀ (p : Packet), s.requestOf p = none → p.ptype = 4 → Does (.responseReceive p) s fun t =>
      Becomes { s with inbox := takeArrival s.inbox p } [Reg.FAB_LATE_RSP] t ∧ t.fld F.FAB_LATE_RSP_COUNT =
      min (s.fld F.FAB_LATE_RSP_COUNT + 1) (2 ^ 32 - 1)) ∧
    (∀ (txn : BitVec 16) (r : OutReq), (s.seq.reqs.find? (fun r => r.txn == txn.toNat) = some r) → r.packet.ptype =
      2 → s.gw.waiting = [] → Does (.responseTimeout txn) s fun t =>
      Becomes { s.advanceTo r.deadline with fab := t.fab, seq := { s.seq with reqs := s.seq.reqs.filter (fun y => !(y.txn == r.txn)), descs := s.seq.descs.map fun d => if d.id = r.desc then { d with sigAns := some Status.UNREACHABLE } else d } } [Reg.FAB_UNREACH] t ∧
      t.fld F.FAB_UNREACH_COUNT = min (s.fld F.FAB_UNREACH_COUNT + 1) (2 ^ 32 - 1)) ∧
    -- a confirmed token goes out at its delivery time; with none there is an underrun
    (∀ (n : Parcel) (slot : Fin 64) (r : GwReq) (v : State) (k : GwTok), s.gwReq (gwKey n slot) = some r → r.started =
      true → r.owed = false → r.st = 1 → s.inService n = true → (s.fn (s.ctxFn r.ctx)).enabled = true → v =
      s.advanceFab r.nextAt → r.nextAt ≤ v.fabTime → v.fabTime ≤ r.nextAt + pCadence r.params → r.buf.head? = some k →
      k.wait = none → (r.index + 2 ^ 32 - r.consumed) % 2 ^ 32 < 2 ^ pOutLog2 r.params → (s.fn (s.ctxFn r.ctx)).bme =
      true → pIrqLog2 r.params = 255 → Does (.egressDelivery n slot) s fun t => t =
      { v with out := s.out ++ [.hostWrite (s.ctxFn r.ctx) (pOutRing r.params + 16 * (r.index % 2 ^ 32 % 2 ^ pOutLog2 r.params)) (outRecord k.tok (r.index % 2 ^ 32) r.gen false)], gw := { s.gw with reqs := amSet s.gw.reqs (gwKey n slot) { r with buf := r.buf.drop 1, index := (r.index + 1) % 2 ^ 32, nextAt := r.nextAt + pCadence r.params } } }) ∧
    (∀ (n : Parcel) (slot : Fin 64) (r : GwReq), s.gwReq (gwKey n slot) = some r → r.started = true → r.owed = false →
      r.st = 1 → s.inService n = true → (s.fn (s.ctxFn r.ctx)).enabled = true → r.nextAt ≤ s.fabTime → r.buf = [] →
      Does (.egressDelivery n slot) s fun t =>
      Becomes { s.advanceFab r.nextAt with gw := { s.gw with reqs := amSet s.gw.reqs (gwKey n slot) { r with owed := true, underruns := min (r.underruns + 1) (2 ^ 32 - 1) } } } [Reg.GWY_EVENT n] t ∧
      t.fld (F.GWY_EVENT_UNDERRUN n) = 1) ∧
    (∀ (fn : Fin 1024) (n : Parcel) (slot : Fin 64) (v : Word) (r : GwReq), (s.fn fn).enabled = true →
      s.gwReq (gwKey n slot) = some r → s.ctxFn r.ctx = fn.val → Does (.consumed fn n slot v) s fun t => t =
      { s with gw := { s.gw with reqs := amSet s.gw.reqs (gwKey n slot) { r with consumed := v.toNat } } })

/-- The update session (R443-R450): BEGIN opens it; a BLOCK is read from the host and staged; VERIFY writes the slot or ends
with its failure; ACTIVATE acts at once or is scheduled; ABORT deletes it; SWITCH makes the other slot active; a confirmed
boot ends the trials. Each answers in FWU_RESULT of its path. -/
def Obligations.UpdateSessionsStageAndActivate : Prop :=
  ∀ s : State, RegsOk s →
    (∀ (path : Path) (kind : Fin 8), s.fwuAllowed path = true → s.fwuState = 0 → 1 ≤ kind.val → kind.val ≤ 4 →
      512 ≤ s.fld F.FWU_PKG_LEN_BYTES → s.fld F.FWU_PKG_LEN_BYTES ≤ 16777216 →
      s.actRec.trial.getD (kind.val - 1) false = false → Does (.fwuBegin path kind) s fun t => t.fwuState = 1 ∧
      t.fwuKind = kind ∧ t.rcvdUnits = 0 ∧ t.fwu = { s.fwu with pkgLen := s.fld F.FWU_PKG_LEN_BYTES } ∧
      t.rdB (pathNo path) Reg.FWU_RESULT = 1#32 ∧ t.nv.slots = s.nv.slots ∧ t.nv.staging = s.nv.staging ∧ t.actRec =
      s.actRec ∧ t.hold = s.hold ∧ t.own = s.own) ∧
    -- a BLOCK is a read of the host; its data go to the staging area
    (∀ (path : Path) (v : Nat), s.fwuAllowed path = true → s.fwuState = 1 → s.fwu.reading = none → v =
      s.fld F.FWU_BLK_OFF_OFF / 65536 → s.blockOk = true → bitAt s.rcvdUnits v = false → (∀ x ∈ s.host.reads,
      x.why ≠ .firmware) → (s.fn 0).enabled = true → s.hostWaits 0 = false → Does (.fwuBlock path) s fun t =>
      Becomes { s with fwu := { s.fwu with reading := some (path, v) }, host := { s.host with nextRead := s.host.nextRead + 1, reads := s.host.reads ++ [{ id := s.host.nextRead, fn := 0, addr := s.rd64 Reg.FWU_BLK_ADDR_LO, len := s.fld F.FWU_BLK_LEN_LEN, why := .firmware }] }, out := s.out ++ [.hostRead 0 (s.rd64 Reg.FWU_BLK_ADDR_LO) (s.fld F.FWU_BLK_LEN_LEN) s.host.nextRead] } [regKey (pathNo path) Reg.FWU_RESULT] t ∧
      t.rdB (pathNo path) Reg.FWU_RESULT = 2#32) ∧
    (∀ (id : Nat) (b : List Byte) (r : HostRd) (path : Path) (v : Nat), (s.host.reads.find? (fun r => r.id == id) =
      some r) → r.why = .firmware → s.fwu.reading = some (path, v) → v < 256 →
      Does (.hostReadCompletion id (.data b)) s fun t => t.fwu.reading = none ∧ t.nv.staging =
      amSet s.nv.staging v (sliceB b 0 r.len) ∧ bitAt t.rcvdUnits v = true ∧ t.rdB (pathNo path) Reg.FWU_RESULT =
      1#32 ∧ t.fld F.FWU_EVENT_BLOCK_DONE = 1 ∧ t.host =
      { s.host with reads := s.host.reads.filter fun x => !(x.id == id) } ∧ t.hold = s.hold ∧ t.own = s.own) ∧
    (∀ (path : Path) (norOk : Bool) (c : Nat), s.fwuAllowed path = true → s.fwuState = 1 →
      s.fld F.FWU_STATUS_ALL_RCVD = 1 → c = 2 * s.fwuKind + s.targetSlot s.fwuKind → s.fwuKind ≤ 3 →
      Does (.fwuVerify path norOk) s fun t => t.fld F.FWU_EVENT_VERIFY_DONE = 1 ∧ t.hold = s.hold ∧ t.own = s.own ∧
      match s.checkPkg s.fwuKind with
      | .bad code cause late => t.rdB (pathNo path) Reg.FWU_RESULT = BitVec.ofNat 32 (code + 16 * cause) ∧
        t.fwuState = (if code = 10 then 1 else 0) ∧ (t.nv.slots = if late then amDel s.nv.slots c else s.nv.slots)
      | .good image => if norOk then t.rdB (pathNo path) Reg.FWU_RESULT = 1#32 ∧ t.fwuState = 3 ∧ t.nv.slots =
        amSet s.nv.slots c { manifest := s.stagedPkg.take 68, plain := image } ∧
        c ∈ t.fwu.valid else t.rdB (pathNo path) Reg.FWU_RESULT = 15#32 ∧ t.fwuState = 0 ∧ t.nv.slots =
        amDel s.nv.slots c) ∧
    -- at once, or scheduled; and when the time has come
    (∀ (path : Path), s.fwuAllowed path = true → s.fwuState = 3 → s.privileged s.fwuKind = 0 → s.fwuKind ≤ 3 →
      s.rst.recovery = false → s.rd64 Reg.FWU_ACT_TIME_LO ≤ s.fabTime → s.nv.pfHold = false → s.nv.waiting = [] →
      Does (.fwuActivate path false) s fun t => t.fwuState = 0 ∧ t.rdB (pathNo path) Reg.FWU_RESULT = 1#32 ∧
      t.fld F.FWU_EVENT_ACTIVATED = 1 ∧ t.actRec = s.actRec.activate s.fwuKind false ∧ t.rst = s.rst ∧ t.nv.slots =
      s.nv.slots ∧ t.hold = s.hold ∧ t.own = s.own) ∧
    (∀ (path : Path) (resetOnAct : Bool), s.fwuAllowed path = true → s.fwuState = 3 → s.rst.recovery = false →
      s.fabTime < s.rd64 Reg.FWU_ACT_TIME_LO → Does (.fwuActivate path resetOnAct) s fun t =>
      Becomes { s with fwu := { s.fwu with resetOnAct := resetOnAct, actTime := s.rd64 Reg.FWU_ACT_TIME_LO } } [Reg.FWU_STATUS, regKey (pathNo path) Reg.FWU_RESULT] t ∧
      t.fwuState = 4 ∧ t.rdB (pathNo path) Reg.FWU_RESULT = 1#32) ∧
    (s.fwuState = 4 → s.fabRunning = true →
      s.fwu.actTime ≤ (s.advanceTo (s.mclk + ceilDiv (s.fwu.actTime - s.fabTime) 4)).fabTime →
      s.privileged s.fwuKind = 0 → s.fwuKind ≤ 2 → s.fwu.resetOnAct = false → s.rst.recovery = false → s.nv.pfHold =
      false → s.nv.waiting = [] → Does (.scheduledActivation) s fun t => t.fwuState = 0 ∧
      t.fld F.FWU_EVENT_ACTIVATED = 1 ∧ t.actRec = s.actRec.activate s.fwuKind false ∧ t.mclk =
      s.mclk + ceilDiv (s.fwu.actTime - s.fabTime) 4 ∧ t.hold = s.hold ∧ t.own = s.own) ∧
    (∀ (path : Path), s.fwuAllowed path = true → 1 ≤ s.fwuState → s.fwuState ≤ 4 → Does (.fwuAbort path) s fun t =>
      t.fwuState = 0 ∧ t.rdB (pathNo path) Reg.FWU_RESULT = 1#32 ∧ t.fwu = { s.fwu with reading := none } ∧ t.host =
      { s.host with reads := s.host.reads.filter fun x => decide (x.why ≠ .firmware) } ∧ t.nv.slots = s.nv.slots ∧
      t.actRec = s.actRec ∧ t.hold = s.hold ∧ t.own = s.own) ∧
    (∀ (path : Path) (kind : Fin 8), s.fwuAllowed path = true → s.fwuState = 0 → 1 ≤ kind.val → kind.val ≤ 3 →
      2 * kind + s.targetSlot kind ∈ s.fwu.valid → s.privileged kind = 0 → s.nv.pfHold = false → s.nv.waiting = [] →
      Does (.fwuSwitch path kind) s fun t => t.actRec =
      s.actRec.activate kind (s.actRec.fellBack.getD (kind.val - 1) false) ∧ t.fwuState = 0 ∧
      t.rdB (pathNo path) Reg.FWU_RESULT = 1#32 ∧ t.fwu = s.fwu ∧ t.hold = s.hold ∧ t.own = s.own) ∧
    (∀ (v : Word), bitAt v.toNat 0 = true → s.nv.pfHold = false → s.nv.waiting = [] →
      Does (.fwuConfirm .mgmtCore v) s fun t => t.actRec =
      { s.actRec with boots := 0, trial := [false, s.actRec.trial.getD 1 false, false] } ∧ t.nv.slots = s.nv.slots ∧
      t.hold = s.hold ∧ t.own = s.own)

/-- The NV store and host reads (R210, R432, R439, R466): a compaction begins and is done; a power failure holds the writes
to the eMRAM and is a severe event; its end lets them go; the data of a COPY's read are written and its part ends OK; a
read that fails or is not answered is recorded, and its part ends ACCESS_VIOLATION. -/
def Obligations.NvStoreAndHostReadsEnd : Prop :=
  ∀ s : State, RegsOk s →
    (∀ (path : Path), s.mayRwl path = true → Does (.compact path) s fun t => t.nv = { s.nv with compacting := true } ∧
      t.fld F.NVS_STATUS_COMPACTING = 1 ∧ t.seq = s.seq ∧ t.hold = s.hold ∧ t.own = s.own) ∧
    (∀ (i : Nat), s.nv.inForce = some i → s.nv.compacting = true → s.nv.pfHold = false → s.nv.waiting = [] →
      Does (.compactionDone) s fun t => t.nv =
      { s.nv.setRegion (1 - i) { rgen := some (((s.nv.region i).rgen.getD 0 + 1) % 2 ^ 32), recs := liveRecs (s.nv.region i).recs } with compacting := false } ∧
      t.fld F.NVS_STATUS_COMPACTING = 0 ∧ t.seq = s.seq ∧ t.hold = s.hold ∧ t.own = s.own) ∧
    (Does (.pwrFail) s fun t => t =
      (State.nvMirror { s with nv := { s.nv with pfHold := true } }).latchEvent { source := 60, condition := true } (some 3) ∧
      t.nv = { s.nv with pfHold := true }) ∧
    (s.nv.waiting = [] → Does (.pwrFailRise) s fun t => t.nv = { s.nv with pfHold := false } ∧
      t.fld (F.FCU_SRC_STATE_PIN 60) = 0 ∧ t.fld F.NVS_STATUS_PF_HOLD = 0 ∧ t.seq = s.seq ∧ t.hold = s.hold ∧ t.own =
      s.own) ∧
    (∀ (id : Nat) (b : List Byte) (r : HostRd) (n i : Nat) (d : Desc) (c : CopyOp) (off len : Nat),
      (s.host.reads.find? (fun r => r.id == id) = some r) → r.why = .copy n i → (s.runningPart n (fun d =>
      d.id == i) = some d) → c = copyOp d n → (off, len) = c.slice d.repl n → r.len = len → b.length = len →
      c.dk ≤ 2 → s.firstBad c.dk (c.dst + off) len = none → Does (.hostReadCompletion id (.data b)) s fun t => t =
      { s with host := { s.host with reads := s.host.reads.filter fun x => !(x.id == id) }, hold := t.hold, tier := { s.tier with near := t.tier.near, far := t.tier.far }, seq := seqAfter s n d Status.OK } ∧
      t.tierRead c.dk (c.dst + off) len = b ∧ ∀ k < 3, ∀ a, (k ≠ c.dk ∨ a < c.dst + off ∨ c.dst + off + len ≤ a) →
      t.tierRead k a 1 = s.tierRead k a 1) ∧
    (∀ (id : Nat) (r : HostRd) (n i : Nat), (s.host.reads.find? (fun r => r.id == id) = some r) → r.why = .copy n i →
      s.fld F.HIF_ERR_INFO_VALID = 0 → r.fn < 1024 → Does (.hostReadCompletion id .ur) s fun t =>
      Becomes { s with host := { s.host with reads := s.host.reads.filter fun x => !(x.id == id) }, seq := (s.endPart n i Status.ACCESS_VIOLATION).seq } [Reg.HIF_EVENT, Reg.HIF_ERR_INFO, Reg.HIF_ERR_ADDR_LO, Reg.HIF_ERR_ADDR_HI] t ∧
      t.fld F.HIF_ERR_INFO_VALID = 1 ∧ t.fld F.HIF_ERR_INFO_CAUSE = 1 ∧ t.fld F.HIF_ERR_INFO_FN = r.fn ∧
      t.rd64 Reg.HIF_ERR_ADDR_LO = r.addr % 2 ^ 64) ∧
    (∀ (id : Nat) (r : HostRd) (n i : Nat), (s.host.reads.find? (fun r => r.id == id) = some r) → r.why = .copy n i →
      s.fld F.HIF_ERR_INFO_VALID = 0 → r.fn < 1024 → Does (.hostReadTimeout id) s fun t => ∃ u : State, t =
      (u.raise 56 3 0 none).endPart n i Status.ACCESS_VIOLATION ∧
      Becomes { s with host := { s.host with reads := s.host.reads.filter fun x => !(x.id == id) } } [Reg.HIF_EVENT, Reg.HIF_ERR_INFO, Reg.HIF_ERR_ADDR_LO, Reg.HIF_ERR_ADDR_HI] u ∧
      u.fld F.HIF_ERR_INFO_CAUSE = 3 ∧ u.fld F.HIF_ERR_INFO_FN = r.fn ∧ u.rd64 Reg.HIF_ERR_ADDR_LO = r.addr % 2 ^ 64)

/-- Power states (R358-R362, R368): a command at once done, refused or begun; the answers of the blocks, BUSY and asked
again; the refusal and the limit that abandon the entry; the commit to Moored, Laid-up and Off. -/
def Obligations.PowerCommandsAndEntriesProceed : Prop :=
  ∀ s : State, RegsOk s →
    -- from Moored at once; from Laid-up the wake begins; where it is already, it is done
    (∀ (path : Path), s.mayRwl path = true → s.safe = false → s.fld F.PWR_STATUS_BUSY = 0 → s.fld F.PWR_STATUS_STATE =
      1 → Does (.underway path) s fun t =>
      Becomes { s with pwr := { off := s.pwr.off } } [Reg.PWR_STATUS, Reg.PWR_WAKE_CAUSE, regKey (pathNo path) Reg.PWR_RESULT] t ∧
      t.fld F.PWR_STATUS_STATE = 0 ∧ t.fld F.PWR_WAKE_CAUSE_CAUSE = 1 ∧ t.rdB (pathNo path) Reg.PWR_RESULT = 1#32) ∧
    (∀ (path : Path), s.mayRwl path = true → s.safe = false → s.fld F.PWR_STATUS_BUSY = 0 → s.fld F.PWR_STATUS_STATE =
      2 → Does (.underway path) s fun t =>
      Becomes { s with pwr := { s.pwr with path := some path, wake := 2 } } [Reg.PWR_STATUS, Reg.PWR_WAKE_CAUSE, regKey (pathNo path) Reg.PWR_RESULT] t ∧
      t.fld F.PWR_STATUS_BUSY = 1 ∧ t.rdB (pathNo path) Reg.PWR_RESULT = 2#32) ∧
    (∀ (path : Path), s.mayRwl path = true → s.safe = false → s.fld F.PWR_STATUS_BUSY = 0 → s.fld F.PWR_STATUS_STATE =
      0 → Does (.underway path) s fun t => t = s.setRdB (pathNo path) Reg.PWR_RESULT 1#32) ∧
    (∀ (path : Path), s.mayRwl path = true → s.safe = false → s.fld F.PWR_STATUS_BUSY = 0 → s.fld F.PWR_STATUS_STATE =
      0 → Does (.moored path) s fun t =>
      Becomes { s with pwr := { path := some path, target := 1, block := 1, asked := List.range 12, limit := some (s.mclk + max 1 (s.fld F.PWR_ENTRY_LIMIT_MS) * 250000) } } [Reg.PWR_STATUS, regKey (pathNo path) Reg.PWR_RESULT] t ∧
      t.fld F.PWR_STATUS_BUSY = 1 ∧ t.fld F.PWR_STATUS_STATE = s.fld F.PWR_STATUS_STATE ∧
      t.rdB (pathNo path) Reg.PWR_RESULT = 2#32) ∧
    (∀ (path : Path), s.mayRwl path = true → s.safe = false → s.fld F.PWR_STATUS_BUSY = 0 → s.fld F.PWR_STATUS_STATE =
      0 → Does (.laidUp path) s fun t =>
      Becomes { s with pwr := { path := some path, target := 2, block := 1, asked := List.range 12, limit := some (s.mclk + max 1 (s.fld F.PWR_ENTRY_LIMIT_MS) * 250000) } } [Reg.PWR_STATUS, regKey (pathNo path) Reg.PWR_RESULT] t ∧
      t.fld F.PWR_STATUS_BUSY = 1 ∧ t.fld F.PWR_STATUS_STATE = s.fld F.PWR_STATUS_STATE ∧
      t.rdB (pathNo path) Reg.PWR_RESULT = 2#32) ∧
    (∀ (path : Path), s.mayRwl path = true → s.safe = false → s.fld F.PWR_STATUS_BUSY = 0 → s.fld F.PWR_STATUS_STATE =
      0 → Does (.pwrOff path) s fun t =>
      Becomes { s with pwr := { path := some path, target := 3, block := 1, asked := List.range 12, limit := some (s.mclk + max 1 (s.fld F.PWR_ENTRY_LIMIT_MS) * 250000) } } [Reg.PWR_STATUS, regKey (pathNo path) Reg.PWR_RESULT] t ∧
      t.fld F.PWR_STATUS_BUSY = 1 ∧ t.fld F.PWR_STATUS_STATE = s.fld F.PWR_STATUS_STATE ∧
      t.rdB (pathNo path) Reg.PWR_RESULT = 2#32) ∧
    (∀ (b : Fin 11) (n : Parcel) (transfer : Bool), s.pwr.block = b.val → b ≠ 0 → n.val ∈ s.pwr.asked →
      s.entryAnswer b n transfer = .grant → Does (.entryAnswer b n transfer) s fun t => t =
      { s with pwr := ({ s.pwr with asked := setDel s.pwr.asked n, answered := setIns s.pwr.answered (16 * b + n) } : PwrSt).advance }) ∧
    (∀ (b : Fin 11) (n : Parcel) (transfer : Bool), s.pwr.block = b.val → b ≠ 0 → n.val ∈ s.pwr.asked →
      s.entryAnswer b n transfer = .busy → Does (.entryAnswer b n transfer) s fun t => t =
      { s with pwr := { s.pwr with asked := setDel s.pwr.asked n, answered := setIns s.pwr.answered (16 * b + n), busy := amSet s.pwr.busy n (s.mclk + 2500), lastBusy := 16 * b + n } }) ∧
    (∀ (b : Fin 11) (n : Parcel) (transfer : Bool) (c : Nat) (path : Path), s.pwr.block = b.val → b ≠ 0 →
      n.val ∈ s.pwr.asked → s.entryAnswer b n transfer = .refuse c → s.pwr.path = some path →
      Does (.entryAnswer b n transfer) s fun t =>
      Becomes { s with pwr := { off := s.pwr.off } } [Reg.PWR_STATUS, Reg.PWR_EVENT, regKey (pathNo path) Reg.PWR_RESULT] t ∧
      t.fld F.PWR_STATUS_BUSY = 0 ∧ t.fld F.PWR_EVENT_ENTRY_REFUSED = 1 ∧ t.rdB (pathNo path) Reg.PWR_RESULT =
      BitVec.ofNat 32 (3 + 256 * b + 4096 * n + 65536 * c)) ∧
    (∀ (n : Parcel) (at0 : Nat), amGet s.pwr.busy n = some at0 → Does (.entryReask n) s fun t => t =
      { s.advanceTo at0 with pwr := { s.pwr with busy := amDel s.pwr.busy n, asked := setIns s.pwr.asked n } }) ∧
    (∀ (at0 : Nat) (path : Path), s.pwr.block ≠ 0 → s.pwr.block ≠ 11 → s.pwr.limit = some at0 → s.pwr.path =
      some path → Does (.entryTimeout) s fun t =>
      Becomes { s.advanceTo at0 with pwr := { off := s.pwr.off } } [Reg.PWR_STATUS, Reg.PWR_EVENT, regKey (pathNo path) Reg.PWR_RESULT] t ∧
      t.fld F.PWR_STATUS_BUSY = 0 ∧ t.fld F.PWR_EVENT_ENTRY_TIMEOUT = 1 ∧ t.rdB (pathNo path) Reg.PWR_RESULT =
      BitVec.ofNat 32 (4 + 256 * (s.pwr.lastBusy / 16) + 4096 * (s.pwr.lastBusy % 16))) ∧
    (∀ (path : Path), s.pwr.block = 11 → s.pwr.target = 1 → s.pwr.path = some path → Does (.entryCommit) s fun t =>
      t.fld F.PWR_STATUS_STATE = 1 ∧ t.fld F.PWR_STATUS_BUSY = 0 ∧ t.rdB (pathNo path) Reg.PWR_RESULT = 1#32 ∧ t.pwr =
      { off := s.pwr.off } ∧ t.hold = s.hold ∧ t.seq = s.seq ∧ ∀ n < 12, t.fld (F.REC_BELL_CFG_ARMED n) = 0) ∧
    (∀ (path : Path), s.pwr.block = 11 → s.pwr.target = 2 → s.pwr.path = some path → Does (.entryCommit) s fun t =>
      t.fld F.PWR_STATUS_STATE = 2 ∧ t.fld F.PWR_STATUS_BUSY = 0 ∧ t.fld F.PWR_STATUS_LOGIC_READY = 0 ∧
      t.fld F.PWR_STATUS_PADS_HELD = 1 ∧ t.fld F.PWR_IMAGE_VALID = 1 ∧ t.rdB (pathNo path) Reg.PWR_RESULT = 1#32 ∧
      t.pwr = { off := s.pwr.off } ∧ t.vus = [] ∧ t.kvp = [] ∧ t.hold = s.hold ∧ t.tier.near = s.tier.near ∧ t.seq =
      s.seq ∧ ∀ k ∈ ([4, 5, 6, 7] : List Nat), t.fld (F.TOL_RAIL_V_SET_MV k) = 680) ∧
    (s.pwr.block = 11 → s.pwr.target = 3 → Does (.entryCommit) s fun t => t.hold = [] ∧ t.holdPoison = [] ∧ t.pwr =
      { off := true } ∧ t.fld F.PWR_STATUS_FROM_OFF = 1 ∧ t.out =
      s.out ++ [.mgmt (0xF3#8 :: leBytes 4 ((s.rd Reg.PWR_STATUS).toNat ||| 64))] ∧ t.own =
      { owner := s.own.owner, locked := s.own.locked, gen := s.own.gen })

/-- The wake (R363-R370): a doorbell, a packet or the management port wakes an idle device or sets WAKE_PENDING; the steps of
the wake from Laid-up; the release of the pads; an access to a parcel that is down. -/
def Obligations.WakesAndPadsProceed : Prop :=
  ∀ s : State, RegsOk s →
    (∀ (n : Parcel), s.pwr.block = 0 → s.safe = false → s.pwr.wake = 0 → s.pwr.off = false →
      s.fld F.PWR_STATUS_STATE = 2 → s.wakeEnabled 4 = true → Does (.wakeEvent 4 n) s fun t =>
      Becomes { s with pwr := { s.pwr with wake := 2 } } [Reg.PWR_STATUS, Reg.PWR_WAKE_CAUSE] t ∧
      t.fld F.PWR_STATUS_BUSY = 1 ∧ t.fld F.PWR_WAKE_CAUSE_CAUSE = 4) ∧
    (∀ (cause : Fin 5) (n : Parcel), (cause = 2 ∨ cause = 3 ∨ cause = 4) → s.pwr.block = 0 → s.safe = false →
      s.pwr.wake = 0 → s.pwr.off = false → s.fld F.PWR_STATUS_STATE = 2 → s.wakeEnabled cause = false →
      Does (.wakeEvent cause n) s fun t => Becomes s [Reg.PWR_STATUS] t ∧ t.fld F.PWR_STATUS_WAKE_PENDING = 1 ∧
      t.fld F.PWR_STATUS_STATE = 2) ∧
    (∀ (cause : Fin 5) (n : Parcel), (cause = 2 ∨ cause = 3 ∨ cause = 4) → s.pwr.block = 0 → s.safe = false →
      s.pwr.wake = 0 → s.pwr.off = false → s.fld F.PWR_STATUS_STATE = 1 → s.pwr.path = none →
      Does (.wakeEvent cause n) s fun t =>
      Becomes { s with pwr := { off := s.pwr.off } } [Reg.PWR_STATUS, Reg.PWR_WAKE_CAUSE] t ∧
      t.fld F.PWR_STATUS_STATE = 0 ∧ t.fld F.PWR_WAKE_CAUSE_CAUSE = cause) ∧
    (∀ (imageOk : Bool), s.pwr.wake = 2 → Does (.wakeStep imageOk) s fun t =>
      Becomes { s with pwr := { s.pwr with wake := 3 } } ([4, 5, 6, 7].map fun k => Reg.TOL_RAIL_V k) t ∧
      ∀ k ∈ ([4, 5, 6, 7] : List Nat), t.fld (F.TOL_RAIL_V_SET_MV k) = (s.fuses.railMin.getD k 700 + 50) % 2 ^ 16) ∧
    (∀ (imageOk : Bool), (s.pwr.wake = 3 ∨ s.pwr.wake = 4) → Does (.wakeStep imageOk) s fun t => t =
      { s with pwr := { s.pwr with wake := s.pwr.wake + 1 } }) ∧
    (s.pwr.wake = 5 → s.fld F.PWR_IMAGE_VALID = 1 → Does (.wakeStep true) s fun t => t.pwr =
      { s.pwr with wake := 6 } ∧ t.fld F.PWR_IMAGE_VALID = 0 ∧ t.gw = s.gw ∧ t.seq = s.seq ∧ t.hold = s.hold) ∧
    (∀ (imageOk : Bool) (path : Path), s.pwr.wake = 6 → s.pwr.path = some path → Does (.wakeStep imageOk) s fun t =>
      Becomes { s with pwr := { off := s.pwr.off } } [Reg.PWR_STATUS, regKey (pathNo path) Reg.PWR_RESULT] t ∧
      t.fld F.PWR_STATUS_STATE = 0 ∧ t.fld F.PWR_STATUS_BUSY = 0 ∧ t.fld F.PWR_STATUS_LOGIC_READY = 1 ∧
      t.fld F.PWR_STATUS_PADS_HELD = 1 ∧ t.rdB (pathNo path) Reg.PWR_RESULT = 1#32) ∧
    (∀ (path : Path) (v : Word), s.mayRwl path = true → bitAt v.toNat 0 = true → s.fld F.PWR_STATUS_LOGIC_READY = 1 →
      s.fld F.PWR_STATUS_PADS_HELD = 1 → s.fld F.BRU_STATUS_TRAIN = 2 → Does (.padRelease path v) s fun t =>
      Becomes s (Reg.PWR_STATUS :: (List.range 12).map Reg.NT_STATUS) t ∧ t.fld F.PWR_STATUS_PADS_HELD = 0 ∧ ∀ n < 12,
      t.fld (F.NT_STATUS_READY n) = if s.rd (Reg.NT_CH_FAILED n) = 0 then 1 else s.fld (F.NT_STATUS_READY n)) ∧
    (∀ (path : Path) (v : Word), s.mayRwl path = true → bitAt v.toNat 0 = true → s.fld F.PWR_STATUS_LOGIC_READY = 0 →
      Does (.padRelease path v) s fun t => Becomes s [Reg.PWR_EVENT] t ∧ t.fld F.PWR_EVENT_EARLY_RELEASE = 1) ∧
    (∀ (path : Path) (off : Nat) (isRead : Bool), s.logicUp = false → isParcelReg off = true →
      Does (.parcelDownAccess path off isRead) s fun t =>
      Becomes { s with out := if isRead then s.out ++ [.readData path [0, 0, 0, 0] false] else s.out } [Reg.PWR_DOWN_ACCESS, Reg.PWR_EVENT] t ∧
      t.fld F.PWR_EVENT_DOWN_ACCESS = 1 ∧ t.fld F.PWR_DOWN_ACCESS_COUNT =
      min (s.fld F.PWR_DOWN_ACCESS_COUNT + 1) (2 ^ 32 - 1))

/-- Clocks (R336-R342): the count of a window and REF_OK; the loss of the lock, which stops the core clocks and enters the
safe state with cause 62; the relock, after which MCLK runs from the root; the wake of a sleeping destination domain. -/
def Obligations.ClocksFollowTheReference : Prop :=
  ∀ s : State, RegsOk s →
    (∀ (edges : BitVec 20), 5000 ≤ edges.toNat → Does (.refMeasure edges) s fun t =>
      Becomes s [Reg.CLK_REF_MEAS, Reg.CLK_STATUS] t ∧ t.fld F.CLK_REF_MEAS_EDGES = edges.toNat ∧
      t.fld F.CLK_STATUS_REF_OK = 1) ∧
    (∀ (edges : BitVec 20), edges.toNat < 5000 → s.fld F.CLK_STATUS_REF_OK = 0 → Does (.refMeasure edges) s fun t =>
      Becomes s [Reg.CLK_REF_MEAS, Reg.CLK_STATUS] t ∧ t.fld F.CLK_REF_MEAS_EDGES = edges.toNat ∧
      t.fld F.CLK_STATUS_REF_OK = 0) ∧
    -- the reference is lost
    (∀ (edges : BitVec 20), edges.toNat < 5000 → s.fld F.CLK_STATUS_REF_OK = 1 → s.up 3 = true → (∀ p < 20,
      s.linkUp p = false) → Does (.refMeasure edges) s fun t => ∃ u : State, t = (u.raise 62 0 0 none).enterSafe 62 ∧
      Becomes { s with fabRunning := false, rst := { s.rst with coreClocks := false } } [Reg.CLK_REF_MEAS, Reg.CLK_STATUS, Reg.CLK_EVENT, Reg.CLK_LOCK_LOSSES] u ∧
      u.fld F.CLK_EVENT_REF_LOST = 1 ∧ u.fld F.CLK_STATUS_REF_OK = 0 ∧ u.fld F.CLK_STATUS_AOSC_MODE = 1) ∧
    (s.fld F.CLK_STATUS_LOCKED = 1 → (∀ p < 20, s.linkUp p = false) → Does (.pllLockLost) s fun t => ∃ u : State, t =
      (u.raise 62 0 0 none).enterSafe 62 ∧
      Becomes { s with fabRunning := false, rst := { s.rst with coreClocks := false } } [Reg.CLK_STATUS, Reg.CLK_EVENT, Reg.CLK_LOCK_LOSSES] u ∧
      u.fld F.CLK_EVENT_LOCK_LOST = 1 ∧ u.fld F.CLK_STATUS_LOCKED = 0 ∧ u.fld F.CLK_STATUS_AOSC_MODE = 1 ∧
      u.fld F.CLK_LOCK_LOSSES_COUNT = min (s.fld F.CLK_LOCK_LOSSES_COUNT + 1) (2 ^ 32 - 1)) ∧
    (s.up 3 = true → s.rst.thermtrip = false → s.fld F.CLK_STATUS_AOSC_MODE = 1 → Does (.pllRelock) s fun t =>
      Becomes { s with fabRunning := s.up 5, rst := { s.rst with coreClocks := true } } [Reg.CLK_STATUS] t ∧
      t.fld F.CLK_STATUS_LOCKED = 1 ∧ t.fld F.CLK_STATUS_REF_OK = 1 ∧ t.fld F.CLK_STATUS_AOSC_MODE = 0) ∧
    (∀ (unit : Nat), s.up 10 = true → Does (.crossingWake unit) s fun t => t =
      { s with rst := { s.rst with woken := setIns s.rst.woken unit } }) ∧
    (∀ (unit : Nat), s.up 10 = false → Does (.crossingWake unit) s fun t => t = s)

/-- Device resets (R343-R352): the level sources, GO and the watchdog; the assertion, which keeps the ownership record, the
memories and the recorded cause; step 1 of the release 64 AOSC cycles after it, with the cause recorded, and the later
steps one after the other. -/
def Obligations.DeviceResetsAssertAndRelease : Prop :=
  ∀ s : State, RegsOk s →
    (s.rst.request = none → s.rst.asserted = none → s.rst.thermtrip = false → Does (.powerOn) s fun t => t =
      { s with rst := { s.rst with levels := setIns s.rst.levels 1, request := some 1 } }) ∧
    (s.rst.request = none → s.rst.asserted = none → s.rst.thermtrip = false → Does (.perst) s fun t => t =
      { s with rst := { s.rst with levels := setIns s.rst.levels 2, request := some 2 } }) ∧
    (s.rst.request = none → s.rst.asserted = none → s.rst.thermtrip = false → Does (.sysReset) s fun t => t =
      { s with rst := { s.rst with levels := setIns s.rst.levels 3, request := some 3 } }) ∧
    (∀ (source : Fin 4), Does (.resetDeasserted source) s fun t => t =
      { s with rst := { s.rst with levels := setDel s.rst.levels source.val } }) ∧
    (∀ (path : Path) (v : Word), s.mayRwl path = true → bitAt v.toNat 0 = true → s.rst.request = none →
      s.rst.asserted = none → s.rst.thermtrip = false → Does (.rstGo path v) s fun t => t =
      { s with rst := { s.rst with request := some 5 } }) ∧
    (∀ (at0 : Nat), s.rst.wdt = some at0 → s.rst.request = none → s.rst.asserted = none → s.rst.thermtrip = false →
      Does (.watchdog) s fun t => t = { s.advanceTo at0 with rst := { s.rst with wdt := none, request := some 6 } }) ∧
    (∀ (v : Word), bitAt v.toNat 0 = true → s.up 3 = true → s.fld F.RST_WDT_CFG_EN = 1 →
      Does (.wdtKick .mgmtCore v) s fun t => t =
      { s with rst := { s.rst with wdt := some (s.mclk + max 1 (s.fld F.RST_WDT_CFG_MS) * 250000) } }) ∧
    (∀ (path : Path) (v : Word), path ≠ .mgmtCore → Does (.wdtKick path v) s fun t => t = s) ∧
    (∀ (c : Nat), s.rst.request = some c → c ≠ 1 → Does (.deviceResetAssert none) s fun t => t.rst =
      { levels := s.rst.levels, thermtrip := s.rst.thermtrip, asserted := some (s.mclk, c), ftime := s.fabTime } ∧
      t.hold = [] ∧ t.seq = {} ∧ t.host = {} ∧ t.gw = {} ∧ t.own =
      { owner := s.own.owner, locked := s.own.locked, gen := s.own.gen } ∧ t.tier.near = s.tier.near ∧ t.tier.far =
      s.tier.far ∧ t.nv = { s.nv with pfHold := false, waiting := [], compacting := false } ∧
      t.fld F.RST_STATE_HELD_OFF = 0 ∧ t.fld F.PWR_STATUS_FROM_OFF = s.fld F.PWR_STATUS_FROM_OFF ∧
      t.rd Reg.RST_LAST_CAUSE = s.rd Reg.RST_LAST_CAUSE ∧ ∀ k,
      k ∉ ([Reg.RST_LAST_CAUSE, Reg.RST_LAST_FTIME_LO, Reg.RST_LAST_FTIME_HI, Reg.PWR_STATUS, Reg.RST_STATE] : List Nat) →
      storeRead (regDefault s.fuses) t.regs k = regDefault s.fuses k) ∧
    (∀ (ready : Bool) (a c : Nat), s.rst.request = none → s.rst.asserted = some (a, c) → s.rst.levels = [] →
      Does (.resetReleaseStep ready) s fun t =>
      Becomes { s.advanceTo (a + 320) with rst := { s.rst with asserted := none } } [Reg.RST_STATE, Reg.RST_LAST_CAUSE, Reg.RST_LAST_FTIME_LO, Reg.RST_LAST_FTIME_HI] t ∧
      t.fld F.RST_STATE_STEP = 1 ∧ t.rd Reg.RST_LAST_CAUSE = BitVec.ofNat 32 c ∧ t.rd64 Reg.RST_LAST_FTIME_LO =
      s.rst.ftime % 2 ^ 64) ∧
    (∀ (k : Nat), s.rst.request = none → s.rst.asserted = none → s.fld F.RST_STATE_STEP = k → 1 ≤ k → k < 10 →
      Does (.resetReleaseStep true) s fun t => t.fld F.RST_STATE_STEP = k + 1 ∧ s.mclk + 640 ≤ t.mclk ∧ t.own =
      s.own ∧ (k = 4 → t.fabRunning = true))

/-- Block resets (R353, R354): a fabric port, an Ethernet port, a CXL port, the fabric block and the collective engine; the
release of a block other than the fabric block. -/
def Obligations.BlockResetsResetOneBlock : Prop :=
  ∀ s : State, RegsOk s →
    (∀ (path : Path) (p : Port), s.mayRwl path = true → s.inBlockReset (p.val) = false → s.blockExists (p.val) =
      true → s.rst.request = none → s.rst.asserted = none → s.rst.thermtrip = false → s.up 6 = true →
      Does (.lnkBlockReset path p) s fun t => t.fld (blockBit (p.val)) = 1 ∧ amGet t.rst.blocks (p.val) =
      some (s.mclk + 2500) ∧ t.rd Reg.RST_LAST_CAUSE = BitVec.ofNat 32 (8 + 16 * (p.val)) ∧
      t.rd64 Reg.RST_LAST_FTIME_LO = s.fabTime % 2 ^ 64 ∧ t.own = s.own ∧ t.fld (F.LNK_STATUS_STATE p) = 1) ∧
    (∀ (path : Path) (e : Fin 2) (sending : Bool), s.mayRwl path = true → s.inBlockReset (32 + e.val) = false →
      s.blockExists (32 + e.val) = true → s.rst.request = none → s.rst.asserted = none → s.rst.thermtrip = false →
      s.up 6 = true → Does (.ethBlockReset path e sending) s fun t => t.fld (blockBit (32 + e.val)) = 1 ∧
      amGet t.rst.blocks (32 + e.val) = some (s.mclk + 2500) ∧ t.rd Reg.RST_LAST_CAUSE =
      BitVec.ofNat 32 (8 + 16 * (20 + e.val)) ∧ t.rd64 Reg.RST_LAST_FTIME_LO = s.fabTime % 2 ^ 64 ∧ t.own = s.own ∧
      t.eth = amDel s.eth e ∧ t.fld (F.ETH_TX_DROP_COUNT e) = b2n sending) ∧
    (∀ (path : Path) (q : Fin 4), s.mayRwl path = true → s.inBlockReset (34 + q.val) = false →
      s.blockExists (34 + q.val) = true → s.rst.request = none → s.rst.asserted = none → s.rst.thermtrip = false →
      s.up 6 = true → Does (.ftBlockReset path q) s fun t => t.fld (blockBit (34 + q.val)) = 1 ∧
      amGet t.rst.blocks (34 + q.val) = some (s.mclk + 2500) ∧ t.rd Reg.RST_LAST_CAUSE =
      BitVec.ofNat 32 (8 + 16 * (22 + q.val)) ∧ t.rd64 Reg.RST_LAST_FTIME_LO = s.fabTime % 2 ^ 64 ∧ t.own = s.own ∧
      t.fld (F.FT_PORT_STATE_STATE q) = 2 ∧ t.tier.far = s.tier.far) ∧
    (∀ (path : Path), s.mayRwl path = true → s.inBlockReset (38) = false → s.blockExists (38) = true → s.rst.request =
      none → s.rst.asserted = none → s.rst.thermtrip = false → s.up 6 = true → Does (.fabBlockReset path) s fun t =>
      t.fld (blockBit (38)) = 1 ∧ amGet t.rst.blocks (38) = some (s.mclk + 2500) ∧ t.rd Reg.RST_LAST_CAUSE =
      BitVec.ofNat 32 (8 + 16 * (26)) ∧ t.rd64 Reg.RST_LAST_FTIME_LO = s.fabTime % 2 ^ 64 ∧ t.own = s.own ∧ t.fab =
      {} ∧ t.fabTime = 0 ∧ t.fld F.FAB_STATION_VALID = 0) ∧
    (∀ (path : Path), s.mayRwl path = true → s.inBlockReset (39) = false → s.blockExists (39) = true → s.rst.request =
      none → s.rst.asserted = none → s.rst.thermtrip = false → s.up 6 = true → Does (.colBlockReset path) s fun t =>
      t.fld (blockBit (39)) = 1 ∧ amGet t.rst.blocks (39) = some (s.mclk + 2500) ∧ t.rd Reg.RST_LAST_CAUSE =
      BitVec.ofNat 32 (8 + 16 * (27)) ∧ t.rd64 Reg.RST_LAST_FTIME_LO = s.fabTime % 2 ^ 64 ∧ t.own = s.own ∧
      t.coll.ops = []) ∧
    (∀ (k : Fin 40) (at0 : Nat), k.val ≠ 38 → amGet s.rst.blocks k = some at0 → Does (.blockResetRelease k) s fun t =>
      Becomes { s.advanceTo at0 with rst := { s.rst with blocks := amDel s.rst.blocks k } } [Reg.RST_BLOCK0, Reg.RST_BLOCK1] t ∧
      t.fld (blockBit k) = 0) ∧
    (∀ (at0 : Nat), amGet s.rst.blocks 38 = some at0 → (∀ p < 20, s.linkUp p = false) →
      Does (.blockResetRelease 38) s fun t => t.fld (blockBit 38) = 0 ∧ t.rst.blocks = amDel s.rst.blocks 38 ∧
      t.mclk = max s.mclk at0)

/-- The fault collector (R372-R379, R385-R387): an event of severity 0 or 1 whose source does not count, below the
notification threshold, with room in the log; the expiry of a count window; the expiry of a grace timer, outside the safe
state and in it; the clear of one status bit; the pop of the log and of the first-fault copy. -/
def Obligations.FaultEventsAreLatchedAndCleared : Prop :=
  ∀ s : State, RegsOk s →
    (∀ (src detail kind sev : Nat) (condition : Bool) (attr : Option (Nat × Nat × Nat × Nat)), s.up 5 = true →
      src < 66 → s.fld F.FCU_STATUS_SELF = 0 → s.fld (F.FCU_SRC_CFG_COUNT_MODE src) = 0 →
      s.fld (F.FCU_SRC_CFG_SEV src) = sev → sev < 2 → sev < s.fld F.FCU_IRQ_THRESHOLD → s.fcu.log.length < 256 →
      s.fcu.firstArmed = false → s.fcu.pinMode = 0 → amGet s.fcu.window src = none →
      Does (.sourceEvent [{ source := src, detail := detail, kind := kind, condition := condition, attr := attr }]) s fun t =>
      Becomes { s with fcu := { s.fcu with seq := s.fcu.seq + 1, log := s.fcu.log ++ [{ seq := s.fcu.seq % 65536, source := src, sev := sev, attr := attr.isSome, fn := (attr.map (·.1)).getD 0, ctx := (attr.map (·.2.1)).getD 0, index := (attr.map (·.2.2.1)).getD 0, status := (attr.map (·.2.2.2)).getD 0, kind := kind, detail := detail % 2 ^ 32, ftime := s.fabTime, events := min (s.fld (F.FCU_SRC_STATE_EVENTS src) + 1) 65535 }], window := amPut s.fcu.window src none } } [Reg.FCU_SRC_STATE src, Reg.FCU_STAT_W (src / 32)] t ∧
      t.fld (F.FCU_SRC_STATE_EVENTS src) = min (s.fld (F.FCU_SRC_STATE_EVENTS src) + 1) 65535 ∧
      t.fld (F.FCU_SRC_STATE_PIN src) = b2n condition ∧ t.statBit src = (s.statBit src || decide (sev = 1)) ∧ (sev =
      1 → s.statBit src = false → t.fld (F.FCU_SRC_STATE_LATCHED_SEV src) = 1)) ∧
    (∀ (inputs : List FaultInput), s.up 5 = false → Does (.sourceEvent inputs) s fun t => t = s) ∧
    (∀ (src at0 : Nat), amGet s.fcu.window src = some at0 → src < 66 → Does (.countWindowExpiry src) s fun t =>
      Becomes { s.advanceTo at0 with fcu := { s.fcu with window := amDel s.fcu.window src } } [Reg.FCU_SRC_STATE src] t ∧
      t.fld (F.FCU_SRC_STATE_WIN_COUNT src) = 0 ∧ t.fld (F.FCU_SRC_STATE_EVENTS src) =
      s.fld (F.FCU_SRC_STATE_EVENTS src)) ∧
    (∀ (src at0 : Nat), amGet s.fcu.grace src = some at0 → s.safe = true → Does (.graceExpiry src) s fun t => t =
      { s.advanceTo at0 with fcu := { s.fcu with grace := amDel s.fcu.grace src } }) ∧
    (∀ (src at0 : Nat), amGet s.fcu.grace src = some at0 → src < 66 → s.safe = false →
      3 < s.fld F.FCU_IRQ_THRESHOLD + 1 → s.fcu.log.length < 256 → s.fcu.firstArmed = false →
      Does (.graceExpiry src) s fun t => t.safe = true ∧ t.fld F.FCU_STATUS_SAFE_CAUSE = src ∧ t.hold = s.hold ∧
      ∃ u : State, t = u.enterSafe src ∧ u.fcu.log =
      s.fcu.log ++ [{ seq := s.fcu.seq % 65536, source := src, sev := 3, escalated := true, safe := true, events := s.fld (F.FCU_SRC_STATE_EVENTS src), ftime := (s.advanceTo at0).fabTime }]) ∧
    (∀ (path : Path) (w : Fin 4) (mask : Word) (b : Fin 32), s.mayRwl path = true → s.fld F.FCU_STATUS_SELF = 0 →
      mask.toNat = 2 ^ b.val → (w.val < 2 ∨ b.val < 2 ∧ w.val = 2) → s.fld (F.FCU_SRC_STATE_PIN (32 * w + b)) = 0 →
      s.statBit (32 * w + b) = true → Does (.statusClear path w mask) s fun t =>
      Becomes { s with fcu := { s.fcu with grace := amDel s.fcu.grace (32 * w + b) } } [Reg.FCU_STAT_W w, Reg.FCU_SRC_STATE (32 * w + b)] t ∧
      t.statBit (32 * w + b) = false ∧ t.fld (F.FCU_SRC_STATE_LATCHED_SEV (32 * w + b)) = 0 ∧ ∀ i < 96,
      i ≠ 32 * w.val + b.val → t.statBit i = s.statBit i) ∧
    -- a condition that is still there keeps its bit
    (∀ (path : Path) (w : Fin 4) (mask : Word) (b : Fin 32), s.mayRwl path = true → s.fld F.FCU_STATUS_SELF = 0 →
      mask.toNat = 2 ^ b.val → s.fld (F.FCU_SRC_STATE_PIN (32 * w + b)) = 1 →
      Does (.statusClear path w mask) s fun t => t = s) ∧
    (∀ (path : Path) (v : Word), s.mayRwl path = true → s.fld F.FCU_STATUS_SELF = 0 →
      Does (.fcuLogPop path v) s fun t => t = { s with fcu := { s.fcu with log := s.fcu.log.drop (v.toNat % 512) } }) ∧
    (∀ (path : Path) (v : Word), s.mayRwl path = true → s.fld F.FCU_STATUS_SELF = 0 → bitAt v.toNat 0 = true →
      Does (.fcuFirstClr path v) s fun t =>
      Becomes { s with fcu := { s.fcu with firstArmed := true } } [Reg.FCU_FIRST_INFO, Reg.FCU_FIRST_FTIME_LO, Reg.FCU_FIRST_FTIME_HI] t ∧
      t.fld F.FCU_FIRST_INFO_VALID = 0)

/-- The safe state and the pin (R380-R384): a forced entry with cause 0x7D; the collector's own fault with cause 0x7F, after
which it takes no write; the escalation, its write of FCU_CFG, and the pulses of FAULT_N. -/
def Obligations.SafeStateIsForcedAndEscalates : Prop :=
  ∀ s : State, RegsOk s →
    -- the record of a forced entry has no source bit
    (∀ (path : Path) (v : Word), s.mayRwl path = true → s.fld F.FCU_STATUS_SELF = 0 → bitAt v.toNat 0 = true →
      s.safe = false → Does (.fcuForceSafe path v) s fun t => t.safe = true ∧ t.fld F.FCU_STATUS_SAFE_CAUSE = 0x7D ∧
      t.hold = s.hold ∧ t.own = s.own ∧ t.fcu.safeAt = some s.mclk) ∧
    (s.safe = false → Does (.collectorSelfFault) s fun t => t.safe = true ∧ t.fld F.FCU_STATUS_SAFE_CAUSE = 0x7F ∧
      t.hold = s.hold ∧ t.own = s.own ∧ t.fcu.safeAt = some s.mclk ∧ t.fld F.FCU_STATUS_SELF = 1 ∧ t.fcu.log =
      s.fcu.log) ∧
    (s.safe = true → Does (.collectorSelfFault) s fun t => Becomes s [Reg.FCU_STATUS] t ∧ t.fld F.FCU_STATUS_SELF =
      1 ∧ t.fld F.FCU_STATUS_SAFE_CAUSE = s.fld F.FCU_STATUS_SAFE_CAUSE ∧ t.safe = true) ∧
    (∀ (at0 : Nat), s.fcu.escDeadline = some at0 → s.rst.request = none → s.rst.asserted = none → s.rst.thermtrip =
      false → Does (.faultEsc) s fun t => t =
      { s.advanceTo at0 with fcu := { s.fcu with escDeadline := none }, rst := { s.rst with request := some 7 } }) ∧
    (∀ (path : Path) (v : Word), s.mayRwl path = true → s.fld F.FCU_STATUS_SELF = 0 → s.fcu.safeAt = none →
      Does (.fcuCfgWrite path v) s fun t => t = s.setRd Reg.FCU_CFG v) ∧
    (∀ (path : Path) (v : Word) (a ms : Nat), s.mayRwl path = true → s.fld F.FCU_STATUS_SELF = 0 → s.fcu.safeAt =
      some a → v.toNat / 2 ^ 16 = ms → ms ≠ 0 → s.mclk < a + ms * 250000 → Does (.fcuCfgWrite path v) s fun t => t =
      { s.setRd Reg.FCU_CFG v with fcu := { s.fcu with escDeadline := some (a + ms * 250000) } }) ∧
    (∀ (path : Path) (v : Word) (a : Nat), s.mayRwl path = true → s.fld F.FCU_STATUS_SELF = 0 → s.fcu.safeAt =
      some a → v.toNat < 2 ^ 16 → Does (.fcuCfgWrite path v) s fun t => t =
      { s.setRd Reg.FCU_CFG v with fcu := { s.fcu with escDeadline := none } }) ∧
    (∀ (path : Path) (v : Word), s.mayRwl path = true → s.fld F.FCU_STATUS_SELF = 1 →
      Does (.fcuCfgWrite path v) s fun t => t = s) ∧
    (∀ (a z : Nat), s.fcu.pulse = some (a, z) → s.fcu.pulseMore = false → Does (.faultPulseEnd) s fun t => t =
      { s.advanceTo z with fcu := { s.fcu with pulse := none, pinMode := s.fld F.FCU_PIN_MODE } }) ∧
    (∀ (a z m : Nat), s.fcu.pulse = some (a, z) → s.fcu.pulseMore = true → m = max s.mclk z + 2500 →
      Does (.faultPulseEnd) s fun t => t =
      { s.advanceTo z with fcu := { s.fcu with pulse := some (m, m + max 10 (s.fld F.FCU_PIN_PULSE_US) * 250), pulseMore := false } })

/-- Recovery of a parcel (R391-R398): the ring and the expiry of a bell; FENCE and RESET commands; the end of the fence where
no reset, no cast-off and no relief binding is involved; the release of the reset, the reload of the image and a benchmark
run that finds nothing. -/
def Obligations.ParcelsFenceResetAndReturn : Prop :=
  ∀ s : State, RegsOk s →
    (∀ (n : Parcel) (h : Fin 4) (v : Word), bitAt v.toNat h = true → s.bellsRun n = true →
      Does (.bellRing (.hart n h) n v) s fun t =>
      Becomes { s with rcv := { s.rcv with bells := amSet s.rcv.bells (4 * n + h) (s.mclk + 2500000) } } [Reg.REC_BELL_CFG n] t ∧
      bitAt (t.fld (F.REC_BELL_CFG_ARMED n)) h = true) ∧
    (∀ (path : Path) (n : Parcel) (v : Word), (∀ h : Fin 4, path ≠ .hart n h) → Does (.bellRing path n v) s fun t =>
      t = s) ∧
    (∀ (n : Parcel) (at0 : Nat) (hs : List Nat), (((List.range 4).filterMap fun h =>
      amGet s.rcv.bells (4 * n + h)).min? = some at0) → hs = (s.advanceTo at0).expired n →
      Does (.bellExpiry n []) s fun t => ∃ u : State, t = (u.raise (24 + n) 0 (hs.headD 0) none).bellReaction n ∧
      u.hold = s.hold ∧ u.mclk = max s.mclk at0 ∧ u.rcv.bells = hs.foldl (fun b h =>
      amDel b (4 * n + h)) s.rcv.bells ∧ u.fld (F.REC_PARCEL_STATE_HUNG n) =
      s.fld (F.REC_PARCEL_STATE_HUNG n) ||| maskOf hs ∧ u.fld F.REC_EVENT_HANG = 1 ∧ ∀ h ∈ hs,
      bitAt (u.fld (F.REC_BELL_CFG_ARMED n)) h = false) ∧
    (∀ (path : Path) (n : Parcel), s.mayRwl path = true → s.parcelState n = 0 → s.benchRuns n = false →
      Does (.parcelFence path n) s fun t => t.fld (F.REC_PARCEL_STATE_STATE n) = 1 ∧
      t.fld (F.REC_PARCEL_STATE_CAUSE n) = 1 ∧ t.fld (F.REC_BELL_CFG_ARMED n) = 0 ∧ t.hold = s.hold ∧ t.own = s.own ∧
      ∀ d ∈ t.seq.descs, ∀ p ∈ d.parts, (p.parcel = n.val ∨ p.adm = n.val) → p.st = .running ∨ p.isOver = true) ∧
    (∀ (path : Path) (n : Parcel), s.mayRwl path = true → s.parcelState n = 0 → s.benchRuns n = false → s.safe =
      false → Does (.parcelReset path n) s fun t => t.fld (F.REC_PARCEL_STATE_STATE n) = 1 ∧
      t.fld (F.REC_PARCEL_STATE_CAUSE n) = 1 ∧ (t.rt n).toReset = true ∧ (t.rt n).selfCaused = false ∧ t.hold =
      s.hold ∧ t.own = s.own) ∧
    (∀ (path : Path) (n : Parcel), s.mayRwl path = true → s.parcelState n = 2 → s.safe = false → (s.rt n).selfCaused =
      false → Does (.parcelReset path n) s fun t => t.fld (F.REC_PARCEL_STATE_STATE n) = 3 ∧ t.rd Reg.RST_LAST_CAUSE =
      BitVec.ofNat 32 (9 + 16 * n) ∧ (t.rt n).toReset = false ∧ (t.vu n).run = none ∧ t.kvp = amDel s.kvp n ∧ t.hold =
      s.hold ∧ t.tier.near = s.tier.near ∧ t.seq = s.seq) ∧
    (∀ (n : Parcel), s.parcelState n = 1 → NoReduce s → (∀ e ∈ s.rcv.binds, e.2.st ≠ .taking ∧ e.2.orders = []) →
      (s.rt n).toReset = false → (s.rt n).castOff = false → Does (.fenceComplete n) s fun t =>
      t.fld (F.REC_PARCEL_STATE_STATE n) = 2 ∧ (t.vu n).run = none ∧ t.kvp = amDel s.kvp n ∧ t.hold = s.hold ∧
      t.seq.reqs = s.seq.reqs.filter (fun r => !(r.parcel == n.val)) ∧ ∀ d ∈ t.seq.descs, ∀ p ∈ d.parts, p.parcel =
      n.val → p.isOver = true) ∧
    (∀ (n : Parcel), s.parcelState n = 3 → Does (.parcelResetRelease n) s fun t =>
      Becomes s [Reg.REC_PARCEL_STATE n, Reg.MT_STATUS n, Reg.VU_STATUS n] t ∧ t.fld (F.REC_PARCEL_STATE_STATE n) =
      4 ∧ t.fld (F.REC_PARCEL_STATE_HUNG n) = 0) ∧
    (∀ (n : Parcel) (r : ParcelRt) (img : List Byte), s.parcelState n = 4 → r = s.rt n → r.fromReset = true →
      r.nearReady = true → r.imageLoaded = false → s.bru.copy = some img → Does (.seqImageReload n) s fun t =>
      Becomes { s with rcv := { s.rcv with rt := amSet s.rcv.rt n { r with imageLoaded := true, running := true } }, bru := { s.bru with code := amSet s.bru.code n img } } [Reg.BRU_PARCEL n] t ∧
      t.fld (F.BRU_PARCEL_LOAD n) = 1) ∧
    (∀ (n : Parcel), s.parcelState n = 4 → (s.rt n).running = true → s.safe = false → (s.rt n).safeHold = false →
      (s.rt n).castOff = false → s.gw.waiting = [] → (∀ e ∈ s.gw.reqs, e.1 / 64 ≠ n.val) →
      Does (.parcelBenchDone n {}) s fun t =>
      Becomes { s with rcv := { s.rcv with rt := amSet s.rcv.rt n { s.rt n with running := false, fromReset := false } } } [Reg.REC_PARCEL_STATE n, Reg.REC_RESETS n, Reg.TOL_BUCKET n, Reg.BRU_PARCEL n] t ∧
      t.fld (F.REC_PARCEL_STATE_STATE n) = 0 ∧ t.fld (F.BRU_PARCEL_BENCH n) = 1 ∧ t.fld (F.BRU_PARCEL_ENGINE n) = 0 ∧
      t.fld (F.REC_RESETS_COUNT n) = (s.fld (F.REC_RESETS_COUNT n) + 1) % 2 ^ 32 ∧ t.fld (F.TOL_BUCKET_UJ n) = 0)

/-- Relief bindings (R399, R404, R410): ARM_ACTIVE waits for the answer of a BEACON of each parcel, for 10 ms; ARM_RELIEF
takes the next generation; DISARM frees the binding; CASTOFF fences the parcels and tells the relief; a SURVEY and its
result; RESULT 3 where a command does not apply. -/
def Obligations.ReliefBindingsAreArmedAndDisarmed : Prop :=
  ∀ s : State, RegsOk s →
    (∀ (path : Path) (i : Nat), s.mayRwl path = true → i = s.rlfSel path → s.armable i = true → (s.bind i).arming =
      none → (∀ e ∈ s.rcv.binds, e.1 = i) → Does (.armActive path) s fun t => ∃ u : State, t = u.sendBeacons i ∧
      Becomes { s with rcv := { s.rcv with binds := amSet s.rcv.binds i { arming := some (path, s.mclk + 2500000) } } } [regKey (pathNo path) Reg.REC_RLF_RESULT] u ∧
      u.fldB (pathNo path) F.REC_RLF_RESULT_CODE = 2) ∧
    (∀ (i : Fin 16) (path : Path) (at0 : Nat), (s.bind i).arming = some (path, at0) →
      Does (.armActiveTimeout i) s fun t =>
      Becomes { s.advanceTo at0 with rcv := { s.rcv with binds := amSet s.rcv.binds i { s.bind i with arming := none } } } [regKey (pathNo path) Reg.REC_RLF_RESULT] t ∧
      t.fldB (pathNo path) F.REC_RLF_RESULT_CODE = 3) ∧
    (∀ (path : Path) (i : Nat), s.mayRwl path = true → i = s.rlfSel path → s.armable i = true → (s.bind i).arming =
      none → (∀ e ∈ s.rcv.binds, e.1 = i) → Does (.armRelief path) s fun t =>
      Becomes { s with rcv := { s.rcv with binds := amSet s.rcv.binds i { st := .reliefArmed, bgen := ((s.bind i).bgen + 1) % 256 } } } [regKey (pathNo path) Reg.REC_RLF_RESULT] t ∧
      t.fldB (pathNo path) F.REC_RLF_RESULT_CODE = 1) ∧
    (∀ (path : Path) (i : Nat), s.mayRwl path = true → i = s.rlfSel path → (s.bind i).st ≠ .activeArmed →
      (s.bind i).surveying = none → (s.bind i).arming = none → Does (.disarm path) s fun t =>
      Becomes { s with rcv := { s.rcv with binds := amSet s.rcv.binds i { bgen := (s.bind i).bgen } } } [regKey (pathNo path) Reg.REC_RLF_RESULT] t ∧
      t.fldB (pathNo path) F.REC_RLF_RESULT_CODE = 1) ∧
    (∀ (path : Path) (i : Nat), s.mayRwl path = true → i = s.rlfSel path → (s.bind i).st = .activeArmed → i < 16 →
      Does (.castoff path) s fun t => ∃ (u : State) (p : Packet), t = (u.sendAny p).rlfResult path 1 ∧ p.ptype =
      0x23 ∧ p.opx = 1 ∧ p.dst = BitVec.ofNat 24 (s.bindPeer i) ∧ p.jobTag = BitVec.ofNat 32 (s.bindTag i) ∧
      (u.bind i).st = .cast ∧ (u.bind i).cause = 3 ∧ u.fld F.REC_EVENT_CASTOFF_SENT = 1 ∧ u.hold = s.hold ∧ ∀ n < 12,
      bitAt (s.bindLocal i) n = true → s.parcelState n = 0 → u.fld (F.REC_PARCEL_STATE_STATE n) = 1 ∧
      u.fld (F.REC_PARCEL_STATE_CAUSE n) = 6) ∧
    (∀ (path : Path) (i : Nat), s.mayRwl path = true → i = s.rlfSel path → (s.bind i).st = .reliefArmed →
      (s.bind i).surveying = none → Does (.survey path) s fun t =>
      Becomes { s with rcv := { s.rcv with binds := amSet s.rcv.binds i { s.bind i with surveying := some path } } } [regKey (entryBank i) Reg.REC_RLF_SURVEY, regKey (pathNo path) Reg.REC_RLF_RESULT] t ∧
      t.fldB (pathNo path) F.REC_RLF_RESULT_CODE = 2 ∧ t.rdB (entryBank i) Reg.REC_RLF_SURVEY = 0) ∧
    (∀ (i : Fin 16) (engines paths : Bool) (path : Path) (ue : Nat), (s.bind i).surveying = some path → ue =
      min (s.badMirrorWords i) 65535 → Does (.surveyDone i engines [] paths) s fun t =>
      Becomes { s with rcv := { s.rcv with binds := amSet s.rcv.binds i { s.bind i with surveying := none } } } [regKey (entryBank i) Reg.REC_RLF_SURVEY, regKey (pathNo path) Reg.REC_RLF_RESULT, Reg.REC_EVENT] t ∧
      t.fldB (pathNo path) F.REC_RLF_RESULT_CODE = 1 ∧ t.fld F.REC_EVENT_SURVEY_DONE = 1 ∧
      t.rdB (entryBank i) Reg.REC_RLF_SURVEY =
      BitVec.ofNat 32 (1 + 2 * b2n engines + 4 * b2n (ue == 0) + 8 * b2n paths + 65536 * ue)) ∧
    (∀ (path : Path), s.mayRwl path = true → (s.bind (s.rlfSel path)).st = .taking → Does (.armActive path) s fun t =>
      t = s.setFldB (pathNo path) F.REC_RLF_RESULT_CODE 3) ∧
    (∀ (path : Path), s.mayRwl path = true → (s.bind (s.rlfSel path)).st = .taking → Does (.armRelief path) s fun t =>
      t = s.setFldB (pathNo path) F.REC_RLF_RESULT_CODE 3) ∧
    (∀ (path : Path), s.mayRwl path = true → (s.bind (s.rlfSel path)).st = .reliefArmed →
      Does (.castoff path) s fun t => t = s.setFldB (pathNo path) F.REC_RLF_RESULT_CODE 3) ∧
    (∀ (path : Path), s.mayRwl path = true → (s.bind (s.rlfSel path)).st = .taken → Does (.survey path) s fun t => t =
      s.setFldB (pathNo path) F.REC_RLF_RESULT_CODE 3)

/-- The journal (R401-R403): a TOKEN record puts its tokens into the pacing area; a KV record writes the mirror, or the
length of a stream; a BEACON; a record out of order or of another generation; at the active side the beacons, the
acknowledgement that arms or frees, the repetition after 100 us and RELIEF_LOST after SILENCE_MS. -/
def Obligations.JournalKeepsTheReliefCurrent : Prop :=
  ∀ s : State, RegsOk s →
    (∀ (p : Packet) (i n h : Nat) (g : List Nat), s.fld F.PWR_STATUS_STATE = 0 → (p.ptype = 0x22) →
      s.reliefBinding p = some (i, n) → p.txn.toNat % 256 = (s.bind i).bgen → (s.bind i).st = .reliefArmed →
      s.inService n = true → p.addr.toNat = ((s.bind i).stream n).next → s.reliefHome i = some h → (g =
      (s.bind i).tokens ++ (List.range (min (leAt p.payload 2 1) 16)).map fun k => leAt p.payload (32 + 4 * k) 4) →
      pEgrTokens (s.reliefParams i) ≠ 0 → (∀ k < min (leAt p.payload 2 1) 16, s.tierStatus 0 ⟨s.reliefFn i, none,
      false⟩ (pEgrBase (s.reliefParams i) + 4 * ((leAt p.payload 8 4 + k) % pEgrTokens (s.reliefParams i))) 4 true =
      Status.OK ∧
      s.tierClearing 0 (pEgrBase (s.reliefParams i) + 4 * ((leAt p.payload 8 4 + k) % pEgrTokens (s.reliefParams i))) 4 =
      false ∧
      s.poisonedIn (pEgrBase (s.reliefParams i) + 4 * ((leAt p.payload 8 4 + k) % pEgrTokens (s.reliefParams i))) 4 =
      false) → Does (.tokenRecord p) s fun t => ∃ u : State, t = u.ackJournal i n ∧ u.hold =
      writeRows s.hold ((List.range (min (leAt p.payload 2 1) 16)).map fun k =>
      (pEgrBase (s.reliefParams i) + 4 * ((leAt p.payload 8 4 + k) % pEgrTokens (s.reliefParams i)),
      sliceB p.payload (32 + 4 * k) 4)) ∧ u.regs = s.regs ∧ u.bind i =
      BindSt.setStream { s.bind i with peerNum := p.srcCtx.toNat, silenceDeadline := some (s.mclk + max 1 (s.fld F.REC_CFG_SILENCE_MS) * 250000), tokRec := some p.payload, consumed := some (leAt p.payload 16 4), tokens := g.drop (g.length - 32), lastEpoch := newestEpoch (s.bind i).lastEpoch (leAt p.payload 0 1) } { (s.bind i).stream n with next := (((s.bind i).stream n).next + 1) % 2 ^ 32 }) ∧
    (∀ (p : Packet) (i n a : Nat), s.fld F.PWR_STATUS_STATE = 0 → (p.ptype = 0x22) → s.reliefBinding p = some (i, n) →
      p.txn.toNat % 256 = (s.bind i).bgen → (s.bind i).st = .reliefArmed → s.inService n = true → p.addr.toNat =
      ((s.bind i).stream n).next → p.payload.length ≤ 32 → leAt p.payload 10 2 ≠ 0xFFFF → a =
      n * 2 ^ 28 + s.fldB (entryBank i) F.REC_RLF_STREAMS_BASE % 2 ^ 28 + 64 * leAt p.payload 10 2 + 4 →
      s.tierStatus 0 ⟨s.reliefFn i, none, false⟩ (a) 4 true = Status.OK ∧ s.tierClearing 0 (a) 4 = false →
      s.poisonedIn a 4 = false → Does (.kvRecord p) s fun t => ∃ u : State, t = u.ackJournal i n ∧ u.hold =
      memWrite s.hold a (leBytes 4 (leAt p.payload 12 4)) ∧ u.tier = s.tier ∧ u.regs = s.regs ∧
      ((u.bind i).stream n).next = (((s.bind i).stream n).next + 1) % 2 ^ 32 ∧ (u.bind i).mirrorBad =
      (s.bind i).mirrorBad) ∧
    (∀ (p : Packet) (i n m : Nat), s.fld F.PWR_STATUS_STATE = 0 → (p.ptype = 0x22) → s.reliefBinding p = some (i, n) →
      p.txn.toNat % 256 = (s.bind i).bgen → (s.bind i).st = .reliefArmed → s.inService n = true → p.addr.toNat =
      ((s.bind i).stream n).next → 32 < p.payload.length → leAt p.payload 10 2 = 0xFFFF →
      s.mirrorAddr i n (leAt p.payload 0 8) (p.payload.length - 32) = some m → s.tierStatus 1 ⟨s.reliefFn i, none,
      false⟩ (m) (p.payload.length - 32) true = Status.OK ∧ s.tierClearing 1 (m) (p.payload.length - 32) = false →
      (∀ w ∈ s.tier.nearPoison, w + 64 ≤ m ∨ m + (p.payload.length - 32) ≤ w) → Does (.kvRecord p) s fun t =>
      ∃ u : State, t = u.ackJournal i n ∧ u.tier =
      { s.tier with near := memWrite s.tier.near m (p.payload.drop 32) } ∧ u.hold = s.hold ∧ u.regs = s.regs ∧
      ((u.bind i).stream n).next = (((s.bind i).stream n).next + 1) % 2 ^ 32 ∧ (u.bind i).mirrorBad =
      (s.bind i).mirrorBad) ∧
    -- a record ahead of the next one is dropped, one of another generation is counted
    (∀ (p : Packet) (i n d : Nat), s.fld F.PWR_STATUS_STATE = 0 → (p.ptype = 0x22) → s.reliefBinding p = some (i, n) →
      p.txn.toNat % 256 = (s.bind i).bgen → (s.bind i).st = .reliefArmed → s.inService n = true → d =
      (p.addr.toNat + 2 ^ 32 - ((s.bind i).stream n).next) % 2 ^ 32 → d ≠ 0 → d < 2 ^ 31 →
      Does (.kvRecord p) s fun t => t =
      { s with inbox := takeArrival s.inbox p, rcv := { s.rcv with binds := amSet s.rcv.binds i { s.bind i with peerNum := p.srcCtx.toNat, silenceDeadline := some (s.mclk + max 1 (s.fld F.REC_CFG_SILENCE_MS) * 250000) } } }) ∧
    (∀ (p : Packet) (i n : Nat), s.fld F.PWR_STATUS_STATE = 0 → (p.ptype = 0x22) → s.reliefBinding p = some (i, n) →
      p.txn.toNat % 256 ≠ (s.bind i).bgen → Does (.tokenRecord p) s fun t =>
      Becomes { s with inbox := takeArrival s.inbox p } [Reg.REC_STALE_COUNT, Reg.REC_EVENT] t ∧
      t.fld F.REC_STALE_COUNT_COUNT = min (s.fld F.REC_STALE_COUNT_COUNT + 1) (2 ^ 32 - 1) ∧
      t.fld F.REC_EVENT_STALE_JOURNAL = 1) ∧
    (∀ (p : Packet) (i n : Nat), s.fld F.PWR_STATUS_STATE = 0 → (p.ptype = 0x22) → s.reliefBinding p = some (i, n) →
      p.txn.toNat % 256 = (s.bind i).bgen → (s.bind i).st = .reliefArmed → s.inService n = true →
      (s.reliefHome i ≠ some n ∨ (s.bind i).consumed = none) → Does (.beaconRecord p) s fun t => t =
      ({ s with inbox := takeArrival s.inbox p, rcv := { s.rcv with binds := amSet s.rcv.binds i { (s.bind i).setStream { (s.bind i).stream n with joined := bitAt (leAt p.payload 1 1) 1 } with peerNum := p.srcCtx.toNat, silenceDeadline := some (s.mclk + max 1 (s.fld F.REC_CFG_SILENCE_MS) * 250000), lastEpoch := newestEpoch (s.bind i).lastEpoch (leAt p.payload 0 1) } } } : State).ackJournal i n) ∧
    (∀ (i : Fin 16), (s.bind i).st = .activeArmed → Does (.beaconSend i) s fun t => t =
      (setBits (s.bindLocal i) 12).foldl (fun u n =>
      u.sendAny (u.journalPacket i n 3 (((u.bind i).stream n).next + 2 ^ 32 - 1) (u.beaconBody i n))) s) ∧
    (∀ (i : Fin 16), (s.bind i).st ≠ .activeArmed → Does (.beaconSend i) s fun t => t = s) ∧
    (∀ (p : Packet) (i n : Nat) (path : Path) (at0 : Nat), s.fld F.PWR_STATUS_STATE = 0 → p.ptype = 0x22 →
      p.dstCtx.toNat < 16 → i = p.dstCtx.toNat → s.bindTag i = p.jobTag.toNat → n = parcelOf p.dst.toNat →
      bitAt (s.bindLocal i) n = true → s.pairStation i n = p.src.toNat → (s.bind i).arming = some (path, at0) →
      Does (.journalAck p) s fun t =>
      Becomes { s with inbox := takeArrival s.inbox p, rcv := { s.rcv with binds := amSet s.rcv.binds i { st := .activeArmed, bgen := p.txn.toNat % 256, peerNum := p.srcCtx.toNat } } } [regKey (pathNo path) Reg.REC_RLF_RESULT] t ∧
      t.fldB (pathNo path) F.REC_RLF_RESULT_CODE = 1) ∧
    (∀ (p : Packet) (i n : Nat), s.fld F.PWR_STATUS_STATE = 0 → p.ptype = 0x22 → p.dstCtx.toNat < 16 → i =
      p.dstCtx.toNat → s.bindTag i = p.jobTag.toNat → n = parcelOf p.dst.toNat → bitAt (s.bindLocal i) n = true →
      s.pairStation i n = p.src.toNat → (s.bind i).st = .activeArmed → (s.bind i).arming = none → p.txn.toNat % 256 =
      (s.bind i).bgen → ((s.bind i).stream n).unacked ≠ [] → (∀ r ∈ ((s.bind i).stream n).unacked,
      ackedBy r.jseq p.addr.toNat = true) → Does (.journalAck p) s fun t => ∃ u : State, t =
      u.gwJournalAck n (s.bindTag i) (some p.addr.toNat) ∧ u =
      { s with inbox := takeArrival s.inbox p, rcv := { s.rcv with binds := amSet s.rcv.binds i ((s.bind i).setStream { (s.bind i).stream n with unacked := [], progressAt := s.mclk }) } }) ∧
    (∀ (i : Fin 16) (n : Parcel) (j : JStream), (s.bind i).st = .activeArmed → j = (s.bind i).stream n →
      j.unacked ≠ [] → Does (.journalResend i n) s fun t => t = (j.unacked.take 64).foldl (fun u r =>
      u.sendAny (u.journalPacket i n r.kind r.jseq r.body)) { s.advanceTo (j.progressAt + 25000) with rcv := { s.rcv with binds := amSet s.rcv.binds i ((s.bind i).setStream { j with progressAt := max s.mclk (j.progressAt + 25000) }) } }) ∧
    (∀ (i : Fin 16) (m : Nat), (s.bind i).st = .activeArmed → (s.bind i).oldestMade = some m →
      Does (.reliefLost i) s fun t => ∃ u : State, t = u.withoutRelief i ∧
      Becomes { s.advanceTo (m + max 1 (s.fld F.REC_CFG_SILENCE_MS) * 250000) with rcv := { s.rcv with binds := amSet s.rcv.binds i { s.bind i with st := .reliefLost, streams := (s.bind i).streams.map fun j => { j with unacked := [] } } } } [Reg.REC_EVENT] u ∧
      u.fld F.REC_EVENT_RELIEF_LOST = 1)

/-- The takeover (R404-R408): silence, which sends fence orders; a CASTOFF of the current generation, or a stale one; a
FENCE_ORDER at the active side; its answers and their limit; TAKEN at the home and its answer; the takeover mark, and the
limit of the chain. -/
def Obligations.TakeoversGoThroughTheirSteps : Prop :=
  ∀ s : State, RegsOk s →
    (∀ (i : Fin 16) (at0 : Nat), (s.bind i).st = .reliefArmed → (s.bind i).silenceDeadline = some at0 →
      (s.bind i).surveying = none → (∀ e ∈ s.rcv.binds, e.1 = i.val ∨ e.2.st ≠ .reliefArmed) →
      s.activeStations i ≠ [] → Does (.silence i) s fun t => ∃ u : State, t = (s.activeStations i).foldl (fun v d =>
      v.sendEverywhere (v.castPacket i 2 d (v.takeoverPayload i))) u ∧ u =
      { s.advanceTo at0 with rcv := { s.rcv with binds := amSet s.rcv.binds i { s.bind i with st := .taking, bgen := ((s.bind i).bgen + 1) % 256, cause := 4, trigAt := max s.mclk at0, silenceDeadline := none, step := 2, awaitFence := s.activeStations i, stepDeadline := some (max s.mclk at0 + max 1 (s.fld F.REC_CFG_FENCE_WAIT_MS) * 250000) } } }) ∧
    (∀ (p : Packet) (i : Nat), s.fld F.PWR_STATUS_STATE = 0 → p.ptype = 0x23 → s.castBinding p [.reliefArmed] =
      some i → leAt p.payload 0 1 = (s.bind i).bgen → leAt p.payload 1 1 ≠ 4 → (s.bind i).surveying = none →
      (∀ e ∈ s.rcv.binds, e.1 = i ∨ e.2.st ≠ .reliefArmed) → Does (.castoffReceive p) s fun t => ∃ u : State, t =
      u.takeHome i ∧
      Becomes { s with inbox := takeArrival s.inbox p, rcv := { s.rcv with binds := amSet s.rcv.binds i { s.bind i with st := .taking, bgen := ((s.bind i).bgen + 1) % 256, cause := leAt p.payload 1 1, trigAt := s.mclk, silenceDeadline := none } } } [Reg.REC_EVENT] u ∧
      u.fld F.REC_EVENT_CASTOFF_RCVD = 1) ∧
    (∀ (p : Packet), s.fld F.PWR_STATUS_STATE = 0 → p.ptype = 0x23 → s.castBinding p [.reliefArmed] = none →
      s.castBinding p [.taking] = none → Does (.castoffReceive p) s fun t =>
      Becomes { s with inbox := takeArrival s.inbox p } [Reg.REC_STALE_COUNT, Reg.REC_EVENT] t ∧
      t.fld F.REC_STALE_COUNT_COUNT = min (s.fld F.REC_STALE_COUNT_COUNT + 1) (2 ^ 32 - 1) ∧
      t.fld F.REC_EVENT_STALE_JOURNAL = 1) ∧
    (∀ (p : Packet) (i : Nat), s.fld F.PWR_STATUS_STATE = 0 → p.ptype = 0x23 →
      s.castBinding p [.activeArmed, .reliefLost, .cast] = some i → olderGen (s.bind i).bgen (leAt p.payload 0 1) =
      true → (s.bind i).st ≠ .cast → Does (.fenceOrder p) s fun t => ∃ u : State, t = u.answerOrders ∧ (u.bind i).st =
      .cast ∧ (u.bind i).cause = 5 ∧ (u.bind i).orders = (s.bind i).orders ++ [p] ∧
      u.fld F.REC_EVENT_FENCE_ORDER_RCVD = 1 ∧ u.hold = s.hold ∧ ∀ n < 12, bitAt (s.bindLocal i) n = true →
      s.parcelState n = 0 → u.fld (F.REC_PARCEL_STATE_STATE n) = 1 ∧ u.fld (F.REC_PARCEL_STATE_CAUSE n) = 4) ∧
    (∀ (p : Packet) (i : Nat), s.fld F.PWR_STATUS_STATE = 0 → p.ptype = 0x23 →
      s.castBinding p [.activeArmed, .reliefLost, .cast] = some i → olderGen (s.bind i).bgen (leAt p.payload 0 1) =
      false → Does (.fenceOrder p) s fun t => t = { s with inbox := takeArrival s.inbox p }) ∧
    (∀ (p : Packet) (i : Nat) (l : List Nat), s.fld F.PWR_STATUS_STATE = 0 → p.ptype = 0x23 → s.takingBinding p 2 =
      some i → l = setDel (s.bind i).awaitFence p.src.toNat → l ≠ [] → Does (.fenceAck p) s fun t => t =
      { s with inbox := takeArrival s.inbox p, rcv := { s.rcv with binds := amSet s.rcv.binds i { s.bind i with awaitFence := l } } }) ∧
    (∀ (p : Packet) (i : Nat), s.fld F.PWR_STATUS_STATE = 0 → p.ptype = 0x23 → s.takingBinding p 2 = some i →
      setDel (s.bind i).awaitFence p.src.toNat = [] → Does (.fenceAck p) s fun t => t =
      ({ s with inbox := takeArrival s.inbox p, rcv := { s.rcv with binds := amSet s.rcv.binds i { s.bind i with awaitFence := [] } } } : State).takeHome i) ∧
    (∀ (i : Fin 16) (at0 : Nat), (s.bind i).st = .taking → (s.bind i).step = 2 → (s.bind i).stepDeadline = some at0 →
      Does (.fenceWaitExpiry i) s fun t => t = (s.advanceTo at0).takeHome i) ∧
    (∀ (i : Fin 16) (at0 : Nat), (s.bind i).st = .taking → (s.bind i).step = 3 → (s.bind i).stepDeadline = some at0 →
      Does (.fenceWaitExpiry i) s fun t => ∃ u : State, t = u.raise ((setBits (s.bindLocal i) 12).headD 0) i 0 none ∧
      Becomes { s.advanceTo at0 with rcv := { s.rcv with binds := amSet s.rcv.binds i { s.bind i with st := .failed, step := 0, stepDeadline := none } } } [Reg.REC_EVENT] u ∧
      u.fld F.REC_EVENT_TAKEOVER_FAILED = 1) ∧
    (∀ (p : Packet) (n k : Nat) (r : GwReq), s.fld F.PWR_STATUS_STATE = 0 → p.ptype = 0x23 → n =
      parcelOf p.dst.toNat → k = gwKey n (leAt p.payload 2 1 % 64) → s.gwReq k = some r → s.ctxTag r.ctx =
      p.jobTag.toNat → leAt p.payload 11 1 % 2 = 1 → r.openEpoch = 0 → Does (.taken p) s fun t => t =
      (((({ s with inbox := takeArrival s.inbox p, gw := { s.gw with reqs := amSet s.gw.reqs k { r with gen := (r.gen + 1) % 256, members := r.members.filter fun m => !(m.station / 256 == leAt p.payload 8 3 / 256 && bitAt (leAt p.payload 12 4 % 4096) (parcelOf m.station)) } } } : State).discardDone k).closeStep k).sendAny { p with dst := p.src, src := p.dst, opx := 5, dstCtx := p.srcCtx, srcCtx := p.dstCtx, hops := 0 })) ∧
    (∀ (p : Packet) (i : Nat), s.fld F.PWR_STATUS_STATE = 0 → p.ptype = 0x23 → s.takingBinding p 3 = some i →
      (s.ctx (s.fldB (entryBank i) F.REC_RLF_CTX_CONTEXT)).st ≠ .stopped → Does (.takenAck p) s fun t => t =
      { s with inbox := takeArrival s.inbox p, rcv := { s.rcv with binds := amSet s.rcv.binds i { s.bind i with step := 4, stepDeadline := some (s.mclk + max 1 (s.fldB (entryBank i) F.REC_RLF_CTX_CHAIN_MS) * 250000) } } }) ∧
    (∀ (i : Fin 16) (m : Mark), (s.bind i).st = .taking → (s.bind i).step = 4 →
      s.mark (s.ctxHome (s.fldB (entryBank i) F.REC_RLF_CTX_CONTEXT)) (s.fldB (entryBank i) F.REC_RLF_CTX_CONTEXT) (s.fldB (entryBank i) F.REC_RLF_CTX_TK_MARK) =
      some m → m.error = false →
      0 ≤ toSigned 32 (m.count.toNat + 2 ^ 32 - s.fldB (entryBank i) F.REC_RLF_TK_VALUE_VALUE) →
      Does (.takeoverDone i) s fun t =>
      Becomes { s with rcv := { s.rcv with binds := amSet s.rcv.binds i { s.bind i with st := .taken, step := 0, stepDeadline := none } } } [Reg.REC_EVENT, regKey (entryBank i) Reg.REC_RLF_TAKEOVER_US] t ∧
      t.fld F.REC_EVENT_TAKEOVER_DONE = 1 ∧ t.rdB (entryBank i) Reg.REC_RLF_TAKEOVER_US =
      BitVec.ofNat 32 ((s.mclk - (s.bind i).trigAt) / 250)) ∧
    (∀ (i : Fin 16) (m : Mark), (s.bind i).st = .taking → (s.bind i).step = 4 →
      s.mark (s.ctxHome (s.fldB (entryBank i) F.REC_RLF_CTX_CONTEXT)) (s.fldB (entryBank i) F.REC_RLF_CTX_CONTEXT) (s.fldB (entryBank i) F.REC_RLF_CTX_TK_MARK) =
      some m → m.error = false →
      toSigned 32 (m.count.toNat + 2 ^ 32 - s.fldB (entryBank i) F.REC_RLF_TK_VALUE_VALUE) < 0 →
      Does (.takeoverDone i) s fun t => t = s) ∧
    (∀ (i : Fin 16) (at0 : Nat), (s.bind i).st = .taking → (s.bind i).step = 4 → (s.bind i).stepDeadline = some at0 →
      Does (.chainTimeout i) s fun t => ∃ u : State, t = u.raise ((setBits (s.bindLocal i) 12).headD 0) i 0 none ∧
      Becomes { s.advanceTo at0 with rcv := { s.rcv with binds := amSet s.rcv.binds i { s.bind i with st := .failed, step := 0, stepDeadline := none } } } [Reg.REC_EVENT] u ∧
      u.fld F.REC_EVENT_TAKEOVER_FAILED = 1)

/-- Bring-up (R412-R425): each command of BRU_CMD with its RESULT, refused with cause 3 in the safe state; the end of a
stack's training, the last one ending TRAIN; the end of the link wait; a benchmark in which nothing fails; the reset of
parcels in service, and the rewriting of the field plan. -/
def Obligations.BringupTrainsLoadsAndBenchmarks : Prop :=
  ∀ s : State, RegsOk s →
    (∀ (path : Path), s.mayRwl path = true → s.safe = false → s.fld F.PWR_STATUS_BUSY = 0 → s.fld F.PWR_STATUS_STATE =
      0 → s.rst.recovery = false → s.fld F.BRU_STATUS_TRAIN = 0 → Does (.bruTrain path) s fun t =>
      Becomes { s with bru := { s.bru with training := List.range s.fuses.stackCount, linkWait := some (s.mclk + max 1 (s.fld F.BRU_CFG_LINK_WAIT_MS) * 250000) } } [Reg.BRU_STATUS, regKey (pathNo path) Reg.BRU_RESULT] t ∧
      t.fld F.BRU_STATUS_TRAIN = 1 ∧ t.rdB (pathNo path) Reg.BRU_RESULT = 1#32) ∧
    (∀ (k : Fin 12) (tempC : Byte) (ms : Vector Byte 32), s.bru.training = [k.val] → (∀ n ∈ s.fuses.stackParcels k,
      s.rd (Reg.NT_CH_FAILED n) = 0) → k.val < s.fuses.stackCount → (s.fuses.stackCount = 12 ∨ s.fuses.stackCount =
      6) → Does (.stackTrainDone k true tempC (ms.map some)) s fun t => t.bru = { s.bru with training := [] } ∧
      t.hold = s.hold ∧ t.tier.near = s.tier.near ∧ t.fld F.BRU_STATUS_TRAIN = 2 ∧ t.fld F.BRU_EVENT_TRAIN_DONE = 1 ∧
      (∀ n ∈ s.fuses.stackParcels k, t.fld (F.NT_STATUS_READY n) = 1) ∧ ∀ c < 32,
      t.fld (F.NT_CH_TAG_TEMP_C (s.fuses.channelOf k c).1 (s.fuses.channelOf k c).2) = tempC.toNat ∧
      t.fld (F.NT_CH_TAG_MARGIN (s.fuses.channelOf k c).1 (s.fuses.channelOf k c).2) = (ms.toList.getD c 0).toNat) ∧
    (∀ (k : Fin 12) (tempC : Byte) (margins : Vector (Option Byte) 32), k.val ∈ s.bru.training →
      setDel s.bru.training k ≠ [] → s.fuses.stackParcels k ≠ [] →
      Does (.stackTrainDone k false tempC margins) s fun t => t.bru =
      { s.bru with training := setDel s.bru.training k } ∧ t.fld F.FCU_SERVICE_NEAR = 1 ∧ t.fld F.BRU_STATUS_TRAIN =
      s.fld F.BRU_STATUS_TRAIN) ∧
    (∀ (d at0 : Nat), s.bru.linkWait = some d → (at0 = if s.missingPorts.isEmpty then s.mclk else d) →
      Does (.linkWaitExpiry) s fun t =>
      Becomes { s.advanceTo at0 with bru := { s.bru with linkWait := none } } [Reg.BRU_LINK_RESULT, Reg.BRU_EVENT, Reg.BRU_READY] t ∧
      t.fld F.BRU_LINK_RESULT_NOPEER = maskOf s.missingPorts ∧ t.fld F.BRU_EVENT_LINKS_DONE = 1 ∧
      t.fld F.BRU_READY_LINKS = 1) ∧
    (∀ (path : Path) (mask bad : BitVec 12), s.mayRwl path = true → s.safe = false → s.fld F.PWR_STATUS_BUSY = 0 →
      s.fld F.PWR_STATUS_STATE = 0 → s.rst.recovery = false → s.loadable (setBits mask.toNat 12) = true →
      Does (.bruLoad path mask bad) s fun t => match s.seqImage with
      | none => ∃ u : State, t = (u.raise 63 0 0 none).bruAccepted path ∧ u.fld F.BRU_STATUS_LOAD = 3 ∧
        u.fld F.BRU_EVENT_LOAD_FAILED = 1 ∧ ∀ n ∈ (setBits mask.toNat 12), u.fld (F.BRU_PARCEL_LOAD n) = 2
      | some (img, hash) => t.bru.copy = some img ∧ t.bru.copyHash = hash ∧ t.fld F.BRU_STATUS_LOAD = 2 ∧
        t.fld F.BRU_IMAGE_IMAGE_VER = leAt img 8 4 ∧ t.rdB (pathNo path) Reg.BRU_RESULT = 1#32 ∧
        ∀ n ∈ (setBits mask.toNat 12), if imageCrcOk img && !bitAt bad.toNat n then amGet t.bru.code n = some img ∧
        t.fld (F.BRU_PARCEL_LOAD n) = 1 else t.fld (F.BRU_PARCEL_LOAD n) = 2) ∧
    (∀ (path : Path) (mask : BitVec 12), s.mayRwl path = true → s.safe = false → s.fld F.PWR_STATUS_BUSY = 0 →
      s.fld F.PWR_STATUS_STATE = 0 → s.rst.recovery = false → s.fld F.BRU_STATUS_BENCH ≠ 1 →
      (∀ n ∈ (setBits mask.toNat 12), s.parcelState n = 4 ∧ (s.rt n).imageLoaded = true) →
      Does (.bruBench path mask) s fun t =>
      Becomes { s with bru := { s.bru with bench := (setBits mask.toNat 12) } } [Reg.BRU_STATUS, regKey (pathNo path) Reg.BRU_RESULT] t ∧
      t.fld F.BRU_STATUS_BENCH = 1 ∧ t.rdB (pathNo path) Reg.BRU_RESULT = 1#32) ∧
    (s.fld F.BRU_STATUS_BENCH = 1 → (∀ n ∈ s.bru.bench, n < 12) →
      Does (.benchRunDone (Vector.replicate 12 {}) true 0) s fun t =>
      Becomes { s with bru := { s.bru with bench := [] } } (Reg.BRU_STATUS :: Reg.BRU_EVENT :: Reg.BRU_READY :: (List.range 12).flatMap fun n =>
      [Reg.REC_PARCEL_STATE n, Reg.TOL_BUCKET n, Reg.BRU_PARCEL n]) t ∧ t.fld F.BRU_STATUS_BENCH = 2 ∧
      t.fld F.BRU_EVENT_BENCH_DONE = 1 ∧ t.fld F.BRU_READY_COL_OK = 1 ∧ ∀ n ∈ s.bru.bench, s.parcelState n = 4 →
      t.fld (F.REC_PARCEL_STATE_STATE n) = 0 ∧ t.fld (F.BRU_PARCEL_BENCH n) = 1 ∧ t.fld (F.TOL_BUCKET_UJ n) = 0) ∧
    (∀ (path : Path) (mask : BitVec 12), s.mayRwl path = true → s.safe = false → s.fld F.PWR_STATUS_BUSY = 0 →
      s.fld F.PWR_STATUS_STATE = 0 → s.rst.recovery = false → (∀ n ∈ (setBits mask.toNat 12), s.parcelState n = 0 ∧
      s.benchRuns n = false) → Does (.computeReset path mask) s fun t => t.rdB (pathNo path) Reg.BRU_RESULT = 1#32 ∧
      t.hold = s.hold ∧ ∀ n ∈ (setBits mask.toNat 12), t.fld (F.REC_PARCEL_STATE_STATE n) = 1 ∧
      t.fld (F.REC_PARCEL_STATE_CAUSE n) = 1 ∧ (t.rt n).toReset = true) ∧
    (∀ (path : Path), s.mayRwl path = true → s.safe = false → s.fld F.PWR_STATUS_BUSY = 0 → s.fld F.PWR_STATUS_STATE =
      0 → s.rst.recovery = false → s.fld F.BRU_STATUS_BENCH ≠ 1 → Does (.fpRestore path) s fun t => ∃ u : State, t =
      (u.nvWrite (.plan (List.replicate 12 {}))).bruAccepted path ∧ Becomes s ((List.range 12).map Reg.BRU_PARCEL) u) ∧
    (∀ (path : Path), s.mayRwl path = true → s.safe = true → Does (.bruTrain path) s fun t =>
      Becomes s [Reg.BRU_EVENT, regKey (pathNo path) Reg.BRU_RESULT] t ∧ t.fld F.BRU_EVENT_CMD_REFUSED = 1 ∧
      t.rdB (pathNo path) Reg.BRU_RESULT = 0x32#32) ∧
    (∀ (path : Path) (mask : BitVec 12), s.mayRwl path = true → s.safe = true → Does (.bruLoad path mask 0) s fun t =>
      Becomes s [Reg.BRU_EVENT, regKey (pathNo path) Reg.BRU_RESULT] t ∧ t.fld F.BRU_EVENT_CMD_REFUSED = 1 ∧
      t.rdB (pathNo path) Reg.BRU_RESULT = 0x32#32) ∧
    (∀ (path : Path) (mask : BitVec 12), s.mayRwl path = true → s.safe = true → Does (.bruBench path mask) s fun t =>
      Becomes s [Reg.BRU_EVENT, regKey (pathNo path) Reg.BRU_RESULT] t ∧ t.fld F.BRU_EVENT_CMD_REFUSED = 1 ∧
      t.rdB (pathNo path) Reg.BRU_RESULT = 0x32#32) ∧
    (∀ (path : Path) (mask : BitVec 12), s.mayRwl path = true → s.safe = true →
      Does (.computeReset path mask) s fun t => Becomes s [Reg.BRU_EVENT, regKey (pathNo path) Reg.BRU_RESULT] t ∧
      t.fld F.BRU_EVENT_CMD_REFUSED = 1 ∧ t.rdB (pathNo path) Reg.BRU_RESULT = 0x32#32) ∧
    (∀ (path : Path), s.mayRwl path = true → s.safe = true → Does (.fpRestore path) s fun t =>
      Becomes s [Reg.BRU_EVENT, regKey (pathNo path) Reg.BRU_RESULT] t ∧ t.fld F.BRU_EVENT_CMD_REFUSED = 1 ∧
      t.rdB (pathNo path) Reg.BRU_RESULT = 0x32#32)

/-- The boundary scan port (R484): IDCODE and BYPASS; SAMPLE_PRELOAD; EXTEST, which drives the preloaded values while PERST_N
or SYS_RESET_N is asserted and is BYPASS otherwise. -/
def Obligations.JtagShiftsItsRegisters : Prop :=
  ∀ s : State, RegsOk s →
    (Does (.idcode) s fun t => t =
      { s with out := s.out ++ [.jtag ((List.range 32).map fun k => bitAt (s.fuses.step % 16 * 2 ^ 28 + 0x4125AB) k)], jtag := { s.jtag with driven := none } }) ∧
    (∀ (tdi : List Bool), Does (.bypass tdi) s fun t => t =
      { s with out := s.out ++ [.jtag ((false :: tdi).take tdi.length)], jtag := { s.jtag with driven := none } }) ∧
    (∀ (pins tdi : List Bool), Does (.samplePreload pins tdi) s fun t => t =
      { s with out := s.out ++ [.jtag pins], jtag := { preload := tdi, driven := none } }) ∧
    (∀ (pins tdi : List Bool), (2 ∈ s.rst.levels ∨ 3 ∈ s.rst.levels) → Does (.extest pins tdi) s fun t => t =
      { s with out := s.out ++ [.jtag pins], jtag := { preload := tdi, driven := some s.jtag.preload } }) ∧
    (∀ (pins tdi : List Bool), 2 ∉ s.rst.levels → 3 ∉ s.rst.levels → Does (.extest pins tdi) s fun t => t =
      { s with out := s.out ++ [.jtag ((false :: tdi).take tdi.length)], jtag := { s.jtag with driven := none } })

/-- The management port (R455-R458, R462): its address and Endpoint ID; a message that is lost, is not supported or may not
be given over the transport; the PLDM messages that read versions, types, commands, PDRs, sensors and effecters, which
change nothing but what is sent. The order of the bytes in a reply is the model's (log entry 10). -/
def Obligations.ManagementMessagesAreAnswered : Prop :=
  ∀ s : State, RegsOk s →
    (∀ (addr : BitVec 7), s.up 3 = true → s.fld F.MGP_STATUS_ADDR_VALID = 0 → Does (.entdaa addr) s fun t =>
      Becomes s [Reg.MGP_STATUS] t ∧ t.fld F.MGP_STATUS_DYN_ADDR = addr.toNat ∧ t.fld F.MGP_STATUS_ADDR_VALID = 1) ∧
    (∀ (addr : BitVec 7), s.fld F.MGP_STATUS_ADDR_VALID = 1 → Does (.entdaa addr) s fun t => t = s) ∧
    (Does (.rstdaa) s fun t => Becomes s [Reg.MGP_STATUS] t ∧ t.fld F.MGP_STATUS_DYN_ADDR = 0 ∧
      t.fld F.MGP_STATUS_ADDR_VALID = 0) ∧
    (Does (.targetResetAction) s fun t => Becomes s [Reg.MGP_STATUS] t ∧ t.fld F.MGP_STATUS_DYN_ADDR = 0 ∧
      t.fld F.MGP_STATUS_ADDR_VALID = 0) ∧
    (∀ (tr : Transport) (eid : BitVec 8), s.hears tr = true → eid ≠ 0 → eid ≠ 0xFF →
      Does (.setEndpointId tr eid) s fun t => ∃ u : State, t = told tr [0, 1, 0, 0, eid, 0] u ∧
      Becomes s [Reg.MGP_STATUS] u ∧ u.fld F.MGP_STATUS_EID = eid.toNat) ∧
    (∀ (tr : Transport), s.hears tr = true → Does (.mctpReassemblyTimeout tr) s fun t =>
      Becomes s [Reg.MGP_BAD_MSG, Reg.MGP_EVENT] t ∧ t.fld F.MGP_BAD_MSG_COUNT =
      min (s.fld F.MGP_BAD_MSG_COUNT + 1) (2 ^ 32 - 1) ∧ t.fld F.MGP_EVENT_BAD_MSG = 1) ∧
    (∀ (tr : Transport) (typ cmd : BitVec 8), s.hears tr = true → Does (.unsupportedCommand tr 1 typ cmd) s fun t =>
      t = told tr [1, typ, cmd, 5] s) ∧
    -- a message is not heard before the port has its address, and over VDM only where it is on
    (∀ (tr : Transport) (msgType typ cmd : BitVec 8), s.hears tr = false →
      Does (.unsupportedCommand tr msgType typ cmd) s fun t => t = s) ∧
    -- an effecter is not written over VDM (R457)
    (∀ (v : Word), s.hears .vdm = true → Does (.budget .vdm v) s fun t => t = told .vdm [1, 2, 0x31, 5] s) ∧
    (∀ (tr : Transport), s.serves tr true false = true → Does (.getTid tr) s fun t => t =
      told tr ([1#8, 0#8, 0x02#8, 0#8] ++ leBytes 1 s.mgmt.tid) s) ∧
    (∀ (tr : Transport) (tid : BitVec 8), s.serves tr true false = true → tid ≠ 0 → tid ≠ 0xFF →
      Does (.setTid tr tid) s fun t => t = told tr [1, 0, 1, 0] { s with mgmt := { s.mgmt with tid := tid.toNat } }) ∧
    (∀ (tr : Transport) (tid : BitVec 8), s.serves tr true false = true → (tid = 0 ∨ tid = 0xFF) →
      Does (.setTid tr tid) s fun t => t = told tr [1, 0, 1, 2] s) ∧
    (∀ (tr : Transport), s.serves tr true false = true → Does (.getPldmVersion tr 2) s fun t => t =
      told tr ([1#8, 0#8, 0x03#8, 0#8] ++ [0#8, 0xFF#8, 0xF2#8, 0xF1#8]) s) ∧
    (∀ (tr : Transport), s.serves tr true false = true → Does (.getPldmVersion tr 5) s fun t => t =
      told tr ([1#8, 0#8, 0x03#8, 0#8] ++ [0#8, 0xFF#8, 0xF1#8, 0xF1#8]) s) ∧
    (∀ (tr : Transport), s.serves tr true false = true → Does (.getPldmTypes tr) s fun t => t =
      told tr ([1#8, 0#8, 0x04#8, 0#8] ++ [0x25#8, 0#8, 0#8, 0#8, 0#8, 0#8, 0#8, 0#8]) s) ∧
    (∀ (tr : Transport), s.serves tr true false = true → Does (.getPldmCommands tr 0) s fun t => t =
      told tr ([1#8, 0#8, 0x05#8, 0#8] ++ (0x3E#8 :: List.replicate 31 0#8)) s) ∧
    (∀ (tr : Transport) (typ : BitVec 8), s.serves tr true false = true → typ ≠ 0 → typ ≠ 2 → typ ≠ 5 →
      Does (.getPldmCommands tr typ) s fun t => t = told tr ([1#8, 0#8, 0x05#8, 0x83#8]) s) ∧
    (∀ (tr : Transport), s.serves tr true false = true → Does (.getPdrRepositoryInfo tr) s fun t => t =
      told tr ([1#8, 2#8, 0x50#8, 0#8] ++ Config.reply 2 0) s) ∧
    (∀ (tr : Transport) (record : BitVec 32), s.serves tr true false = true → Does (.getPdr tr record) s fun t => t =
      told tr ([1#8, 2#8, 0x51#8, 0#8] ++ Config.reply 3 record.toNat) s) ∧
    (∀ (tr : Transport), s.serves tr true false = true → Does (.getSensorReading tr .power) s fun t => t =
      told tr ([1#8, 2#8, 0x11#8, 0#8] ++ leBytes 4 (s.regWord .mgmtPort Reg.TOL_POWER).toNat) s) ∧
    (∀ (tr : Transport) (n : Fin 12), s.serves tr true false = true →
      Does (.getSensorReading tr (.stackTemp n)) s fun t => t =
      told tr ([1#8, 2#8, 0x11#8, 0#8] ++ leBytes 4 (s.regWord .mgmtPort (Reg.NT_TEMP n)).toNat) s) ∧
    (∀ (tr : Transport), s.serves tr true false = true → Does (.getSensorReading tr .totalUj) s fun t => t =
      told tr ([1#8, 2#8, 0x11#8, 0#8] ++ leBytes 8 (s.rd64 Reg.TOL_TOTAL_UJ_LO)) s) ∧
    -- a state sensor has no numeric reading, and a numeric one no state
    (∀ (tr : Transport), s.serves tr true false = true → Does (.getSensorReading tr .powerState) s fun t => t =
      told tr ([1#8, 2#8, 0x11#8, 0x80#8]) s) ∧
    (∀ (tr : Transport), s.serves tr true false = true → Does (.getStateSensorReadings tr .powerState) s fun t => t =
      told tr ([1#8, 2#8, 0x21#8, 0#8] ++ leBytes 4 (s.regWord .mgmtPort Reg.PWR_STATUS).toNat) s) ∧
    (∀ (tr : Transport) (n : Fin 12), s.serves tr true false = true →
      Does (.getStateSensorReadings tr (.parcelState n)) s fun t => t =
      told tr ([1#8, 2#8, 0x21#8, 0#8] ++ leBytes 4 (s.regWord .mgmtPort (Reg.REC_PARCEL_STATE n)).toNat) s) ∧
    (∀ (tr : Transport), s.serves tr true false = true → Does (.getStateSensorReadings tr .power) s fun t => t =
      told tr ([1#8, 2#8, 0x21#8, 0x80#8]) s) ∧
    (∀ (tr : Transport), s.serves tr false false = true → Does (.getNumericEffecterValue tr 1) s fun t => t =
      told tr ([1#8, 2#8, 0x32#8, 0#8] ++ leBytes 4 (s.regWord .mgmtPort Reg.TOL_TRAY_BUDGET).toNat) s) ∧
    (∀ (tr : Transport), s.serves tr false false = true → Does (.getNumericEffecterValue tr 2) s fun t => t =
      told tr ([1#8, 2#8, 0x32#8, 0#8] ++ leBytes 4 (s.regWord .mgmtPort Reg.TOL_COOLANT_IN).toNat) s) ∧
    (∀ (tr : Transport), s.serves tr false false = true → Does (.getNumericEffecterValue tr 3) s fun t => t =
      told tr ([1#8, 2#8, 0x32#8, 0#8] ++ leBytes 4 (s.regWord .mgmtPort Reg.TOL_COOLANT_OUT).toNat) s) ∧
    (∀ (tr : Transport), s.serves tr false false = true → Does (.getNumericEffecterValue tr 4) s fun t => t =
      told tr ([1#8, 2#8, 0x32#8, 0#8] ++ leBytes 4 (s.regWord .mgmtPort Reg.TOL_COOLANT_FLOW).toNat) s) ∧
    (∀ (tr : Transport) (id : BitVec 16), s.serves tr false false = true → 5 ≤ id.toNat → id.toNat ≤ 8 →
      Does (.getStateEffecterStates tr id) s fun t => t =
      told tr ([1#8, 2#8, 0x3A#8, 0#8] ++ leBytes 1 ((amGet s.mgmt.effecters id.toNat).getD 0)) s) ∧
    (∀ (tr : Transport) (eid : BitVec 8), s.serves tr false false = true → Does (.setEventReceiver tr eid) s fun t =>
      t = told tr [1, 2, 4, 0] { s with mgmt := { s.mgmt with receiver := some eid.toNat } })

/-- Effecters and events (R461-R468): the budget, the coolant, the backup energy store, the leak, the swap, the wake and the
device reset; a value out of range, which stores nothing; the poll of the oldest event, its acknowledgement, the repeated
IBI; the absence of the tray manager and the stale backup state. -/
def Obligations.EffectersAndEventsOfTheTray : Prop :=
  ∀ s : State, RegsOk s →
    (∀ (tr : Transport) (v : Word), s.serves tr false false = true → v.toNat ≤ 2047 → Does (.budget tr v) s fun t =>
      ∃ u : State, t = told tr [1, 2, 0x31, 0] (u.nvWrite (.record ⟨2, 1, [v.toNat]⟩)) ∧
      Becomes (heardNow s) [Reg.TOL_TRAY_BUDGET] u ∧ u.fld F.TOL_TRAY_BUDGET_W = v.toNat) ∧
    (∀ (tr : Transport) (v : Word), s.serves tr false false = true → 2047 < v.toNat → Does (.budget tr v) s fun t =>
      t = told tr [1, 2, 0x31, 2] s) ∧
    (∀ (tr : Transport) (v : Word), s.serves tr false false = true → v.toNat ≤ 450 →
      Does (.coolantInlet tr v) s fun t => ∃ u : State, t = told tr [1, 2, 0x31, 0] u ∧
      Becomes { heardNow s with tol := { s.tol with coolantSet := true, inletAt := s.mclk } } [Reg.TOL_COOLANT_IN, Reg.TOL_COOLANT_AGE, Reg.TOL_STATUS] u ∧
      u.fld F.TOL_COOLANT_IN_DC = v.toNat ∧ u.fld F.TOL_STATUS_COOLANT_STALE = 0) ∧
    (∀ (tr : Transport) (v : Word), s.serves tr false false = true → v.toNat ≤ 1500 →
      Does (.coolantOutlet tr v) s fun t => ∃ u : State, t = told tr [1, 2, 0x31, 0] u ∧
      Becomes (heardNow s) [Reg.TOL_COOLANT_OUT] u ∧ u.rd Reg.TOL_COOLANT_OUT = v) ∧
    (∀ (tr : Transport) (v : Word), s.serves tr false false = true → v.toNat ≤ 65535 →
      Does (.coolantFlow tr v) s fun t => ∃ u : State, t = told tr [1, 2, 0x31, 0] u ∧
      Becomes (heardNow s) [Reg.TOL_COOLANT_FLOW] u ∧ u.rd Reg.TOL_COOLANT_FLOW = v) ∧
    (∀ (tr : Transport) (v : BitVec 8), s.serves tr false true = true → 1 ≤ v.toNat → v.toNat ≤ 2 →
      Does (.backupEnergyStore tr v) s fun t => ∃ u : State, t = told tr [1, 2, 0x39, 0] u ∧
      Becomes { s with mgmt := { (heardNow s).mgmt with effecters := amSet s.mgmt.effecters 5 v.toNat, backupAt := some s.mclk } } [Reg.MGP_STATUS] u ∧
      u.fld F.MGP_STATUS_BACKUP = v.toNat) ∧
    (∀ (tr : Transport), s.serves tr false true = true → Does (.leak tr 2) s fun t => ∃ u : State, t =
      told tr [1, 2, 0x39, 0] (u.latchEvent { source := 61 } (some 3)) ∧ u.nv = { s.nv with pfHold := true } ∧
      u.fld F.MGP_STATUS_LEAK = 1 ∧ u.fld F.MGP_EVENT_LEAK = 1 ∧ u.hold = s.hold ∧ u.own = s.own) ∧
    (∀ (tr : Transport) (v : BitVec 8), s.serves tr false true = true → (2 < v.toNat ∨ v = 0) →
      Does (.leak tr v) s fun t => t = told tr [1, 2, 0x39, 2] s) ∧
    (∀ (tr : Transport), s.serves tr false false = true → Does (.prepareSwap tr) s fun t => ∃ u : State, t =
      told tr [1, 2, 0x39, 0] ((u.raise 64 0 0 none).mgmtEvent 0xF4 [2]) ∧
      Becomes { s with mgmt := { (heardNow s).mgmt with effecters := amSet s.mgmt.effecters 7 2 } } [Reg.MGP_STATUS, Reg.MGP_EVENT] u ∧
      u.fld F.MGP_STATUS_SWAP_REQ = 1 ∧ u.fld F.MGP_EVENT_SWAP_REQ = 1) ∧
    (∀ (tr : Transport), s.serves tr false false = true → Does (.swapCancel tr 3) s fun t => ∃ u : State, t =
      told tr [1, 2, 0x39, 0] (u.mgmtEvent 0xF4 [3]) ∧
      Becomes { s with mgmt := { (heardNow s).mgmt with effecters := amSet s.mgmt.effecters 7 3 } } [Reg.MGP_STATUS] u ∧
      u.fld F.MGP_STATUS_SWAP_REQ = 0) ∧
    (∀ (tr : Transport), s.serves tr false false = true → Does (.swapCancel tr 1) s fun t => t =
      told tr [1, 2, 0x39, 0] { s with mgmt := { (heardNow s).mgmt with effecters := amSet s.mgmt.effecters 7 1 } }) ∧
    (∀ (tr : Transport), s.serves tr false false = true → Does (.mgpWake tr 2) s fun t => t =
      told tr [1, 2, 0x39, 0] (({ s with mgmt := { (heardNow s).mgmt with effecters := amSet s.mgmt.effecters 8 2 } } : State).wakeEvent 4)) ∧
    (∀ (tr : Transport), s.serves tr false false = true → Does (.mgpWake tr 1) s fun t => t =
      told tr [1, 2, 0x39, 0] { s with mgmt := { (heardNow s).mgmt with effecters := amSet s.mgmt.effecters 8 1 } }) ∧
    (∀ (tr : Transport), s.serves tr false false = true → s.rst.request = none → s.rst.asserted = none →
      s.rst.thermtrip = false → Does (.mgmtCmd tr) s fun t => t =
      told tr [1, 2, 0x39, 0] { s with mgmt := { (heardNow s).mgmt with effecters := amSet s.mgmt.effecters 8 3 }, rst := { s.rst with request := some 4 } }) ∧
    -- the oldest event, else the newest forecast, else none
    (∀ (tr : Transport) (e : MgmtEvent) (r : List MgmtEvent), s.serves tr false false = true → s.mgmt.evq = e :: r →
      Does (.pollForPlatformEventMessage tr false) s fun t => t =
      told tr ([1#8, 2#8, 0x0B#8, 0#8] ++ leBytes 1 s.mgmt.tid ++ BitVec.ofNat 8 e.cls :: e.data) { s with mgmt := { s.mgmt with polled := true, ibiDeadline := none } }) ∧
    (∀ (tr : Transport) (x : List Byte), s.serves tr false false = true → s.mgmt.evq = [] → s.mgmt.forecast = some x →
      Does (.pollForPlatformEventMessage tr false) s fun t => t =
      told tr ([1#8, 2#8, 0x0B#8, 0#8] ++ leBytes 1 s.mgmt.tid ++ 0xF1#8 :: x) { s with mgmt := { s.mgmt with forecast := none } }) ∧
    (∀ (tr : Transport), s.serves tr false false = true → s.mgmt.evq = [] → s.mgmt.forecast = none →
      Does (.pollForPlatformEventMessage tr false) s fun t => t =
      told tr ([1#8, 2#8, 0x0B#8, 0#8] ++ leBytes 1 s.mgmt.tid ++ [0#8]) s) ∧
    (∀ (tr : Transport), s.serves tr false false = true → s.mgmt.polled = true →
      Does (.pollForPlatformEventMessage tr true) s fun t => t =
      told tr ([1#8, 2#8, 0x0B#8, 0#8] ++ leBytes 1 s.mgmt.tid ++ [0#8]) { s with mgmt := { s.mgmt with evq := s.mgmt.evq.drop 1, polled := false } }) ∧
    (∀ (at0 : Nat), s.mgmt.ibiDeadline = some at0 → s.mgmt.evq ≠ [] → s.fld F.MGP_CFG_IBI_EN = 1 →
      Does (.ibiRetry) s fun t => t =
      { s.advanceTo at0 with out := s.out ++ [.ibi], mgmt := { s.mgmt with ibiDeadline := some (max s.mclk at0 + 2500000) } }) ∧
    (∀ (a at0 : Nat), s.mgmt.present = true → s.mgmt.trayAt = some a → at0 =
      a + max 1 (s.fld F.MGP_CFG_ABSENT_MS) * 250000 → Does (.trayAbsent) s fun t => ∃ u : State, t =
      u.raise 64 0 0 none ∧
      Becomes { s.advanceTo at0 with mgmt := { s.mgmt with present := false } } [Reg.MGP_EVENT] u ∧
      u.fld F.MGP_EVENT_ABSENT = 1) ∧
    (∀ (a : Nat), s.fld F.MGP_STATUS_BACKUP ≠ 0 → s.mgmt.backupAt = some a → Does (.backupStale) s fun t =>
      Becomes (s.advanceTo (a + 500000000)) [Reg.MGP_STATUS] t ∧ t.fld F.MGP_STATUS_BACKUP = 0)

/-- The firmware update set (R459): the queries; the request, the table and the component that begins the session; the reply
that is gathered, or asked for again; the completions that the device sends; activation, status and cancel. The layout of
the data is the model's (log entry 10). -/
def Obligations.FirmwareUpdatesGoOverPldm : Prop :=
  ∀ s : State, RegsOk s →
    (∀ (tr : Transport), s.serves tr false true = true → Does (.queryDeviceIdentifiers tr) s fun t => t =
      told tr ([1#8, 5#8, 0x01#8, 0#8] ++ Config.reply 4 s.fuses.serial) s) ∧
    (∀ (tr : Transport), s.serves tr false true = true → Does (.getFirmwareParameters tr) s fun t => ∃ x : List Byte,
      t = told tr ([1#8, 5#8, 0x02#8, 0#8] ++ x) s ∧ x.length = 34 ∧ ∀ k < 3, leAt x (10 * k) 1 = k + 1 ∧
      leAt x (10 * k + 1) 1 = s.actRec.active.getD k 0 % 256) ∧
    (∀ (tr : Transport), s.serves tr false true = true → s.fwuState = 0 → Does (.requestUpdate tr) s fun t => t =
      told tr [1#8, 5#8, 0x10#8, 0#8] { s with mgmt := { s.mgmt with upd := { phase := 1 } } }) ∧
    (∀ (tr : Transport), s.serves tr false true = true → s.fwuState ≠ 0 → Does (.requestUpdate tr) s fun t => t =
      told tr [1#8, 5#8, 0x10#8, 0x81#8] s) ∧
    (∀ (tr : Transport) (last : Bool), s.serves tr false true = true → s.mgmt.upd.phase = 1 →
      Does (.passComponentTable tr last) s fun t => t =
      told tr [1#8, 5#8, 0x13#8, 0#8, 0#8, 0#8] { s with mgmt := { s.mgmt with upd := { s.mgmt.upd with phase := if last then 2 else 1 } } }) ∧
    (∀ (tr : Transport) (k : BitVec 16) (size : BitVec 32), s.serves tr false true = true → s.mgmt.upd.phase = 2 →
      1 ≤ k.toNat → k.toNat ≤ 4 → 512 ≤ size.toNat → size.toNat ≤ 16777216 → s.fwuState = 0 → s.fwuAllowed .mgmtCore =
      true → s.actRec.trial.getD (k.toNat - 1) false = false → Does (.updateComponent tr k size) s fun t =>
      t.mgmt.upd = { phase := 3 } ∧ t.fwuState = 1 ∧ t.fwuKind = k.toNat ∧ t.fwu =
      { s.fwu with pkgLen := size.toNat } ∧ t.hold = s.hold ∧ t.own = s.own ∧ t.out =
      (told .i3c ([1#8, 5#8, 0x15#8] ++ leBytes 4 (0) ++ leBytes 4 (min 1024 size.toNat)) (told tr [1#8, 5#8, 0x14#8, 0#8, 0#8] s)).out) ∧
    (∀ (x : List Byte), s.hears .i3c = true → s.mgmt.upd.phase = 3 → s.fwuState = 1 → x.length =
      min 1024 (s.fwu.pkgLen - s.mgmt.upd.off) → s.mgmt.upd.off + 1024 < s.fwu.pkgLen →
      s.mgmt.upd.buf.length + 1024 < 65536 → Does (.requestFirmwareData 0 x) s fun t => t =
      told .i3c ([1#8, 5#8, 0x15#8] ++ leBytes 4 (s.mgmt.upd.off + 1024) ++ leBytes 4 (min 1024 (s.fwu.pkgLen - (s.mgmt.upd.off + 1024)))) { s with mgmt := { s.mgmt with upd := { s.mgmt.upd with buf := s.mgmt.upd.buf ++ x, off := s.mgmt.upd.off + 1024 } } }) ∧
    (∀ (cc : BitVec 8) (x : List Byte), s.hears .i3c = true → s.mgmt.upd.phase = 3 → s.fwuState = 1 →
      s.mgmt.upd.off < s.fwu.pkgLen → (cc ≠ 0 ∨ x.length ≠ min 1024 (s.fwu.pkgLen - s.mgmt.upd.off)) →
      Does (.requestFirmwareData cc x) s fun t => t =
      told .i3c ([1#8, 5#8, 0x15#8] ++ leBytes 4 (s.mgmt.upd.off) ++ leBytes 4 (min 1024 (s.fwu.pkgLen - s.mgmt.upd.off))) s) ∧
    -- the unit that fills is staged
    (∀ (x v : List Byte), s.hears .i3c = true → s.mgmt.upd.phase = 3 → s.fwuState = 1 → x.length =
      s.fwu.pkgLen - s.mgmt.upd.off → 1 ≤ x.length → x.length ≤ 1024 → v = s.mgmt.upd.buf ++ x →
      s.fwu.pkgLen - v.length < 2 ^ 24 → Does (.requestFirmwareData 0 x) s fun t => t.nv.staging =
      amSet s.nv.staging ((s.fwu.pkgLen - v.length) / 65536) v ∧ t.mgmt.upd =
      { s.mgmt.upd with buf := [], off := s.fwu.pkgLen } ∧ bitAt t.rcvdUnits ((s.fwu.pkgLen - v.length) / 65536) =
      true ∧ t.fwuState = 1 ∧ t.hold = s.hold ∧ t.out = s.out) ∧
    (s.hears .i3c = true → s.mgmt.upd.phase = 3 → s.fwu.pkgLen = s.mgmt.upd.off → s.fwuState = 1 →
      Does (.transferComplete) s fun t => t =
      told .i3c [1#8, 5#8, 0x16#8, 0#8] { s with mgmt := { s.mgmt with upd := { s.mgmt.upd with phase := 4 } } }) ∧
    (∀ (norOk : Bool), s.hears .i3c = true → s.mgmt.upd.phase = 4 → s.fwuState = 1 →
      Does (.verifyComplete norOk) s fun t => ∃ u : State, u = s.fwuVerify .mgmtCore norOk ∧ t =
      told .i3c [1#8, 5#8, 0x17#8, if u.coreResult = 1 then 0#8 else BitVec.ofNat 8 u.coreResult] (u.setPhase (if u.coreResult =
      1 then 5 else if u.coreResult = 10 then 4 else 2))) ∧
    (s.hears .i3c = true → s.mgmt.upd.phase = 5 → s.fwuState = 3 → Does (.applyComplete) s fun t => t =
      told .i3c [1#8, 5#8, 0x18#8, 0#8] { s with mgmt := { s.mgmt with upd := { s.mgmt.upd with phase := 2 } } }) ∧
    (∀ (tr : Transport), s.serves tr false true = true → s.mgmt.upd.phase = 2 → s.fwuState = 3 →
      s.fwuAllowed .mgmtCore = true → s.privileged s.fwuKind = 0 → 1 ≤ s.fwuKind → s.fwuKind ≤ 3 → s.rst.recovery =
      false → s.nv.pfHold = false → s.nv.waiting = [] → Does (.activateFirmware tr) s fun t => t.mgmt.upd = {} ∧
      t.fwuState = 0 ∧ t.actRec = s.actRec.activate s.fwuKind false ∧ t.rst = s.rst ∧ t.hold = s.hold ∧ t.own =
      s.own ∧ ∃ l, t.out = s.out ++ l ∧ (told tr [1#8, 5#8, 0x1A#8, 0#8, 1#8] s).out.getLast? = l.getLast?) ∧
    (∀ (tr : Transport), s.serves tr false true = true → Does (.getStatus tr) s fun t => t =
      told tr ([1#8, 5#8, 0x1B#8, 0#8] ++ leBytes 1 s.mgmt.upd.phase ++ leBytes 1 s.fwuState) s) ∧
    (∀ (tr : Transport), s.serves tr false true = true → 3 ≤ s.mgmt.upd.phase → 1 ≤ s.fwuState → s.fwuState ≤ 4 →
      s.fwuAllowed .mgmtCore = true → Does (.cancelUpdateComponent tr) s fun t => t.mgmt.upd = { phase := 2 } ∧
      t.fwuState = 0 ∧ t.nv.slots = s.nv.slots ∧ t.hold = s.hold ∧ t.own = s.own ∧ t.out.getLast? =
      (told tr [1#8, 5#8, 0x1C#8, 0#8] s).out.getLast?) ∧
    (∀ (tr : Transport), s.serves tr false true = true → 1 ≤ s.fwuState → s.fwuState ≤ 4 → s.fwuAllowed .mgmtCore =
      true → Does (.cancelUpdate tr) s fun t => t.mgmt.upd = {} ∧ t.fwuState = 0 ∧ t.nv.slots = s.nv.slots ∧ t.hold =
      s.hold ∧ t.own = s.own ∧ t.out.getLast? = (told tr [1#8, 5#8, 0x1D#8, 0#8, 0#8] s).out.getLast?) ∧
    (∀ (tr : Transport), s.serves tr false true = true → s.mgmt.upd.phase = 0 →
      Does (.passComponentTable tr true) s fun t => t = told tr [1#8, 5#8, 0x13#8, 0x80#8] s) ∧
    (∀ (tr : Transport), s.serves tr false true = true → s.mgmt.upd.phase = 0 →
      Does (.updateComponent tr 1 512) s fun t => t = told tr [1#8, 5#8, 0x14#8, 0x80#8] s) ∧
    (∀ (tr : Transport), s.serves tr false true = true → s.mgmt.upd.phase = 0 → Does (.activateFirmware tr) s fun t =>
      t = told tr [1#8, 5#8, 0x1A#8, 0x80#8] s) ∧
    (∀ (tr : Transport), s.serves tr false true = true → s.mgmt.upd.phase = 0 →
      Does (.cancelUpdateComponent tr) s fun t => t = told tr [1#8, 5#8, 0x1C#8, 0x80#8] s) ∧
    (∀ (tr : Transport), s.serves tr false true = true → s.mgmt.upd.phase = 0 → s.fwuState = 0 →
      Does (.cancelUpdate tr) s fun t => t = told tr [1#8, 5#8, 0x1D#8, 0x80#8] s)

/-- Attestation (R460) and vendor register access (R457, R458): the stages of the connection, the error for a request that
comes too early, the algorithms that are accepted, the responses with the device's own nonce; a vendor read or write over
I3C has the effect of that access and answers its status; over VDM it is dropped. -/
def Obligations.AttestationAndVendorAccess : Prop :=
  ∀ s : State, RegsOk s →
    (∀ (tr : Transport), s.hears tr = true → s.rst.recovery = false →
      0 ≤ (amGet s.mgmt.spdm (transportNo tr)).getD 0 → Does (.getVersion tr) s fun t => t =
      told tr ([5#8, 0x13#8, 0x04#8, 0x00#8, 0x00#8] ++ Config.reply 10 0) { s with mgmt := { s.mgmt with spdm := amSet s.mgmt.spdm (transportNo tr) 1 } }) ∧
    (∀ (tr : Transport), s.hears tr = true → s.rst.recovery = false →
      1 ≤ (amGet s.mgmt.spdm (transportNo tr)).getD 0 → Does (.getCapabilities tr) s fun t => t =
      told tr ([5#8, 0x13#8, 0x61#8, 0x00#8, 0x00#8] ++ Config.reply 11 0) { s with mgmt := { s.mgmt with spdm := amSet s.mgmt.spdm (transportNo tr) 2 } }) ∧
    (∀ (tr : Transport) (p384 sha384 : Bool), s.hears tr = true → s.rst.recovery = false →
      2 ≤ (amGet s.mgmt.spdm (transportNo tr)).getD 0 → Does (.negotiateAlgorithms tr p384 sha384) s fun t => t =
      if p384 && sha384 then told tr ([5#8, 0x13#8, 0x63#8, 0x00#8, 0x00#8] ++ Config.reply 12 0) { s with mgmt := { s.mgmt with spdm := amSet s.mgmt.spdm (transportNo tr) 3 } } else told tr [5#8, 0x13#8, 0x7F#8, 0x01#8, 0x00#8] s) ∧
    -- a request before its stage is answered with an error
    (∀ (tr : Transport), s.hears tr = true → s.rst.recovery = false → (amGet s.mgmt.spdm (transportNo tr)).getD 0 =
      0 → Does (.getCapabilities tr) s fun t => t = told tr [5#8, 0x13#8, 0x7F#8, 0x04#8, 0x00#8] s) ∧
    (∀ (tr : Transport), s.hears tr = true → s.rst.recovery = false →
      3 ≤ (amGet s.mgmt.spdm (transportNo tr)).getD 0 → Does (.getDigests tr) s fun t => t =
      told tr ([5#8, 0x13#8, 0x01#8, 0x00#8, 0x01#8] ++ sha384 s.certChain) s) ∧
    (∀ (tr : Transport) (slot : BitVec 8) (off len : BitVec 16), s.hears tr = true → s.rst.recovery = false →
      3 ≤ (amGet s.mgmt.spdm (transportNo tr)).getD 0 → Does (.getCertificate tr slot off len) s fun t => t =
      if slot ≠ 0 ∨
      s.certChain.length ≤ off.toNat then told tr [5#8, 0x13#8, 0x7F#8, 0x01#8, 0x00#8] s else told tr ([5#8, 0x13#8, 0x02#8, 0x00#8, 0x00#8] ++ leBytes 2 (min len.toNat (s.certChain.length - off.toNat)) ++ leBytes 2 (s.certChain.length - off.toNat - min len.toNat (s.certChain.length - off.toNat)) ++ (s.certChain.drop off.toNat).take len.toNat) s) ∧
    (∀ (tr : Transport) (nonce : List Byte), s.hears tr = true → s.rst.recovery = false →
      3 ≤ (amGet s.mgmt.spdm (transportNo tr)).getD 0 → Does (.challenge tr 0 nonce) s fun t => ∃ r : Nat, t =
      told tr (([5#8, 0x13#8, 0x03#8, 0x00#8, 0x01#8] ++ sha384 s.certChain ++ sha384 s.measAll) ++ leBytes 32 r ++ Config.crypto 6 (nonce ++ (([5#8, 0x13#8, 0x03#8, 0x00#8, 0x01#8] ++ sha384 s.certChain ++ sha384 s.measAll) ++ leBytes 32 r))) { s with freeCtr := s.freeCtr + 1 }) ∧
    (∀ (tr : Transport) (slot : BitVec 8) (nonce : List Byte), s.hears tr = true → s.rst.recovery = false →
      3 ≤ (amGet s.mgmt.spdm (transportNo tr)).getD 0 → slot ≠ 0 → Does (.challenge tr slot nonce) s fun t => t =
      told tr [5#8, 0x13#8, 0x7F#8, 0x01#8, 0x00#8] s) ∧
    (∀ (tr : Transport) (nonce : List Byte), s.hears tr = true → s.rst.recovery = false →
      3 ≤ (amGet s.mgmt.spdm (transportNo tr)).getD 0 → Does (.getMeasurements tr 0xFF true nonce) s fun t =>
      ∃ r : Nat, t =
      told tr (([5#8, 0x13#8, 0x60#8, 0x00#8, 0x00#8] ++ [7#8] ++ s.measAll) ++ leBytes 32 r ++ Config.crypto 6 (nonce ++ (([5#8, 0x13#8, 0x60#8, 0x00#8, 0x00#8] ++ [7#8] ++ s.measAll) ++ leBytes 32 r))) { s with freeCtr := s.freeCtr + 1 }) ∧
    (∀ (tr : Transport) (k : BitVec 8) (nonce : List Byte), s.hears tr = true → s.rst.recovery = false →
      3 ≤ (amGet s.mgmt.spdm (transportNo tr)).getD 0 → 1 ≤ k.toNat → k.toNat ≤ 7 →
      Does (.getMeasurements tr k false nonce) s fun t => t =
      told tr ([5#8, 0x13#8, 0x60#8, 0x00#8, 0x00#8] ++ [1#8] ++ s.measBlock k.toNat) s) ∧
    (∀ (off : BitVec 32), s.hears .i3c = true → s.rst.recovery = false → off.toNat % 4 = 0 → off.toNat < 2 ^ 26 →
      Does (.regRead .i3c off) s fun t => t =
      told .i3c ([0x7F#8, 0#8] ++ leBytes 4 (s.readReg .mgmtPort off.toNat).1.toNat) (s.readReg .mgmtPort off.toNat).2) ∧
    (∀ (off : BitVec 32), s.hears .i3c = true → s.rst.recovery = false → (off.toNat % 4 ≠ 0 ∨ 2 ^ 26 ≤ off.toNat) →
      Does (.regRead .i3c off) s fun t => t =
      told .i3c [0x7F#8, BitVec.ofNat 8 Status.BAD_DESCRIPTOR, 0#8, 0#8, 0#8, 0#8] s) ∧
    (∀ (off v : Word) (n : Parcel), s.hears .i3c = true → s.rst.recovery = false → s.own.locked = false →
      s.own.owner = 2 → off.toNat = Reg.HLD_CE_LIMIT n → Does (.regWrite .i3c off v) s fun t => ∃ u : State, t =
      told .i3c [0x7F#8, 0#8, 0#8, 0#8, 0#8, 0#8] u ∧ Becomes s [Reg.HLD_CE_LIMIT n] u ∧
      u.fld (F.HLD_CE_LIMIT_LIMIT n) = v.toNat % 2 ^ 16) ∧
    (∀ (off : Word), Does (.regRead .vdm off) s fun t => t = s) ∧
    (∀ (off v : Word), Does (.regWrite .vdm off v) s fun t => t = s)

/-- The step of the block: exec of the front command. That an empty queue idles is the model's choice (log entry 2). -/
def Obligations.StepsRunTheFrontCommand : Prop :=
  (∀ (s : State) (c : Instr) (rest : List Instr), s.pending = c :: rest → step s = exec c { s with pending := rest }) ∧
  ∀ s : State, s.pending = [] → step s = .next s

/-- Reset (the register tables: R8, R49, R183, R204, R238, R292, R310, R335, R354, R371, R390, R411, R427, R469): fields of
every block, the memories and queues empty, no part, context, binding or operation, and the invariant that every step
keeps. -/
def Obligations.ResetHoldsItsStatedValues : Prop :=
  (∀ x ∈ ([(F.CAP_ID_MAKER, 0x5042), (F.CAP_ID_PART, 0x412), (F.OWN_VIOL_COUNT_COUNT, 0), (F.HIF_CFG_BME_LIMIT_MS, 0x00A), (F.FAB_MODE_MODE, 1), (F.FAB_ROUTE_BIAS, 0x400), (F.FAB_E2E_DEFAULT, 0x80), (F.FAB_E2E_BUDGET_BUDGET, 0x800), (F.FAB_RSP_TIMEOUT_US, 0x3E8), (F.COL_CFG_TIMEOUT_US, 0x3E8), (F.TOL_TRAY_BUDGET_W, 0x4B0), (F.TOL_CAP_W, 0x640), (F.TOL_GUARD_MV, 0x32), (F.RST_WDT_CFG_MS, 0x7D0), (F.RST_WDT_CFG_EN, 1), (F.RST_STATE_STEP, 0), (F.PWR_STATUS_LOGIC_READY, 1), (F.PWR_ENTRY_LIMIT_MS, 10), (F.FCU_CFG_GRACE_US, 0x7D0), (F.FCU_PIN_THRESHOLD, 2), (F.FCU_IRQ_THRESHOLD, 1), (F.FCU_STATUS_SAFE, 0), (F.REC_CFG_SILENCE_MS, 0x14), (F.REC_CFG_RESET_LIMIT, 3), (F.BRU_CFG_LINK_WAIT_MS, 0x3E8), (F.MGP_CFG_ABSENT_MS, 0x7D0), (F.MGP_CFG_VDM_EN, 1), (F.MGP_STATUS_ADDR_VALID, 0)] : List (Fld × Nat)), State.reset.fld x.1 = x.2) ∧
  (∀ n < 12, ∀ x ∈ ([(F.HLD_ARB_G_FAB n, 8), (F.HLD_ARB_G_DMA n, 4), (F.HLD_ARB_G_MAINT n, 1), (F.HLD_SCRUB_INTERVAL n, 0x100), (F.HLD_CE_LIMIT_LIMIT n, 0x40), (F.GWY_APPLY_TIMEOUT_US n, 0x7D0), (F.NT_RETRAIN_DRIFT_C n, 15), (F.NT_CE_LIMIT_LIMIT n, 0x100), (F.REC_PARCEL_STATE_STATE n, 4), (F.TOL_GATE_LEVEL n, 16), (F.VU_ERR_INFO_VALID n, 0), (F.MT_ERR_INFO_VALID n, 0), (F.WDC_ERR_INFO_VALID n, 0), (F.KVP_ERR_INFO_VALID n, 0)] : List (Fld × Nat)), State.reset.fld x.1 = x.2) ∧
  State.reset.pending = [] ∧ State.reset.hold = [] ∧ State.reset.tier.near = [] ∧ State.reset.seq = {} ∧ State.reset.host.ctxs = [] ∧
  State.reset.rcv.binds = [] ∧ State.reset.gw.reqs = [] ∧ State.reset.coll.ops = [] ∧ State.reset.fcu.log = [] ∧
  RegsOk State.reset ∧ Memory.wf State.reset

/-- No command of the block stops, and what each may change: the waiting commands, the fuses and what was sent stay, the
clock never goes back, the canonical forms are kept, and the bytes of the hold, the bytes of the near and far tier, the
non-volatile memories and ownership change only by the commands that areasOf names. -/
def Obligations.EveryCommandCompletesInItsAreas : Prop :=
  ∀ (c : Instr) (s : State), ∃ t, exec c s = .next t ∧ Evolves (areasOf c) s t

/-- The invariant of the machine, from every state that has it: equal register files and equal memories are equal data. -/
def Obligations.StepsKeepTheCanonicalForms : Prop :=
  ∀ s t : State, RegsOk s → Memory.wf s → step s = .next t →
    RegsOk t ∧ Memory.wf t ∧ s.mclk ≤ t.mclk ∧ s.out <+: t.out ∧ t.fuses = s.fuses ∧ t.pending = s.pending.tail

/-- R28, as the hold leaves reset with the banks of the floor plan: with L banks lost, the k highest plots are RETIRED for
the least k with L × (96 − k) ≤ k × (64 − L), and the others are usable. -/
def Obligations.LostBanksRetireTheHighestPlots : Prop :=
  ∀ (s : State) (n : Parcel) (L : Nat), RegsOk s → L + popcount (s.planBanks n) 64 = 64 →
    ∃ k, k ≤ 96 ∧ L * (96 - k) ≤ k * (64 - L) ∧ (∀ j < k, ¬ L * (96 - j) ≤ j * (64 - L)) ∧
      (s.releaseHold n).fld (F.HLD_STATUS_USABLE_PLOTS n) = 96 - k ∧
      ∀ p < 96, if 96 - k ≤ p then (s.releaseHold n).fld (F.HLD_PLOT_OWNER_KIND n p) = 3
        else p + 1 ≠ 96 - k → (s.releaseHold n).rd (Reg.HLD_PLOT_OWNER n p) = s.rd (Reg.HLD_PLOT_OWNER n p)
end

