-- ==== Sys2Proof/Laws/Store.lean ====
section
/-! SUPPORT. What the operations on sparse stores do: a read after a write, and that every operation keeps the
canonical form. -/

namespace Sys2Proof.Laws

open Sys2Proof.Machine

variable {w : Nat} {d : Nat → BitVec w}

/-- The canonical form says: addresses strictly rising, and no entry at its default. -/
theorem storeWf_iff (m : Store w) :
    storeWf d m = true ↔ m.Pairwise (fun x y => x.1 < y.1) ∧ ∀ e ∈ m, e.2 ≠ d e.1 := by
  induction m with
  | nil => simp [storeWf]
  | cons e r ih =>
    cases r with
    | nil => simp [storeWf]
    | cons e' r' =>
      simp only [storeWf, Bool.and_eq_true, decide_eq_true_eq, ih, List.pairwise_cons, List.mem_cons, forall_eq_or_imp]
      constructor
      · rintro ⟨⟨h1, h2⟩, ⟨h3, h4⟩, h5, h6⟩
        exact ⟨⟨⟨h2, fun x hx => lt_trans h2 (h3 x hx)⟩, h3, h4⟩, h1, h5, h6⟩
      · rintro ⟨⟨⟨h2, _⟩, h3, h4⟩, h1, h5, h6⟩
        exact ⟨⟨h1, h2⟩, ⟨h3, h4⟩, h5, h6⟩

/-- Every address of a write's result is the written one or one that was there. -/
theorem mem_storeWrite (m : Store w) (a : Nat) (v : BitVec w) (e : Nat × BitVec w)
    (h : e ∈ storeWrite d m a v) : (e = (a, v) ∧ v ≠ d a) ∨ e ∈ m := by
  induction m with
  | nil =>
    simp only [storeWrite] at h
    split at h
    · simp at h
    · rename_i hv; simp at h; exact .inl ⟨h, hv⟩
  | cons x r ih =>
    obtain ⟨k, y⟩ := x
    simp only [storeWrite] at h
    split at h
    · split at h
      · exact .inr h
      · rename_i hv; rcases List.mem_cons.1 h with h | h
        · exact .inl ⟨h, hv⟩
        · exact .inr h
    · split at h
      · split at h
        · exact .inr (List.mem_cons_of_mem _ h)
        · rename_i hv; rcases List.mem_cons.1 h with h | h
          · exact .inl ⟨h, hv⟩
          · exact .inr (List.mem_cons_of_mem _ h)
      · rcases List.mem_cons.1 h with h | h
        · exact .inr (by simp [h])
        · rcases ih h with h | h
          · exact .inl h
          · exact .inr (List.mem_cons_of_mem _ h)

/-- A write keeps the canonical form. -/
theorem storeWf_storeWrite (m : Store w) (a : Nat) (v : BitVec w) (h : storeWf d m = true) :
    storeWf d (storeWrite d m a v) = true := by
  rw [storeWf_iff] at h ⊢
  obtain ⟨hp, hd⟩ := h
  refine ⟨?_, fun e he => ?_⟩
  · induction m with
    | nil => simp only [storeWrite]; split <;> simp
    | cons x r ih =>
      obtain ⟨k, y⟩ := x
      have hr := List.pairwise_cons.1 hp
      simp only [storeWrite]
      split
      · split
        · exact hp
        · rename_i hk _
          refine List.pairwise_cons.2 ⟨fun e he => ?_, hp⟩
          rcases List.mem_cons.1 he with rfl | he
          · exact hk
          · exact lt_trans hk (hr.1 e he)
      · split
        · rename_i hk; subst hk
          split
          · exact hr.2
          · exact List.pairwise_cons.2 ⟨fun e he => hr.1 e he, hr.2⟩
        · rename_i h1 h2
          refine List.pairwise_cons.2 ⟨fun e he => ?_, ih hr.2 fun e he => hd e (List.mem_cons_of_mem _ he)⟩
          rcases mem_storeWrite r a v e he with ⟨rfl, _⟩ | he
          · simp only; omega
          · exact hr.1 e he
  · rcases mem_storeWrite m a v e he with ⟨rfl, hv⟩ | he
    · exact hv
    · exact hd e he

/-- A read of another address is not changed by a write. -/
@[simp] theorem storeRead_storeWrite_ne (m : Store w) (a b : Nat) (v : BitVec w) (h : a ≠ b) :
    storeRead d (storeWrite d m a v) b = storeRead d m b := by
  induction m with
  | nil => simp only [storeWrite]; split <;> simp [storeRead, h]
  | cons x r ih =>
    obtain ⟨k, y⟩ := x
    simp only [storeWrite]
    split
    · split <;> simp [storeRead, h]
    · split
      · rename_i hk; subst hk
        split <;> simp [storeRead, h]
      · simp [storeRead, ih]

/-- An address below every listed one reads as its default. -/
theorem storeRead_of_lt (m : Store w) (a : Nat) (h : ∀ e ∈ m, a < e.1) : storeRead d m a = d a := by
  induction m with
  | nil => rfl
  | cons x r ih =>
    have hx := h x (by simp)
    simp only [storeRead]
    rw [if_neg (by omega)]
    exact ih fun e he => h e (List.mem_cons_of_mem _ he)

/-- A read of the address just written gives the value written. -/
theorem storeRead_storeWrite (m : Store w) (a : Nat) (v : BitVec w) (h : storeWf d m = true) :
    storeRead d (storeWrite d m a v) a = v := by
  rw [storeWf_iff] at h
  obtain ⟨hp, hd⟩ := h
  induction m with
  | nil => simp only [storeWrite]; split <;> simp_all [storeRead]
  | cons x r ih =>
    obtain ⟨k, y⟩ := x
    have hr := List.pairwise_cons.1 hp
    simp only [storeWrite]
    split
    · split
      · rename_i hk hv
        rw [hv]
        refine storeRead_of_lt _ a fun e he => ?_
        rcases List.mem_cons.1 he with rfl | he
        · exact hk
        · exact lt_trans hk (hr.1 e he)
      · simp [storeRead]
    · split
      · rename_i hk; subst hk
        split
        · rename_i hv
          rw [hv]; exact storeRead_of_lt _ _ fun e he => hr.1 e he
        · simp [storeRead]
      · rename_i h1 h2
        simp only [storeRead, if_neg h2]
        exact ih hr.2 fun e he => hd e (List.mem_cons_of_mem _ he)

/-- Taking entries out keeps the canonical form. -/
theorem storeWf_filter (m : Store w) (p : Nat × BitVec w → Bool) (h : storeWf d m = true) :
    storeWf d (m.filter p) = true := by
  rw [storeWf_iff] at h ⊢
  exact ⟨h.1.filter p, fun e he => h.2 e (List.mem_filter.1 he).1⟩

/-- Writing a run of bytes keeps the canonical form. -/
theorem storeWf_memWrite (m : Store 8) (a : Nat) (l : List Byte) (h : storeWf zeroByte m = true) :
    storeWf zeroByte (memWrite m a l) = true := by
  induction l generalizing m a with
  | nil => exact h
  | cons b r ih => exact ih _ _ (storeWf_storeWrite _ _ _ h)

/-- Clearing a range keeps the canonical form. -/
theorem storeWf_memClear (m : Store 8) (a n : Nat) (h : storeWf zeroByte m = true) :
    storeWf zeroByte (memClear m a n) = true := storeWf_filter _ _ h

/-- A byte outside the run written reads as before. -/
theorem storeRead_memWrite_out (m : Store 8) (a b : Nat) (l : List Byte) (h : b < a ∨ a + l.length ≤ b) :
    storeRead zeroByte (memWrite m a l) b = storeRead zeroByte m b := by
  induction l generalizing m a with
  | nil => rfl
  | cons x r ih =>
    simp only [List.length_cons] at h
    simp only [memWrite]
    rw [ih _ _ (by omega), storeRead_storeWrite_ne _ _ _ _ (by omega)]

/-- A byte of the run written reads as written. -/
theorem storeRead_memWrite (m : Store 8) (a i : Nat) (l : List Byte) (hi : i < l.length)
    (h : storeWf zeroByte m = true) : storeRead zeroByte (memWrite m a l) (a + i) = l[i] := by
  induction l generalizing m a i with
  | nil => simp at hi
  | cons x r ih =>
    simp only [memWrite]
    cases i with
    | zero =>
      simp only [Nat.add_zero, List.getElem_cons_zero]
      rw [storeRead_memWrite_out _ _ _ _ (by omega), storeRead_storeWrite _ _ _ h]
    | succ i =>
      have := ih (storeWrite zeroByte m a x) (a + 1) i (by simpa using hi) (storeWf_storeWrite _ _ _ h)
      simpa [Nat.add_assoc, Nat.add_comm 1] using this

/-- Reading back a run of bytes just written. -/
theorem memRead_memWrite (m : Store 8) (a : Nat) (l : List Byte) (h : storeWf zeroByte m = true) :
    memRead (memWrite m a l) a l.length = l := by
  apply List.ext_getElem
  · simp [memRead]
  · intro i h1 h2
    simp [memRead, storeRead_memWrite m a i l h2 h]

/-- Clearing: a byte of the range reads as zero, a byte outside it as before. -/
theorem storeRead_memClear (m : Store 8) (a n b : Nat) :
    storeRead zeroByte (memClear m a n) b = if a ≤ b ∧ b < a + n then 0#8 else storeRead zeroByte m b := by
  induction m with
  | nil => simp [memClear, storeRead, zeroByte]
  | cons x r ih =>
    obtain ⟨k, y⟩ := x
    simp only [memClear, List.filter_cons, storeRead] at ih ⊢
    by_cases hk : k < a ∨ a + n ≤ k
    · simp only [hk, decide_true, if_true, storeRead, ih]
      split
      · subst_vars; rw [if_neg (by omega)]
      · rfl
    · simp only [hk, decide_false, Bool.false_eq_true, if_false, ih]
      split
      · rfl
      · rw [if_neg (by omega)]

/-- The register or memory file of reset, which lists nothing, is in canonical form. -/
@[simp] theorem storeWf_nil : storeWf d ([] : Store w) = true := rfl

end Sys2Proof.Laws
end

