-- ==== Sys2Proof/Laws/Evolves.lean ====
section
/-! SUPPORT. The relation Evolves between the states before and after a command: it is reflexive and transitive, and the
primitive updates keep it. -/

namespace Sys2Proof.Laws

open Sys2Proof.Machine Sys2Proof.Safety

variable {w : Areas}

theorem ev_refl (s : State) : Evolves w s s :=
  ⟨rfl, rfl, le_refl _, le_refl _, List.prefix_refl _, id, id, fun _ => rfl, fun _ => ⟨rfl, rfl⟩, fun _ => rfl, fun _ => rfl⟩

theorem ev_trans {s t u : State} (h : Evolves w s t) (k : Evolves w t u) : Evolves w s u :=
  ⟨k.pending.trans h.pending, k.fuses.trans h.fuses, le_trans h.clock k.clock, le_trans h.free k.free,
    h.out.trans k.out, k.regs ∘ h.regs, k.memory ∘ h.memory, fun e => (k.hold e).trans (h.hold e),
    fun e => ⟨(k.tier e).1.trans (h.tier e).1, (k.tier e).2.trans (h.tier e).2⟩,
    fun e => (k.nv e).trans (h.nv e), fun e => (k.own e).trans (h.own e)⟩

/-- An update of the fields that the relation does not speak of. -/
theorem ev_upd {s0 s : State} {x0} {x1} {x2} {x3} {x4} {x5} {x6} {x7} {x8} {x9} {x10} {x11} {x12} {x13} {x14} {x15} {x16} {x17} {x18} {x19} {x20} {x21} {x22} {x23} {x24} (h : Evolves w s0 s) :
    Evolves w s0 { s with
      fabTime := x0,
      fabRunning := x1,
      fabSlew := x2,
      latches := x3,
      holdPoison := x4,
      inbox := x5,
      seq := x6,
      host := x7,
      fcu := x8,
      rcv := x9,
      slices := x10,
      vus := x11,
      kvp := x12,
      gw := x13,
      eth := x14,
      links := x15,
      fab := x16,
      coll := x17,
      tol := x18,
      rst := x19,
      pwr := x20,
      bru := x21,
      fwu := x22,
      mgmt := x23,
      jtag := x24 } :=
  ev_trans h ⟨rfl, rfl, le_refl _, le_refl _, List.prefix_refl _, id, id, fun _ => rfl, fun _ => ⟨rfl, rfl⟩, fun _ => rfl, fun _ => rfl⟩

/-- Such an update with one of the controllers' state of the memory tiers. -/
theorem ev_updTier {s0 s : State} {c p q r} {x0} {x1} {x2} {x3} {x4} {x5} {x6} {x7} {x8} {x9} {x10} {x11} {x12} {x13} {x14} {x15} {x16} {x17} {x18} {x19} {x20} {x21} {x22} {x23} {x24} (h : Evolves w s0 s) :
    Evolves w s0 { s with
      tier := ⟨s.tier.near, q, s.tier.far, r, c, p⟩,
      fabTime := x0,
      fabRunning := x1,
      fabSlew := x2,
      latches := x3,
      holdPoison := x4,
      inbox := x5,
      seq := x6,
      host := x7,
      fcu := x8,
      rcv := x9,
      slices := x10,
      vus := x11,
      kvp := x12,
      gw := x13,
      eth := x14,
      links := x15,
      fab := x16,
      coll := x17,
      tol := x18,
      rst := x19,
      pwr := x20,
      bru := x21,
      fwu := x22,
      mgmt := x23,
      jtag := x24 } :=
  ev_trans h ⟨rfl, rfl, le_refl _, le_refl _, List.prefix_refl _, id, id, fun _ => rfl, fun _ => ⟨rfl, rfl⟩, fun _ => rfl, fun _ => rfl⟩

/-- Such an update with a new hold memory in canonical form. -/
theorem ev_updHold {s0 s : State} {m : Store 8} {x0} {x1} {x2} {x3} {x4} {x5} {x6} {x7} {x8} {x9} {x10} {x11} {x12} {x13} {x14} {x15} {x16} {x17} {x18} {x19} {x20} {x21} {x22} {x23} {x24}
    (hm : storeWf zeroByte s.hold = true → storeWf zeroByte m = true) (h : Evolves w s0 s)
    (hw : w.hold = true := by assumption) :
    Evolves w s0 { s with
      hold := m,
      fabTime := x0,
      fabRunning := x1,
      fabSlew := x2,
      latches := x3,
      holdPoison := x4,
      inbox := x5,
      seq := x6,
      host := x7,
      fcu := x8,
      rcv := x9,
      slices := x10,
      vus := x11,
      kvp := x12,
      gw := x13,
      eth := x14,
      links := x15,
      fab := x16,
      coll := x17,
      tol := x18,
      rst := x19,
      pwr := x20,
      bru := x21,
      fwu := x22,
      mgmt := x23,
      jtag := x24 } :=
  ev_trans h ⟨rfl, rfl, le_refl _, le_refl _, List.prefix_refl _, id, fun x => ⟨hm x.1, x.2⟩, by simp [hw],
    fun _ => ⟨rfl, rfl⟩, fun _ => rfl, fun _ => rfl⟩

/-- Such an update with new tier memories in canonical form. -/
theorem ev_updBytes {s0 s : State} {x : TierSt} {x0} {x1} {x2} {x3} {x4} {x5} {x6} {x7} {x8} {x9} {x10} {x11} {x12} {x13} {x14} {x15} {x16} {x17} {x18} {x19} {x20} {x21} {x22} {x23} {x24}
    (hm : Memory.wf s → storeWf zeroByte x.near = true ∧ storeWf zeroByte x.far = true) (h : Evolves w s0 s)
    (hw : w.tier = true := by assumption) :
    Evolves w s0 { s with
      tier := x,
      fabTime := x0,
      fabRunning := x1,
      fabSlew := x2,
      latches := x3,
      holdPoison := x4,
      inbox := x5,
      seq := x6,
      host := x7,
      fcu := x8,
      rcv := x9,
      slices := x10,
      vus := x11,
      kvp := x12,
      gw := x13,
      eth := x14,
      links := x15,
      fab := x16,
      coll := x17,
      tol := x18,
      rst := x19,
      pwr := x20,
      bru := x21,
      fwu := x22,
      mgmt := x23,
      jtag := x24 } :=
  ev_trans h ⟨rfl, rfl, le_refl _, le_refl _, List.prefix_refl _, id, fun x => ⟨x.1, hm x⟩, fun _ => rfl, by simp [hw],
    fun _ => rfl, fun _ => rfl⟩

/-- Such an update with new non-volatile memories. -/
theorem ev_updNv {s0 s : State} {x : NvSt} {x0} {x1} {x2} {x3} {x4} {x5} {x6} {x7} {x8} {x9} {x10} {x11} {x12} {x13} {x14} {x15} {x16} {x17} {x18} {x19} {x20} {x21} {x22} {x23} {x24} (h : Evolves w s0 s)
    (hw : w.nv = true := by assumption) :
    Evolves w s0 { s with
      nv := x,
      fabTime := x0,
      fabRunning := x1,
      fabSlew := x2,
      latches := x3,
      holdPoison := x4,
      inbox := x5,
      seq := x6,
      host := x7,
      fcu := x8,
      rcv := x9,
      slices := x10,
      vus := x11,
      kvp := x12,
      gw := x13,
      eth := x14,
      links := x15,
      fab := x16,
      coll := x17,
      tol := x18,
      rst := x19,
      pwr := x20,
      bru := x21,
      fwu := x22,
      mgmt := x23,
      jtag := x24 } :=
  ev_trans h ⟨rfl, rfl, le_refl _, le_refl _, List.prefix_refl _, id, id, fun _ => rfl, fun _ => ⟨rfl, rfl⟩,
    by simp [hw], fun _ => rfl⟩

/-- Such an update with another ownership. -/
theorem ev_updOwn {s0 s : State} {x : OwnSt} {x0} {x1} {x2} {x3} {x4} {x5} {x6} {x7} {x8} {x9} {x10} {x11} {x12} {x13} {x14} {x15} {x16} {x17} {x18} {x19} {x20} {x21} {x22} {x23} {x24} (h : Evolves w s0 s)
    (hw : w.own = true := by assumption) :
    Evolves w s0 { s with
      own := x,
      fabTime := x0,
      fabRunning := x1,
      fabSlew := x2,
      latches := x3,
      holdPoison := x4,
      inbox := x5,
      seq := x6,
      host := x7,
      fcu := x8,
      rcv := x9,
      slices := x10,
      vus := x11,
      kvp := x12,
      gw := x13,
      eth := x14,
      links := x15,
      fab := x16,
      coll := x17,
      tol := x18,
      rst := x19,
      pwr := x20,
      bru := x21,
      fwu := x22,
      mgmt := x23,
      jtag := x24 } :=
  ev_trans h ⟨rfl, rfl, le_refl _, le_refl _, List.prefix_refl _, id, id, fun _ => rfl, fun _ => ⟨rfl, rfl⟩,
    fun _ => rfl, by simp [hw]⟩

theorem ev_setRdB {s0 s : State} (bank off : Nat) (v : BitVec 32) (h : Evolves w s0 s) :
    Evolves w s0 (s.setRdB bank off v) :=
  ev_trans h ⟨rfl, rfl, le_refl _, le_refl _, List.prefix_refl _, storeWf_storeWrite _ _ _, id, fun _ => rfl,
    fun _ => ⟨rfl, rfl⟩, fun _ => rfl, fun _ => rfl⟩

/-- Registers taken back to their defaults, beside such an update. -/
theorem ev_updRegs {s0 s : State} {m : Store 32} {x0} {x1} {x2} {x3} {x4} {x5} {x6} {x7} {x8} {x9} {x10} {x11} {x12} {x13} {x14} {x15} {x16} {x17} {x18} {x19} {x20} {x21} {x22} {x23} {x24}
    (hm : storeWf (regDefault s.fuses) s.regs = true → storeWf (regDefault s.fuses) m = true) (h : Evolves w s0 s) :
    Evolves w s0 { s with
      regs := m,
      fabTime := x0,
      fabRunning := x1,
      fabSlew := x2,
      latches := x3,
      holdPoison := x4,
      inbox := x5,
      seq := x6,
      host := x7,
      fcu := x8,
      rcv := x9,
      slices := x10,
      vus := x11,
      kvp := x12,
      gw := x13,
      eth := x14,
      links := x15,
      fab := x16,
      coll := x17,
      tol := x18,
      rst := x19,
      pwr := x20,
      bru := x21,
      fwu := x22,
      mgmt := x23,
      jtag := x24 } :=
  ev_trans h ⟨rfl, rfl, le_refl _, le_refl _, List.prefix_refl _, hm, id, fun _ => rfl, fun _ => ⟨rfl, rfl⟩,
    fun _ => rfl, fun _ => rfl⟩

theorem ev_emit {s0 s : State} (o : Output) (h : Evolves w s0 s) : Evolves w s0 (s.emit o) :=
  ev_trans h ⟨rfl, rfl, le_refl _, le_refl _, List.prefix_append _ _, id, id, fun _ => rfl, fun _ => ⟨rfl, rfl⟩, fun _ => rfl, fun _ => rfl⟩

theorem ev_free {s0 s : State} (k : Nat) (h : Evolves w s0 s) : Evolves w s0 (s.free k).2 :=
  ev_trans h ⟨rfl, rfl, le_refl _, Nat.le_succ _, List.prefix_refl _, id, id, fun _ => rfl, fun _ => ⟨rfl, rfl⟩, fun _ => rfl, fun _ => rfl⟩

theorem ev_advanceTo {s0 s : State} (t : Nat) (h : Evolves w s0 s) : Evolves w s0 (s.advanceTo t) :=
  ev_trans h ⟨rfl, rfl, Nat.le_max_left _ _, le_refl _, List.prefix_refl _, id, id, fun _ => rfl, fun _ => ⟨rfl, rfl⟩, fun _ => rfl, fun _ => rfl⟩

/-! ## Folds, pairs and branches -/

theorem ev_foldl {α : Type} {s0 s : State} {f : State → α → State} {l : List α}
    (h : Evolves w s0 s) (hf : ∀ x a, Evolves w s0 x → Evolves w s0 (f x a)) : Evolves w s0 (l.foldl f s) := by
  induction l generalizing s with
  | nil => exact h
  | cons a r ih => exact ih (hf _ _ h)

theorem ev_foldl_fst {α β : Type} {s0 : State} {f : State × β → α → State × β} {l : List α} {x : State × β}
    (h : Evolves w s0 x.1) (hf : ∀ y a, Evolves w s0 y.1 → Evolves w s0 (f y a).1) : Evolves w s0 (l.foldl f x).1 := by
  induction l generalizing x with
  | nil => exact h
  | cons a r ih => exact ih (hf _ _ h)

theorem ev_foldl_snd {α β : Type} {s0 : State} {f : β × State → α → β × State} {l : List α} {x : β × State}
    (h : Evolves w s0 x.2) (hf : ∀ y a, Evolves w s0 y.2 → Evolves w s0 (f y a).2) : Evolves w s0 (l.foldl f x).2 := by
  induction l generalizing x with
  | nil => exact h
  | cons a r ih => exact ih (hf _ _ h)

theorem ev_of_fst {β : Type} {s0 t : State} {b : β} {p : State × β} (e : p = (t, b)) (h : Evolves w s0 p.1) :
    Evolves w s0 t := by subst e; exact h

theorem ev_of_snd {β : Type} {s0 t : State} {b : β} {p : β × State} (e : p = (b, t)) (h : Evolves w s0 p.2) :
    Evolves w s0 t := by subst e; exact h

theorem ev_ite {s0 a b : State} {c : Prop} [Decidable c] (ha : c → Evolves w s0 a) (hb : ¬c → Evolves w s0 b) :
    Evolves w s0 (if c then a else b) := by split <;> simp_all

theorem ev_getD {s0 s : State} {o : Option State} (ho : ∀ t, o = some t → Evolves w s0 t) (h : Evolves w s0 s) :
    Evolves w s0 (o.getD s) := by
  cases o with
  | none => exact h
  | some t => exact ho t rfl

theorem ev_snd_ite {α : Type} {s0 s : State} {a : α} {x : α × State} {c : Bool} (h : Evolves w s0 s) (hx : Evolves w s0 x.2) :
    Evolves w s0 (if c then (a, s) else x).2 := by split <;> assumption

theorem ev_next {s0 s t : State} (h : Evolves w s0 s)
    (e : (Host.Outcome.next s : Host.Outcome State Fault Refusal) = .next t) : Evolves w s0 t := by
  cases e; exact h

end Sys2Proof.Laws
end

