-- ==== Sys2Proof/Laws/EvCore.lean ====
section
/-! SUPPORT. What a command may do to the state (Evolves), for every function of the shared operations: registers, faults, requests, the hold and ownership.
-/

set_option Elab.async false
set_option linter.unreachableTactic false
set_option linter.unusedTactic false
set_option linter.unusedVariables false

namespace Sys2Proof.Laws

open Sys2Proof.Machine Sys2Proof.Safety

variable {w : Areas} {s0 : State}

theorem ev_setFldB (a1 : State) (a2 : Nat) (a3 : Fld) (a4 : Nat) (h1 : Evolves w s0 a1) :
    Evolves w s0 (State.setFldB a1 a2 a3 a4) := by
  unfold State.setFldB
  repeat' (first | with_reducible (first | assumption | apply ev_setRdB) | intro _ | split | dsimp only | with_reducible (first | apply ev_upd | apply ev_updTier))

theorem ev_setFld (a1 : State) (a2 : Fld) (a3 : Nat) (h1 : Evolves w s0 a1) :
    Evolves w s0 (State.setFld a1 a2 a3) := by
  unfold State.setFld
  repeat' (first | with_reducible (first | assumption | apply ev_setFldB) | intro _ | split | dsimp only | with_reducible (first | apply ev_upd | apply ev_updTier))

theorem ev_addSat (a1 : State) (a2 : Fld) (a3 : optParam Nat 1) (h1 : Evolves w s0 a1) :
    Evolves w s0 (State.addSat a1 a2 a3) := by
  unfold State.addSat
  repeat' (first | with_reducible (first | assumption | apply ev_setFld) | intro _ | split | dsimp only | with_reducible (first | apply ev_upd | apply ev_updTier))

theorem ev_setFn (a1 : State) (a2 : Nat) (a3 : FnState) (h1 : Evolves w s0 a1) :
    Evolves w s0 (State.setFn a1 a2 a3) := by
  unfold State.setFn
  repeat' (first | with_reducible (first | assumption) | intro _ | split | dsimp only | with_reducible (first | apply ev_upd | apply ev_updTier))

theorem ev_bmeWaits (a1 : State) (a2 : Nat) (h1 : Evolves w s0 a1) :
    Evolves w s0 (State.bmeWaits a1 a2) := by
  unfold State.bmeWaits
  repeat' (first | with_reducible (first | assumption | apply ev_setFn) | intro _ | split | dsimp only | with_reducible (first | apply ev_upd | apply ev_updTier))

theorem ev_msix (a1 : State) (a2 a3 : Nat) (h1 : Evolves w s0 a1) :
    Evolves w s0 (State.msix a1 a2 a3) := by
  unfold State.msix
  repeat' (first | with_reducible (first | assumption | apply ev_bmeWaits | apply ev_emit) | intro _ | split | dsimp only | with_reducible (first | apply ev_upd | apply ev_updTier))

theorem ev_setBit (a1 : State) (a2 : Fld) (h1 : Evolves w s0 a1) :
    Evolves w s0 (State.setBit a1 a2) := by
  unfold State.setBit
  repeat' (first | with_reducible (first | assumption | apply ev_setFld) | intro _ | split | dsimp only | with_reducible (first | apply ev_upd | apply ev_updTier))

theorem ev_mgmtEvent (a1 : State) (a2 : Nat) (a3 : List Byte) (h1 : Evolves w s0 a1) :
    Evolves w s0 (State.mgmtEvent a1 a2 a3) := by
  unfold State.mgmtEvent
  repeat' (first | with_reducible (first | assumption | apply ev_addSat | apply ev_setBit | apply ev_emit) | intro _ | split | dsimp only | with_reducible (first | apply ev_upd | apply ev_updTier))

theorem ev_pwrResult (a1 : State) (a2 a3 a4 a5 : Nat) (h1 : Evolves w s0 a1) :
    Evolves w s0 (State.pwrResult a1 a2 a3 a4 a5) := by
  unfold State.pwrResult
  repeat' (first | with_reducible (first | assumption | apply ev_setRdB) | intro _ | split | dsimp only | with_reducible (first | apply ev_upd | apply ev_updTier))

theorem ev_pwrIdle (a1 : State) (h1 : Evolves w s0 a1) :
    Evolves w s0 (State.pwrIdle a1) := by
  unfold State.pwrIdle
  repeat' (first | with_reducible (first | assumption | apply ev_setFld | refine ev_of_snd (by assumption) ?_ | refine ev_of_fst (by assumption) ?_) | intro _ | split | dsimp only | with_reducible (first | apply ev_upd | apply ev_updTier))

theorem ev_abandonEntry (a1 : State) (a2 : Nat) (h1 : Evolves w s0 a1) :
    Evolves w s0 (State.abandonEntry a1 a2) := by
  unfold State.abandonEntry
  repeat' (first | with_reducible (first | assumption | apply ev_pwrResult | apply ev_pwrIdle) | intro _ | split | dsimp only | with_reducible (first | apply ev_upd | apply ev_updTier))

theorem ev_setRt (a1 : State) (a2 : Nat) (a3 : ParcelRt) (h1 : Evolves w s0 a1) :
    Evolves w s0 (State.setRt a1 a2 a3) := by
  unfold State.setRt
  repeat' (first | with_reducible (first | assumption) | intro _ | split | dsimp only | with_reducible (first | apply ev_upd | apply ev_updTier))

theorem ev_abortBench (a1 : State) (a2 : Nat) (h1 : Evolves w s0 a1) :
    Evolves w s0 (State.abortBench a1 a2) := by
  unfold State.abortBench
  repeat' (first | with_reducible (first | assumption | apply ev_setFld | apply ev_setRt) | intro _ | split | dsimp only | with_reducible (first | apply ev_upd | apply ev_updTier))

theorem ev_mapParts (a1 : State) (a2 : Desc → Part → Part) (h1 : Evolves w s0 a1) :
    Evolves w s0 (State.mapParts a1 a2) := by
  unfold State.mapParts
  repeat' (first | with_reducible (first | assumption) | intro _ | split | dsimp only | with_reducible (first | apply ev_upd | apply ev_updTier))

theorem ev_stopGrace (a1 : State) (a2 : Nat) (h1 : Evolves w s0 a1) :
    Evolves w s0 (State.stopGrace a1 a2) := by
  unfold State.stopGrace
  repeat' (first | with_reducible (first | assumption | refine ev_of_snd (by assumption) ?_ | refine ev_of_fst (by assumption) ?_) | intro _ | split | dsimp only | with_reducible (first | apply ev_upd | apply ev_updTier))

theorem ev_disarmBells (a1 : State) (a2 : Nat) (h1 : Evolves w s0 a1) :
    Evolves w s0 (State.disarmBells a1 a2) := by
  unfold State.disarmBells
  repeat' (first | with_reducible (first | assumption | apply ev_setFld | refine ev_of_snd (by assumption) ?_ | refine ev_of_fst (by assumption) ?_) | intro _ | split | dsimp only | with_reducible (first | apply ev_upd | apply ev_updTier))

theorem ev_beginFence (a1 : State) (a2 a3 : Nat) (a4 a5 a6 : Bool) (h1 : Evolves w s0 a1) :
    Evolves w s0 (State.beginFence a1 a2 a3 a4 a5 a6) := by
  unfold State.beginFence
  repeat' (first | with_reducible (first | assumption | apply ev_abortBench | apply ev_setFld | apply ev_mapParts | apply ev_stopGrace | apply ev_setRt | apply ev_disarmBells) | intro _ | split | dsimp only | with_reducible (first | apply ev_upd | apply ev_updTier))

theorem ev_setBind (a1 : State) (a2 : Nat) (a3 : BindSt) (h1 : Evolves w s0 a1) :
    Evolves w s0 (State.setBind a1 a2 a3) := by
  unfold State.setBind
  repeat' (first | with_reducible (first | assumption) | intro _ | split | dsimp only | with_reducible (first | apply ev_upd | apply ev_updTier))

theorem ev_setRd (a1 : State) (a2 : Nat) (a3 : BitVec 32) (h1 : Evolves w s0 a1) :
    Evolves w s0 (State.setRd a1 a2 a3) := by
  unfold State.setRd
  repeat' (first | with_reducible (first | assumption | apply ev_setRdB) | intro _ | split | dsimp only | with_reducible (first | apply ev_upd | apply ev_updTier))

theorem ev_setRd64 (a1 : State) (a2 a3 : Nat) (h1 : Evolves w s0 a1) :
    Evolves w s0 (State.setRd64 a1 a2 a3) := by
  unfold State.setRd64
  repeat' (first | with_reducible (first | assumption | apply ev_setRd) | intro _ | split | dsimp only | with_reducible (first | apply ev_upd | apply ev_updTier))

theorem ev_add64 (a1 : State) (a2 a3 : Nat) (h1 : Evolves w s0 a1) :
    Evolves w s0 (State.add64 a1 a2 a3) := by
  unfold State.add64
  repeat' (first | with_reducible (first | assumption | apply ev_setRd64) | intro _ | split | dsimp only | with_reducible (first | apply ev_upd | apply ev_updTier))

theorem ev_endPart (a1 : State) (a2 a3 a4 : Nat) (h1 : Evolves w s0 a1) :
    Evolves w s0 (State.endPart a1 a2 a3 a4) := by
  unfold State.endPart
  repeat' (first | with_reducible (first | assumption | apply ev_mapParts) | intro _ | split | dsimp only | with_reducible (first | apply ev_upd | apply ev_updTier))

theorem ev_setCtx (a1 : State) (a2 : Nat) (a3 : Ctx) (h1 : Evolves w s0 a1) :
    Evolves w s0 (State.setCtx a1 a2 a3) := by
  unfold State.setCtx
  repeat' (first | with_reducible (first | assumption) | intro _ | split | dsimp only | with_reducible (first | apply ev_upd | apply ev_updTier))

theorem ev_addWrap (a1 : State) (a2 : Fld) (a3 : optParam Nat 1) (h1 : Evolves w s0 a1) :
    Evolves w s0 (State.addWrap a1 a2 a3) := by
  unfold State.addWrap
  repeat' (first | with_reducible (first | assumption | apply ev_setFld) | intro _ | split | dsimp only | with_reducible (first | apply ev_upd | apply ev_updTier))

theorem ev_atDeadline (a1 : State) (a2 : Option Nat) (a3 : State → State) (h1 : Evolves w s0 a1) (h3 : ∀ y1, Evolves w
    s0 y1 → Evolves w s0 (a3 y1)) :
    Evolves w s0 (State.atDeadline a1 a2 a3) := by
  unfold State.atDeadline
  repeat' (first | with_reducible (first | assumption | apply ev_advanceTo | apply h3) | intro _ | split | dsimp only | with_reducible (first | apply ev_upd | apply ev_updTier))

theorem ev_beginWake (a1 : State) (a2 : Nat) (h1 : Evolves w s0 a1) :
    Evolves w s0 (State.beginWake a1 a2) := by
  unfold State.beginWake
  repeat' (first | with_reducible (first | assumption | apply ev_setBit | apply ev_setFld | apply ev_pwrResult | apply ev_pwrIdle) | intro _ | split | dsimp only | with_reducible (first | apply ev_upd | apply ev_updTier))

theorem ev_wakeEvent (a1 : State) (a2 : Nat) (h1 : Evolves w s0 a1) :
    Evolves w s0 (State.wakeEvent a1 a2) := by
  unfold State.wakeEvent
  repeat' (first | with_reducible (first | assumption | apply ev_beginWake | apply ev_abandonEntry | apply ev_setBit | apply ev_setFld) | intro _ | split | dsimp only | with_reducible (first | apply ev_upd | apply ev_updTier))

theorem ev_doorbellWake (a1 : State) (a2 : Nat) (h1 : Evolves w s0 a1) :
    Evolves w s0 (State.doorbellWake a1 a2) := by
  unfold State.doorbellWake
  repeat' (first | with_reducible (first | assumption | apply ev_wakeEvent) | intro _ | split | dsimp only | with_reducible (first | apply ev_upd | apply ev_updTier))

theorem ev_violation (a1 : State) (a2 : Path) (a3 : Nat) (h1 : Evolves w s0 a1) :
    Evolves w s0 (State.violation a1 a2 a3) := by
  unfold State.violation
  repeat' (first | with_reducible (first | assumption | apply ev_addSat | apply ev_setBit | apply ev_setFld) | intro _ | split | dsimp only | with_reducible (first | apply ev_upd | apply ev_updTier))

theorem ev_rwl (a1 : State) (a2 : Path) (a3 : Nat) (a4 : State → State) (h1 : Evolves w s0 a1) (h4 : ∀ y1, Evolves w s0
    y1 → Evolves w s0 (a4 y1)) :
    Evolves w s0 (State.rwl a1 a2 a3 a4) := by
  unfold State.rwl
  repeat' (first | with_reducible (first | assumption | apply ev_violation | apply h4) | intro _ | split | dsimp only | with_reducible (first | apply ev_upd | apply ev_updTier))

theorem ev_setLink (a1 : State) (a2 : Nat) (a3 : LinkSt) (h1 : Evolves w s0 a1) :
    Evolves w s0 (State.setLink a1 a2 a3) := by
  unfold State.setLink
  repeat' (first | with_reducible (first | assumption) | intro _ | split | dsimp only | with_reducible (first | apply ev_upd | apply ev_updTier))

theorem ev_startTx (a1 : State) (a2 : Nat) (a3 : TxEnt) (h1 : Evolves w s0 a1) :
    Evolves w s0 (State.startTx a1 a2 a3) := by
  unfold State.startTx
  repeat' (first | with_reducible (first | assumption | apply ev_setFld | apply ev_add64 | apply ev_setLink | apply ev_emit) | intro _ | split | dsimp only | with_reducible (first | apply ev_upd | apply ev_updTier))

theorem ev_linkSend (a1 : State) (a2 : Nat) (a3 : TxEnt) (h1 : Evolves w s0 a1) :
    Evolves w s0 (State.linkSend a1 a2 a3) := by
  unfold State.linkSend
  repeat' (first | with_reducible (first | assumption | apply ev_setFld | apply ev_startTx | apply ev_setLink) | intro _ | split | dsimp only | with_reducible (first | apply ev_upd | apply ev_updTier))

theorem ev_sendPacket (a1 : State) (a2 : Packet) (h1 : Evolves w s0 a1) :
    Evolves w s0 (State.sendPacket a1 a2).2 := by
  unfold State.sendPacket
  repeat' (first | with_reducible (first | assumption | apply ev_addSat | apply ev_linkSend | refine ev_of_snd (by assumption) ?_ | refine ev_of_fst (by assumption) ?_) | intro _ | split | dsimp only | with_reducible (first | apply ev_upd | apply ev_updTier))

theorem ev_sendAny (a1 : State) (a2 : Packet) (h1 : Evolves w s0 a1) :
    Evolves w s0 (State.sendAny a1 a2) := by
  unfold State.sendAny
  repeat' (first | with_reducible (first | assumption | apply ev_sendPacket) | intro _ | split | dsimp only | with_reducible (first | apply ev_upd | apply ev_updTier))

theorem ev_winTake (a1 : State) (a2 : Nat) (a3 : Packet) (h1 : Evolves w s0 a1) :
    Evolves w s0 (State.winTake a1 a2 a3) := by
  unfold State.winTake
  repeat' (first | with_reducible (first | assumption | apply ev_setBit | refine ev_of_snd (by assumption) ?_ | refine ev_of_fst (by assumption) ?_) | intro _ | split | dsimp only | with_reducible (first | apply ev_upd | apply ev_updTier))

theorem ev_sendRequest (a1 : State) (a2 a3 : Nat) (a4 : Packet) (h1 : Evolves w s0 a1) :
    Evolves w s0 (State.sendRequest a1 a2 a3 a4).2 := by
  unfold State.sendRequest
  repeat' (first | with_reducible (first | assumption | apply ev_sendPacket | apply ev_winTake | refine ev_of_snd (by assumption) ?_ | refine ev_of_fst (by assumption) ?_) | intro _ | split | dsimp only | with_reducible (first | apply ev_upd | apply ev_updTier))

theorem ev_winGive (a1 : State) (a2 : Nat) (a3 : Packet) (h1 : Evolves w s0 a1) :
    Evolves w s0 (State.winGive a1 a2 a3) := by
  unfold State.winGive
  repeat' (first | with_reducible (first | assumption) | intro _ | split | dsimp only | with_reducible (first | apply ev_upd | apply ev_updTier))

theorem ev_linkDrain (a1 : State) (a2 : Nat) (h1 : Evolves w s0 a1) :
    Evolves w s0 (State.linkDrain a1 a2) := by
  unfold State.linkDrain
  repeat' (first | with_reducible (first | assumption | apply ev_setFld | apply ev_linkSend | apply ev_setLink | apply ev_foldl | apply ev_foldl_fst | apply ev_foldl_snd) | intro _ | split | dsimp only | with_reducible (first | apply ev_upd | apply ev_updTier))

theorem ev_setGroup (a1 : State) (a2 : Nat) (a3 : Option GroupRec) (h1 : Evolves w s0 a1) :
    Evolves w s0 (State.setGroup a1 a2 a3) := by
  unfold State.setGroup
  repeat' (first | with_reducible (first | assumption) | intro _ | split | dsimp only | with_reducible (first | apply ev_upd | apply ev_updTier))

theorem ev_advanceSeq (a1 : State) (a2 : Nat) (h1 : Evolves w s0 a1) :
    Evolves w s0 (State.advanceSeq a1 a2) := by
  unfold State.advanceSeq
  repeat' (first | with_reducible (first | assumption | apply ev_setGroup) | intro _ | split | dsimp only | with_reducible (first | apply ev_upd | apply ev_updTier))

theorem ev_recordAbort (a1 : State) (a2 : GroupRec) (a3 : CollAbort) (a4 a5 : Nat) (h1 : Evolves w s0 a1) :
    Evolves w s0 (State.recordAbort a1 a2 a3 a4 a5) := by
  unfold State.recordAbort
  repeat' (first | with_reducible (first | assumption | apply ev_setFld | apply ev_setRd) | intro _ | split | dsimp only | with_reducible (first | apply ev_upd | apply ev_updTier))

theorem ev_collMark (a1 : State) (a2 a3 : Nat) (h1 : Evolves w s0 a1) :
    Evolves w s0 (State.collMark a1 a2 a3) := by
  unfold State.collMark
  repeat' (first | with_reducible (first | assumption) | intro _ | split | dsimp only | with_reducible (first | apply ev_upd | apply ev_updTier))

theorem ev_applyAbort (a1 : State) (a2 : Nat) (a3 : GroupRec) (a4 : Nat) (a5 : CollAbort) (h1 : Evolves w s0 a1) :
    Evolves w s0 (State.applyAbort a1 a2 a3 a4 a5) := by
  unfold State.applyAbort
  repeat' (first | with_reducible (first | assumption | apply ev_advanceSeq | apply ev_recordAbort | apply ev_setBit | apply ev_collMark | apply ev_endPart) | intro _ | split | dsimp only | with_reducible (first | apply ev_upd | apply ev_updTier))

theorem ev_abortRank (a1 : State) (a2 : LegOp) (a3 a4 : Nat) (a5 : CollAbort) (a6 : GroupRec) (h1 : Evolves w s0 a1) :
    Evolves w s0 (State.abortRank a1 a2 a3 a4 a5 a6) := by
  unfold State.abortRank
  repeat' (first | with_reducible (first | assumption | apply ev_applyAbort | apply ev_setGroup) | intro _ | split | dsimp only | with_reducible (first | apply ev_upd | apply ev_updTier))

theorem ev_putOp (a1 : State) (a2 : GroupRec) (a3 a4 a5 : Nat) (a6 : Option LegOp) (h1 : Evolves w s0 a1) :
    Evolves w s0 (State.putOp a1 a2 a3 a4 a5 a6) := by
  unfold State.putOp
  repeat' (first | with_reducible (first | assumption) | intro _ | split | dsimp only | with_reducible (first | apply ev_upd | apply ev_updTier))

theorem ev_abortLeg (a1 : State) (a2 : GroupRec) (a3 a4 a5 a6 a7 : Nat) (a8 : Bool) (a9 : Nat → Nat) (h1 : Evolves w s0
    a1) :
    Evolves w s0 (State.abortLeg a1 a2 a3 a4 a5 a6 a7 a8 a9) := by
  unfold State.abortLeg
  repeat' (first | with_reducible (first | assumption | apply ev_abortRank | apply ev_addSat | apply ev_putOp | apply ev_foldl | apply ev_foldl_fst | apply ev_foldl_snd) | intro _ | split | dsimp only | with_reducible (first | apply ev_upd | apply ev_updTier))

theorem ev_legAbort (a1 : State) (a2 : GroupRec) (a3 a4 a5 a6 a7 : Nat) (a8 : Nat → Nat) (h1 : Evolves w s0 a1) :
    Evolves w s0 (State.legAbort a1 a2 a3 a4 a5 a6 a7 a8) := by
  unfold State.legAbort
  repeat' (first | with_reducible (first | assumption | apply ev_abortLeg | apply ev_setBit | apply ev_sendAny | apply ev_foldl | apply ev_foldl_fst | apply ev_foldl_snd) | intro _ | split | dsimp only | with_reducible (first | apply ev_upd | apply ev_updTier))

theorem ev_collFailed (a1 : State) (a2 a3 a4 : Nat) (h1 : Evolves w s0 a1) :
    Evolves w s0 (State.collFailed a1 a2 a3 a4) := by
  unfold State.collFailed
  repeat' (first | with_reducible (first | assumption | apply ev_legAbort | apply ev_advanceSeq | apply ev_recordAbort | apply ev_collMark) | intro _ | split | dsimp only | with_reducible (first | apply ev_upd | apply ev_updTier))

theorem ev_collSweep (a1 : State) (h1 : Evolves w s0 a1) :
    Evolves w s0 (State.collSweep a1) := by
  unfold State.collSweep
  repeat' (first | with_reducible (first | assumption | apply ev_collFailed | apply ev_foldl | apply ev_foldl_fst | apply ev_foldl_snd | refine ev_of_snd (by assumption) ?_ | refine ev_of_fst (by assumption) ?_) | intro _ | split | dsimp only | with_reducible (first | apply ev_upd | apply ev_updTier))

theorem ev_legFailed (a1 : State) (a2 : GroupRec) (a3 a4 a5 a6 : Nat) (h1 : Evolves w s0 a1) :
    Evolves w s0 (State.legFailed a1 a2 a3 a4 a5 a6) := by
  unfold State.legFailed
  repeat' (first | with_reducible (first | assumption | apply ev_legAbort) | intro _ | split | dsimp only | with_reducible (first | apply ev_upd | apply ev_updTier))

theorem ev_collLost (a1 : State) (a2 : Packet) (h1 : Evolves w s0 a1) :
    Evolves w s0 (State.collLost a1 a2) := by
  unfold State.collLost
  repeat' (first | with_reducible (first | assumption | apply ev_legFailed) | intro _ | split | dsimp only | with_reducible (first | apply ev_upd | apply ev_updTier))

theorem ev_notify (a1 : State) (a2 : FaultRec) (h1 : Evolves w s0 a1) :
    Evolves w s0 (State.notify a1 a2) := by
  unfold State.notify
  repeat' (first | with_reducible (first | assumption | apply ev_msix | apply ev_mgmtEvent) | intro _ | split | dsimp only | with_reducible (first | apply ev_upd | apply ev_updTier))

theorem ev_g4Pulse (a1 : State) (a2 : Nat) (h1 : Evolves w s0 a1) :
    Evolves w s0 (State.g4Pulse a1 a2) := by
  unfold State.g4Pulse
  repeat' (first | with_reducible (first | assumption | refine ev_of_snd (by assumption) ?_ | refine ev_of_fst (by assumption) ?_) | intro _ | split | dsimp only | with_reducible (first | apply ev_upd | apply ev_updTier))

theorem ev_endPhases (a1 : State) (h1 : Evolves w s0 a1) :
    Evolves w s0 (State.endPhases a1) := by
  unfold State.endPhases
  repeat' (first | with_reducible (first | assumption | apply ev_setFld) | intro _ | split | dsimp only | with_reducible (first | apply ev_upd | apply ev_updTier))

theorem ev_castOff (a1 : State) (a2 a3 : Nat) (h1 : Evolves w s0 a1) :
    Evolves w s0 (State.castOff a1 a2 a3) := by
  unfold State.castOff
  repeat' (first | with_reducible (first | assumption | apply ev_setBit | apply ev_setBind | apply ev_beginFence | apply ev_sendAny | apply ev_foldl | apply ev_foldl_fst | apply ev_foldl_snd) | intro _ | split | dsimp only | with_reducible (first | apply ev_upd | apply ev_updTier))

theorem ev_enterSafe (a1 : State) (a2 : Nat) (h1 : Evolves w s0 a1) :
    Evolves w s0 (State.enterSafe a1 a2) := by
  unfold State.enterSafe
  repeat' (first | with_reducible (first | assumption | apply ev_abandonEntry | apply ev_setBit | apply ev_setFld | apply ev_beginFence | apply ev_endPhases | apply ev_castOff | apply ev_foldl | apply ev_foldl_fst | apply ev_foldl_snd) | intro _ | split | dsimp only | with_reducible (first | apply ev_upd | apply ev_updTier))

theorem ev_setStat (a1 : State) (a2 a3 : Nat) (h1 : Evolves w s0 a1) :
    Evolves w s0 (State.setStat a1 a2 a3) := by
  unfold State.setStat
  repeat' (first | with_reducible (first | assumption | apply ev_setFld | apply ev_setRd) | intro _ | split | dsimp only | with_reducible (first | apply ev_upd | apply ev_updTier))

theorem ev_logFault (a1 : State) (a2 : FaultRec) (h1 : Evolves w s0 a1) :
    Evolves w s0 (State.logFault a1 a2) := by
  unfold State.logFault
  repeat' (first | with_reducible (first | assumption | apply ev_addSat | apply ev_setBit | apply ev_setFld | apply ev_setRd64) | intro _ | split | dsimp only | with_reducible (first | apply ev_upd | apply ev_updTier))

theorem ev_latchEvent (a1 : State) (a2 : FaultInput) (a3 : Option Nat) (h1 : Evolves w s0 a1) :
    Evolves w s0 (State.latchEvent a1 a2 a3) := by
  unfold State.latchEvent
  repeat' (first | with_reducible (first | assumption | apply ev_notify | apply ev_addSat | apply ev_setFld | apply ev_g4Pulse | apply ev_enterSafe | apply ev_setStat | apply ev_logFault | refine ev_of_snd (by assumption) ?_ | refine ev_of_fst (by assumption) ?_) | intro _ | split | dsimp only | with_reducible (first | apply ev_upd | apply ev_updTier))

theorem ev_raise (a1 : State) (a2 a3 a4 : Nat) (a5 : Option Attr) (h1 : Evolves w s0 a1) :
    Evolves w s0 (State.raise a1 a2 a3 a4 a5) := by
  unfold State.raise
  repeat' (first | with_reducible (first | assumption | apply ev_latchEvent | refine ev_of_snd (by assumption) ?_ | refine ev_of_fst (by assumption) ?_) | intro _ | split | dsimp only | with_reducible (first | apply ev_upd | apply ev_updTier))

theorem ev_requestReset (a1 : State) (a2 : Nat) (h1 : Evolves w s0 a1) :
    Evolves w s0 (State.requestReset a1 a2) := by
  unfold State.requestReset
  repeat' (first | with_reducible (first | assumption | refine ev_of_snd (by assumption) ?_ | refine ev_of_fst (by assumption) ?_) | intro _ | split | dsimp only | with_reducible (first | apply ev_upd | apply ev_updTier))

theorem ev_degrade (a1 : State) (a2 : Fld) (a3 : Option Nat) (h1 : Evolves w s0 a1) :
    Evolves w s0 (State.degrade a1 a2 a3) := by
  unfold State.degrade
  repeat' (first | with_reducible (first | assumption | apply ev_setBit | apply ev_setFld | apply ev_mgmtEvent) | intro _ | split | dsimp only | with_reducible (first | apply ev_upd | apply ev_updTier))

theorem ev_clearFirst (a1 : State) (h1 : Evolves w s0 a1) :
    Evolves w s0 (State.clearFirst a1) := by
  unfold State.clearFirst
  repeat' (first | with_reducible (first | assumption | apply ev_setRd64 | apply ev_setRd) | intro _ | split | dsimp only | with_reducible (first | apply ev_upd | apply ev_updTier))

theorem ev_clearStat (a1 : State) (a2 a3 : Nat) (h1 : Evolves w s0 a1) :
    Evolves w s0 (State.clearStat a1 a2 a3) := by
  unfold State.clearStat
  repeat' (first | with_reducible (first | assumption | apply ev_setFld | apply ev_setRd | apply ev_foldl | apply ev_foldl_fst | apply ev_foldl_snd) | intro _ | split | dsimp only | with_reducible (first | apply ev_upd | apply ev_updTier))

theorem ev_forceSafe (a1 : State) (h1 : Evolves w s0 a1) :
    Evolves w s0 (State.forceSafe a1) := by
  unfold State.forceSafe
  repeat' (first | with_reducible (first | assumption | apply ev_notify | apply ev_enterSafe | apply ev_logFault) | intro _ | split | dsimp only | with_reducible (first | apply ev_upd | apply ev_updTier))

theorem ev_latchAll (a1 : State) (a2 : List FaultInput) (h1 : Evolves w s0 a1) :
    Evolves w s0 (State.latchAll a1 a2) := by
  unfold State.latchAll
  repeat' (first | with_reducible (first | assumption | apply ev_latchEvent | apply ev_foldl | apply ev_foldl_fst | apply ev_foldl_snd) | intro _ | split | dsimp only | with_reducible (first | apply ev_upd | apply ev_updTier))

theorem ev_selfFence (a1 : State) (a2 : Nat) (h1 : Evolves w s0 a1) :
    Evolves w s0 (State.selfFence a1 a2) := by
  unfold State.selfFence
  repeat' (first | with_reducible (first | assumption | apply ev_beginFence | apply ev_castOff) | intro _ | split | dsimp only | with_reducible (first | apply ev_upd | apply ev_updTier))

theorem ev_popLog (a1 : State) (a2 : Nat) (h1 : Evolves w s0 a1) :
    Evolves w s0 (State.popLog a1 a2) := by
  unfold State.popLog
  repeat' (first | with_reducible (first | assumption) | intro _ | split | dsimp only | with_reducible (first | apply ev_upd | apply ev_updTier))

theorem ev_writeFcuCfg (a1 : State) (a2 : BitVec 32) (h1 : Evolves w s0 a1) :
    Evolves w s0 (State.writeFcuCfg a1 a2) := by
  unfold State.writeFcuCfg
  repeat' (first | with_reducible (first | assumption | apply ev_requestReset | apply ev_setRd) | intro _ | split | dsimp only | with_reducible (first | apply ev_upd | apply ev_updTier))

theorem ev_execCollectorSelfFault (a1 : State) (h1 : Evolves w s0 a1) :
    ∀ t, execCollectorSelfFault a1 = .next t → Evolves w s0 t := by
  unfold execCollectorSelfFault
  refine fun t e => ev_next ?_ e
  repeat' (first | with_reducible (first | assumption | apply ev_setBit | apply ev_setFld | apply ev_enterSafe) | intro _ | split | dsimp only | with_reducible (first | apply ev_upd | apply ev_updTier))

theorem ev_execCountWindowExpiry (a1 : Nat) (a2 : State) (h2 : Evolves w s0 a2) :
    ∀ t, execCountWindowExpiry a1 a2 = .next t → Evolves w s0 t := by
  unfold execCountWindowExpiry
  refine fun t e => ev_next ?_ e
  repeat' (first | with_reducible (first | assumption | apply ev_atDeadline | apply ev_setFld) | intro _ | split | dsimp only | with_reducible (first | apply ev_upd | apply ev_updTier))

theorem ev_execFaultEsc (a1 : State) (h1 : Evolves w s0 a1) :
    ∀ t, execFaultEsc a1 = .next t → Evolves w s0 t := by
  unfold execFaultEsc
  refine fun t e => ev_next ?_ e
  repeat' (first | with_reducible (first | assumption | apply ev_requestReset | apply ev_atDeadline) | intro _ | split | dsimp only | with_reducible (first | apply ev_upd | apply ev_updTier))

theorem ev_execFaultPulseEnd (a1 : State) (h1 : Evolves w s0 a1) :
    ∀ t, execFaultPulseEnd a1 = .next t → Evolves w s0 t := by
  unfold execFaultPulseEnd
  refine fun t e => ev_next ?_ e
  repeat' (first | with_reducible (first | assumption | apply ev_atDeadline | refine ev_of_snd (by assumption) ?_ | refine ev_of_fst (by assumption) ?_) | intro _ | split | dsimp only | with_reducible (first | apply ev_upd | apply ev_updTier))

theorem ev_execFcuCfgWrite (a1 : Path) (a2 : Word) (a3 : State) (h3 : Evolves w s0 a3) :
    ∀ t, execFcuCfgWrite a1 a2 a3 = .next t → Evolves w s0 t := by
  unfold execFcuCfgWrite
  refine fun t e => ev_next ?_ e
  repeat' (first | with_reducible (first | assumption | apply ev_rwl | apply ev_writeFcuCfg) | intro _ | split | dsimp only | with_reducible (first | apply ev_upd | apply ev_updTier))

theorem ev_execFcuFirstClr (a1 : Path) (a2 : Word) (a3 : State) (h3 : Evolves w s0 a3) :
    ∀ t, execFcuFirstClr a1 a2 a3 = .next t → Evolves w s0 t := by
  unfold execFcuFirstClr
  refine fun t e => ev_next ?_ e
  repeat' (first | with_reducible (first | assumption | apply ev_rwl | apply ev_clearFirst) | intro _ | split | dsimp only | with_reducible (first | apply ev_upd | apply ev_updTier))

theorem ev_execFcuForceSafe (a1 : Path) (a2 : Word) (a3 : State) (h3 : Evolves w s0 a3) :
    ∀ t, execFcuForceSafe a1 a2 a3 = .next t → Evolves w s0 t := by
  unfold execFcuForceSafe
  refine fun t e => ev_next ?_ e
  repeat' (first | with_reducible (first | assumption | apply ev_rwl | apply ev_forceSafe) | intro _ | split | dsimp only | with_reducible (first | apply ev_upd | apply ev_updTier))

theorem ev_execFcuLogPop (a1 : Path) (a2 : Word) (a3 : State) (h3 : Evolves w s0 a3) :
    ∀ t, execFcuLogPop a1 a2 a3 = .next t → Evolves w s0 t := by
  unfold execFcuLogPop
  refine fun t e => ev_next ?_ e
  repeat' (first | with_reducible (first | assumption | apply ev_rwl | apply ev_popLog) | intro _ | split | dsimp only | with_reducible (first | apply ev_upd | apply ev_updTier))

theorem ev_execGraceExpiry (a1 : Nat) (a2 : State) (h2 : Evolves w s0 a2) :
    ∀ t, execGraceExpiry a1 a2 = .next t → Evolves w s0 t := by
  unfold execGraceExpiry
  refine fun t e => ev_next ?_ e
  repeat' (first | with_reducible (first | assumption | apply ev_notify | apply ev_atDeadline | apply ev_enterSafe | apply ev_logFault) | intro _ | split | dsimp only | with_reducible (first | apply ev_upd | apply ev_updTier))

theorem ev_execSourceEvent (a1 : List FaultInput) (a2 : State) (h2 : Evolves w s0 a2) :
    ∀ t, execSourceEvent a1 a2 = .next t → Evolves w s0 t := by
  unfold execSourceEvent
  refine fun t e => ev_next ?_ e
  repeat' (first | with_reducible (first | assumption | apply ev_latchAll) | intro _ | split | dsimp only | with_reducible (first | apply ev_upd | apply ev_updTier))

theorem ev_execStatusClear (a1 : Path) (a2 : Fin 4) (a3 : Word) (a4 : State) (h4 : Evolves w s0 a4) :
    ∀ t, execStatusClear a1 a2 a3 a4 = .next t → Evolves w s0 t := by
  unfold execStatusClear
  refine fun t e => ev_next ?_ e
  repeat' (first | with_reducible (first | assumption | apply ev_rwl | apply ev_clearStat) | intro _ | split | dsimp only | with_reducible (first | apply ev_upd | apply ev_updTier))

theorem ev_fxFinish (a1 : State) (a2 a3 : Nat) (h1 : Evolves w s0 a1) :
    Evolves w s0 (State.fxFinish a1 a2 a3) := by
  unfold State.fxFinish
  repeat' (first | with_reducible (first | assumption | apply ev_endPart) | intro _ | split | dsimp only | with_reducible (first | apply ev_upd | apply ev_updTier))

theorem ev_fxAnswer (a1 : State) (a2 a3 a4 : Nat) (h1 : Evolves w s0 a1) :
    Evolves w s0 (State.fxAnswer a1 a2 a3 a4) := by
  unfold State.fxAnswer
  repeat' (first | with_reducible (first | assumption) | intro _ | split | dsimp only | with_reducible (first | apply ev_upd | apply ev_updTier))

theorem ev_settle (a1 : State) (a2 : OutReq) (a3 : Nat) (h1 : Evolves w s0 a1) :
    Evolves w s0 (State.settle a1 a2 a3) := by
  unfold State.settle
  repeat' (first | with_reducible (first | assumption | apply ev_fxFinish | apply ev_fxAnswer | apply ev_winGive) | intro _ | split | dsimp only | with_reducible (first | apply ev_upd | apply ev_updTier))

theorem ev_lostPacket (a1 : State) (a2 : Packet) (h1 : Evolves w s0 a1) :
    Evolves w s0 (State.lostPacket a1 a2) := by
  unfold State.lostPacket
  repeat' (first | with_reducible (first | assumption | apply ev_settle | apply ev_collLost | refine ev_of_snd (by assumption) ?_ | refine ev_of_fst (by assumption) ?_) | intro _ | split | dsimp only | with_reducible (first | apply ev_upd | apply ev_updTier))

theorem ev_takePacket (a1 : State) (a2 : Packet) (h1 : Evolves w s0 a1) :
    Evolves w s0 (State.takePacket a1 a2) := by
  unfold State.takePacket
  repeat' (first | with_reducible (first | assumption | apply ev_wakeEvent) | intro _ | split | dsimp only | with_reducible (first | apply ev_upd | apply ev_updTier))

theorem ev_unroutable (a1 : State) (a2 : Packet) (h1 : Evolves w s0 a1) :
    Evolves w s0 (State.unroutable a1 a2) := by
  unfold State.unroutable
  repeat' (first | with_reducible (first | assumption | apply ev_addSat | apply ev_sendAny) | intro _ | split | dsimp only | with_reducible (first | apply ev_upd | apply ev_updTier))

theorem ev_setSlice (a1 : State) (a2 : Nat) (a3 : HoldSt) (h1 : Evolves w s0 a1) :
    Evolves w s0 (State.setSlice a1 a2 a3) := by
  unfold State.setSlice
  repeat' (first | with_reducible (first | assumption) | intro _ | split | dsimp only | with_reducible (first | apply ev_upd | apply ev_updTier))

theorem ev_holdCe (a1 : State) (a2 : Nat) (h1 : Evolves w s0 a1) :
    Evolves w s0 (State.holdCe a1 a2) := by
  unfold State.holdCe
  repeat' (first | with_reducible (first | assumption | apply ev_addSat | apply ev_raise | apply ev_setSlice) | intro _ | split | dsimp only | with_reducible (first | apply ev_upd | apply ev_updTier))

theorem ev_holdUe (a1 : State) (a2 a3 a4 : Nat) (a5 : Bool) (a6 : Nat) (a7 : Option Attr) (h1 : Evolves w s0 a1) :
    Evolves w s0 (State.holdUe a1 a2 a3 a4 a5 a6 a7) := by
  unfold State.holdUe
  repeat' (first | with_reducible (first | assumption | apply ev_addSat | apply ev_setBit | apply ev_setFld | apply ev_raise | apply ev_setRd) | intro _ | split | dsimp only | with_reducible (first | apply ev_upd | apply ev_updTier))

theorem ev_holdErrors (a1 : State) (a2 : List WordErr) (a3 : Nat) (a4 : Bool) (a5 : Nat) (a6 : Option Attr) (h1 :
    Evolves w s0 a1) :
    Evolves w s0 (State.holdErrors a1 a2 a3 a4 a5 a6) := by
  unfold State.holdErrors
  repeat' (first | with_reducible (first | assumption | apply ev_holdCe | apply ev_holdUe | apply ev_foldl | apply ev_foldl_fst | apply ev_foldl_snd) | intro _ | split | dsimp only | with_reducible (first | apply ev_upd | apply ev_updTier))

theorem ev_poison (a1 : State) (a2 a3 : Nat) (h1 : Evolves w s0 a1) :
    Evolves w s0 (State.poison a1 a2 a3) := by
  unfold State.poison
  repeat' (first | with_reducible (first | assumption | apply ev_foldl | apply ev_foldl_fst | apply ev_foldl_snd) | intro _ | split | dsimp only | with_reducible (first | apply ev_upd | apply ev_updTier))

theorem ev_clearHoldErr (a1 : State) (a2 : Nat) (h1 : Evolves w s0 a1) :
    Evolves w s0 (State.clearHoldErr a1 a2) := by
  unfold State.clearHoldErr
  repeat' (first | with_reducible (first | assumption | apply ev_setFld | apply ev_setRd) | intro _ | split | dsimp only | with_reducible (first | apply ev_upd | apply ev_updTier))

theorem ev_holdPut (a1 : State) (a2 : Nat) (a3 : List Byte) (h1 : Evolves w s0 a1) (whold : w.hold = true := by assumption) :
    Evolves w s0 (State.holdPut a1 a2 a3).2 := by
  unfold State.holdPut
  dsimp only
  split <;> exact ev_updHold (storeWf_memWrite _ _ _) h1

theorem ev_readClean (a1 : State) (a2 : List WordErr) (a3 a4 a5 a6 : Nat) (a7 : Option Attr) (h1 : Evolves w s0 a1) :
    Evolves w s0 (State.readClean a1 a2 a3 a4 a5 a6 a7).2 := by
  unfold State.readClean
  repeat' (first | with_reducible (first | assumption | apply ev_holdErrors) | intro _ | split | dsimp only | with_reducible (first | apply ev_upd | apply ev_updTier))

theorem ev_writeArb (a1 : State) (a2 a3 : Nat) (h1 : Evolves w s0 a1) :
    Evolves w s0 (State.writeArb a1 a2 a3) := by
  unfold State.writeArb
  repeat' (first | with_reducible (first | assumption | apply ev_setBit | apply ev_setRd) | intro _ | split | dsimp only | with_reducible (first | apply ev_upd | apply ev_updTier))

theorem ev_writeScrub (a1 : State) (a2 a3 : Nat) (h1 : Evolves w s0 a1) :
    Evolves w s0 (State.writeScrub a1 a2 a3) := by
  unfold State.writeScrub
  repeat' (first | with_reducible (first | assumption | apply ev_setRd) | intro _ | split | dsimp only | with_reducible (first | apply ev_upd | apply ev_updTier))

theorem ev_writePlotOwner (a1 : State) (a2 a3 a4 : Nat) (h1 : Evolves w s0 a1) :
    Evolves w s0 (State.writePlotOwner a1 a2 a3 a4) := by
  unfold State.writePlotOwner
  repeat' (first | with_reducible (first | assumption | apply ev_setBit | apply ev_setRd | refine ev_of_snd (by assumption) ?_ | refine ev_of_fst (by assumption) ?_) | intro _ | split | dsimp only | with_reducible (first | apply ev_upd | apply ev_updTier))

theorem ev_execHldArbWrite (a1 : Path) (a2 : Parcel) (a3 : Word) (a4 : State) (h4 : Evolves w s0 a4) :
    ∀ t, execHldArbWrite a1 a2 a3 a4 = .next t → Evolves w s0 t := by
  unfold execHldArbWrite
  refine fun t e => ev_next ?_ e
  repeat' (first | with_reducible (first | assumption | apply ev_writeArb | apply ev_rwl) | intro _ | split | dsimp only | with_reducible (first | apply ev_upd | apply ev_updTier))

theorem ev_execHldErrClr (a1 : Path) (a2 : Parcel) (a3 : Word) (a4 : State) (h4 : Evolves w s0 a4) :
    ∀ t, execHldErrClr a1 a2 a3 a4 = .next t → Evolves w s0 t := by
  unfold execHldErrClr
  refine fun t e => ev_next ?_ e
  repeat' (first | with_reducible (first | assumption | apply ev_rwl | apply ev_clearHoldErr) | intro _ | split | dsimp only | with_reducible (first | apply ev_upd | apply ev_updTier))

theorem ev_execHldScrubWrite (a1 : Path) (a2 : Parcel) (a3 : Word) (a4 : State) (h4 : Evolves w s0 a4) :
    ∀ t, execHldScrubWrite a1 a2 a3 a4 = .next t → Evolves w s0 t := by
  unfold execHldScrubWrite
  refine fun t e => ev_next ?_ e
  repeat' (first | with_reducible (first | assumption | apply ev_rwl | apply ev_writeScrub) | intro _ | split | dsimp only | with_reducible (first | apply ev_upd | apply ev_updTier))

theorem ev_execPlotClearDone (a1 : Parcel) (a2 : Fin 96) (a3 : State) (h3 : Evolves w s0 a3) (whold : w.hold = true := by assumption) :
    ∀ t, execPlotClearDone a1 a2 a3 = .next t → Evolves w s0 t := by
  unfold execPlotClearDone
  refine fun t e => ev_next ?_ e
  split
  · exact ev_setFld _ _ _ (ev_updHold (storeWf_memClear _ _ _) h3)
  · exact h3

theorem ev_execPlotOwnerWrite (a1 : Path) (a2 : Parcel) (a3 : Fin 96) (a4 : Word) (a5 : State) (h5 : Evolves w s0 a5) :
    ∀ t, execPlotOwnerWrite a1 a2 a3 a4 a5 = .next t → Evolves w s0 t := by
  unfold execPlotOwnerWrite
  refine fun t e => ev_next ?_ e
  repeat' (first | with_reducible (first | assumption | apply ev_rwl | apply ev_writePlotOwner) | intro _ | split | dsimp only | with_reducible (first | apply ev_upd | apply ev_updTier))

theorem ev_execScrubStep (a1 : Parcel) (a2 : List WordErr) (a3 : State) (h3 : Evolves w s0 a3) :
    ∀ t, execScrubStep a1 a2 a3 = .next t → Evolves w s0 t := by
  unfold execScrubStep
  refine fun t e => ev_next ?_ e
  repeat' (first | with_reducible (first | assumption | apply ev_holdErrors | apply ev_addWrap | apply ev_setSlice) | intro _ | split | dsimp only | with_reducible (first | apply ev_upd | apply ev_updTier))

theorem ev_clearViol (a1 : State) (h1 : Evolves w s0 a1) :
    Evolves w s0 (State.clearViol a1) := by
  unfold State.clearViol
  repeat' (first | with_reducible (first | assumption | apply ev_setRd) | intro _ | split | dsimp only | with_reducible (first | apply ev_upd | apply ev_updTier))

theorem ev_ownResult (a1 : State) (a2 : Path) (a3 : Nat) (h1 : Evolves w s0 a1) :
    Evolves w s0 (State.ownResult a1 a2 a3) := by
  unfold State.ownResult
  repeat' (first | with_reducible (first | assumption | apply ev_setFldB) | intro _ | split | dsimp only | with_reducible (first | apply ev_upd | apply ev_updTier))

theorem ev_ownCommand (a1 : State) (a2 : Path) (a3 a4 : Nat) (h1 : Evolves w s0 a1) (wown : w.own = true := by
    assumption) :
    Evolves w s0 (State.ownCommand a1 a2 a3 a4) := by
  unfold State.ownCommand
  repeat' (first | with_reducible (first | assumption | apply ev_ownResult | apply ev_violation) | intro _ | split | dsimp only | with_reducible (first | apply ev_upd | apply ev_updTier | apply ev_updOwn))

theorem ev_execHandoverExpiry (a1 : State) (h1 : Evolves w s0 a1) (wown : w.own = true := by assumption) :
    ∀ t, execHandoverExpiry a1 = .next t → Evolves w s0 t := by
  unfold execHandoverExpiry
  refine fun t e => ev_next ?_ e
  repeat' (first | with_reducible (first | assumption | apply ev_atDeadline) | intro _ | split | dsimp only | with_reducible (first | apply ev_upd | apply ev_updTier | apply ev_updOwn))

theorem ev_execOwnAccept (a1 : Path) (a2 : State) (h2 : Evolves w s0 a2) (wown : w.own = true := by assumption) :
    ∀ t, execOwnAccept a1 a2 = .next t → Evolves w s0 t := by
  unfold execOwnAccept
  refine fun t e => ev_next ?_ e
  repeat' (first | with_reducible (first | assumption | apply ev_ownCommand) | intro _ | split | dsimp only | with_reducible (first | apply ev_upd | apply ev_updTier | apply ev_updOwn))

theorem ev_execOwnCancel (a1 : Path) (a2 : State) (h2 : Evolves w s0 a2) (wown : w.own = true := by assumption) :
    ∀ t, execOwnCancel a1 a2 = .next t → Evolves w s0 t := by
  unfold execOwnCancel
  refine fun t e => ev_next ?_ e
  repeat' (first | with_reducible (first | assumption | apply ev_ownCommand) | intro _ | split | dsimp only | with_reducible (first | apply ev_upd | apply ev_updTier | apply ev_updOwn))

theorem ev_execOwnClaim (a1 : Path) (a2 : State) (h2 : Evolves w s0 a2) (wown : w.own = true := by assumption) :
    ∀ t, execOwnClaim a1 a2 = .next t → Evolves w s0 t := by
  unfold execOwnClaim
  refine fun t e => ev_next ?_ e
  repeat' (first | with_reducible (first | assumption | apply ev_ownCommand) | intro _ | split | dsimp only | with_reducible (first | apply ev_upd | apply ev_updTier | apply ev_updOwn))

theorem ev_execOwnForce (a1 : Path) (a2 : State) (h2 : Evolves w s0 a2) (wown : w.own = true := by assumption) :
    ∀ t, execOwnForce a1 a2 = .next t → Evolves w s0 t := by
  unfold execOwnForce
  refine fun t e => ev_next ?_ e
  repeat' (first | with_reducible (first | assumption | apply ev_ownCommand) | intro _ | split | dsimp only | with_reducible (first | apply ev_upd | apply ev_updTier | apply ev_updOwn))

theorem ev_execOwnHandover (a1 : Path) (a2 : Fin 4) (a3 : State) (h3 : Evolves w s0 a3) (wown : w.own = true := by
    assumption) :
    ∀ t, execOwnHandover a1 a2 a3 = .next t → Evolves w s0 t := by
  unfold execOwnHandover
  refine fun t e => ev_next ?_ e
  repeat' (first | with_reducible (first | assumption | apply ev_ownCommand) | intro _ | split | dsimp only | with_reducible (first | apply ev_upd | apply ev_updTier | apply ev_updOwn))

theorem ev_execOwnLock (a1 : Path) (a2 : State) (h2 : Evolves w s0 a2) (wown : w.own = true := by assumption) :
    ∀ t, execOwnLock a1 a2 = .next t → Evolves w s0 t := by
  unfold execOwnLock
  refine fun t e => ev_next ?_ e
  repeat' (first | with_reducible (first | assumption | apply ev_ownCommand) | intro _ | split | dsimp only | with_reducible (first | apply ev_upd | apply ev_updTier | apply ev_updOwn))

theorem ev_execOwnRecordCommit (a1 : State) (h1 : Evolves w s0 a1) (wown : w.own = true := by assumption) :
    ∀ t, execOwnRecordCommit a1 = .next t → Evolves w s0 t := by
  unfold execOwnRecordCommit
  refine fun t e => ev_next ?_ e
  repeat' (first | with_reducible (first | assumption | apply ev_ownResult) | intro _ | split | dsimp only | with_reducible (first | apply ev_upd | apply ev_updTier | apply ev_updOwn))

theorem ev_execOwnRelease (a1 : Path) (a2 : State) (h2 : Evolves w s0 a2) (wown : w.own = true := by assumption) :
    ∀ t, execOwnRelease a1 a2 = .next t → Evolves w s0 t := by
  unfold execOwnRelease
  refine fun t e => ev_next ?_ e
  repeat' (first | with_reducible (first | assumption | apply ev_ownCommand) | intro _ | split | dsimp only | with_reducible (first | apply ev_upd | apply ev_updTier | apply ev_updOwn))

theorem ev_execOwnUnlock (a1 : Path) (a2 : State) (h2 : Evolves w s0 a2) (wown : w.own = true := by assumption) :
    ∀ t, execOwnUnlock a1 a2 = .next t → Evolves w s0 t := by
  unfold execOwnUnlock
  refine fun t e => ev_next ?_ e
  repeat' (first | with_reducible (first | assumption | apply ev_ownCommand) | intro _ | split | dsimp only | with_reducible (first | apply ev_upd | apply ev_updTier | apply ev_updOwn))

theorem ev_execOwnViolClr (a1 : Path) (a2 : Word) (a3 : State) (h3 : Evolves w s0 a3) :
    ∀ t, execOwnViolClr a1 a2 a3 = .next t → Evolves w s0 t := by
  unfold execOwnViolClr
  refine fun t e => ev_next ?_ e
  repeat' (first | with_reducible (first | assumption | apply ev_rwl | apply ev_clearViol) | intro _ | split | dsimp only | with_reducible (first | apply ev_upd | apply ev_updTier))

theorem ev_setMarkAt (a1 : State) (a2 a3 : Nat) (a4 : Mark) (h1 : Evolves w s0 a1) :
    Evolves w s0 (State.setMarkAt a1 a2 a3 a4) := by
  unfold State.setMarkAt
  repeat' (first | with_reducible (first | assumption | apply ev_mapParts) | intro _ | split | dsimp only | with_reducible (first | apply ev_upd | apply ev_updTier))

theorem ev_updMark (a1 : State) (a2 a3 a4 : Nat) (a5 : Mark → Mark) (h1 : Evolves w s0 a1) :
    Evolves w s0 (State.updMark a1 a2 a3 a4 a5) := by
  unfold State.updMark
  repeat' (first | with_reducible (first | assumption | apply ev_setMarkAt) | intro _ | split | dsimp only | with_reducible (first | apply ev_upd | apply ev_updTier))

end Sys2Proof.Laws
end

