-- ==== Sys2Proof/Laws/EvNetwork.lean ====
section
/-! SUPPORT. What a command may do to the state (Evolves), for every function of the fabric ports, the traverse and the Ethernet ports.
-/

set_option Elab.async false
set_option linter.unreachableTactic false
set_option linter.unusedTactic false
set_option linter.unusedVariables false

namespace Sys2Proof.Laws

open Sys2Proof.Machine Sys2Proof.Safety

variable {w : Areas} {s0 : State}

theorem ev_leaveUp (a1 : State) (a2 : Nat) (h1 : Evolves w s0 a1) :
    Evolves w s0 (State.leaveUp a1 a2) := by
  unfold State.leaveUp
  repeat' (first | with_reducible (first | assumption | apply ev_setBit | apply ev_setFld) | intro _ | split | dsimp only | with_reducible (first | apply ev_upd | apply ev_updTier))

theorem ev_returnCredits (a1 : State) (a2 a3 a4 : Nat) (h1 : Evolves w s0 a1) :
    Evolves w s0 (State.returnCredits a1 a2 a3 a4) := by
  unfold State.returnCredits
  repeat' (first | with_reducible (first | assumption | apply ev_setFld | apply ev_setLink) | intro _ | split | dsimp only | with_reducible (first | apply ev_upd | apply ev_updTier))

theorem ev_dropCur (a1 : State) (a2 : Nat) (h1 : Evolves w s0 a1) :
    Evolves w s0 (State.dropCur a1 a2) := by
  unfold State.dropCur
  repeat' (first | with_reducible (first | assumption | apply ev_linkSend | apply ev_setLink) | intro _ | split | dsimp only | with_reducible (first | apply ev_upd | apply ev_updTier))

theorem ev_discardStale (a1 : State) (a2 : Nat) (h1 : Evolves w s0 a1) :
    Evolves w s0 (State.discardStale a1 a2) := by
  unfold State.discardStale
  repeat' (first | with_reducible (first | assumption | apply ev_returnCredits | apply ev_addSat | apply ev_setBit | apply ev_lostPacket | apply ev_setLink | apply ev_sendAny | apply ev_foldl | apply ev_foldl_fst | apply ev_foldl_snd) | intro _ | split | dsimp only | with_reducible (first | apply ev_upd | apply ev_updTier))

theorem ev_enterTrain (a1 : State) (a2 : Nat) (h1 : Evolves w s0 a1) :
    Evolves w s0 (State.enterTrain a1 a2) := by
  unfold State.enterTrain
  repeat' (first | with_reducible (first | assumption | apply ev_leaveUp | apply ev_setBit | apply ev_setFld | apply ev_dropCur | apply ev_setLink) | intro _ | split | dsimp only | with_reducible (first | apply ev_upd | apply ev_updTier))

theorem ev_deliver (a1 : State) (a2 : Nat) (a3 : Packet) (h1 : Evolves w s0 a1) :
    Evolves w s0 (State.deliver a1 a2 a3) := by
  unfold State.deliver
  repeat' (first | with_reducible (first | assumption | apply ev_returnCredits | apply ev_addSat | apply ev_unroutable | apply ev_linkSend | refine ev_of_snd (by assumption) ?_ | refine ev_of_fst (by assumption) ?_) | intro _ | split | dsimp only | with_reducible (first | apply ev_upd | apply ev_updTier))

theorem ev_enterInit (a1 : State) (a2 : Nat) (h1 : Evolves w s0 a1) :
    Evolves w s0 (State.enterInit a1 a2) := by
  unfold State.enterInit
  repeat' (first | with_reducible (first | assumption | apply ev_setFld | apply ev_setLink | apply ev_foldl | apply ev_foldl_fst | apply ev_foldl_snd) | intro _ | split | dsimp only | with_reducible (first | apply ev_upd | apply ev_updTier))

theorem ev_enterRestart (a1 : State) (a2 a3 : Nat) (h1 : Evolves w s0 a1) :
    Evolves w s0 (State.enterRestart a1 a2 a3) := by
  unfold State.enterRestart
  repeat' (first | with_reducible (first | assumption | apply ev_leaveUp | apply ev_addSat | apply ev_setBit | apply ev_setFld | apply ev_dropCur | apply ev_setLink | apply ev_degrade | apply ev_emit) | intro _ | split | dsimp only | with_reducible (first | apply ev_upd | apply ev_updTier))

theorem ev_enterUp (a1 : State) (a2 : Nat) (h1 : Evolves w s0 a1) :
    Evolves w s0 (State.enterUp a1 a2) := by
  unfold State.enterUp
  repeat' (first | with_reducible (first | assumption | apply ev_linkDrain | apply ev_setBit | apply ev_setFld | apply ev_setLink) | intro _ | split | dsimp only | with_reducible (first | apply ev_upd | apply ev_updTier))

theorem ev_freeTx (a1 : State) (a2 : List TxEnt) (h1 : Evolves w s0 a1) :
    Evolves w s0 (State.freeTx a1 a2) := by
  unfold State.freeTx
  repeat' (first | with_reducible (first | assumption | apply ev_returnCredits | apply ev_foldl | apply ev_foldl_fst | apply ev_foldl_snd) | intro _ | split | dsimp only | with_reducible (first | apply ev_upd | apply ev_updTier))

theorem ev_firstHello (a1 : State) (a2 : Nat) (a3 : List Byte) (h1 : Evolves w s0 a1) :
    Evolves w s0 (State.firstHello a1 a2 a3) := by
  unfold State.firstHello
  repeat' (first | with_reducible (first | assumption | apply ev_freeTx | apply ev_setBit | apply ev_setFld | apply ev_setRd64 | apply ev_discardStale | apply ev_setLink | apply ev_foldl | apply ev_foldl_fst | apply ev_foldl_snd) | intro _ | split | dsimp only | with_reducible (first | apply ev_upd | apply ev_updTier))

theorem ev_laneReq (a1 : State) (a2 a3 : Nat) (h1 : Evolves w s0 a1) :
    Evolves w s0 (State.laneReq a1 a2 a3) := by
  unfold State.laneReq
  repeat' (first | with_reducible (first | assumption | apply ev_setLink) | intro _ | split | dsimp only | with_reducible (first | apply ev_upd | apply ev_updTier))

theorem ev_laneWindow (a1 : State) (a2 a3 : Nat) (a4 : List Nat) (a5 : Nat) (h1 : Evolves w s0 a1) :
    Evolves w s0 (State.laneWindow a1 a2 a3 a4 a5) := by
  unfold State.laneWindow
  repeat' (first | with_reducible (first | assumption | apply ev_setLink | apply ev_setRd) | intro _ | split | dsimp only | with_reducible (first | apply ev_upd | apply ev_updTier))

theorem ev_linkViolation (a1 : State) (a2 a3 a4 a5 : Nat) (h1 : Evolves w s0 a1) :
    Evolves w s0 (State.linkViolation a1 a2 a3 a4 a5) := by
  unfold State.linkViolation
  repeat' (first | with_reducible (first | assumption | apply ev_addSat | apply ev_setBit | apply ev_setFld | apply ev_raise | apply ev_enterRestart | apply ev_enterTrain) | intro _ | split | dsimp only | with_reducible (first | apply ev_upd | apply ev_updTier))

theorem ev_lnkRestart (a1 : State) (a2 : Nat) (h1 : Evolves w s0 a1) :
    Evolves w s0 (State.lnkRestart a1 a2) := by
  unfold State.lnkRestart
  repeat' (first | with_reducible (first | assumption | apply ev_enterRestart) | intro _ | split | dsimp only | with_reducible (first | apply ev_upd | apply ev_updTier))

theorem ev_lnkRetrain (a1 : State) (a2 : Nat) (h1 : Evolves w s0 a1) :
    Evolves w s0 (State.lnkRetrain a1 a2) := by
  unfold State.lnkRetrain
  repeat' (first | with_reducible (first | assumption | apply ev_enterTrain) | intro _ | split | dsimp only | with_reducible (first | apply ev_upd | apply ev_updTier))

theorem ev_sendLctl (a1 : State) (a2 : Nat) (a3 : Bool) (h1 : Evolves w s0 a1) :
    Evolves w s0 (State.sendLctl a1 a2 a3) := by
  unfold State.sendLctl
  repeat' (first | with_reducible (first | assumption | apply ev_add64 | apply ev_setLink | apply ev_emit) | intro _ | split | dsimp only | with_reducible (first | apply ev_upd | apply ev_updTier))

theorem ev_nakOnce (a1 : State) (a2 : Nat) (h1 : Evolves w s0 a1) :
    Evolves w s0 (State.nakOnce a1 a2) := by
  unfold State.nakOnce
  repeat' (first | with_reducible (first | assumption | apply ev_sendLctl | apply ev_setLink) | intro _ | split | dsimp only | with_reducible (first | apply ev_upd | apply ev_updTier))

theorem ev_replay (a1 : State) (a2 : Nat) (h1 : Evolves w s0 a1) :
    Evolves w s0 (State.replay a1 a2) := by
  unfold State.replay
  repeat' (first | with_reducible (first | assumption | apply ev_addSat | apply ev_add64 | apply ev_setLink | apply ev_emit | apply ev_foldl | apply ev_foldl_fst | apply ev_foldl_snd) | intro _ | split | dsimp only | with_reducible (first | apply ev_upd | apply ev_updTier))

theorem ev_seenUp (a1 : State) (a2 : Nat) (h1 : Evolves w s0 a1) :
    Evolves w s0 (State.seenUp a1 a2) := by
  unfold State.seenUp
  repeat' (first | with_reducible (first | assumption | apply ev_enterUp) | intro _ | split | dsimp only | with_reducible (first | apply ev_upd | apply ev_updTier))

theorem ev_rxHeader (a1 : State) (a2 : Nat) (a3 : List Byte) (a4 : Bool) (h1 : Evolves w s0 a1) :
    Evolves w s0 (State.rxHeader a1 a2 a3 a4) := by
  have h := ev_seenUp a1 a2 h1
  unfold State.rxHeader
  refine ev_ite (fun _ => h) fun _ => ev_ite (fun _ => ev_nakOnce _ _ (ev_addSat _ _ _ h)) fun _ =>
    ev_ite (fun _ => ev_linkViolation _ _ _ _ _ h) fun _ => ev_ite (fun _ => ev_linkViolation _ _ _ _ _ h) fun _ =>
    ev_ite (fun _ => ev_nakOnce _ _ (ev_addSat _ _ _ h)) fun _ => ev_ite (fun _ => ev_linkViolation _ _ _ _ _ h) fun _ =>
    ev_ite (fun _ => ev_setLink _ _ _ h) fun _ => ev_ite (fun _ => ev_linkViolation _ _ _ _ _ h) fun _ =>
    ev_ite (fun _ => ev_nakOnce _ _ h) fun _ => ev_ite (fun _ => ev_linkViolation _ _ _ _ _ h) fun _ =>
    ev_setLink _ _ _ h

theorem ev_rxHello (a1 : State) (a2 : Nat) (a3 : List Byte) (h1 : Evolves w s0 a1) :
    Evolves w s0 (State.rxHello a1 a2 a3) := by
  unfold State.rxHello
  repeat' (first | with_reducible (first | assumption | apply ev_addSat | apply ev_setBit | apply ev_setFld | apply ev_linkViolation | apply ev_setLink | apply ev_enterUp | apply ev_firstHello) | intro _ | split | dsimp only | with_reducible (first | apply ev_upd | apply ev_updTier))

theorem ev_rxLctl (a1 : State) (a2 : Nat) (a3 : List Byte) (h1 : Evolves w s0 a1) :
    Evolves w s0 (State.rxLctl a1 a2 a3) := by
  unfold State.rxLctl
  repeat' (first | with_reducible (first | assumption | apply ev_linkDrain | apply ev_replay | apply ev_addSat | apply ev_freeTx | apply ev_setFld | apply ev_linkViolation | apply ev_setLink | apply ev_foldl | apply ev_foldl_fst | apply ev_foldl_snd) | intro _ | split | dsimp only | with_reducible (first | apply ev_upd | apply ev_updTier))

theorem ev_rxTail (a1 : State) (a2 : Nat) (a3 a4 : List Byte) (a5 : Bool) (h1 : Evolves w s0 a1) :
    Evolves w s0 (State.rxTail a1 a2 a3 a4 a5) := by
  unfold State.rxTail
  repeat' (first | with_reducible (first | assumption | apply ev_returnCredits | apply ev_addSat | apply ev_setFld | apply ev_dropCur | apply ev_linkViolation | apply ev_setLink | apply ev_rxLctl | apply ev_deliver | apply ev_sendAny | apply ev_nakOnce) | intro _ | split | dsimp only | with_reducible (first | apply ev_upd | apply ev_updTier))

theorem ev_setWidth (a1 : State) (a2 a3 a4 : Nat) (h1 : Evolves w s0 a1) :
    Evolves w s0 (State.setWidth a1 a2 a3 a4) := by
  unfold State.setWidth
  repeat' (first | with_reducible (first | assumption | apply ev_setBit | apply ev_setFld) | intro _ | split | dsimp only | with_reducible (first | apply ev_upd | apply ev_updTier))

theorem ev_tagLane (a1 : State) (a2 a3 a4 a5 : Nat) (h1 : Evolves w s0 a1) :
    Evolves w s0 (State.tagLane a1 a2 a3 a4 a5) := by
  unfold State.tagLane
  repeat' (first | with_reducible (first | assumption | apply ev_setFld | apply ev_setLink) | intro _ | split | dsimp only | with_reducible (first | apply ev_upd | apply ev_updTier))

theorem ev_execAlignLock (a1 : Port) (a2 : State) (h2 : Evolves w s0 a2) :
    ∀ t, execAlignLock a1 a2 = .next t → Evolves w s0 t := by
  unfold execAlignLock
  refine fun t e => ev_next ?_ e
  repeat' (first | with_reducible (first | assumption | apply ev_enterInit) | intro _ | split | dsimp only | with_reducible (first | apply ev_upd | apply ev_updTier))

theorem ev_execCsymWindow (a1 : Port) (a2 : List Nat) (a3 : Byte) (a4 : State) (h4 : Evolves w s0 a4) :
    ∀ t, execCsymWindow a1 a2 a3 a4 = .next t → Evolves w s0 t := by
  unfold execCsymWindow
  refine fun t e => ev_next ?_ e
  repeat' (first | with_reducible (first | assumption | apply ev_laneWindow | apply ev_foldl | apply ev_foldl_fst | apply ev_foldl_snd) | intro _ | split | dsimp only | with_reducible (first | apply ev_upd | apply ev_updTier))

theorem ev_execFecLockLost (a1 : Port) (a2 : State) (h2 : Evolves w s0 a2) :
    ∀ t, execFecLockLost a1 a2 = .next t → Evolves w s0 t := by
  unfold execFecLockLost
  refine fun t e => ev_next ?_ e
  repeat' (first | with_reducible (first | assumption | apply ev_enterTrain) | intro _ | split | dsimp only | with_reducible (first | apply ev_upd | apply ev_updTier))

theorem ev_execHelloSend (a1 : Port) (a2 : State) (h2 : Evolves w s0 a2) :
    ∀ t, execHelloSend a1 a2 = .next t → Evolves w s0 t := by
  unfold execHelloSend
  refine fun t e => ev_next ?_ e
  repeat' (first | with_reducible (first | assumption | apply ev_emit) | intro _ | split | dsimp only | with_reducible (first | apply ev_upd | apply ev_updTier))

theorem ev_execHelloUnit (a1 : Port) (a2 : List Byte) (a3 : State) (h3 : Evolves w s0 a3) :
    ∀ t, execHelloUnit a1 a2 a3 = .next t → Evolves w s0 t := by
  unfold execHelloUnit
  refine fun t e => ev_next ?_ e
  repeat' (first | with_reducible (first | assumption | apply ev_rxHello) | intro _ | split | dsimp only | with_reducible (first | apply ev_upd | apply ev_updTier))

theorem ev_execLaneReq (a1 : Port) (a2 : Fin 4) (a3 : State) (h3 : Evolves w s0 a3) :
    ∀ t, execLaneReq a1 a2 a3 = .next t → Evolves w s0 t := by
  unfold execLaneReq
  refine fun t e => ev_next ?_ e
  repeat' (first | with_reducible (first | assumption | apply ev_laneReq) | intro _ | split | dsimp only | with_reducible (first | apply ev_upd | apply ev_updTier))

theorem ev_execLaneRetrainDone (a1 : Port) (a2 : Bool) (a3 : Byte) (a4 : Fin 4) (a5 : State) (h5 : Evolves w s0 a5) :
    ∀ t, execLaneRetrainDone a1 a2 a3 a4 a5 = .next t → Evolves w s0 t := by
  unfold execLaneRetrainDone
  refine fun t e => ev_next ?_ e
  repeat' (first | with_reducible (first | assumption | apply ev_tagLane | apply ev_setBit | apply ev_setFld | apply ev_setWidth | apply ev_setLink | apply ev_addWrap | apply ev_emit | refine ev_of_snd (by assumption) ?_ | refine ev_of_fst (by assumption) ?_) | intro _ | split | dsimp only | with_reducible (first | apply ev_upd | apply ev_updTier))

theorem ev_execLaneRetrainStart (a1 : Port) (a2 : State) (h2 : Evolves w s0 a2) :
    ∀ t, execLaneRetrainStart a1 a2 = .next t → Evolves w s0 t := by
  unfold execLaneRetrainStart
  refine fun t e => ev_next ?_ e
  repeat' (first | with_reducible (first | assumption | apply ev_setBit | apply ev_setFld | apply ev_setLink | apply ev_emit) | intro _ | split | dsimp only | with_reducible (first | apply ev_upd | apply ev_updTier))

theorem ev_execLctlSend (a1 : Port) (a2 : State) (h2 : Evolves w s0 a2) :
    ∀ t, execLctlSend a1 a2 = .next t → Evolves w s0 t := by
  unfold execLctlSend
  refine fun t e => ev_next ?_ e
  repeat' (first | with_reducible (first | assumption | apply ev_sendLctl) | intro _ | split | dsimp only | with_reducible (first | apply ev_upd | apply ev_updTier))

theorem ev_execLctlUnit (a1 : Port) (a2 : List Byte) (a3 : State) (h3 : Evolves w s0 a3) :
    ∀ t, execLctlUnit a1 a2 a3 = .next t → Evolves w s0 t := by
  unfold execLctlUnit
  refine fun t e => ev_next ?_ e
  repeat' (first | with_reducible (first | assumption | apply ev_seenUp | apply ev_rxLctl) | intro _ | split | dsimp only | with_reducible (first | apply ev_upd | apply ev_updTier))

theorem ev_execLnkRestart (a1 : Port) (a2 : State) (h2 : Evolves w s0 a2) :
    ∀ t, execLnkRestart a1 a2 = .next t → Evolves w s0 t := by
  unfold execLnkRestart
  refine fun t e => ev_next ?_ e
  repeat' (first | with_reducible (first | assumption | apply ev_lnkRestart) | intro _ | split | dsimp only | with_reducible (first | apply ev_upd | apply ev_updTier))

theorem ev_execLnkViolClr (a1 : Path) (a2 : Port) (a3 : Word) (a4 : State) (h4 : Evolves w s0 a4) :
    ∀ t, execLnkViolClr a1 a2 a3 a4 = .next t → Evolves w s0 t := by
  unfold execLnkViolClr
  refine fun t e => ev_next ?_ e
  repeat' (first | with_reducible (first | assumption | apply ev_rwl | apply ev_setRd) | intro _ | split | dsimp only | with_reducible (first | apply ev_upd | apply ev_updTier))

theorem ev_execNakResend (a1 : Port) (a2 : State) (h2 : Evolves w s0 a2) :
    ∀ t, execNakResend a1 a2 = .next t → Evolves w s0 t := by
  unfold execNakResend
  refine fun t e => ev_next ?_ e
  repeat' (first | with_reducible (first | assumption | apply ev_atDeadline | apply ev_sendLctl | apply ev_setLink) | intro _ | split | dsimp only | with_reducible (first | apply ev_upd | apply ev_updTier))

theorem ev_execRefusedExpiry (a1 : Port) (a2 : State) (h2 : Evolves w s0 a2) :
    ∀ t, execRefusedExpiry a1 a2 = .next t → Evolves w s0 t := by
  unfold execRefusedExpiry
  refine fun t e => ev_next ?_ e
  repeat' (first | with_reducible (first | assumption | apply ev_atDeadline | apply ev_enterTrain) | intro _ | split | dsimp only | with_reducible (first | apply ev_upd | apply ev_updTier))

theorem ev_execReplayTimeout (a1 : Port) (a2 : State) (h2 : Evolves w s0 a2) :
    ∀ t, execReplayTimeout a1 a2 = .next t → Evolves w s0 t := by
  unfold execReplayTimeout
  refine fun t e => ev_next ?_ e
  repeat' (first | with_reducible (first | assumption | apply ev_replay | apply ev_atDeadline | apply ev_enterRestart) | intro _ | split | dsimp only | with_reducible (first | apply ev_upd | apply ev_updTier))

theorem ev_execRestartEnd (a1 : Port) (a2 : State) (h2 : Evolves w s0 a2) :
    ∀ t, execRestartEnd a1 a2 = .next t → Evolves w s0 t := by
  unfold execRestartEnd
  refine fun t e => ev_next ?_ e
  repeat' (first | with_reducible (first | assumption | apply ev_atDeadline | apply ev_enterInit) | intro _ | split | dsimp only | with_reducible (first | apply ev_upd | apply ev_updTier))

theorem ev_execRestartUnit (a1 : Port) (a2 : List Byte) (a3 : State) (h3 : Evolves w s0 a3) :
    ∀ t, execRestartUnit a1 a2 a3 = .next t → Evolves w s0 t := by
  unfold execRestartUnit
  refine fun t e => ev_next ?_ e
  repeat' (first | with_reducible (first | assumption | apply ev_enterRestart) | intro _ | split | dsimp only | with_reducible (first | apply ev_upd | apply ev_updTier))

theorem ev_execRetrain (a1 : Port) (a2 : State) (h2 : Evolves w s0 a2) :
    ∀ t, execRetrain a1 a2 = .next t → Evolves w s0 t := by
  unfold execRetrain
  refine fun t e => ev_next ?_ e
  repeat' (first | with_reducible (first | assumption | apply ev_lnkRetrain) | intro _ | split | dsimp only | with_reducible (first | apply ev_upd | apply ev_updTier))

theorem ev_execRetrainAck (a1 : Port) (a2 : List Byte) (a3 : State) (h3 : Evolves w s0 a3) :
    ∀ t, execRetrainAck a1 a2 a3 = .next t → Evolves w s0 t := by
  unfold execRetrainAck
  refine fun t e => ev_next ?_ e
  repeat' (first | with_reducible (first | assumption | apply ev_setWidth | apply ev_setLink | apply ev_emit | apply ev_enterTrain | refine ev_of_snd (by assumption) ?_ | refine ev_of_fst (by assumption) ?_) | intro _ | split | dsimp only | with_reducible (first | apply ev_upd | apply ev_updTier))

theorem ev_execRetrainReq (a1 : Port) (a2 : List Byte) (a3 : State) (h3 : Evolves w s0 a3) :
    ∀ t, execRetrainReq a1 a2 a3 = .next t → Evolves w s0 t := by
  unfold execRetrainReq
  refine fun t e => ev_next ?_ e
  repeat' (first | with_reducible (first | assumption | apply ev_setBit | apply ev_setFld | apply ev_linkViolation | apply ev_setLink | apply ev_emit) | intro _ | split | dsimp only | with_reducible (first | apply ev_upd | apply ev_updTier))

theorem ev_execRxHeader (a1 : Port) (a2 : List Byte) (a3 : Bool) (a4 : State) (h4 : Evolves w s0 a4) :
    ∀ t, execRxHeader a1 a2 a3 a4 = .next t → Evolves w s0 t := by
  unfold execRxHeader
  refine fun t e => ev_next ?_ e
  repeat' (first | with_reducible (first | assumption | apply ev_rxHeader) | intro _ | split | dsimp only | with_reducible (first | apply ev_upd | apply ev_updTier))

theorem ev_execRxTail (a1 : Port) (a2 a3 : List Byte) (a4 : Bool) (a5 : State) (h5 : Evolves w s0 a5) :
    ∀ t, execRxTail a1 a2 a3 a4 a5 = .next t → Evolves w s0 t := by
  unfold execRxTail
  refine fun t e => ev_next ?_ e
  repeat' (first | with_reducible (first | assumption | apply ev_rxTail) | intro _ | split | dsimp only | with_reducible (first | apply ev_upd | apply ev_updTier))

theorem ev_execSignalDetect (a1 : Port) (a2 : State) (h2 : Evolves w s0 a2) :
    ∀ t, execSignalDetect a1 a2 = .next t → Evolves w s0 t := by
  unfold execSignalDetect
  refine fun t e => ev_next ?_ e
  repeat' (first | with_reducible (first | assumption | apply ev_enterTrain) | intro _ | split | dsimp only | with_reducible (first | apply ev_upd | apply ev_updTier))

theorem ev_execTrainDone (a1 : Port) (a2 : BitVec 4) (a3 : Byte) (a4 : Fin 4) (a5 : State) (h5 : Evolves w s0 a5) :
    ∀ t, execTrainDone a1 a2 a3 a4 a5 = .next t → Evolves w s0 t := by
  unfold execTrainDone
  refine fun t e => ev_next ?_ e
  repeat' (first | with_reducible (first | assumption | apply ev_tagLane | apply ev_setBit | apply ev_setFld | apply ev_setLink | apply ev_foldl | apply ev_foldl_fst | apply ev_foldl_snd | refine ev_of_snd (by assumption) ?_ | refine ev_of_fst (by assumption) ?_) | intro _ | split | dsimp only | with_reducible (first | apply ev_upd | apply ev_updTier))

theorem ev_execTrainTimeout (a1 : Port) (a2 : State) (h2 : Evolves w s0 a2) :
    ∀ t, execTrainTimeout a1 a2 = .next t → Evolves w s0 t := by
  unfold execTrainTimeout
  refine fun t e => ev_next ?_ e
  repeat' (first | with_reducible (first | assumption | apply ev_atDeadline | apply ev_setFld | apply ev_setLink | apply ev_enterTrain) | intro _ | split | dsimp only | with_reducible (first | apply ev_upd | apply ev_updTier))

theorem ev_execWidthUnit (a1 : Port) (a2 : List Byte) (a3 : State) (h3 : Evolves w s0 a3) :
    ∀ t, execWidthUnit a1 a2 a3 = .next t → Evolves w s0 t := by
  unfold execWidthUnit
  refine fun t e => ev_next ?_ e
  repeat' (first | with_reducible (first | assumption | apply ev_setWidth | apply ev_linkViolation | apply ev_setLink | refine ev_of_snd (by assumption) ?_ | refine ev_of_fst (by assumption) ?_) | intro _ | split | dsimp only | with_reducible (first | apply ev_upd | apply ev_updTier))

theorem ev_sendTrav (a1 : State) (a2 : List Nat) (a3 : Packet) (h1 : Evolves w s0 a1) :
    Evolves w s0 (State.sendTrav a1 a2 a3) := by
  unfold State.sendTrav
  repeat' (first | with_reducible (first | assumption | apply ev_linkSend | apply ev_foldl | apply ev_foldl_fst | apply ev_foldl_snd) | intro _ | split | dsimp only | with_reducible (first | apply ev_upd | apply ev_updTier))

theorem ev_beginTraverse (a1 : State) (a2 : Nat) (a3 : Option Nat) (h1 : Evolves w s0 a1) :
    Evolves w s0 (State.beginTraverse a1 a2 a3) := by
  unfold State.beginTraverse
  repeat' (first | with_reducible (first | assumption | apply ev_setFld | apply ev_sendTrav | refine ev_of_snd (by assumption) ?_ | refine ev_of_fst (by assumption) ?_) | intro _ | split | dsimp only | with_reducible (first | apply ev_upd | apply ev_updTier))

theorem ev_setTrav (a1 : State) (a2 : Traverse) (h1 : Evolves w s0 a1) :
    Evolves w s0 (State.setTrav a1 a2) := by
  unfold State.setTrav
  repeat' (first | with_reducible (first | assumption) | intro _ | split | dsimp only | with_reducible (first | apply ev_upd | apply ev_updTier))

theorem ev_markMiscabled (a1 : State) (a2 : Traverse) (a3 : List Nat) (h1 : Evolves w s0 a1) :
    Evolves w s0 (State.markMiscabled a1 a2 a3) := by
  unfold State.markMiscabled
  repeat' (first | with_reducible (first | assumption | apply ev_setBit | apply ev_setTrav | apply ev_raise | apply ev_foldl | apply ev_foldl_fst | apply ev_foldl_snd) | intro _ | split | dsimp only | with_reducible (first | apply ev_upd | apply ev_updTier))

theorem ev_markSource (a1 : State) (a2 a3 : Nat) (h1 : Evolves w s0 a1) :
    Evolves w s0 (State.markSource a1 a2 a3) := by
  unfold State.markSource
  repeat' (first | with_reducible (first | assumption) | intro _ | split | dsimp only | with_reducible (first | apply ev_upd | apply ev_updTier))

theorem ev_onTrav (a1 : State) (a2 : Packet) (a3 : Nat) (a4 : State → State) (h1 : Evolves w s0 a1) (h4 : ∀ y1, Evolves
    w s0 y1 → Evolves w s0 (a4 y1)) :
    Evolves w s0 (State.onTrav a1 a2 a3 a4) := by
  unfold State.onTrav
  repeat' (first | with_reducible (first | assumption | apply ev_addSat | apply ev_takePacket | apply h4) | intro _ | split | dsimp only | with_reducible (first | apply ev_upd | apply ev_updTier))

theorem ev_travStart (a1 : State) (h1 : Evolves w s0 a1) :
    Evolves w s0 (State.travStart a1) := by
  unfold State.travStart
  repeat' (first | with_reducible (first | assumption | apply ev_setBit | apply ev_beginTraverse) | intro _ | split | dsimp only | with_reducible (first | apply ev_upd | apply ev_updTier))

theorem ev_sendDatum (a1 : State) (a2 : Traverse) (a3 : Nat) (h1 : Evolves w s0 a1) :
    Evolves w s0 (State.sendDatum a1 a2 a3) := by
  unfold State.sendDatum
  repeat' (first | with_reducible (first | assumption | apply ev_sendTrav) | intro _ | split | dsimp only | with_reducible (first | apply ev_upd | apply ev_updTier))

theorem ev_execBerthFix (a1 : State) (h1 : Evolves w s0 a1) :
    ∀ t, execBerthFix a1 = .next t → Evolves w s0 t := by
  unfold execBerthFix
  refine fun t e => ev_next ?_ e
  repeat' (first | with_reducible (first | assumption | apply ev_advanceTo | apply ev_setTrav | apply ev_setFld | apply ev_sendDatum) | intro _ | split | dsimp only | with_reducible (first | apply ev_upd | apply ev_updTier))

theorem ev_execConfirm (a1 : Port) (a2 : Packet) (a3 : State) (h3 : Evolves w s0 a3) :
    ∀ t, execConfirm a1 a2 a3 = .next t → Evolves w s0 t := by
  unfold execConfirm
  refine fun t e => ev_next ?_ e
  repeat' (first | with_reducible (first | assumption | apply ev_setTrav | apply ev_onTrav | refine ev_of_snd (by assumption) ?_ | refine ev_of_fst (by assumption) ?_) | intro _ | split | dsimp only | with_reducible (first | apply ev_upd | apply ev_updTier))

theorem ev_execConfirmDeadline (a1 : State) (h1 : Evolves w s0 a1) :
    ∀ t, execConfirmDeadline a1 = .next t → Evolves w s0 t := by
  unfold execConfirmDeadline
  refine fun t e => ev_next ?_ e
  repeat' (first | with_reducible (first | assumption | apply ev_advanceTo | apply ev_setTrav | apply ev_setFld | apply ev_sendDatum | apply ev_markMiscabled | refine ev_of_snd (by assumption) ?_ | refine ev_of_fst (by assumption) ?_) | intro _ | split | dsimp only | with_reducible (first | apply ev_upd | apply ev_updTier))

theorem ev_execDatum (a1 : Port) (a2 : Packet) (a3 : State) (h3 : Evolves w s0 a3) :
    ∀ t, execDatum a1 a2 a3 = .next t → Evolves w s0 t := by
  unfold execDatum
  refine fun t e => ev_next ?_ e
  repeat' (first | with_reducible (first | assumption | apply ev_setTrav | apply ev_onTrav | apply ev_sendDatum) | intro _ | split | dsimp only | with_reducible (first | apply ev_upd | apply ev_updTier))

theorem ev_execExchange (a1 : Port) (a2 : Packet) (a3 : State) (h3 : Evolves w s0 a3) :
    ∀ t, execExchange a1 a2 a3 = .next t → Evolves w s0 t := by
  unfold execExchange
  refine fun t e => ev_next ?_ e
  repeat' (first | with_reducible (first | assumption | apply ev_setTrav | apply ev_onTrav) | intro _ | split | dsimp only | with_reducible (first | apply ev_upd | apply ev_updTier))

theorem ev_execExchangeDeadline (a1 : State) (h1 : Evolves w s0 a1) :
    ∀ t, execExchangeDeadline a1 = .next t → Evolves w s0 t := by
  unfold execExchangeDeadline
  refine fun t e => ev_next ?_ e
  repeat' (first | with_reducible (first | assumption | apply ev_advanceTo | apply ev_setFld | apply ev_sendDatum | apply ev_markMiscabled | apply ev_foldl | apply ev_foldl_fst | apply ev_foldl_snd) | intro _ | split | dsimp only | with_reducible (first | apply ev_upd | apply ev_updTier))

theorem ev_execLandGrant (a1 : Port) (a2 : Packet) (a3 : State) (h3 : Evolves w s0 a3) :
    ∀ t, execLandGrant a1 a2 a3 = .next t → Evolves w s0 t := by
  unfold execLandGrant
  refine fun t e => ev_next ?_ e
  repeat' (first | with_reducible (first | assumption | apply ev_setTrav | apply ev_onTrav | apply ev_sendTrav) | intro _ | split | dsimp only | with_reducible (first | apply ev_upd | apply ev_updTier))

theorem ev_execLandReq (a1 : State) (h1 : Evolves w s0 a1) :
    ∀ t, execLandReq a1 = .next t → Evolves w s0 t := by
  unfold execLandReq
  refine fun t e => ev_next ?_ e
  repeat' (first | with_reducible (first | assumption | apply ev_setTrav | apply ev_linkSend) | intro _ | split | dsimp only | with_reducible (first | apply ev_upd | apply ev_updTier))

theorem ev_execLanding (a1 : Port) (a2 : Packet) (a3 : State) (h3 : Evolves w s0 a3) :
    ∀ t, execLanding a1 a2 a3 = .next t → Evolves w s0 t := by
  unfold execLanding
  refine fun t e => ev_next ?_ e
  repeat' (first | with_reducible (first | assumption | apply ev_setTrav | apply ev_onTrav | apply ev_sendTrav) | intro _ | split | dsimp only | with_reducible (first | apply ev_upd | apply ev_updTier))

theorem ev_execLandingDeadline (a1 : State) (h1 : Evolves w s0 a1) :
    ∀ t, execLandingDeadline a1 = .next t → Evolves w s0 t := by
  unfold execLandingDeadline
  refine fun t e => ev_next ?_ e
  repeat' (first | with_reducible (first | assumption | apply ev_advanceTo | apply ev_setBit | apply ev_setTrav) | intro _ | split | dsimp only | with_reducible (first | apply ev_upd | apply ev_updTier))

theorem ev_execTimeHoldover (a1 : State) (h1 : Evolves w s0 a1) :
    ∀ t, execTimeHoldover a1 = .next t → Evolves w s0 t := by
  unfold execTimeHoldover
  refine fun t e => ev_next ?_ e
  repeat' (first | with_reducible (first | assumption | apply ev_setBit | apply ev_atDeadline | apply ev_setFld) | intro _ | split | dsimp only | with_reducible (first | apply ev_upd | apply ev_updTier))

theorem ev_execTimeRequest (a1 : Port) (a2 : Packet) (a3 : State) (h3 : Evolves w s0 a3) :
    ∀ t, execTimeRequest a1 a2 a3 = .next t → Evolves w s0 t := by
  unfold execTimeRequest
  refine fun t e => ev_next ?_ e
  repeat' (first | with_reducible (first | assumption | apply ev_linkSend | apply ev_takePacket) | intro _ | split | dsimp only | with_reducible (first | apply ev_upd | apply ev_updTier))

theorem ev_execTimeRequestSend (a1 : State) (h1 : Evolves w s0 a1) :
    ∀ t, execTimeRequestSend a1 = .next t → Evolves w s0 t := by
  unfold execTimeRequestSend
  refine fun t e => ev_next ?_ e
  repeat' (first | with_reducible (first | assumption | apply ev_setFld | apply ev_linkSend) | intro _ | split | dsimp only | with_reducible (first | apply ev_upd | apply ev_updTier))

theorem ev_execTimeResponse (a1 : Port) (a2 : Packet) (a3 : State) (h3 : Evolves w s0 a3) :
    ∀ t, execTimeResponse a1 a2 a3 = .next t → Evolves w s0 t := by
  unfold execTimeResponse
  refine fun t e => ev_next ?_ e
  repeat' (first | with_reducible (first | assumption | apply ev_setFld | apply ev_takePacket) | intro _ | split | dsimp only | with_reducible (first | apply ev_upd | apply ev_updTier))

theorem ev_execTravStart (a1 : State) (h1 : Evolves w s0 a1) :
    ∀ t, execTravStart a1 = .next t → Evolves w s0 t := by
  unfold execTravStart
  refine fun t e => ev_next ?_ e
  repeat' (first | with_reducible (first | assumption | apply ev_travStart) | intro _ | split | dsimp only | with_reducible (first | apply ev_upd | apply ev_updTier))

theorem ev_execTraverseApply (a1 : State) (h1 : Evolves w s0 a1) :
    ∀ t, execTraverseApply a1 = .next t → Evolves w s0 t := by
  unfold execTraverseApply
  refine fun t e => ev_next ?_ e
  repeat' (first | with_reducible (first | assumption | apply ev_advanceTo | apply ev_linkDrain | apply ev_setBit | apply ev_setFld | apply ev_setRd64 | apply ev_foldl | apply ev_foldl_fst | apply ev_foldl_snd) | intro _ | split | dsimp only | with_reducible (first | apply ev_upd | apply ev_updTier))

theorem ev_execTraversePeerAbsent (a1 : Port) (a2 : State) (h2 : Evolves w s0 a2) :
    ∀ t, execTraversePeerAbsent a1 a2 = .next t → Evolves w s0 t := by
  unfold execTraversePeerAbsent
  refine fun t e => ev_next ?_ e
  repeat' (first | with_reducible (first | assumption | apply ev_setTrav | apply ev_atDeadline) | intro _ | split | dsimp only | with_reducible (first | apply ev_upd | apply ev_updTier))

theorem ev_execTraverseStartReceive (a1 : Port) (a2 : Packet) (a3 : State) (h3 : Evolves w s0 a3) :
    ∀ t, execTraverseStartReceive a1 a2 a3 = .next t → Evolves w s0 t := by
  unfold execTraverseStartReceive
  refine fun t e => ev_next ?_ e
  repeat' (first | with_reducible (first | assumption | apply ev_setBit | apply ev_onTrav | apply ev_beginTraverse) | intro _ | split | dsimp only | with_reducible (first | apply ev_upd | apply ev_updTier))

theorem ev_execTraverseTrigger (a1 : State) (h1 : Evolves w s0 a1) :
    ∀ t, execTraverseTrigger a1 = .next t → Evolves w s0 t := by
  unfold execTraverseTrigger
  refine fun t e => ev_next ?_ e
  repeat' (first | with_reducible (first | assumption | apply ev_advanceTo | apply ev_beginTraverse) | intro _ | split | dsimp only | with_reducible (first | apply ev_upd | apply ev_updTier))

theorem ev_execWindowGrant (a1 : Packet) (a2 : State) (h2 : Evolves w s0 a2) :
    ∀ t, execWindowGrant a1 a2 = .next t → Evolves w s0 t := by
  unfold execWindowGrant
  refine fun t e => ev_next ?_ e
  repeat' (first | with_reducible (first | assumption | apply ev_takePacket) | intro _ | split | dsimp only | with_reducible (first | apply ev_upd | apply ev_updTier))

theorem ev_execWindowRecompute (a1 : Parcel) (a2 : State) (h2 : Evolves w s0 a2) :
    ∀ t, execWindowRecompute a1 a2 = .next t → Evolves w s0 t := by
  unfold execWindowRecompute
  refine fun t e => ev_next ?_ e
  repeat' (first | with_reducible (first | assumption | apply ev_sendAny | apply ev_foldl | apply ev_foldl_fst | apply ev_foldl_snd | refine ev_of_snd (by assumption) ?_ | refine ev_of_fst (by assumption) ?_) | intro _ | split | dsimp only | with_reducible (first | apply ev_upd | apply ev_updTier))

theorem ev_setEthPort (a1 : State) (a2 : Nat) (a3 : EthSt) (h1 : Evolves w s0 a1) :
    Evolves w s0 (State.setEthPort a1 a2 a3) := by
  unfold State.setEthPort
  repeat' (first | with_reducible (first | assumption) | intro _ | split | dsimp only | with_reducible (first | apply ev_upd | apply ev_updTier))

theorem ev_sendPause (a1 : State) (a2 a3 a4 : Nat) (h1 : Evolves w s0 a1) :
    Evolves w s0 (State.sendPause a1 a2 a3 a4) := by
  unfold State.sendPause
  repeat' (first | with_reducible (first | assumption | apply ev_addSat | apply ev_emit) | intro _ | split | dsimp only | with_reducible (first | apply ev_upd | apply ev_updTier))

theorem ev_releaseTest (a1 : State) (a2 : Nat) (h1 : Evolves w s0 a1) :
    Evolves w s0 (State.releaseTest a1 a2) := by
  unfold State.releaseTest
  repeat' (first | with_reducible (first | assumption | apply ev_setEthPort | apply ev_setFld | apply ev_sendPause) | intro _ | split | dsimp only | with_reducible (first | apply ev_upd | apply ev_updTier))

theorem ev_setQFld (a1 : State) (a2 : Nat) (a3 : Fld) (a4 : Nat) (h1 : Evolves w s0 a1) :
    Evolves w s0 (State.setQFld a1 a2 a3 a4) := by
  unfold State.setQFld
  repeat' (first | with_reducible (first | assumption | apply ev_setFldB) | intro _ | split | dsimp only | with_reducible (first | apply ev_upd | apply ev_updTier))

theorem ev_disableQueue (a1 : State) (a2 a3 : Nat) (h1 : Evolves w s0 a1) :
    Evolves w s0 (State.disableQueue a1 a2 a3) := by
  unfold State.disableQueue
  repeat' (first | with_reducible (first | assumption | apply ev_releaseTest | apply ev_setQFld) | intro _ | split | dsimp only | with_reducible (first | apply ev_upd | apply ev_updTier))

theorem ev_pauseTest (a1 : State) (a2 : Nat) (h1 : Evolves w s0 a1) :
    Evolves w s0 (State.pauseTest a1 a2) := by
  unfold State.pauseTest
  repeat' (first | with_reducible (first | assumption | apply ev_setEthPort | apply ev_setFld | apply ev_sendPause) | intro _ | split | dsimp only | with_reducible (first | apply ev_upd | apply ev_updTier))

theorem ev_enableQueue (a1 : State) (a2 a3 : Nat) (h1 : Evolves w s0 a1) :
    Evolves w s0 (State.enableQueue a1 a2 a3) := by
  unfold State.enableQueue
  repeat' (first | with_reducible (first | assumption | apply ev_pauseTest | apply ev_setBit | apply ev_setQFld) | intro _ | split | dsimp only | with_reducible (first | apply ev_upd | apply ev_updTier))

theorem ev_macControl (a1 : State) (a2 : Nat) (a3 : List Byte) (a4 : Bool) (h1 : Evolves w s0 a1) :
    Evolves w s0 (State.macControl a1 a2 a3 a4) := by
  unfold State.macControl
  repeat' (first | with_reducible (first | assumption | apply ev_setEthPort | apply ev_addSat | apply ev_setFld | apply ev_foldl | apply ev_foldl_fst | apply ev_foldl_snd) | intro _ | split | dsimp only | with_reducible (first | apply ev_upd | apply ev_updTier))

theorem ev_qError (a1 : State) (a2 a3 : Nat) (h1 : Evolves w s0 a1) :
    Evolves w s0 (State.qError a1 a2 a3) := by
  unfold State.qError
  repeat' (first | with_reducible (first | assumption | apply ev_setBit | apply ev_setQFld) | intro _ | split | dsimp only | with_reducible (first | apply ev_upd | apply ev_updTier))

theorem ev_writeQCtrl (a1 : State) (a2 : Path) (a3 a4 : Nat) (h1 : Evolves w s0 a1) :
    Evolves w s0 (State.writeQCtrl a1 a2 a3 a4) := by
  unfold State.writeQCtrl
  repeat' (first | with_reducible (first | assumption | apply ev_enableQueue | apply ev_disableQueue) | intro _ | split | dsimp only | with_reducible (first | apply ev_upd | apply ev_updTier))

theorem ev_rxPlace (a1 : State) (a2 a3 : Nat) (a4 : List Byte) (h1 : Evolves w s0 a1) (whold : w.hold = true := by
    assumption) :
    Evolves w s0 (State.rxPlace a1 a2 a3 a4) := by
  unfold State.rxPlace
  repeat' (first | with_reducible (first | assumption | apply ev_addSat | apply ev_pauseTest | apply ev_updMark | apply ev_holdPut | apply ev_qError | apply ev_setQFld | refine ev_of_snd (by assumption) ?_ | refine ev_of_fst (by assumption) ?_) | intro _ | split | dsimp only | with_reducible (first | apply ev_upd | apply ev_updTier))

theorem ev_txAdvance (a1 : State) (a2 a3 : Nat) (h1 : Evolves w s0 a1) :
    Evolves w s0 (State.txAdvance a1 a2 a3) := by
  unfold State.txAdvance
  repeat' (first | with_reducible (first | assumption | apply ev_updMark | apply ev_setQFld) | intro _ | split | dsimp only | with_reducible (first | apply ev_upd | apply ev_updTier))

theorem ev_txDrop (a1 : State) (a2 a3 : Nat) (h1 : Evolves w s0 a1) :
    Evolves w s0 (State.txDrop a1 a2 a3) := by
  unfold State.txDrop
  repeat' (first | with_reducible (first | assumption | apply ev_addSat | apply ev_txAdvance) | intro _ | split | dsimp only | with_reducible (first | apply ev_upd | apply ev_updTier))

theorem ev_txDescriptor (a1 : State) (a2 a3 : Nat) (a4 : List WordErr) (h1 : Evolves w s0 a1) :
    Evolves w s0 (State.txDescriptor a1 a2 a3 a4) := by
  unfold State.txDescriptor
  repeat' (first | with_reducible (first | assumption | apply ev_addSat | apply ev_readClean | apply ev_qError | apply ev_txAdvance | apply ev_txDrop | apply ev_emit | apply ev_foldl | apply ev_foldl_fst | apply ev_foldl_snd | refine ev_of_snd (by assumption) ?_ | refine ev_of_fst (by assumption) ?_) | intro _ | split | dsimp only | with_reducible (first | apply ev_upd | apply ev_updTier))

theorem ev_execEthFrameReceive (a1 : Fin 2) (a2 : List Byte) (a3 : Bool) (a4 : State) (h4 : Evolves w s0 a4) (whold :
    w.hold = true := by assumption) :
    ∀ t, execEthFrameReceive a1 a2 a3 a4 = .next t → Evolves w s0 t := by
  unfold execEthFrameReceive
  refine fun t e => ev_next ?_ e
  repeat' (first | with_reducible (first | assumption | apply ev_addSat | apply ev_rxPlace | apply ev_macControl) | intro _ | split | dsimp only | with_reducible (first | apply ev_upd | apply ev_updTier))

theorem ev_execEthLinkDown (a1 : Fin 2) (a2 : State) (h2 : Evolves w s0 a2) :
    ∀ t, execEthLinkDown a1 a2 = .next t → Evolves w s0 t := by
  unfold execEthLinkDown
  refine fun t e => ev_next ?_ e
  repeat' (first | with_reducible (first | assumption | apply ev_setBit | apply ev_setFld | apply ev_raise) | intro _ | split | dsimp only | with_reducible (first | apply ev_upd | apply ev_updTier))

theorem ev_execEthLinkUp (a1 : Fin 2) (a2 : State) (h2 : Evolves w s0 a2) :
    ∀ t, execEthLinkUp a1 a2 = .next t → Evolves w s0 t := by
  unfold execEthLinkUp
  refine fun t e => ev_next ?_ e
  repeat' (first | with_reducible (first | assumption | apply ev_pauseTest | apply ev_setFld) | intro _ | split | dsimp only | with_reducible (first | apply ev_upd | apply ev_updTier))

theorem ev_execEthPauseRelease (a1 : Fin 2) (a2 : State) (h2 : Evolves w s0 a2) :
    ∀ t, execEthPauseRelease a1 a2 = .next t → Evolves w s0 t := by
  unfold execEthPauseRelease
  refine fun t e => ev_next ?_ e
  repeat' (first | with_reducible (first | assumption | apply ev_releaseTest) | intro _ | split | dsimp only | with_reducible (first | apply ev_upd | apply ev_updTier))

theorem ev_execEthQueueDisable (a1 : Path) (a2 : Fin 2) (a3 : State) (h3 : Evolves w s0 a3) :
    ∀ t, execEthQueueDisable a1 a2 a3 = .next t → Evolves w s0 t := by
  unfold execEthQueueDisable
  refine fun t e => ev_next ?_ e
  repeat' (first | with_reducible (first | assumption | apply ev_writeQCtrl | apply ev_rwl) | intro _ | split | dsimp only | with_reducible (first | apply ev_upd | apply ev_updTier))

theorem ev_execEthQueueEnable (a1 : Path) (a2 : Fin 2) (a3 : State) (h3 : Evolves w s0 a3) :
    ∀ t, execEthQueueEnable a1 a2 a3 = .next t → Evolves w s0 t := by
  unfold execEthQueueEnable
  refine fun t e => ev_next ?_ e
  repeat' (first | with_reducible (first | assumption | apply ev_writeQCtrl | apply ev_rwl) | intro _ | split | dsimp only | with_reducible (first | apply ev_upd | apply ev_updTier))

theorem ev_execEthTxDescriptor (a1 : Fin 2) (a2 : List WordErr) (a3 : State) (h3 : Evolves w s0 a3) :
    ∀ t, execEthTxDescriptor a1 a2 a3 = .next t → Evolves w s0 t := by
  unfold execEthTxDescriptor
  refine fun t e => ev_next ?_ e
  repeat' (first | with_reducible (first | assumption | apply ev_setEthPort | apply ev_txDescriptor) | intro _ | split | dsimp only | with_reducible (first | apply ev_upd | apply ev_updTier))

theorem ev_execMacControlReceive (a1 : Fin 2) (a2 : List Byte) (a3 : Bool) (a4 : State) (h4 : Evolves w s0 a4) :
    ∀ t, execMacControlReceive a1 a2 a3 a4 = .next t → Evolves w s0 t := by
  unfold execMacControlReceive
  refine fun t e => ev_next ?_ e
  repeat' (first | with_reducible (first | assumption | apply ev_macControl) | intro _ | split | dsimp only | with_reducible (first | apply ev_upd | apply ev_updTier))

theorem ev_execPauseRefresh (a1 : Fin 2) (a2 : State) (h2 : Evolves w s0 a2) :
    ∀ t, execPauseRefresh a1 a2 = .next t → Evolves w s0 t := by
  unfold execPauseRefresh
  refine fun t e => ev_next ?_ e
  repeat' (first | with_reducible (first | assumption | apply ev_setEthPort | apply ev_atDeadline | apply ev_sendPause) | intro _ | split | dsimp only | with_reducible (first | apply ev_upd | apply ev_updTier))

theorem ev_execPauseTimerExpiry (a1 : Fin 2) (a2 : Fin 8) (a3 : State) (h3 : Evolves w s0 a3) :
    ∀ t, execPauseTimerExpiry a1 a2 a3 = .next t → Evolves w s0 t := by
  unfold execPauseTimerExpiry
  refine fun t e => ev_next ?_ e
  repeat' (first | with_reducible (first | assumption | apply ev_setEthPort | apply ev_atDeadline | apply ev_setFld) | intro _ | split | dsimp only | with_reducible (first | apply ev_upd | apply ev_updTier))

end Sys2Proof.Laws
end

