-- ==== Sys2Proof/Laws/EvEngines.lean ====
section
/-! SUPPORT. What a command may do to the state (Evolves), for every function of the engines of a parcel and the memory tiers.
-/

set_option Elab.async false
set_option linter.unreachableTactic false
set_option linter.unusedTactic false
set_option linter.unusedVariables false

namespace Sys2Proof.Laws

open Sys2Proof.Machine Sys2Proof.Safety

variable {w : Areas} {s0 : State}

theorem ev_readAll (a1 : State) (a2 : List WordErr) (a3 : List Region) (a4 : Nat) (a5 : Desc) (h1 : Evolves w s0 a1) :
    Evolves w s0 (State.readAll a1 a2 a3 a4 a5).2 := by
  unfold State.readAll
  repeat' (first | with_reducible (first | assumption | apply ev_holdErrors) | intro _ | split | dsimp only | with_reducible (first | apply ev_upd | apply ev_updTier))

theorem ev_poisonAll (a1 : State) (a2 : List Region) (h1 : Evolves w s0 a1) :
    Evolves w s0 (State.poisonAll a1 a2) := by
  unfold State.poisonAll
  repeat' (first | with_reducible (first | assumption | apply ev_poison | apply ev_foldl | apply ev_foldl_fst | apply ev_foldl_snd) | intro _ | split | dsimp only | with_reducible (first | apply ev_upd | apply ev_updTier))

theorem ev_endPoisoned (a1 : State) (a2 : Nat) (a3 : Desc) (a4 : List Region) (h1 : Evolves w s0 a1) :
    Evolves w s0 (State.endPoisoned a1 a2 a3 a4) := by
  unfold State.endPoisoned
  repeat' (first | with_reducible (first | assumption | apply ev_poisonAll | apply ev_endPart) | intro _ | split | dsimp only | with_reducible (first | apply ev_upd | apply ev_updTier))

theorem ev_writeRows (a1 : State) (a2 : List (Nat × List Byte)) (h1 : Evolves w s0 a1) (whold : w.hold = true := by assumption) :
    Evolves w s0 (State.writeRows a1 a2).2 := by
  induction a2 generalizing a1 with
  | nil => exact h1
  | cons x r ih =>
    unfold State.writeRows
    dsimp only
    split
    · exact ih _ (ev_holdPut _ _ _ h1)
    · exact ev_holdPut _ _ _ h1

theorem ev_finishRows (a1 : State) (a2 : Nat) (a3 : Desc) (a4 : List Region) (a5 : List (Nat × List Byte)) (h1 :
    Evolves w s0 a1) (whold : w.hold = true := by assumption) :
    Evolves w s0 (State.finishRows a1 a2 a3 a4 a5) := by
  unfold State.finishRows
  repeat' (first | with_reducible (first | assumption | apply ev_endPoisoned | apply ev_endPart | apply ev_writeRows | refine ev_of_snd (by assumption) ?_ | refine ev_of_fst (by assumption) ?_) | intro _ | split | dsimp only | with_reducible (first | apply ev_upd | apply ev_updTier))

theorem ev_withPart (a1 : State) (a2 : Nat) (a3 : Desc → Bool) (a4 : Desc → State) (h1 : Evolves w s0 a1) (h4 : ∀ y1,
    Evolves w s0 (a4 y1)) :
    Evolves w s0 (State.withPart a1 a2 a3 a4) := by
  unfold State.withPart
  repeat' (first | with_reducible (first | assumption | apply h4) | intro _ | split | dsimp only | with_reducible (first | apply ev_upd | apply ev_updTier))

theorem ev_runPart (a1 : State) (a2 : Nat) (a3 : Desc) (a4 : Nat) (a5 a6 : List Region) (a7 : List WordErr) (a8 : State
    → State) (h1 : Evolves w s0 a1) (h8 : ∀ y1, Evolves w s0 y1 → Evolves w s0 (a8 y1)) :
    Evolves w s0 (State.runPart a1 a2 a3 a4 a5 a6 a7 a8) := by
  unfold State.runPart
  repeat' (first | with_reducible (first | assumption | apply ev_endPoisoned | apply ev_readAll | apply ev_endPart | apply h8 | refine ev_of_snd (by assumption) ?_ | refine ev_of_fst (by assumption) ?_) | intro _ | split | dsimp only | with_reducible (first | apply ev_upd | apply ev_updTier))

theorem ev_clearWdcErr (a1 : State) (a2 : Nat) (h1 : Evolves w s0 a1) :
    Evolves w s0 (State.clearWdcErr a1 a2) := by
  unfold State.clearWdcErr
  repeat' (first | with_reducible (first | assumption | apply ev_setRd) | intro _ | split | dsimp only | with_reducible (first | apply ev_upd | apply ev_updTier))

theorem ev_recordDecoder (a1 : State) (a2 a3 a4 a5 a6 : Nat) (h1 : Evolves w s0 a1) :
    Evolves w s0 (State.recordDecoder a1 a2 a3 a4 a5 a6) := by
  unfold State.recordDecoder
  repeat' (first | with_reducible (first | assumption | apply ev_setBit | apply ev_setFld | apply ev_free | refine ev_of_snd (by assumption) ?_ | refine ev_of_fst (by assumption) ?_) | intro _ | split | dsimp only | with_reducible (first | apply ev_upd | apply ev_updTier))

theorem ev_wdcCommit (a1 : State) (a2 : Nat) (h1 : Evolves w s0 a1) :
    Evolves w s0 (State.wdcCommit a1 a2) := by
  unfold State.wdcCommit
  repeat' (first | with_reducible (first | assumption | apply ev_setBit | apply ev_setFld | apply ev_setRd64 | apply ev_foldl | apply ev_foldl_fst | apply ev_foldl_snd) | intro _ | split | dsimp only | with_reducible (first | apply ev_upd | apply ev_updTier))

theorem ev_execWdcCommit (a1 : Parcel) (a2 : Word) (a3 : State) (h3 : Evolves w s0 a3) :
    ∀ t, execWdcCommit a1 a2 a3 = .next t → Evolves w s0 t := by
  unfold execWdcCommit
  refine fun t e => ev_next ?_ e
  repeat' (first | with_reducible (first | assumption | apply ev_wdcCommit) | intro _ | split | dsimp only | with_reducible (first | apply ev_upd | apply ev_updTier))

theorem ev_execWdcErrClr (a1 : Parcel) (a2 : Word) (a3 : State) (h3 : Evolves w s0 a3) :
    ∀ t, execWdcErrClr a1 a2 a3 = .next t → Evolves w s0 t := by
  unfold execWdcErrClr
  refine fun t e => ev_next ?_ e
  repeat' (first | with_reducible (first | assumption | apply ev_clearWdcErr) | intro _ | split | dsimp only | with_reducible (first | apply ev_upd | apply ev_updTier))

theorem ev_refreshTiles (a1 : State) (a2 : Nat) (h1 : Evolves w s0 a1) :
    Evolves w s0 (State.refreshTiles a1 a2) := by
  unfold State.refreshTiles
  repeat' (first | with_reducible (first | assumption | apply ev_setFld) | intro _ | split | dsimp only | with_reducible (first | apply ev_upd | apply ev_updTier))

theorem ev_withdrawTile (a1 : State) (a2 a3 : Nat) (h1 : Evolves w s0 a1) :
    Evolves w s0 (State.withdrawTile a1 a2 a3) := by
  unfold State.withdrawTile
  repeat' (first | with_reducible (first | assumption | apply ev_setRd64 | apply ev_refreshTiles) | intro _ | split | dsimp only | with_reducible (first | apply ev_upd | apply ev_updTier))

theorem ev_codedFailure (a1 : State) (a2 : Nat) (a3 : Desc) (a4 : GemmOp) (a5 : List (Nat × GroupEnd)) (a6 : Nat) (h1 :
    Evolves w s0 a1) :
    Evolves w s0 (State.codedFailure a1 a2 a3 a4 a5 a6) := by
  unfold State.codedFailure
  repeat' (first | with_reducible (first | assumption | apply ev_poisonAll | apply ev_endPoisoned | apply ev_recordDecoder | apply ev_endPart | apply ev_free | refine ev_of_snd (by assumption) ?_ | refine ev_of_fst (by assumption) ?_) | intro _ | split | dsimp only | with_reducible (first | apply ev_upd | apply ev_updTier))

theorem ev_countBlocks (a1 : State) (a2 : Nat) (a3 : GemmOp) (h1 : Evolves w s0 a1) :
    Evolves w s0 (State.countBlocks a1 a2 a3) := by
  unfold State.countBlocks
  repeat' (first | with_reducible (first | assumption | apply ev_add64) | intro _ | split | dsimp only | with_reducible (first | apply ev_upd | apply ev_updTier))

theorem ev_noTiles (a1 : State) (a2 : Nat) (a3 : Desc) (h1 : Evolves w s0 a1) :
    Evolves w s0 (State.noTiles a1 a2 a3) := by
  unfold State.noTiles
  repeat' (first | with_reducible (first | assumption | apply ev_endPart | apply ev_selfFence) | intro _ | split | dsimp only | with_reducible (first | apply ev_upd | apply ev_updTier))

theorem ev_runNorm (a1 : State) (a2 a3 : Nat) (a4 : List WordErr) (h1 : Evolves w s0 a1) (whold : w.hold = true := by
    assumption) :
    Evolves w s0 (State.runNorm a1 a2 a3 a4) := by
  unfold State.runNorm
  repeat' (first | with_reducible (first | assumption | apply ev_withPart | apply ev_finishRows | apply ev_runPart | refine ev_of_snd (by assumption) ?_ | refine ev_of_fst (by assumption) ?_) | intro _ | split | dsimp only | with_reducible (first | apply ev_upd | apply ev_updTier))

theorem ev_execCgemm (a1 : Parcel) (a2 : List WordErr) (a3 : State) (h3 : Evolves w s0 a3) (whold : w.hold = true := by
    assumption) :
    ∀ t, execCgemm a1 a2 a3 = .next t → Evolves w s0 t := by
  unfold execCgemm
  refine fun t e => ev_next ?_ e
  repeat' (first | with_reducible (first | assumption | apply ev_readAll | apply ev_noTiles | apply ev_codedFailure | apply ev_add64 | apply ev_endPart | apply ev_countBlocks | apply ev_withPart | apply ev_finishRows | apply ev_runPart | refine ev_of_snd (by assumption) ?_ | refine ev_of_fst (by assumption) ?_) | intro _ | split | dsimp only | with_reducible (first | apply ev_upd | apply ev_updTier))

theorem ev_execGemm (a1 : Parcel) (a2 : List WordErr) (a3 : State) (h3 : Evolves w s0 a3) (whold : w.hold = true := by
    assumption) :
    ∀ t, execGemm a1 a2 a3 = .next t → Evolves w s0 t := by
  unfold execGemm
  refine fun t e => ev_next ?_ e
  repeat' (first | with_reducible (first | assumption | apply ev_noTiles | apply ev_countBlocks | apply ev_withPart | apply ev_finishRows | apply ev_runPart) | intro _ | split | dsimp only | with_reducible (first | apply ev_upd | apply ev_updTier))

theorem ev_execGemv (a1 : Parcel) (a2 : List WordErr) (a3 : State) (h3 : Evolves w s0 a3) (whold : w.hold = true := by
    assumption) :
    ∀ t, execGemv a1 a2 a3 = .next t → Evolves w s0 t := by
  unfold execGemv
  refine fun t e => ev_next ?_ e
  repeat' (first | with_reducible (first | assumption | apply ev_withPart | apply ev_finishRows | apply ev_runPart | refine ev_of_snd (by assumption) ?_ | refine ev_of_fst (by assumption) ?_) | intro _ | split | dsimp only | with_reducible (first | apply ev_upd | apply ev_updTier))

theorem ev_execLayerApply (a1 : Parcel) (a2 : List WordErr) (a3 : State) (h3 : Evolves w s0 a3) (whold : w.hold = true
    := by assumption) :
    ∀ t, execLayerApply a1 a2 a3 = .next t → Evolves w s0 t := by
  unfold execLayerApply
  refine fun t e => ev_next ?_ e
  repeat' (first | with_reducible (first | assumption | apply ev_runNorm) | intro _ | split | dsimp only | with_reducible (first | apply ev_upd | apply ev_updTier))

theorem ev_execMtErrClr (a1 : Path) (a2 : Parcel) (a3 : Word) (a4 : State) (h4 : Evolves w s0 a4) :
    ∀ t, execMtErrClr a1 a2 a3 a4 = .next t → Evolves w s0 t := by
  unfold execMtErrClr
  refine fun t e => ev_next ?_ e
  repeat' (first | with_reducible (first | assumption | apply ev_rwl | apply ev_setRd) | intro _ | split | dsimp only | with_reducible (first | apply ev_upd | apply ev_updTier))

theorem ev_execRmsApply (a1 : Parcel) (a2 : List WordErr) (a3 : State) (h3 : Evolves w s0 a3) (whold : w.hold = true :=
    by assumption) :
    ∀ t, execRmsApply a1 a2 a3 = .next t → Evolves w s0 t := by
  unfold execRmsApply
  refine fun t e => ev_next ?_ e
  repeat' (first | with_reducible (first | assumption | apply ev_runNorm) | intro _ | split | dsimp only | with_reducible (first | apply ev_upd | apply ev_updTier))

theorem ev_execRmsScale (a1 : Parcel) (a2 : List WordErr) (a3 : State) (h3 : Evolves w s0 a3) (whold : w.hold = true :=
    by assumption) :
    ∀ t, execRmsScale a1 a2 a3 = .next t → Evolves w s0 t := by
  unfold execRmsScale
  refine fun t e => ev_next ?_ e
  repeat' (first | with_reducible (first | assumption | apply ev_runNorm) | intro _ | split | dsimp only | with_reducible (first | apply ev_upd | apply ev_updTier))

theorem ev_execTileParityError (a1 : Parcel) (a2 : Fin 48) (a3 : Nat) (a4 : State) (h4 : Evolves w s0 a4) :
    ∀ t, execTileParityError a1 a2 a3 a4 = .next t → Evolves w s0 t := by
  unfold execTileParityError
  refine fun t e => ev_next ?_ e
  repeat' (first | with_reducible (first | assumption | apply ev_noTiles | apply ev_setBit | apply ev_setFld | apply ev_endPart | apply ev_withPart | apply ev_raise | apply ev_withdrawTile | apply ev_selfFence | apply ev_degrade) | intro _ | split | dsimp only | with_reducible (first | apply ev_upd | apply ev_updTier))

theorem ev_setVu (a1 : State) (a2 : Nat) (a3 : VuSt) (h1 : Evolves w s0 a1) :
    Evolves w s0 (State.setVu a1 a2 a3) := by
  unfold State.setVu
  repeat' (first | with_reducible (first | assumption) | intro _ | split | dsimp only | with_reducible (first | apply ev_upd | apply ev_updTier))

theorem ev_refreshUnits (a1 : State) (a2 : Nat) (h1 : Evolves w s0 a1) :
    Evolves w s0 (State.refreshUnits a1 a2) := by
  unfold State.refreshUnits
  repeat' (first | with_reducible (first | assumption | apply ev_setFld) | intro _ | split | dsimp only | with_reducible (first | apply ev_upd | apply ev_updTier))

theorem ev_endRun (a1 : State) (a2 a3 a4 : Nat) (h1 : Evolves w s0 a1) :
    Evolves w s0 (State.endRun a1 a2 a3 a4) := by
  unfold State.endRun
  repeat' (first | with_reducible (first | assumption | apply ev_endPart | apply ev_setVu) | intro _ | split | dsimp only | with_reducible (first | apply ev_upd | apply ev_updTier))

theorem ev_recordVu (a1 : State) (a2 a3 a4 a5 a6 a7 : Nat) (h1 : Evolves w s0 a1) :
    Evolves w s0 (State.recordVu a1 a2 a3 a4 a5 a6 a7) := by
  unfold State.recordVu
  repeat' (first | with_reducible (first | assumption | apply ev_setBit | apply ev_setFld | apply ev_setRd) | intro _ | split | dsimp only | with_reducible (first | apply ev_upd | apply ev_updTier))

theorem ev_failRun (a1 : State) (a2 : Nat) (a3 : Desc) (a4 a5 a6 a7 a8 : Nat) (h1 : Evolves w s0 a1) :
    Evolves w s0 (State.failRun a1 a2 a3 a4 a5 a6 a7 a8) := by
  unfold State.failRun
  repeat' (first | with_reducible (first | assumption | apply ev_recordVu | apply ev_endRun | apply ev_poison) | intro _ | split | dsimp only | with_reducible (first | apply ev_upd | apply ev_updTier))

theorem ev_freeSlot (a1 : State) (a2 a3 : Nat) (h1 : Evolves w s0 a1) :
    Evolves w s0 (State.freeSlot a1 a2 a3) := by
  unfold State.freeSlot
  repeat' (first | with_reducible (first | assumption | apply ev_setVu | apply ev_setRd) | intro _ | split | dsimp only | with_reducible (first | apply ev_upd | apply ev_updTier))

theorem ev_settleRun (a1 : State) (a2 : Nat) (a3 : VuRun) (h1 : Evolves w s0 a1) :
    Evolves w s0 (State.settleRun a1 a2 a3) := by
  unfold State.settleRun
  repeat' (first | with_reducible (first | assumption | apply ev_endRun | apply ev_setVu | refine ev_of_snd (by assumption) ?_ | refine ev_of_fst (by assumption) ?_) | intro _ | split | dsimp only | with_reducible (first | apply ev_upd | apply ev_updTier))

theorem ev_retire (a1 : State) (a2 : Nat) (a3 : Issue) (a4 : UnitSt) (a5 : Nat) (h1 : Evolves w s0 a1) :
    Evolves w s0 (State.retire a1 a2 a3 a4 a5) := by
  unfold State.retire
  repeat' (first | with_reducible (first | assumption | apply ev_add64 | apply ev_settleRun) | intro _ | split | dsimp only | with_reducible (first | apply ev_upd | apply ev_updTier))

theorem ev_vuPlain (a1 : State) (a2 a3 a4 : Nat) (a5 : Issue → UnitSt) (h1 : Evolves w s0 a1) :
    Evolves w s0 (State.vuPlain a1 a2 a3 a4 a5) := by
  unfold State.vuPlain
  repeat' (first | with_reducible (first | assumption | apply ev_retire) | intro _ | split | dsimp only | with_reducible (first | apply ev_upd | apply ev_updTier))

theorem ev_vuLanes (a1 : State) (a2 a3 a4 : Nat) (a5 : Issue → Nat → Nat) (h1 : Evolves w s0 a1) :
    Evolves w s0 (State.vuLanes a1 a2 a3 a4 a5) := by
  unfold State.vuLanes
  repeat' (first | with_reducible (first | assumption | apply ev_vuPlain) | intro _ | split | dsimp only | with_reducible (first | apply ev_upd | apply ev_updTier))

theorem ev_vuLoad (a1 : State) (a2 a3 a4 a5 : Nat) (a6 : List WordErr) (a7 : Issue → List Region) (a8 : State → Issue →
    UnitSt) (h1 : Evolves w s0 a1) :
    Evolves w s0 (State.vuLoad a1 a2 a3 a4 a5 a6 a7 a8) := by
  unfold State.vuLoad
  repeat' (first | with_reducible (first | assumption | apply ev_retire | apply ev_readAll | apply ev_failRun | refine ev_of_snd (by assumption) ?_ | refine ev_of_fst (by assumption) ?_) | intro _ | split | dsimp only | with_reducible (first | apply ev_upd | apply ev_updTier))

theorem ev_vuStore (a1 : State) (a2 a3 a4 : Nat) (a5 : Issue → List (Nat × List Byte)) (h1 : Evolves w s0 a1) (whold :
    w.hold = true := by assumption) :
    Evolves w s0 (State.vuStore a1 a2 a3 a4 a5) := by
  unfold State.vuStore
  repeat' (first | with_reducible (first | assumption | apply ev_retire | apply ev_failRun | apply ev_writeRows | refine ev_of_snd (by assumption) ?_ | refine ev_of_fst (by assumption) ?_) | intro _ | split | dsimp only | with_reducible (first | apply ev_upd | apply ev_updTier))

theorem ev_execPand (a1 : Parcel) (a2 : Fin 8) (a3 : State) (h3 : Evolves w s0 a3) :
    ∀ t, execPand a1 a2 a3 = .next t → Evolves w s0 t := by
  unfold execPand
  refine fun t e => ev_next ?_ e
  repeat' (first | with_reducible (first | assumption | apply ev_vuPlain) | intro _ | split | dsimp only | with_reducible (first | apply ev_upd | apply ev_updTier))

theorem ev_execPcnt (a1 : Parcel) (a2 : Fin 8) (a3 : State) (h3 : Evolves w s0 a3) :
    ∀ t, execPcnt a1 a2 a3 = .next t → Evolves w s0 t := by
  unfold execPcnt
  refine fun t e => ev_next ?_ e
  repeat' (first | with_reducible (first | assumption | apply ev_vuPlain) | intro _ | split | dsimp only | with_reducible (first | apply ev_upd | apply ev_updTier))

theorem ev_execPfirst (a1 : Parcel) (a2 : Fin 8) (a3 : State) (h3 : Evolves w s0 a3) :
    ∀ t, execPfirst a1 a2 a3 = .next t → Evolves w s0 t := by
  unfold execPfirst
  refine fun t e => ev_next ?_ e
  repeat' (first | with_reducible (first | assumption | apply ev_vuPlain) | intro _ | split | dsimp only | with_reducible (first | apply ev_upd | apply ev_updTier))

theorem ev_execPnot (a1 : Parcel) (a2 : Fin 8) (a3 : State) (h3 : Evolves w s0 a3) :
    ∀ t, execPnot a1 a2 a3 = .next t → Evolves w s0 t := by
  unfold execPnot
  refine fun t e => ev_next ?_ e
  repeat' (first | with_reducible (first | assumption | apply ev_vuPlain) | intro _ | split | dsimp only | with_reducible (first | apply ev_upd | apply ev_updTier))

theorem ev_execPor (a1 : Parcel) (a2 : Fin 8) (a3 : State) (h3 : Evolves w s0 a3) :
    ∀ t, execPor a1 a2 a3 = .next t → Evolves w s0 t := by
  unfold execPor
  refine fun t e => ev_next ?_ e
  repeat' (first | with_reducible (first | assumption | apply ev_vuPlain) | intro _ | split | dsimp only | with_reducible (first | apply ev_upd | apply ev_updTier))

theorem ev_execSadd (a1 : Parcel) (a2 : Fin 8) (a3 : State) (h3 : Evolves w s0 a3) :
    ∀ t, execSadd a1 a2 a3 = .next t → Evolves w s0 t := by
  unfold execSadd
  refine fun t e => ev_next ?_ e
  repeat' (first | with_reducible (first | assumption | apply ev_vuPlain) | intro _ | split | dsimp only | with_reducible (first | apply ev_upd | apply ev_updTier))

theorem ev_execSaddi (a1 : Parcel) (a2 : Fin 8) (a3 : State) (h3 : Evolves w s0 a3) :
    ∀ t, execSaddi a1 a2 a3 = .next t → Evolves w s0 t := by
  unfold execSaddi
  refine fun t e => ev_next ?_ e
  repeat' (first | with_reducible (first | assumption | apply ev_vuPlain) | intro _ | split | dsimp only | with_reducible (first | apply ev_upd | apply ev_updTier))

theorem ev_execSand (a1 : Parcel) (a2 : Fin 8) (a3 : State) (h3 : Evolves w s0 a3) :
    ∀ t, execSand a1 a2 a3 = .next t → Evolves w s0 t := by
  unfold execSand
  refine fun t e => ev_next ?_ e
  repeat' (first | with_reducible (first | assumption | apply ev_vuPlain) | intro _ | split | dsimp only | with_reducible (first | apply ev_upd | apply ev_updTier))

theorem ev_execSarg (a1 : Parcel) (a2 : Fin 8) (a3 : State) (h3 : Evolves w s0 a3) :
    ∀ t, execSarg a1 a2 a3 = .next t → Evolves w s0 t := by
  unfold execSarg
  refine fun t e => ev_next ?_ e
  repeat' (first | with_reducible (first | assumption | apply ev_vuPlain) | intro _ | split | dsimp only | with_reducible (first | apply ev_upd | apply ev_updTier))

theorem ev_execScnt (a1 : Parcel) (a2 : Fin 8) (a3 : State) (h3 : Evolves w s0 a3) :
    ∀ t, execScnt a1 a2 a3 = .next t → Evolves w s0 t := by
  unfold execScnt
  refine fun t e => ev_next ?_ e
  repeat' (first | with_reducible (first | assumption | apply ev_vuPlain) | intro _ | split | dsimp only | with_reducible (first | apply ev_upd | apply ev_updTier))

theorem ev_execSid (a1 : Parcel) (a2 : Fin 8) (a3 : State) (h3 : Evolves w s0 a3) :
    ∀ t, execSid a1 a2 a3 = .next t → Evolves w s0 t := by
  unfold execSid
  refine fun t e => ev_next ?_ e
  repeat' (first | with_reducible (first | assumption | apply ev_vuPlain) | intro _ | split | dsimp only | with_reducible (first | apply ev_upd | apply ev_updTier))

theorem ev_execSld (a1 : Parcel) (a2 : Fin 8) (a3 : List WordErr) (a4 : State) (h4 : Evolves w s0 a4) :
    ∀ t, execSld a1 a2 a3 a4 = .next t → Evolves w s0 t := by
  unfold execSld
  refine fun t e => ev_next ?_ e
  repeat' (first | with_reducible (first | assumption | apply ev_vuLoad) | intro _ | split | dsimp only | with_reducible (first | apply ev_upd | apply ev_updTier))

theorem ev_execSli (a1 : Parcel) (a2 : Fin 8) (a3 : State) (h3 : Evolves w s0 a3) :
    ∀ t, execSli a1 a2 a3 = .next t → Evolves w s0 t := by
  unfold execSli
  refine fun t e => ev_next ?_ e
  repeat' (first | with_reducible (first | assumption | apply ev_vuPlain) | intro _ | split | dsimp only | with_reducible (first | apply ev_upd | apply ev_updTier))

theorem ev_execSmul (a1 : Parcel) (a2 : Fin 8) (a3 : State) (h3 : Evolves w s0 a3) :
    ∀ t, execSmul a1 a2 a3 = .next t → Evolves w s0 t := by
  unfold execSmul
  refine fun t e => ev_next ?_ e
  repeat' (first | with_reducible (first | assumption | apply ev_vuPlain) | intro _ | split | dsimp only | with_reducible (first | apply ev_upd | apply ev_updTier))

theorem ev_execSshl (a1 : Parcel) (a2 : Fin 8) (a3 : State) (h3 : Evolves w s0 a3) :
    ∀ t, execSshl a1 a2 a3 = .next t → Evolves w s0 t := by
  unfold execSshl
  refine fun t e => ev_next ?_ e
  repeat' (first | with_reducible (first | assumption | apply ev_vuPlain) | intro _ | split | dsimp only | with_reducible (first | apply ev_upd | apply ev_updTier))

theorem ev_execSshr (a1 : Parcel) (a2 : Fin 8) (a3 : State) (h3 : Evolves w s0 a3) :
    ∀ t, execSshr a1 a2 a3 = .next t → Evolves w s0 t := by
  unfold execSshr
  refine fun t e => ev_next ?_ e
  repeat' (first | with_reducible (first | assumption | apply ev_vuPlain) | intro _ | split | dsimp only | with_reducible (first | apply ev_upd | apply ev_updTier))

theorem ev_execVabs (a1 : Parcel) (a2 : Fin 8) (a3 : State) (h3 : Evolves w s0 a3) :
    ∀ t, execVabs a1 a2 a3 = .next t → Evolves w s0 t := by
  unfold execVabs
  refine fun t e => ev_next ?_ e
  repeat' (first | with_reducible (first | assumption | apply ev_vuLanes) | intro _ | split | dsimp only | with_reducible (first | apply ev_upd | apply ev_updTier))

theorem ev_execVadd (a1 : Parcel) (a2 : Fin 8) (a3 : State) (h3 : Evolves w s0 a3) :
    ∀ t, execVadd a1 a2 a3 = .next t → Evolves w s0 t := by
  unfold execVadd
  refine fun t e => ev_next ?_ e
  repeat' (first | with_reducible (first | assumption | apply ev_vuLanes) | intro _ | split | dsimp only | with_reducible (first | apply ev_upd | apply ev_updTier))

theorem ev_execVadds (a1 : Parcel) (a2 : Fin 8) (a3 : State) (h3 : Evolves w s0 a3) :
    ∀ t, execVadds a1 a2 a3 = .next t → Evolves w s0 t := by
  unfold execVadds
  refine fun t e => ev_next ?_ e
  repeat' (first | with_reducible (first | assumption | apply ev_vuLanes) | intro _ | split | dsimp only | with_reducible (first | apply ev_upd | apply ev_updTier))

theorem ev_execVand (a1 : Parcel) (a2 : Fin 8) (a3 : State) (h3 : Evolves w s0 a3) :
    ∀ t, execVand a1 a2 a3 = .next t → Evolves w s0 t := by
  unfold execVand
  refine fun t e => ev_next ?_ e
  repeat' (first | with_reducible (first | assumption | apply ev_vuLanes) | intro _ | split | dsimp only | with_reducible (first | apply ev_upd | apply ev_updTier))

theorem ev_execVcmpeq (a1 : Parcel) (a2 : Fin 8) (a3 : State) (h3 : Evolves w s0 a3) :
    ∀ t, execVcmpeq a1 a2 a3 = .next t → Evolves w s0 t := by
  unfold execVcmpeq
  refine fun t e => ev_next ?_ e
  repeat' (first | with_reducible (first | assumption | apply ev_vuPlain) | intro _ | split | dsimp only | with_reducible (first | apply ev_upd | apply ev_updTier))

theorem ev_execVcmple (a1 : Parcel) (a2 : Fin 8) (a3 : State) (h3 : Evolves w s0 a3) :
    ∀ t, execVcmple a1 a2 a3 = .next t → Evolves w s0 t := by
  unfold execVcmple
  refine fun t e => ev_next ?_ e
  repeat' (first | with_reducible (first | assumption | apply ev_vuPlain) | intro _ | split | dsimp only | with_reducible (first | apply ev_upd | apply ev_updTier))

theorem ev_execVcmplt (a1 : Parcel) (a2 : Fin 8) (a3 : State) (h3 : Evolves w s0 a3) :
    ∀ t, execVcmplt a1 a2 a3 = .next t → Evolves w s0 t := by
  unfold execVcmplt
  refine fun t e => ev_next ?_ e
  repeat' (first | with_reducible (first | assumption | apply ev_vuPlain) | intro _ | split | dsimp only | with_reducible (first | apply ev_upd | apply ev_updTier))

theorem ev_execVcmul (a1 : Parcel) (a2 : Fin 8) (a3 : State) (h3 : Evolves w s0 a3) :
    ∀ t, execVcmul a1 a2 a3 = .next t → Evolves w s0 t := by
  unfold execVcmul
  refine fun t e => ev_next ?_ e
  repeat' (first | with_reducible (first | assumption | apply ev_vuPlain) | intro _ | split | dsimp only | with_reducible (first | apply ev_upd | apply ev_updTier))

theorem ev_execVcos (a1 : Parcel) (a2 : Fin 8) (a3 : State) (h3 : Evolves w s0 a3) :
    ∀ t, execVcos a1 a2 a3 = .next t → Evolves w s0 t := by
  unfold execVcos
  refine fun t e => ev_next ?_ e
  repeat' (first | with_reducible (first | assumption | apply ev_vuLanes) | intro _ | split | dsimp only | with_reducible (first | apply ev_upd | apply ev_updTier))

theorem ev_execVcvtF2i (a1 : Parcel) (a2 : Fin 8) (a3 : State) (h3 : Evolves w s0 a3) :
    ∀ t, execVcvtF2i a1 a2 a3 = .next t → Evolves w s0 t := by
  unfold execVcvtF2i
  refine fun t e => ev_next ?_ e
  repeat' (first | with_reducible (first | assumption | apply ev_vuLanes) | intro _ | split | dsimp only | with_reducible (first | apply ev_upd | apply ev_updTier))

theorem ev_execVcvtI2f (a1 : Parcel) (a2 : Fin 8) (a3 : State) (h3 : Evolves w s0 a3) :
    ∀ t, execVcvtI2f a1 a2 a3 = .next t → Evolves w s0 t := by
  unfold execVcvtI2f
  refine fun t e => ev_next ?_ e
  repeat' (first | with_reducible (first | assumption | apply ev_vuLanes) | intro _ | split | dsimp only | with_reducible (first | apply ev_upd | apply ev_updTier))

theorem ev_execVdiv (a1 : Parcel) (a2 : Fin 8) (a3 : State) (h3 : Evolves w s0 a3) :
    ∀ t, execVdiv a1 a2 a3 = .next t → Evolves w s0 t := by
  unfold execVdiv
  refine fun t e => ev_next ?_ e
  repeat' (first | with_reducible (first | assumption | apply ev_vuLanes) | intro _ | split | dsimp only | with_reducible (first | apply ev_upd | apply ev_updTier))

theorem ev_execVerf (a1 : Parcel) (a2 : Fin 8) (a3 : State) (h3 : Evolves w s0 a3) :
    ∀ t, execVerf a1 a2 a3 = .next t → Evolves w s0 t := by
  unfold execVerf
  refine fun t e => ev_next ?_ e
  repeat' (first | with_reducible (first | assumption | apply ev_vuLanes) | intro _ | split | dsimp only | with_reducible (first | apply ev_upd | apply ev_updTier))

theorem ev_execVexp (a1 : Parcel) (a2 : Fin 8) (a3 : State) (h3 : Evolves w s0 a3) :
    ∀ t, execVexp a1 a2 a3 = .next t → Evolves w s0 t := by
  unfold execVexp
  refine fun t e => ev_next ?_ e
  repeat' (first | with_reducible (first | assumption | apply ev_vuLanes) | intro _ | split | dsimp only | with_reducible (first | apply ev_upd | apply ev_updTier))

theorem ev_execVexp2 (a1 : Parcel) (a2 : Fin 8) (a3 : State) (h3 : Evolves w s0 a3) :
    ∀ t, execVexp2 a1 a2 a3 = .next t → Evolves w s0 t := by
  unfold execVexp2
  refine fun t e => ev_next ?_ e
  repeat' (first | with_reducible (first | assumption | apply ev_vuLanes) | intro _ | split | dsimp only | with_reducible (first | apply ev_upd | apply ev_updTier))

theorem ev_execVfma (a1 : Parcel) (a2 : Fin 8) (a3 : State) (h3 : Evolves w s0 a3) :
    ∀ t, execVfma a1 a2 a3 = .next t → Evolves w s0 t := by
  unfold execVfma
  refine fun t e => ev_next ?_ e
  repeat' (first | with_reducible (first | assumption | apply ev_vuLanes) | intro _ | split | dsimp only | with_reducible (first | apply ev_upd | apply ev_updTier))

theorem ev_execVfms (a1 : Parcel) (a2 : Fin 8) (a3 : State) (h3 : Evolves w s0 a3) :
    ∀ t, execVfms a1 a2 a3 = .next t → Evolves w s0 t := by
  unfold execVfms
  refine fun t e => ev_next ?_ e
  repeat' (first | with_reducible (first | assumption | apply ev_vuLanes) | intro _ | split | dsimp only | with_reducible (first | apply ev_upd | apply ev_updTier))

theorem ev_execVfnma (a1 : Parcel) (a2 : Fin 8) (a3 : State) (h3 : Evolves w s0 a3) :
    ∀ t, execVfnma a1 a2 a3 = .next t → Evolves w s0 t := by
  unfold execVfnma
  refine fun t e => ev_next ?_ e
  repeat' (first | with_reducible (first | assumption | apply ev_vuLanes) | intro _ | split | dsimp only | with_reducible (first | apply ev_upd | apply ev_updTier))

theorem ev_execViadd (a1 : Parcel) (a2 : Fin 8) (a3 : State) (h3 : Evolves w s0 a3) :
    ∀ t, execViadd a1 a2 a3 = .next t → Evolves w s0 t := by
  unfold execViadd
  refine fun t e => ev_next ?_ e
  repeat' (first | with_reducible (first | assumption | apply ev_vuLanes) | intro _ | split | dsimp only | with_reducible (first | apply ev_upd | apply ev_updTier))

theorem ev_execViota (a1 : Parcel) (a2 : Fin 8) (a3 : State) (h3 : Evolves w s0 a3) :
    ∀ t, execViota a1 a2 a3 = .next t → Evolves w s0 t := by
  unfold execViota
  refine fun t e => ev_next ?_ e
  repeat' (first | with_reducible (first | assumption | apply ev_vuLanes) | intro _ | split | dsimp only | with_reducible (first | apply ev_upd | apply ev_updTier))

theorem ev_execVldBcast (a1 : Parcel) (a2 : Fin 8) (a3 : List WordErr) (a4 : State) (h4 : Evolves w s0 a4) :
    ∀ t, execVldBcast a1 a2 a3 a4 = .next t → Evolves w s0 t := by
  unfold execVldBcast
  refine fun t e => ev_next ?_ e
  repeat' (first | with_reducible (first | assumption | apply ev_vuLoad) | intro _ | split | dsimp only | with_reducible (first | apply ev_upd | apply ev_updTier))

theorem ev_execVldBf16 (a1 : Parcel) (a2 : Fin 8) (a3 : List WordErr) (a4 : State) (h4 : Evolves w s0 a4) :
    ∀ t, execVldBf16 a1 a2 a3 a4 = .next t → Evolves w s0 t := by
  unfold execVldBf16
  refine fun t e => ev_next ?_ e
  repeat' (first | with_reducible (first | assumption | apply ev_vuLoad) | intro _ | split | dsimp only | with_reducible (first | apply ev_upd | apply ev_updTier))

theorem ev_execVldBf16x2 (a1 : Parcel) (a2 : Fin 8) (a3 : List WordErr) (a4 : State) (h4 : Evolves w s0 a4) :
    ∀ t, execVldBf16x2 a1 a2 a3 a4 = .next t → Evolves w s0 t := by
  unfold execVldBf16x2
  refine fun t e => ev_next ?_ e
  repeat' (first | with_reducible (first | assumption | apply ev_vuLoad) | intro _ | split | dsimp only | with_reducible (first | apply ev_upd | apply ev_updTier))

theorem ev_execVldF32 (a1 : Parcel) (a2 : Fin 8) (a3 : List WordErr) (a4 : State) (h4 : Evolves w s0 a4) :
    ∀ t, execVldF32 a1 a2 a3 a4 = .next t → Evolves w s0 t := by
  unfold execVldF32
  refine fun t e => ev_next ?_ e
  repeat' (first | with_reducible (first | assumption | apply ev_vuLoad) | intro _ | split | dsimp only | with_reducible (first | apply ev_upd | apply ev_updTier))

theorem ev_execVload (a1 : Parcel) (a2 : List WordErr) (a3 : State) (h3 : Evolves w s0 a3) :
    ∀ t, execVload a1 a2 a3 = .next t → Evolves w s0 t := by
  unfold execVload
  refine fun t e => ev_next ?_ e
  repeat' (first | with_reducible (first | assumption | apply ev_recordVu | apply ev_endPart | apply ev_withPart | apply ev_setVu | apply ev_setRd | apply ev_runPart) | intro _ | split | dsimp only | with_reducible (first | apply ev_upd | apply ev_updTier))

theorem ev_execVloadFree (a1 : Parcel) (a2 : State) (h2 : Evolves w s0 a2) :
    ∀ t, execVloadFree a1 a2 = .next t → Evolves w s0 t := by
  unfold execVloadFree
  refine fun t e => ev_next ?_ e
  repeat' (first | with_reducible (first | assumption | apply ev_endPart | apply ev_withPart | apply ev_freeSlot) | intro _ | split | dsimp only | with_reducible (first | apply ev_upd | apply ev_updTier))

theorem ev_execVlog (a1 : Parcel) (a2 : Fin 8) (a3 : State) (h3 : Evolves w s0 a3) :
    ∀ t, execVlog a1 a2 a3 = .next t → Evolves w s0 t := by
  unfold execVlog
  refine fun t e => ev_next ?_ e
  repeat' (first | with_reducible (first | assumption | apply ev_vuLanes) | intro _ | split | dsimp only | with_reducible (first | apply ev_upd | apply ev_updTier))

theorem ev_execVlog2 (a1 : Parcel) (a2 : Fin 8) (a3 : State) (h3 : Evolves w s0 a3) :
    ∀ t, execVlog2 a1 a2 a3 = .next t → Evolves w s0 t := by
  unfold execVlog2
  refine fun t e => ev_next ?_ e
  repeat' (first | with_reducible (first | assumption | apply ev_vuLanes) | intro _ | split | dsimp only | with_reducible (first | apply ev_upd | apply ev_updTier))

theorem ev_execVmax (a1 : Parcel) (a2 : Fin 8) (a3 : State) (h3 : Evolves w s0 a3) :
    ∀ t, execVmax a1 a2 a3 = .next t → Evolves w s0 t := by
  unfold execVmax
  refine fun t e => ev_next ?_ e
  repeat' (first | with_reducible (first | assumption | apply ev_vuLanes) | intro _ | split | dsimp only | with_reducible (first | apply ev_upd | apply ev_updTier))

theorem ev_execVmin (a1 : Parcel) (a2 : Fin 8) (a3 : State) (h3 : Evolves w s0 a3) :
    ∀ t, execVmin a1 a2 a3 = .next t → Evolves w s0 t := by
  unfold execVmin
  refine fun t e => ev_next ?_ e
  repeat' (first | with_reducible (first | assumption | apply ev_vuLanes) | intro _ | split | dsimp only | with_reducible (first | apply ev_upd | apply ev_updTier))

theorem ev_execVmov (a1 : Parcel) (a2 : Fin 8) (a3 : State) (h3 : Evolves w s0 a3) :
    ∀ t, execVmov a1 a2 a3 = .next t → Evolves w s0 t := by
  unfold execVmov
  refine fun t e => ev_next ?_ e
  repeat' (first | with_reducible (first | assumption | apply ev_vuLanes) | intro _ | split | dsimp only | with_reducible (first | apply ev_upd | apply ev_updTier))

theorem ev_execVmul (a1 : Parcel) (a2 : Fin 8) (a3 : State) (h3 : Evolves w s0 a3) :
    ∀ t, execVmul a1 a2 a3 = .next t → Evolves w s0 t := by
  unfold execVmul
  refine fun t e => ev_next ?_ e
  repeat' (first | with_reducible (first | assumption | apply ev_vuLanes) | intro _ | split | dsimp only | with_reducible (first | apply ev_upd | apply ev_updTier))

theorem ev_execVmuls (a1 : Parcel) (a2 : Fin 8) (a3 : State) (h3 : Evolves w s0 a3) :
    ∀ t, execVmuls a1 a2 a3 = .next t → Evolves w s0 t := by
  unfold execVmuls
  refine fun t e => ev_next ?_ e
  repeat' (first | with_reducible (first | assumption | apply ev_vuLanes) | intro _ | split | dsimp only | with_reducible (first | apply ev_upd | apply ev_updTier))

theorem ev_execVneg (a1 : Parcel) (a2 : Fin 8) (a3 : State) (h3 : Evolves w s0 a3) :
    ∀ t, execVneg a1 a2 a3 = .next t → Evolves w s0 t := by
  unfold execVneg
  refine fun t e => ev_next ?_ e
  repeat' (first | with_reducible (first | assumption | apply ev_vuLanes) | intro _ | split | dsimp only | with_reducible (first | apply ev_upd | apply ev_updTier))

theorem ev_execVor (a1 : Parcel) (a2 : Fin 8) (a3 : State) (h3 : Evolves w s0 a3) :
    ∀ t, execVor a1 a2 a3 = .next t → Evolves w s0 t := by
  unfold execVor
  refine fun t e => ev_next ?_ e
  repeat' (first | with_reducible (first | assumption | apply ev_vuLanes) | intro _ | split | dsimp only | with_reducible (first | apply ev_upd | apply ev_updTier))

theorem ev_execVrcp (a1 : Parcel) (a2 : Fin 8) (a3 : State) (h3 : Evolves w s0 a3) :
    ∀ t, execVrcp a1 a2 a3 = .next t → Evolves w s0 t := by
  unfold execVrcp
  refine fun t e => ev_next ?_ e
  repeat' (first | with_reducible (first | assumption | apply ev_vuLanes) | intro _ | split | dsimp only | with_reducible (first | apply ev_upd | apply ev_updTier))

theorem ev_execVredmax (a1 : Parcel) (a2 : Fin 8) (a3 : State) (h3 : Evolves w s0 a3) :
    ∀ t, execVredmax a1 a2 a3 = .next t → Evolves w s0 t := by
  unfold execVredmax
  refine fun t e => ev_next ?_ e
  repeat' (first | with_reducible (first | assumption | apply ev_vuPlain) | intro _ | split | dsimp only | with_reducible (first | apply ev_upd | apply ev_updTier))

theorem ev_execVredsum (a1 : Parcel) (a2 : Fin 8) (a3 : State) (h3 : Evolves w s0 a3) :
    ∀ t, execVredsum a1 a2 a3 = .next t → Evolves w s0 t := by
  unfold execVredsum
  refine fun t e => ev_next ?_ e
  repeat' (first | with_reducible (first | assumption | apply ev_vuPlain) | intro _ | split | dsimp only | with_reducible (first | apply ev_upd | apply ev_updTier))

theorem ev_execVrotl (a1 : Parcel) (a2 : Fin 8) (a3 : State) (h3 : Evolves w s0 a3) :
    ∀ t, execVrotl a1 a2 a3 = .next t → Evolves w s0 t := by
  unfold execVrotl
  refine fun t e => ev_next ?_ e
  repeat' (first | with_reducible (first | assumption | apply ev_vuLanes) | intro _ | split | dsimp only | with_reducible (first | apply ev_upd | apply ev_updTier))

theorem ev_execVrsqrt (a1 : Parcel) (a2 : Fin 8) (a3 : State) (h3 : Evolves w s0 a3) :
    ∀ t, execVrsqrt a1 a2 a3 = .next t → Evolves w s0 t := by
  unfold execVrsqrt
  refine fun t e => ev_next ?_ e
  repeat' (first | with_reducible (first | assumption | apply ev_vuLanes) | intro _ | split | dsimp only | with_reducible (first | apply ev_upd | apply ev_updTier))

theorem ev_execVrun (a1 : Parcel) (a2 : State) (h2 : Evolves w s0 a2) :
    ∀ t, execVrun a1 a2 = .next t → Evolves w s0 t := by
  unfold execVrun
  refine fun t e => ev_next ?_ e
  repeat' (first | with_reducible (first | assumption | apply ev_endPart | apply ev_withPart | apply ev_setVu | refine ev_of_snd (by assumption) ?_ | refine ev_of_fst (by assumption) ?_) | intro _ | split | dsimp only | with_reducible (first | apply ev_upd | apply ev_updTier))

theorem ev_execVrunCycleLimit (a1 : Parcel) (a2 : State) (h2 : Evolves w s0 a2) :
    ∀ t, execVrunCycleLimit a1 a2 = .next t → Evolves w s0 t := by
  unfold execVrunCycleLimit
  refine fun t e => ev_next ?_ e
  repeat' (first | with_reducible (first | assumption | apply ev_atDeadline | apply ev_setVu | apply ev_failRun | refine ev_of_snd (by assumption) ?_ | refine ev_of_fst (by assumption) ?_) | intro _ | split | dsimp only | with_reducible (first | apply ev_upd | apply ev_updTier))

theorem ev_execVsel (a1 : Parcel) (a2 : Fin 8) (a3 : State) (h3 : Evolves w s0 a3) :
    ∀ t, execVsel a1 a2 a3 = .next t → Evolves w s0 t := by
  unfold execVsel
  refine fun t e => ev_next ?_ e
  repeat' (first | with_reducible (first | assumption | apply ev_vuPlain) | intro _ | split | dsimp only | with_reducible (first | apply ev_upd | apply ev_updTier))

theorem ev_execVshl (a1 : Parcel) (a2 : Fin 8) (a3 : State) (h3 : Evolves w s0 a3) :
    ∀ t, execVshl a1 a2 a3 = .next t → Evolves w s0 t := by
  unfold execVshl
  refine fun t e => ev_next ?_ e
  repeat' (first | with_reducible (first | assumption | apply ev_vuLanes) | intro _ | split | dsimp only | with_reducible (first | apply ev_upd | apply ev_updTier))

theorem ev_execVshr (a1 : Parcel) (a2 : Fin 8) (a3 : State) (h3 : Evolves w s0 a3) :
    ∀ t, execVshr a1 a2 a3 = .next t → Evolves w s0 t := by
  unfold execVshr
  refine fun t e => ev_next ?_ e
  repeat' (first | with_reducible (first | assumption | apply ev_vuLanes) | intro _ | split | dsimp only | with_reducible (first | apply ev_upd | apply ev_updTier))

theorem ev_execVsig (a1 : Parcel) (a2 : Fin 8) (a3 : State) (h3 : Evolves w s0 a3) :
    ∀ t, execVsig a1 a2 a3 = .next t → Evolves w s0 t := by
  unfold execVsig
  refine fun t e => ev_next ?_ e
  repeat' (first | with_reducible (first | assumption | apply ev_vuLanes) | intro _ | split | dsimp only | with_reducible (first | apply ev_upd | apply ev_updTier))

theorem ev_execVsin (a1 : Parcel) (a2 : Fin 8) (a3 : State) (h3 : Evolves w s0 a3) :
    ∀ t, execVsin a1 a2 a3 = .next t → Evolves w s0 t := by
  unfold execVsin
  refine fun t e => ev_next ?_ e
  repeat' (first | with_reducible (first | assumption | apply ev_vuLanes) | intro _ | split | dsimp only | with_reducible (first | apply ev_upd | apply ev_updTier))

theorem ev_execVsplat (a1 : Parcel) (a2 : Fin 8) (a3 : State) (h3 : Evolves w s0 a3) :
    ∀ t, execVsplat a1 a2 a3 = .next t → Evolves w s0 t := by
  unfold execVsplat
  refine fun t e => ev_next ?_ e
  repeat' (first | with_reducible (first | assumption | apply ev_vuLanes) | intro _ | split | dsimp only | with_reducible (first | apply ev_upd | apply ev_updTier))

theorem ev_execVsqrt (a1 : Parcel) (a2 : Fin 8) (a3 : State) (h3 : Evolves w s0 a3) :
    ∀ t, execVsqrt a1 a2 a3 = .next t → Evolves w s0 t := by
  unfold execVsqrt
  refine fun t e => ev_next ?_ e
  repeat' (first | with_reducible (first | assumption | apply ev_vuLanes) | intro _ | split | dsimp only | with_reducible (first | apply ev_upd | apply ev_updTier))

theorem ev_execVstBf16 (a1 : Parcel) (a2 : Fin 8) (a3 : State) (h3 : Evolves w s0 a3) (whold : w.hold = true := by
    assumption) :
    ∀ t, execVstBf16 a1 a2 a3 = .next t → Evolves w s0 t := by
  unfold execVstBf16
  refine fun t e => ev_next ?_ e
  repeat' (first | with_reducible (first | assumption | apply ev_vuStore) | intro _ | split | dsimp only | with_reducible (first | apply ev_upd | apply ev_updTier))

theorem ev_execVstBf16x2 (a1 : Parcel) (a2 : Fin 8) (a3 : State) (h3 : Evolves w s0 a3) (whold : w.hold = true := by
    assumption) :
    ∀ t, execVstBf16x2 a1 a2 a3 = .next t → Evolves w s0 t := by
  unfold execVstBf16x2
  refine fun t e => ev_next ?_ e
  repeat' (first | with_reducible (first | assumption | apply ev_vuStore) | intro _ | split | dsimp only | with_reducible (first | apply ev_upd | apply ev_updTier))

theorem ev_execVstE4m3 (a1 : Parcel) (a2 : Fin 8) (a3 : State) (h3 : Evolves w s0 a3) (whold : w.hold = true := by
    assumption) :
    ∀ t, execVstE4m3 a1 a2 a3 = .next t → Evolves w s0 t := by
  unfold execVstE4m3
  refine fun t e => ev_next ?_ e
  repeat' (first | with_reducible (first | assumption | apply ev_vuStore) | intro _ | split | dsimp only | with_reducible (first | apply ev_upd | apply ev_updTier))

theorem ev_execVstF32 (a1 : Parcel) (a2 : Fin 8) (a3 : State) (h3 : Evolves w s0 a3) (whold : w.hold = true := by
    assumption) :
    ∀ t, execVstF32 a1 a2 a3 = .next t → Evolves w s0 t := by
  unfold execVstF32
  refine fun t e => ev_next ?_ e
  repeat' (first | with_reducible (first | assumption | apply ev_vuStore) | intro _ | split | dsimp only | with_reducible (first | apply ev_upd | apply ev_updTier))

theorem ev_execVsub (a1 : Parcel) (a2 : Fin 8) (a3 : State) (h3 : Evolves w s0 a3) :
    ∀ t, execVsub a1 a2 a3 = .next t → Evolves w s0 t := by
  unfold execVsub
  refine fun t e => ev_next ?_ e
  repeat' (first | with_reducible (first | assumption | apply ev_vuLanes) | intro _ | split | dsimp only | with_reducible (first | apply ev_upd | apply ev_updTier))

theorem ev_execVtanh (a1 : Parcel) (a2 : Fin 8) (a3 : State) (h3 : Evolves w s0 a3) :
    ∀ t, execVtanh a1 a2 a3 = .next t → Evolves w s0 t := by
  unfold execVtanh
  refine fun t e => ev_next ?_ e
  repeat' (first | with_reducible (first | assumption | apply ev_vuLanes) | intro _ | split | dsimp only | with_reducible (first | apply ev_upd | apply ev_updTier))

theorem ev_execVuBlt (a1 : Parcel) (a2 : Fin 8) (a3 : State) (h3 : Evolves w s0 a3) :
    ∀ t, execVuBlt a1 a2 a3 = .next t → Evolves w s0 t := by
  unfold execVuBlt
  refine fun t e => ev_next ?_ e
  repeat' (first | with_reducible (first | assumption | apply ev_retire) | intro _ | split | dsimp only | with_reducible (first | apply ev_upd | apply ev_updTier))

theorem ev_execVuBnz (a1 : Parcel) (a2 : Fin 8) (a3 : State) (h3 : Evolves w s0 a3) :
    ∀ t, execVuBnz a1 a2 a3 = .next t → Evolves w s0 t := by
  unfold execVuBnz
  refine fun t e => ev_next ?_ e
  repeat' (first | with_reducible (first | assumption | apply ev_retire) | intro _ | split | dsimp only | with_reducible (first | apply ev_upd | apply ev_updTier))

theorem ev_execVuBr (a1 : Parcel) (a2 : Fin 8) (a3 : State) (h3 : Evolves w s0 a3) :
    ∀ t, execVuBr a1 a2 a3 = .next t → Evolves w s0 t := by
  unfold execVuBr
  refine fun t e => ev_next ?_ e
  repeat' (first | with_reducible (first | assumption | apply ev_retire) | intro _ | split | dsimp only | with_reducible (first | apply ev_upd | apply ev_updTier))

theorem ev_execVuEnd (a1 : Parcel) (a2 : Fin 8) (a3 : State) (h3 : Evolves w s0 a3) :
    ∀ t, execVuEnd a1 a2 a3 = .next t → Evolves w s0 t := by
  unfold execVuEnd
  refine fun t e => ev_next ?_ e
  repeat' (first | with_reducible (first | assumption | apply ev_vuPlain) | intro _ | split | dsimp only | with_reducible (first | apply ev_upd | apply ev_updTier))

theorem ev_execVuErrClr (a1 : Path) (a2 : Parcel) (a3 : Word) (a4 : State) (h4 : Evolves w s0 a4) :
    ∀ t, execVuErrClr a1 a2 a3 a4 = .next t → Evolves w s0 t := by
  unfold execVuErrClr
  refine fun t e => ev_next ?_ e
  repeat' (first | with_reducible (first | assumption | apply ev_rwl | apply ev_setRd) | intro _ | split | dsimp only | with_reducible (first | apply ev_upd | apply ev_updTier))

theorem ev_execVuLoop (a1 : Parcel) (a2 : Fin 8) (a3 : State) (h3 : Evolves w s0 a3) :
    ∀ t, execVuLoop a1 a2 a3 = .next t → Evolves w s0 t := by
  unfold execVuLoop
  refine fun t e => ev_next ?_ e
  repeat' (first | with_reducible (first | assumption | apply ev_retire) | intro _ | split | dsimp only | with_reducible (first | apply ev_upd | apply ev_updTier))

theorem ev_execVuNop (a1 : Parcel) (a2 : Fin 8) (a3 : State) (h3 : Evolves w s0 a3) :
    ∀ t, execVuNop a1 a2 a3 = .next t → Evolves w s0 t := by
  unfold execVuNop
  refine fun t e => ev_next ?_ e
  repeat' (first | with_reducible (first | assumption | apply ev_vuPlain) | intro _ | split | dsimp only | with_reducible (first | apply ev_upd | apply ev_updTier))

theorem ev_execVuParityError (a1 : Parcel) (a2 : Fin 8) (a3 : Fin 3) (a4 : State) (h4 : Evolves w s0 a4) :
    ∀ t, execVuParityError a1 a2 a3 a4 = .next t → Evolves w s0 t := by
  unfold execVuParityError
  refine fun t e => ev_next ?_ e
  repeat' (first | with_reducible (first | assumption | apply ev_addSat | apply ev_refreshUnits | apply ev_setFld | apply ev_raise | apply ev_failRun | apply ev_degrade | apply ev_freeSlot) | intro _ | split | dsimp only | with_reducible (first | apply ev_upd | apply ev_updTier))

theorem ev_execVuSlotFree (a1 : Path) (a2 : Parcel) (a3 : Word) (a4 : State) (h4 : Evolves w s0 a4) :
    ∀ t, execVuSlotFree a1 a2 a3 a4 = .next t → Evolves w s0 t := by
  unfold execVuSlotFree
  refine fun t e => ev_next ?_ e
  repeat' (first | with_reducible (first | assumption | apply ev_rwl | apply ev_freeSlot | apply ev_foldl | apply ev_foldl_fst | apply ev_foldl_snd) | intro _ | split | dsimp only | with_reducible (first | apply ev_upd | apply ev_updTier))

theorem ev_execVuSync (a1 : Parcel) (a2 : Fin 8) (a3 : State) (h3 : Evolves w s0 a3) :
    ∀ t, execVuSync a1 a2 a3 = .next t → Evolves w s0 t := by
  unfold execVuSync
  refine fun t e => ev_next ?_ e
  repeat' (first | with_reducible (first | assumption | apply ev_vuPlain) | intro _ | split | dsimp only | with_reducible (first | apply ev_upd | apply ev_updTier))

theorem ev_execVuTrap (a1 : Parcel) (a2 : Fin 8) (a3 : State) (h3 : Evolves w s0 a3) :
    ∀ t, execVuTrap a1 a2 a3 = .next t → Evolves w s0 t := by
  unfold execVuTrap
  refine fun t e => ev_next ?_ e
  repeat' (first | with_reducible (first | assumption | apply ev_failRun) | intro _ | split | dsimp only | with_reducible (first | apply ev_upd | apply ev_updTier))

theorem ev_execVxor (a1 : Parcel) (a2 : Fin 8) (a3 : State) (h3 : Evolves w s0 a3) :
    ∀ t, execVxor a1 a2 a3 = .next t → Evolves w s0 t := by
  unfold execVxor
  refine fun t e => ev_next ?_ e
  repeat' (first | with_reducible (first | assumption | apply ev_vuLanes) | intro _ | split | dsimp only | with_reducible (first | apply ev_upd | apply ev_updTier))

theorem ev_execXld (a1 : Parcel) (a2 : Fin 8) (a3 : State) (h3 : Evolves w s0 a3) :
    ∀ t, execXld a1 a2 a3 = .next t → Evolves w s0 t := by
  unfold execXld
  refine fun t e => ev_next ?_ e
  repeat' (first | with_reducible (first | assumption | apply ev_retire | apply ev_failRun) | intro _ | split | dsimp only | with_reducible (first | apply ev_upd | apply ev_updTier))

theorem ev_execXst (a1 : Parcel) (a2 : Fin 8) (a3 : State) (h3 : Evolves w s0 a3) :
    ∀ t, execXst a1 a2 a3 = .next t → Evolves w s0 t := by
  unfold execXst
  refine fun t e => ev_next ?_ e
  repeat' (first | with_reducible (first | assumption | apply ev_retire | apply ev_setVu | apply ev_foldl | apply ev_foldl_fst | apply ev_foldl_snd) | intro _ | split | dsimp only | with_reducible (first | apply ev_upd | apply ev_updTier))

theorem ev_setNearCtl (a1 : State) (a2 : Nat) (a3 : NearSt) (h1 : Evolves w s0 a1) :
    Evolves w s0 (State.setNearCtl a1 a2 a3) := by
  unfold State.setNearCtl
  repeat' (first | with_reducible (first | assumption) | intro _ | split | dsimp only | with_reducible (first | apply ev_upd | apply ev_updTier))

theorem ev_nearCe (a1 : State) (a2 : Nat) (h1 : Evolves w s0 a1) :
    Evolves w s0 (State.nearCe a1 a2) := by
  unfold State.nearCe
  repeat' (first | with_reducible (first | assumption | apply ev_addSat | apply ev_raise | apply ev_setNearCtl) | intro _ | split | dsimp only | with_reducible (first | apply ev_upd | apply ev_updTier))

theorem ev_recordNear (a1 : State) (a2 a3 a4 : Nat) (a5 a6 : Bool) (h1 : Evolves w s0 a1) :
    Evolves w s0 (State.recordNear a1 a2 a3 a4 a5 a6) := by
  unfold State.recordNear
  repeat' (first | with_reducible (first | assumption | apply ev_setBit | apply ev_setFld | apply ev_setRd64) | intro _ | split | dsimp only | with_reducible (first | apply ev_upd | apply ev_updTier))

theorem ev_nearUe (a1 : State) (a2 a3 : Nat) (a4 : Bool) (a5 : Option Attr) (h1 : Evolves w s0 a1) :
    Evolves w s0 (State.nearUe a1 a2 a3 a4 a5) := by
  unfold State.nearUe
  repeat' (first | with_reducible (first | assumption | apply ev_addSat | apply ev_recordNear | apply ev_raise) | intro _ | split | dsimp only | with_reducible (first | apply ev_upd | apply ev_updTier))

theorem ev_nearErrors (a1 : State) (a2 : List WordErr) (a3 : Nat) (a4 : Bool) (a5 : Option Attr) (h1 : Evolves w s0 a1)
    :
    Evolves w s0 (State.nearErrors a1 a2 a3 a4 a5) := by
  unfold State.nearErrors
  repeat' (first | with_reducible (first | assumption | apply ev_nearCe | apply ev_nearUe | apply ev_foldl | apply ev_foldl_fst | apply ev_foldl_snd) | intro _ | split | dsimp only | with_reducible (first | apply ev_upd | apply ev_updTier))

theorem ev_tierErrors (a1 : State) (a2 a3 a4 : Nat) (a5 a6 : List WordErr) (a7 : Nat) (a8 : Desc) (h1 : Evolves w s0
    a1) :
    Evolves w s0 (State.tierErrors a1 a2 a3 a4 a5 a6 a7 a8) := by
  unfold State.tierErrors
  repeat' (first | with_reducible (first | assumption | apply ev_readAll | apply ev_addSat | apply ev_nearErrors | apply ev_foldl | apply ev_foldl_fst | apply ev_foldl_snd) | intro _ | split | dsimp only | with_reducible (first | apply ev_upd | apply ev_updTier))

theorem ev_setPoison (a1 : State) (a2 : Nat) (a3 : List Nat) (h1 : Evolves w s0 a1) :
    Evolves w s0 (State.setPoison a1 a2 a3) := by
  unfold State.setPoison
  repeat' (first | with_reducible (first | assumption) | intro _ | split | dsimp only | with_reducible (first | apply ev_upd | apply ev_updTier))

theorem ev_putBytes (a1 : State) (a2 a3 : Nat) (a4 : List Byte) (h1 : Evolves w s0 a1) (whold : w.hold = true := by assumption) (wtier : w.tier = true := by assumption) :
    Evolves w s0 (State.putBytes a1 a2 a3 a4) := by
  unfold State.putBytes
  split
  · exact ev_updHold (storeWf_memWrite _ _ _) h1
  · split
    · exact ev_updBytes (fun x => ⟨storeWf_memWrite _ _ _ x.2.1, x.2.2⟩) h1
    · exact ev_updBytes (fun x => ⟨x.2.1, storeWf_memWrite _ _ _ x.2.2⟩) h1

theorem ev_tierWrite (a1 : State) (a2 a3 : Nat) (a4 : List Byte) (h1 : Evolves w s0 a1) (whold : w.hold = true := by
    assumption) (wtier : w.tier = true := by assumption) :
    Evolves w s0 (State.tierWrite a1 a2 a3 a4).2 := by
  unfold State.tierWrite
  repeat' (first | with_reducible (first | assumption | apply ev_setPoison | apply ev_putBytes | refine ev_of_snd (by assumption) ?_ | refine ev_of_fst (by assumption) ?_) | intro _ | split | dsimp only | with_reducible (first | apply ev_upd | apply ev_updTier))

theorem ev_failPort (a1 : State) (a2 : Nat) (h1 : Evolves w s0 a1) :
    Evolves w s0 (State.failPort a1 a2) := by
  unfold State.failPort
  repeat' (first | with_reducible (first | assumption | apply ev_mapParts) | intro _ | split | dsimp only | with_reducible (first | apply ev_upd | apply ev_updTier))

theorem ev_setFarCtl (a1 : State) (a2 : Nat) (a3 : FarSt) (h1 : Evolves w s0 a1) :
    Evolves w s0 (State.setFarCtl a1 a2 a3) := by
  unfold State.setFarCtl
  repeat' (first | with_reducible (first | assumption) | intro _ | split | dsimp only | with_reducible (first | apply ev_upd | apply ev_updTier))

theorem ev_makeDue (a1 : State) (a2 a3 : Nat) (h1 : Evolves w s0 a1) :
    Evolves w s0 (State.makeDue a1 a2 a3) := by
  unfold State.makeDue
  repeat' (first | with_reducible (first | assumption | apply ev_setNearCtl) | intro _ | split | dsimp only | with_reducible (first | apply ev_upd | apply ev_updTier))

theorem ev_checkMargin (a1 : State) (a2 a3 a4 a5 : Nat) (h1 : Evolves w s0 a1) :
    Evolves w s0 (State.checkMargin a1 a2 a3 a4 a5) := by
  unfold State.checkMargin
  repeat' (first | with_reducible (first | assumption | apply ev_setFld | apply ev_makeDue | apply ev_setNearCtl) | intro _ | split | dsimp only | with_reducible (first | apply ev_upd | apply ev_updTier))

theorem ev_clearNearErr (a1 : State) (a2 : Nat) (h1 : Evolves w s0 a1) :
    Evolves w s0 (State.clearNearErr a1 a2) := by
  unfold State.clearNearErr
  repeat' (first | with_reducible (first | assumption | apply ev_setFld | apply ev_setRd64 | apply ev_setRd) | intro _ | split | dsimp only | with_reducible (first | apply ev_upd | apply ev_updTier))

theorem ev_clearTract (a1 : State) (a2 a3 : Nat) (h1 : Evolves w s0 a1) (wtier : w.tier = true := by assumption) :
    Evolves w s0 (State.clearTract a1 a2 a3) := by
  unfold State.clearTract
  dsimp only
  split
  · refine ev_setRd _ _ _ (ev_updBytes (s := a1.setPoison a2 _) (fun x => ?_) (ev_setPoison _ _ _ h1))
    split
    · exact ⟨storeWf_memClear _ _ _ x.2.1, x.2.2⟩
    · exact ⟨x.2.1, storeWf_memClear _ _ _ x.2.2⟩
  · exact h1

theorem ev_tierPoison (a1 : State) (a2 a3 a4 : Nat) (h1 : Evolves w s0 a1) :
    Evolves w s0 (State.tierPoison a1 a2 a3 a4) := by
  unfold State.tierPoison
  repeat' (first | with_reducible (first | assumption | apply ev_setPoison | apply ev_foldl | apply ev_foldl_fst | apply ev_foldl_snd) | intro _ | split | dsimp only | with_reducible (first | apply ev_upd | apply ev_updTier))

theorem ev_failChannel (a1 : State) (a2 a3 : Nat) (h1 : Evolves w s0 a1) :
    Evolves w s0 (State.failChannel a1 a2 a3) := by
  unfold State.failChannel
  repeat' (first | with_reducible (first | assumption | apply ev_setFld | apply ev_degrade) | intro _ | split | dsimp only | with_reducible (first | apply ev_upd | apply ev_updTier))

theorem ev_portUp (a1 : State) (a2 : Nat) (a3 a4 : Bool) (h1 : Evolves w s0 a1) :
    Evolves w s0 (State.portUp a1 a2 a3 a4) := by
  unfold State.portUp
  repeat' (first | with_reducible (first | assumption | apply ev_setFld) | intro _ | split | dsimp only | with_reducible (first | apply ev_upd | apply ev_updTier))

theorem ev_writeTract (a1 : State) (a2 a3 : Nat) (a4 : Fld) (h1 : Evolves w s0 a1) :
    Evolves w s0 (State.writeTract a1 a2 a3 a4) := by
  unfold State.writeTract
  repeat' (first | with_reducible (first | assumption | apply ev_setBit | apply ev_setRd | refine ev_of_snd (by assumption) ?_ | refine ev_of_fst (by assumption) ?_) | intro _ | split | dsimp only | with_reducible (first | apply ev_upd | apply ev_updTier))

theorem ev_resetFarPort (a1 : State) (a2 : Nat) (h1 : Evolves w s0 a1) :
    Evolves w s0 (State.resetFarPort a1 a2) := by
  unfold State.resetFarPort
  repeat' (first | with_reducible (first | assumption | apply ev_failPort | apply ev_setFarCtl | apply ev_setFld) | intro _ | split | dsimp only | with_reducible (first | apply ev_upd | apply ev_updTier))

theorem ev_writeRetrainReq (a1 : State) (a2 a3 : Nat) (h1 : Evolves w s0 a1) :
    Evolves w s0 (State.writeRetrainReq a1 a2 a3) := by
  unfold State.writeRetrainReq
  repeat' (first | with_reducible (first | assumption | apply ev_makeDue | apply ev_setNearCtl) | intro _ | split | dsimp only | with_reducible (first | apply ev_upd | apply ev_updTier))

theorem ev_retireTracts (a1 : State) (a2 a3 : Nat) (h1 : Evolves w s0 a1) :
    Evolves w s0 (State.retireTracts a1 a2 a3) := by
  unfold State.retireTracts
  repeat' (first | with_reducible (first | assumption | apply ev_setFld | apply ev_setRd | apply ev_foldl | apply ev_foldl_fst | apply ev_foldl_snd) | intro _ | split | dsimp only | with_reducible (first | apply ev_upd | apply ev_updTier))

theorem ev_setTag (a1 : State) (a2 a3 a4 a5 a6 : Nat) (h1 : Evolves w s0 a1) :
    Evolves w s0 (State.setTag a1 a2 a3 a4 a5 a6) := by
  unfold State.setTag
  repeat' (first | with_reducible (first | assumption | apply ev_setFld) | intro _ | split | dsimp only | with_reducible (first | apply ev_upd | apply ev_updTier))

theorem ev_stackTemp (a1 : State) (a2 : Nat) (a3 : ℤ) (h1 : Evolves w s0 a1) :
    Evolves w s0 (State.stackTemp a1 a2 a3) := by
  unfold State.stackTemp
  repeat' (first | with_reducible (first | assumption | apply ev_setBit | apply ev_foldl | apply ev_foldl_fst | apply ev_foldl_snd) | intro _ | split | dsimp only | with_reducible (first | apply ev_upd | apply ev_updTier))

theorem ev_writePoisonList (a1 : State) (a2 : Nat) (a3 : List Nat) (h1 : Evolves w s0 a1) :
    Evolves w s0 (State.writePoisonList a1 a2 a3) := by
  unfold State.writePoisonList
  repeat' (first | with_reducible (first | assumption | apply ev_addSat | apply ev_recordNear | apply ev_raise | apply ev_foldl | apply ev_foldl_fst | apply ev_foldl_snd) | intro _ | split | dsimp only | with_reducible (first | apply ev_upd | apply ev_updTier))

theorem ev_execAcceptStale (a1 : Path) (a2 : Fin 4) (a3 : State) (h3 : Evolves w s0 a3) :
    ∀ t, execAcceptStale a1 a2 a3 = .next t → Evolves w s0 t := by
  unfold execAcceptStale
  refine fun t e => ev_next ?_ e
  repeat' (first | with_reducible (first | assumption | apply ev_rwl | apply ev_setFld) | intro _ | split | dsimp only | with_reducible (first | apply ev_upd | apply ev_updTier))

theorem ev_execCxlEnumerate (a1 : Fin 4) (a2 : Option CxlDevice) (a3 : State) (h3 : Evolves w s0 a3) :
    ∀ t, execCxlEnumerate a1 a2 a3 = .next t → Evolves w s0 t := by
  unfold execCxlEnumerate
  refine fun t e => ev_next ?_ e
  repeat' (first | with_reducible (first | assumption | apply ev_portUp | apply ev_setFarCtl | apply ev_setBit | apply ev_retireTracts | apply ev_setFld | apply ev_raise) | intro _ | split | dsimp only | with_reducible (first | apply ev_upd | apply ev_updTier))

theorem ev_execCxlLinkDown (a1 : Fin 4) (a2 : State) (h2 : Evolves w s0 a2) :
    ∀ t, execCxlLinkDown a1 a2 = .next t → Evolves w s0 t := by
  unfold execCxlLinkDown
  refine fun t e => ev_next ?_ e
  repeat' (first | with_reducible (first | assumption | apply ev_failPort | apply ev_setFarCtl | apply ev_addSat | apply ev_setBit | apply ev_setFld) | intro _ | split | dsimp only | with_reducible (first | apply ev_upd | apply ev_updTier))

theorem ev_execCxlLinkRetrain (a1 : Fin 4) (a2 a3 a4 : Bool) (a5 : State) (h5 : Evolves w s0 a5) :
    ∀ t, execCxlLinkRetrain a1 a2 a3 a4 a5 = .next t → Evolves w s0 t := by
  unfold execCxlLinkRetrain
  refine fun t e => ev_next ?_ e
  repeat' (first | with_reducible (first | assumption | apply ev_portUp | apply ev_setFarCtl | apply ev_atDeadline) | intro _ | split | dsimp only | with_reducible (first | apply ev_upd | apply ev_updTier))

theorem ev_execCxlViral (a1 : Fin 4) (a2 : State) (h2 : Evolves w s0 a2) :
    ∀ t, execCxlViral a1 a2 = .next t → Evolves w s0 t := by
  unfold execCxlViral
  refine fun t e => ev_next ?_ e
  repeat' (first | with_reducible (first | assumption | apply ev_failPort | apply ev_setFarCtl | apply ev_setBit | apply ev_setFld | apply ev_raise) | intro _ | split | dsimp only | with_reducible (first | apply ev_upd | apply ev_updTier))

theorem ev_execFtPortRttUpdate (a1 : Fin 4) (a2 : BitVec 16) (a3 : State) (h3 : Evolves w s0 a3) :
    ∀ t, execFtPortRttUpdate a1 a2 a3 = .next t → Evolves w s0 t := by
  unfold execFtPortRttUpdate
  refine fun t e => ev_next ?_ e
  repeat' (first | with_reducible (first | assumption | apply ev_setFld) | intro _ | split | dsimp only | with_reducible (first | apply ev_upd | apply ev_updTier))

theorem ev_execFtRequestTimeout (a1 : Fin 4) (a2 : Parcel) (a3 : State) (h3 : Evolves w s0 a3) :
    ∀ t, execFtRequestTimeout a1 a2 a3 = .next t → Evolves w s0 t := by
  unfold execFtRequestTimeout
  refine fun t e => ev_next ?_ e
  repeat' (first | with_reducible (first | assumption | apply ev_addSat | apply ev_setBit | apply ev_endPart | apply ev_withPart) | intro _ | split | dsimp only | with_reducible (first | apply ev_upd | apply ev_updTier))

theorem ev_execFtReset (a1 : Path) (a2 : Fin 4) (a3 : State) (h3 : Evolves w s0 a3) :
    ∀ t, execFtReset a1 a2 a3 = .next t → Evolves w s0 t := by
  unfold execFtReset
  refine fun t e => ev_next ?_ e
  repeat' (first | with_reducible (first | assumption | apply ev_rwl | apply ev_resetFarPort) | intro _ | split | dsimp only | with_reducible (first | apply ev_upd | apply ev_updTier))

theorem ev_execFtTractOwnerWrite (a1 : Path) (a2 : Fin 4) (a3 : Fin 512) (a4 : Word) (a5 : State) (h5 : Evolves w s0
    a5) :
    ∀ t, execFtTractOwnerWrite a1 a2 a3 a4 a5 = .next t → Evolves w s0 t := by
  unfold execFtTractOwnerWrite
  refine fun t e => ev_next ?_ e
  repeat' (first | with_reducible (first | assumption | apply ev_writeTract | apply ev_rwl) | intro _ | split | dsimp only | with_reducible (first | apply ev_upd | apply ev_updTier))

theorem ev_execNtErrClr (a1 : Path) (a2 : Parcel) (a3 : Word) (a4 : State) (h4 : Evolves w s0 a4) :
    ∀ t, execNtErrClr a1 a2 a3 a4 = .next t → Evolves w s0 t := by
  unfold execNtErrClr
  refine fun t e => ev_next ?_ e
  repeat' (first | with_reducible (first | assumption | apply ev_clearNearErr | apply ev_rwl) | intro _ | split | dsimp only | with_reducible (first | apply ev_upd | apply ev_updTier))

theorem ev_execNtMarginCheck (a1 : Parcel) (a2 : List Byte) (a3 : Byte) (a4 : State) (h4 : Evolves w s0 a4) :
    ∀ t, execNtMarginCheck a1 a2 a3 a4 = .next t → Evolves w s0 t := by
  unfold execNtMarginCheck
  refine fun t e => ev_next ?_ e
  repeat' (first | with_reducible (first | assumption | apply ev_stackTemp | apply ev_setFld | apply ev_checkMargin | apply ev_foldl | apply ev_foldl_fst | apply ev_foldl_snd | refine ev_of_snd (by assumption) ?_ | refine ev_of_fst (by assumption) ?_) | intro _ | split | dsimp only | with_reducible (first | apply ev_upd | apply ev_updTier))

theorem ev_execNtResetReturn (a1 : Parcel) (a2 : List Nat) (a3 : List (Fin 32)) (a4 : State) (h4 : Evolves w s0 a4) :
    ∀ t, execNtResetReturn a1 a2 a3 a4 = .next t → Evolves w s0 t := by
  unfold execNtResetReturn
  refine fun t e => ev_next ?_ e
  repeat' (first | with_reducible (first | assumption | apply ev_setBit | apply ev_failChannel | apply ev_writePoisonList | apply ev_setRt | apply ev_foldl | apply ev_foldl_fst | apply ev_foldl_snd) | intro _ | split | dsimp only | with_reducible (first | apply ev_upd | apply ev_updTier))

theorem ev_execNtRetrainDone (a1 : Parcel) (a2 : Bool) (a3 : Byte) (a4 : Fin 4) (a5 : Byte) (a6 : State) (h6 : Evolves
    w s0 a6) :
    ∀ t, execNtRetrainDone a1 a2 a3 a4 a5 a6 = .next t → Evolves w s0 t := by
  unfold execNtRetrainDone
  refine fun t e => ev_next ?_ e
  repeat' (first | with_reducible (first | assumption | apply ev_setBit | apply ev_setFld | apply ev_setTag | apply ev_failChannel | apply ev_setNearCtl | apply ev_addWrap | refine ev_of_snd (by assumption) ?_ | refine ev_of_fst (by assumption) ?_) | intro _ | split | dsimp only | with_reducible (first | apply ev_upd | apply ev_updTier))

theorem ev_execNtRetrainReq (a1 : Path) (a2 : Parcel) (a3 : Word) (a4 : State) (h4 : Evolves w s0 a4) :
    ∀ t, execNtRetrainReq a1 a2 a3 a4 = .next t → Evolves w s0 t := by
  unfold execNtRetrainReq
  refine fun t e => ev_next ?_ e
  repeat' (first | with_reducible (first | assumption | apply ev_rwl | apply ev_writeRetrainReq) | intro _ | split | dsimp only | with_reducible (first | apply ev_upd | apply ev_updTier))

theorem ev_execNtRetrainSlice (a1 : Parcel) (a2 : State) (h2 : Evolves w s0 a2) :
    ∀ t, execNtRetrainSlice a1 a2 = .next t → Evolves w s0 t := by
  unfold execNtRetrainSlice
  refine fun t e => ev_next ?_ e
  repeat' (first | with_reducible (first | assumption | apply ev_advanceTo | apply ev_setNearCtl | refine ev_of_snd (by assumption) ?_ | refine ev_of_fst (by assumption) ?_) | intro _ | split | dsimp only | with_reducible (first | apply ev_upd | apply ev_updTier))

theorem ev_execNtRetrainStart (a1 : Parcel) (a2 : State) (h2 : Evolves w s0 a2) :
    ∀ t, execNtRetrainStart a1 a2 = .next t → Evolves w s0 t := by
  unfold execNtRetrainStart
  refine fun t e => ev_next ?_ e
  repeat' (first | with_reducible (first | assumption | apply ev_setBit | apply ev_setFld | apply ev_setNearCtl | refine ev_of_snd (by assumption) ?_ | refine ev_of_fst (by assumption) ?_) | intro _ | split | dsimp only | with_reducible (first | apply ev_upd | apply ev_updTier))

theorem ev_execNtScrubStep (a1 : Parcel) (a2 : List WordErr) (a3 : State) (h3 : Evolves w s0 a3) :
    ∀ t, execNtScrubStep a1 a2 a3 = .next t → Evolves w s0 t := by
  unfold execNtScrubStep
  refine fun t e => ev_next ?_ e
  repeat' (first | with_reducible (first | assumption | apply ev_nearErrors | apply ev_setNearCtl) | intro _ | split | dsimp only | with_reducible (first | apply ev_upd | apply ev_updTier))

theorem ev_execNtTractOwnerWrite (a1 : Path) (a2 : Parcel) (a3 : Fin 48) (a4 : Word) (a5 : State) (h5 : Evolves w s0
    a5) :
    ∀ t, execNtTractOwnerWrite a1 a2 a3 a4 a5 = .next t → Evolves w s0 t := by
  unfold execNtTractOwnerWrite
  refine fun t e => ev_next ?_ e
  repeat' (first | with_reducible (first | assumption | apply ev_writeTract | apply ev_rwl) | intro _ | split | dsimp only | with_reducible (first | apply ev_upd | apply ev_updTier))

theorem ev_execStackFailure (a1 : Fin 12) (a2 : State) (h2 : Evolves w s0 a2) :
    ∀ t, execStackFailure a1 a2 = .next t → Evolves w s0 t := by
  unfold execStackFailure
  refine fun t e => ev_next ?_ e
  repeat' (first | with_reducible (first | assumption | apply ev_raise | apply ev_foldl | apply ev_foldl_fst | apply ev_foldl_snd) | intro _ | split | dsimp only | with_reducible (first | apply ev_upd | apply ev_updTier))

theorem ev_execTractClearDone (a1 : Bool) (a2 : Fin 12) (a3 : Fin 512) (a4 : State) (h4 : Evolves w s0 a4) (wtier :
    w.tier = true := by assumption) :
    ∀ t, execTractClearDone a1 a2 a3 a4 = .next t → Evolves w s0 t := by
  unfold execTractClearDone
  refine fun t e => ev_next ?_ e
  repeat' (first | with_reducible (first | assumption | apply ev_clearTract) | intro _ | split | dsimp only | with_reducible (first | apply ev_upd | apply ev_updTier))

theorem ev_KvCtx_access (a1 : KvCtx) (a2 a3 a4 a5 : Nat) (a6 : Bool) (a7 : State) (h7 : Evolves w s0 a7) :
    Evolves w s0 (KvCtx.access a1 a2 a3 a4 a5 a6 a7).2 := by
  unfold KvCtx.access
  repeat' (first | with_reducible (first | assumption) | intro _ | split | dsimp only | with_reducible (first | apply ev_upd | apply ev_updTier))

theorem ev_thenDo {α : Type} {β : Type} (a3 : KvRes α) (a4 : α → State → KvRes β) (h3 : (Evolves w s0 (a3).2)) (h4 : ∀
    y1 y2, Evolves w s0 y2 → Evolves w s0 (a4 y1 y2).2) :
    Evolves w s0 (thenDo a3 a4).2 := by
  unfold thenDo
  repeat' (first | with_reducible (first | assumption | apply h4) | intro _ | split | dsimp only | with_reducible (first | apply ev_upd | apply ev_updTier))

theorem ev_KvCtx_read (a1 : KvCtx) (a2 a3 a4 a5 : Nat) (a6 : State) (h6 : Evolves w s0 a6) :
    Evolves w s0 (KvCtx.read a1 a2 a3 a4 a5 a6).2 := by
  unfold KvCtx.read
  repeat' (first | with_reducible (first | assumption | apply ev_tierErrors | apply ev_KvCtx_access | apply ev_thenDo) | intro _ | split | dsimp only | with_reducible (first | apply ev_upd | apply ev_updTier))

theorem ev_need (a1 : Bool) (a2 a3 : Nat) (a4 : State) (h4 : Evolves w s0 a4) :
    Evolves w s0 (need a1 a2 a3 a4).2 := by
  unfold need
  repeat' (first | with_reducible (first | assumption) | intro _ | split | dsimp only | with_reducible (first | apply ev_upd | apply ev_updTier))

theorem ev_KvCtx_stream (a1 : KvCtx) (a2 : Nat) (a3 : State) (h3 : Evolves w s0 a3) :
    Evolves w s0 (KvCtx.stream a1 a2 a3).2 := by
  unfold KvCtx.stream
  repeat' (first | with_reducible (first | assumption | apply ev_KvCtx_read | apply ev_need | apply ev_thenDo) | intro _ | split | dsimp only | with_reducible (first | apply ev_upd | apply ev_updTier))

theorem ev_KvCtx_write (a1 : KvCtx) (a2 a3 a4 : Nat) (a5 : List Byte) (a6 : State) (h6 : Evolves w s0 a6) (whold :
    w.hold = true := by assumption) (wtier : w.tier = true := by assumption) :
    Evolves w s0 (KvCtx.write a1 a2 a3 a4 a5 a6).2 := by
  unfold KvCtx.write
  repeat' (first | with_reducible (first | assumption | apply ev_tierWrite | apply ev_KvCtx_access | apply ev_thenDo | refine ev_of_snd (by assumption) ?_ | refine ev_of_fst (by assumption) ?_) | intro _ | split | dsimp only | with_reducible (first | apply ev_upd | apply ev_updTier))

theorem ev_KvCtx_entry (a1 : KvCtx) (a2 : StreamRec) (a3 : Nat) (a4 : State) (h4 : Evolves w s0 a4) (whold : w.hold =
    true := by assumption) (wtier : w.tier = true := by assumption) :
    Evolves w s0 (KvCtx.entry a1 a2 a3 a4).2 := by
  unfold KvCtx.entry
  repeat' (first | with_reducible (first | assumption | apply ev_KvCtx_read | apply ev_KvCtx_write | apply ev_thenDo) | intro _ | split | dsimp only | with_reducible (first | apply ev_upd | apply ev_updTier))

theorem ev_eachDo {α : Type} (a2 : α → State → KvRes Unit) (a3 : List α) (a4 : State)
    (h2 : ∀ y1 y2, Evolves w s0 y2 → Evolves w s0 (a2 y1 y2).2) (h4 : Evolves w s0 a4) :
    Evolves w s0 (eachDo a2 a3 a4).2 := by
  induction a3 generalizing a4 with
  | nil => exact h4
  | cons a r ih => exact ev_thenDo _ _ (h2 _ _ h4) fun _ _ h => ih _ h

theorem ev_KvCtx_readArrays (a1 : KvCtx) (a2 : List Region) (a3 : State) (h3 : Evolves w s0 a3) :
    Evolves w s0 (KvCtx.readArrays a1 a2 a3).2 := by
  induction a2 generalizing a3 with
  | nil => exact h3
  | cons a r ih =>
    exact ev_thenDo _ _ (ev_KvCtx_read _ _ _ _ _ _ h3) fun _ _ h => ev_thenDo _ _ (ih _ h) fun _ _ h => h

theorem ev_kvCountPage (a1 : State) (a2 a3 : Nat) (h1 : Evolves w s0 a1) :
    Evolves w s0 (State.kvCountPage a1 a2 a3) := by
  unfold State.kvCountPage
  repeat' (first | with_reducible (first | assumption | apply ev_add64) | intro _ | split | dsimp only | with_reducible (first | apply ev_upd | apply ev_updTier))

theorem ev_KvCtx_readBack (a1 : KvCtx) (a2 : StreamRec) (a3 : Nat) (a4 : PageEnt) (a5 : State) (h5 : Evolves w s0 a5) :
    Evolves w s0 (KvCtx.readBack a1 a2 a3 a4 a5).2 := by
  unfold KvCtx.readBack
  repeat' (first | with_reducible (first | assumption | apply ev_KvCtx_read | apply ev_kvCountPage | apply ev_thenDo) | intro _ | split | dsimp only | with_reducible (first | apply ev_upd | apply ev_updTier))

theorem ev_KvCtx_putEntry (a1 : KvCtx) (a2 : StreamRec) (a3 : Nat) (a4 : PageEnt) (a5 : State) (h5 : Evolves w s0 a5)
    (whold : w.hold = true := by assumption) (wtier : w.tier = true := by assumption) :
    Evolves w s0 (KvCtx.putEntry a1 a2 a3 a4 a5).2 := by
  unfold KvCtx.putEntry
  repeat' (first | with_reducible (first | assumption | apply ev_KvCtx_write) | intro _ | split | dsimp only | with_reducible (first | apply ev_upd | apply ev_updTier))

theorem ev_KvCtx_promote (a1 : KvCtx) (a2 : StreamRec) (a3 : Nat) (a4 : Bool) (a5 : State) (h5 : Evolves w s0 a5)
    (whold : w.hold = true := by assumption) (wtier : w.tier = true := by assumption) :
    Evolves w s0 (KvCtx.promote a1 a2 a3 a4 a5).2 := by
  unfold KvCtx.promote
  repeat' (first | with_reducible (first | assumption | apply ev_KvCtx_write | apply ev_KvCtx_entry | apply ev_need | apply ev_KvCtx_readBack | apply ev_KvCtx_putEntry | apply ev_thenDo) | intro _ | split | dsimp only | with_reducible (first | apply ev_upd | apply ev_updTier))

theorem ev_KvCtx_readyPage (a1 : KvCtx) (a2 : StreamRec) (a3 : Nat) (a4 : State) (h4 : Evolves w s0 a4) (whold : w.hold
    = true := by assumption) (wtier : w.tier = true := by assumption) :
    Evolves w s0 (KvCtx.readyPage a1 a2 a3 a4).2 := by
  unfold KvCtx.readyPage
  repeat' (first | with_reducible (first | assumption | apply ev_KvCtx_entry | apply ev_KvCtx_promote | apply ev_thenDo) | intro _ | split | dsimp only | with_reducible (first | apply ev_upd | apply ev_updTier))

theorem ev_KvCtx_readFrame (a1 : KvCtx) (a2 : StreamRec) (a3 : Nat) (a4 : PageEnt) (a5 a6 : Nat) (a7 : State) (h7 :
    Evolves w s0 a7) (whold : w.hold = true := by assumption) (wtier : w.tier = true := by assumption) :
    Evolves w s0 (KvCtx.readFrame a1 a2 a3 a4 a5 a6 a7).2 := by
  unfold KvCtx.readFrame
  repeat' (first | with_reducible (first | assumption | apply ev_addSat | apply ev_setBit | apply ev_tierErrors | apply ev_need | apply ev_KvCtx_readBack | apply ev_KvCtx_putEntry | apply ev_KvCtx_access | apply ev_thenDo) | intro _ | split | dsimp only | with_reducible (first | apply ev_upd | apply ev_updTier))

theorem ev_KvCtx_touchPage (a1 : KvCtx) (a2 : StreamRec) (a3 : Nat) (a4 : State) (h4 : Evolves w s0 a4) (whold : w.hold
    = true := by assumption) (wtier : w.tier = true := by assumption) :
    Evolves w s0 (KvCtx.touchPage a1 a2 a3 a4).2 := by
  unfold KvCtx.touchPage
  repeat' (first | with_reducible (first | assumption | apply ev_KvCtx_entry | apply ev_KvCtx_readFrame | apply ev_KvCtx_putEntry | apply ev_thenDo) | intro _ | split | dsimp only | with_reducible (first | apply ev_upd | apply ev_updTier))

theorem ev_KvCtx_writeLen (a1 : KvCtx) (a2 : StreamRec) (a3 : Nat) (a4 : State) (h4 : Evolves w s0 a4) (whold : w.hold
    = true := by assumption) (wtier : w.tier = true := by assumption) :
    Evolves w s0 (KvCtx.writeLen a1 a2 a3 a4).2 := by
  unfold KvCtx.writeLen
  repeat' (first | with_reducible (first | assumption | apply ev_KvCtx_write) | intro _ | split | dsimp only | with_reducible (first | apply ev_upd | apply ev_updTier))

theorem ev_KvCtx_putToken (a1 : KvCtx) (a2 : StreamRec) (a3 : Nat) (a4 : List (List Byte)) (a5 : List Byte) (a6 :
    State) (h6 : Evolves w s0 a6) (whold : w.hold = true := by assumption) (wtier : w.tier = true := by assumption) :
    Evolves w s0 (KvCtx.putToken a1 a2 a3 a4 a5 a6).2 := by
  unfold KvCtx.putToken
  repeat' (first | with_reducible (first | assumption | apply ev_KvCtx_write | apply ev_KvCtx_entry | apply ev_eachDo | apply ev_thenDo | refine ev_of_snd (by assumption) ?_ | refine ev_of_fst (by assumption) ?_) | intro _ | split | dsimp only | with_reducible (first | apply ev_upd | apply ev_updTier))

theorem ev_KvCtx_append (a1 : KvCtx) (a2 : AppendOp) (a3 : State) (h3 : Evolves w s0 a3) (whold : w.hold = true := by
    assumption) (wtier : w.tier = true := by assumption) :
    Evolves w s0 (KvCtx.append a1 a2 a3).2 := by
  unfold KvCtx.append
  repeat' (first | with_reducible (first | assumption | apply ev_KvCtx_stream | apply ev_KvCtx_entry | apply ev_eachDo | apply ev_KvCtx_readArrays | apply ev_need | apply ev_KvCtx_readyPage | apply ev_KvCtx_access | apply ev_KvCtx_touchPage | apply ev_KvCtx_writeLen | apply ev_KvCtx_putToken | apply ev_thenDo | refine ev_of_snd (by assumption) ?_ | refine ev_of_fst (by assumption) ?_) | intro _ | split | dsimp only | with_reducible (first | apply ev_upd | apply ev_updTier))

theorem ev_KvCtx_attnJob (a1 : KvCtx) (a2 : AttnOp) (a3 : State) (h3 : Evolves w s0 a3) :
    Evolves w s0 (KvCtx.attnJob a1 a2 a3).2 := by
  unfold KvCtx.attnJob
  repeat' (first | with_reducible (first | assumption | apply ev_KvCtx_read | apply ev_KvCtx_stream | apply ev_eachDo | apply ev_KvCtx_readArrays | apply ev_need | apply ev_KvCtx_access | apply ev_thenDo) | intro _ | split | dsimp only | with_reducible (first | apply ev_upd | apply ev_updTier))

theorem ev_KvCtx_fetchPage (a1 : KvCtx) (a2 : StreamRec) (a3 a4 : Nat) (a5 : PageEnt) (a6 : Bool) (a7 : State) (h7 :
    Evolves w s0 a7) (whold : w.hold = true := by assumption) (wtier : w.tier = true := by assumption) :
    Evolves w s0 (KvCtx.fetchPage a1 a2 a3 a4 a5 a6 a7).2 := by
  unfold KvCtx.fetchPage
  repeat' (first | with_reducible (first | assumption | apply ev_KvCtx_write | apply ev_need | apply ev_KvCtx_readBack | apply ev_KvCtx_putEntry | apply ev_thenDo) | intro _ | split | dsimp only | with_reducible (first | apply ev_upd | apply ev_updTier))

theorem ev_KvCtx_pageFor (a1 : KvCtx) (a2 : AttnJob) (a3 : Nat) (a4 : State) (h4 : Evolves w s0 a4) (whold : w.hold =
    true := by assumption) (wtier : w.tier = true := by assumption) :
    Evolves w s0 (KvCtx.pageFor a1 a2 a3 a4).2 := by
  unfold KvCtx.pageFor
  repeat' (first | with_reducible (first | assumption | apply ev_KvCtx_read | apply ev_KvCtx_entry | apply ev_KvCtx_readFrame | apply ev_KvCtx_fetchPage | apply ev_thenDo | refine ev_of_snd (by assumption) ?_ | refine ev_of_fst (by assumption) ?_) | intro _ | split | dsimp only | with_reducible (first | apply ev_upd | apply ev_updTier))

theorem ev_KvCtx_scan (a1 : KvCtx) (a2 : AttnJob) (a3 : List (Nat × List Fp)) (a4 : List Nat)
    (a5 : List AttnAcc) (a6 : State) (h6 : Evolves w s0 a6) (whold : w.hold = true := by assumption) (wtier : w.tier = true := by assumption) : Evolves w s0 (KvCtx.scan a1 a2 a3 a4 a5 a6).2 := by
  induction a4 generalizing a5 a6 with
  | nil => exact h6
  | cons c r ih =>
    refine ev_thenDo _ _ (ev_KvCtx_pageFor _ _ _ _ h6) fun _ _ h => ?_
    split
    · exact ih _ _ h
    · exact ih _ _ (ev_add64 _ _ _ h)

theorem ev_KvCtx_attn (a1 : KvCtx) (a2 : AttnOp) (a3 : State) (h3 : Evolves w s0 a3) (whold : w.hold = true := by
    assumption) (wtier : w.tier = true := by assumption) :
    Evolves w s0 (KvCtx.attn a1 a2 a3).2 := by
  unfold KvCtx.attn
  repeat' (first | with_reducible (first | assumption | apply ev_KvCtx_write | apply ev_eachDo | apply ev_KvCtx_attnJob | apply ev_KvCtx_scan | apply ev_thenDo | refine ev_of_snd (by assumption) ?_ | refine ev_of_fst (by assumption) ?_) | intro _ | split | dsimp only | with_reducible (first | apply ev_upd | apply ev_updTier))

theorem ev_KvCtx_tagAt (a1 : KvCtx) (a2 : StreamRec) (a3 : Nat) (a4 : State) (h4 : Evolves w s0 a4) (whold : w.hold =
    true := by assumption) (wtier : w.tier = true := by assumption) :
    Evolves w s0 (KvCtx.tagAt a1 a2 a3 a4).2 := by
  unfold KvCtx.tagAt
  repeat' (first | with_reducible (first | assumption | apply ev_KvCtx_entry | apply ev_KvCtx_readFrame | apply ev_thenDo | refine ev_of_snd (by assumption) ?_ | refine ev_of_fst (by assumption) ?_) | intro _ | split | dsimp only | with_reducible (first | apply ev_upd | apply ev_updTier))

theorem ev_KvCtx_clearTag (a1 : KvCtx) (a2 : StreamRec) (a3 : Nat) (a4 : State) (h4 : Evolves w s0 a4) (whold : w.hold
    = true := by assumption) (wtier : w.tier = true := by assumption) :
    Evolves w s0 (KvCtx.clearTag a1 a2 a3 a4).2 := by
  unfold KvCtx.clearTag
  repeat' (first | with_reducible (first | assumption | apply ev_KvCtx_write | apply ev_KvCtx_tagAt | apply ev_KvCtx_entry | apply ev_thenDo | refine ev_of_snd (by assumption) ?_ | refine ev_of_fst (by assumption) ?_) | intro _ | split | dsimp only | with_reducible (first | apply ev_upd | apply ev_updTier))

theorem ev_KvCtx_copyToken (a1 : KvCtx) (a2 : StreamRec) (a3 a4 : Nat) (a5 : State) (h5 : Evolves w s0 a5) (whold :
    w.hold = true := by assumption) (wtier : w.tier = true := by assumption) :
    Evolves w s0 (KvCtx.copyToken a1 a2 a3 a4 a5).2 := by
  unfold KvCtx.copyToken
  repeat' (first | with_reducible (first | assumption | apply ev_KvCtx_entry | apply ev_KvCtx_readArrays | apply ev_KvCtx_putToken | apply ev_thenDo) | intro _ | split | dsimp only | with_reducible (first | apply ev_upd | apply ev_updTier))

theorem ev_KvCtx_commit (a1 : KvCtx) (a2 : CommitOp) (a3 : State) (h3 : Evolves w s0 a3) (whold : w.hold = true := by
    assumption) (wtier : w.tier = true := by assumption) :
    Evolves w s0 (KvCtx.commit a1 a2 a3).2 := by
  unfold KvCtx.commit
  repeat' (first | with_reducible (first | assumption | apply ev_KvCtx_stream | apply ev_KvCtx_tagAt | apply ev_KvCtx_entry | apply ev_eachDo | apply ev_KvCtx_copyToken | apply ev_need | apply ev_KvCtx_readyPage | apply ev_KvCtx_access | apply ev_KvCtx_touchPage | apply ev_KvCtx_writeLen | apply ev_KvCtx_clearTag | apply ev_thenDo | refine ev_of_snd (by assumption) ?_ | refine ev_of_fst (by assumption) ?_) | intro _ | split | dsimp only | with_reducible (first | apply ev_upd | apply ev_updTier))

theorem ev_kvRecord (a1 : State) (a2 a3 a4 a5 : Nat) (a6 : KvFail) (h1 : Evolves w s0 a1) :
    Evolves w s0 (State.kvRecord a1 a2 a3 a4 a5 a6) := by
  unfold State.kvRecord
  repeat' (first | with_reducible (first | assumption | apply ev_setBit | apply ev_setFld) | intro _ | split | dsimp only | with_reducible (first | apply ev_upd | apply ev_updTier))

theorem ev_dropStaged (a1 : State) (a2 : Nat) (h1 : Evolves w s0 a1) :
    Evolves w s0 (State.dropStaged a1 a2) := by
  unfold State.dropStaged
  repeat' (first | with_reducible (first | assumption | apply ev_setFld) | intro _ | split | dsimp only | with_reducible (first | apply ev_upd | apply ev_updTier))

theorem ev_KvCtx_finish (a1 : KvCtx) (a2 a3 : Nat) (a4 : List Region) (a5 : State) (a6 : KvRes Unit) (h5 : Evolves w s0
    a5) (h6 : (Evolves w s0 (a6).2)) :
    Evolves w s0 (KvCtx.finish a1 a2 a3 a4 a5 a6) := by
  unfold KvCtx.finish
  repeat' (first | with_reducible (first | assumption | apply ev_poisonAll | apply ev_kvRecord | apply ev_endPart | apply ev_dropStaged) | intro _ | split | dsimp only | with_reducible (first | apply ev_upd | apply ev_updTier))

theorem ev_KvCtx_merge (a1 : KvCtx) (a2 : MergeOp) (a3 : State) (h3 : Evolves w s0 a3) (whold : w.hold = true := by
    assumption) (wtier : w.tier = true := by assumption) :
    Evolves w s0 (KvCtx.merge a1 a2 a3).2 := by
  unfold KvCtx.merge
  repeat' (first | with_reducible (first | assumption | apply ev_KvCtx_write | apply ev_KvCtx_readArrays | apply ev_KvCtx_access | apply ev_thenDo | apply ev_foldl | apply ev_foldl_fst | apply ev_foldl_snd) | intro _ | split | dsimp only | with_reducible (first | apply ev_upd | apply ev_updTier))

theorem ev_KvCtx_skip (a1 : KvCtx) (a2 : State) (h2 : Evolves w s0 a2) :
    Evolves w s0 (KvCtx.skip a1 a2).2 := by
  unfold KvCtx.skip
  repeat' (first | with_reducible (first | assumption | apply ev_addSat | apply ev_setBit) | intro _ | split | dsimp only | with_reducible (first | apply ev_upd | apply ev_updTier))

theorem ev_KvCtx_putBack (a1 : KvCtx) (a2 a3 a4 : Nat) (a5 : List Byte) (a6 : State) (h6 : Evolves w s0 a6) (whold :
    w.hold = true := by assumption) (wtier : w.tier = true := by assumption) :
    Evolves w s0 (KvCtx.putBack a1 a2 a3 a4 a5 a6).2 := by
  unfold KvCtx.putBack
  repeat' (first | with_reducible (first | assumption | apply ev_KvCtx_write | apply ev_kvCountPage | apply ev_thenDo) | intro _ | split | dsimp only | with_reducible (first | apply ev_upd | apply ev_updTier))

theorem ev_KvCtx_migrate (a1 : KvCtx) (a2 : StreamRec) (a3 a4 a5 : Nat) (a6 : State) (h6 : Evolves w s0 a6) (whold :
    w.hold = true := by assumption) (wtier : w.tier = true := by assumption) :
    Evolves w s0 (KvCtx.migrate a1 a2 a3 a4 a5 a6).2 := by
  unfold KvCtx.migrate
  repeat' (first | with_reducible (first | assumption | apply ev_KvCtx_entry | apply ev_KvCtx_readFrame | apply ev_KvCtx_skip | apply ev_need | apply ev_KvCtx_readBack | apply ev_KvCtx_putEntry | apply ev_KvCtx_putBack | apply ev_thenDo) | intro _ | split | dsimp only | with_reducible (first | apply ev_upd | apply ev_updTier))

theorem ev_KvCtx_setFrame (a1 : KvCtx) (a2 : StreamRec) (a3 a4 : Nat) (a5 : State) (h5 : Evolves w s0 a5) (whold :
    w.hold = true := by assumption) (wtier : w.tier = true := by assumption) :
    Evolves w s0 (KvCtx.setFrame a1 a2 a3 a4 a5).2 := by
  unfold KvCtx.setFrame
  repeat' (first | with_reducible (first | assumption | apply ev_KvCtx_entry | apply ev_need | apply ev_KvCtx_putEntry | apply ev_thenDo) | intro _ | split | dsimp only | with_reducible (first | apply ev_upd | apply ev_updTier))

theorem ev_KvCtx_writeback (a1 : KvCtx) (a2 : StreamRec) (a3 : Nat) (a4 : Bool) (a5 : State) (h5 : Evolves w s0 a5)
    (whold : w.hold = true := by assumption) (wtier : w.tier = true := by assumption) :
    Evolves w s0 (KvCtx.writeback a1 a2 a3 a4 a5).2 := by
  unfold KvCtx.writeback
  repeat' (first | with_reducible (first | assumption | apply ev_KvCtx_entry | apply ev_KvCtx_readFrame | apply ev_KvCtx_skip | apply ev_need | apply ev_KvCtx_putEntry | apply ev_KvCtx_putBack | apply ev_thenDo) | intro _ | split | dsimp only | with_reducible (first | apply ev_upd | apply ev_updTier))

theorem ev_KvCtx_movePage (a1 : KvCtx) (a2 : MoveOp) (a3 : StreamRec) (a4 : List Byte) (a5 : Nat) (a6 : State) (h6 :
    Evolves w s0 a6) (whold : w.hold = true := by assumption) (wtier : w.tier = true := by assumption) :
    Evolves w s0 (KvCtx.movePage a1 a2 a3 a4 a5 a6).2 := by
  unfold KvCtx.movePage
  repeat' (first | with_reducible (first | assumption | apply ev_KvCtx_migrate | apply ev_KvCtx_setFrame | apply ev_KvCtx_writeback | apply ev_KvCtx_promote) | intro _ | split | dsimp only | with_reducible (first | apply ev_upd | apply ev_updTier))

theorem ev_KvCtx_movePages (a1 : KvCtx) (a2 : MoveOp) (a3 : StreamRec) (a4 : List Byte) (a5 : List Nat)
    (a6 : Option KvFail) (a7 : State) (h7 : Evolves w s0 a7) (whold : w.hold = true := by assumption) (wtier : w.tier = true := by assumption) : Evolves w s0 (KvCtx.movePages a1 a2 a3 a4 a5 a6 a7).2 := by
  induction a5 generalizing a6 a7 with
  | nil => cases a6 <;> exact h7
  | cons j r ih =>
    unfold KvCtx.movePages
    have h := ev_KvCtx_movePage a1 a2 a3 a4 j _ h7
    split
    · rename_i e; exact ih _ _ (ev_of_snd e h)
    · rename_i e
      split
      · exact ev_of_snd e h
      · exact ih _ _ (ev_of_snd e h)

theorem ev_KvCtx_move (a1 : KvCtx) (a2 : MoveOp) (a3 : State) (h3 : Evolves w s0 a3) (whold : w.hold = true := by
    assumption) (wtier : w.tier = true := by assumption) :
    Evolves w s0 (KvCtx.move a1 a2 a3).2 := by
  unfold KvCtx.move
  repeat' (first | with_reducible (first | assumption | apply ev_KvCtx_read | apply ev_KvCtx_stream | apply ev_need | apply ev_KvCtx_movePages | apply ev_thenDo) | intro _ | split | dsimp only | with_reducible (first | apply ev_upd | apply ev_updTier))

theorem ev_clearKvErr (a1 : State) (a2 : Nat) (h1 : Evolves w s0 a1) :
    Evolves w s0 (State.clearKvErr a1 a2) := by
  unfold State.clearKvErr
  repeat' (first | with_reducible (first | assumption | apply ev_setRd) | intro _ | split | dsimp only | with_reducible (first | apply ev_upd | apply ev_updTier))

theorem ev_kvMove (a1 : State) (a2 a3 : Nat) (a4 a5 : List WordErr) (h1 : Evolves w s0 a1) (whold : w.hold = true := by
    assumption) (wtier : w.tier = true := by assumption) :
    Evolves w s0 (State.kvMove a1 a2 a3 a4 a5) := by
  unfold State.kvMove
  repeat' (first | with_reducible (first | assumption | apply ev_KvCtx_finish | apply ev_KvCtx_move | apply ev_withPart) | intro _ | split | dsimp only | with_reducible (first | apply ev_upd | apply ev_updTier))

theorem ev_latchAttn (a1 : State) (a2 : Nat) (a3 : Desc) (h1 : Evolves w s0 a1) :
    Evolves w s0 (State.latchAttn a1 a2 a3) := by
  unfold State.latchAttn
  repeat' (first | with_reducible (first | assumption | refine ev_of_snd (by assumption) ?_ | refine ev_of_fst (by assumption) ?_) | intro _ | split | dsimp only | with_reducible (first | apply ev_upd | apply ev_updTier))

theorem ev_execAttn (a1 : Parcel) (a2 a3 : List WordErr) (a4 : State) (h4 : Evolves w s0 a4) (whold : w.hold = true :=
    by assumption) (wtier : w.tier = true := by assumption) :
    ∀ t, execAttn a1 a2 a3 a4 = .next t → Evolves w s0 t := by
  unfold execAttn
  refine fun t e => ev_next ?_ e
  repeat' (first | with_reducible (first | assumption | apply ev_KvCtx_finish | apply ev_withPart | apply ev_KvCtx_attn) | intro _ | split | dsimp only | with_reducible (first | apply ev_upd | apply ev_updTier))

theorem ev_execAttnMerge (a1 : Parcel) (a2 : List WordErr) (a3 : State) (h3 : Evolves w s0 a3) (whold : w.hold = true
    := by assumption) (wtier : w.tier = true := by assumption) :
    ∀ t, execAttnMerge a1 a2 a3 = .next t → Evolves w s0 t := by
  unfold execAttnMerge
  refine fun t e => ev_next ?_ e
  repeat' (first | with_reducible (first | assumption | apply ev_KvCtx_finish | apply ev_withPart | apply ev_KvCtx_merge) | intro _ | split | dsimp only | with_reducible (first | apply ev_upd | apply ev_updTier))

theorem ev_execAttnParityError (a1 : Parcel) (a2 : Bool) (a3 : State) (h3 : Evolves w s0 a3) :
    ∀ t, execAttnParityError a1 a2 a3 = .next t → Evolves w s0 t := by
  unfold execAttnParityError
  refine fun t e => ev_next ?_ e
  repeat' (first | with_reducible (first | assumption | apply ev_kvRecord | apply ev_endPart | apply ev_dropStaged | apply ev_withPart | apply ev_raise | apply ev_selfFence) | intro _ | split | dsimp only | with_reducible (first | apply ev_upd | apply ev_updTier))

theorem ev_execEvict (a1 : Parcel) (a2 a3 : List WordErr) (a4 : State) (h4 : Evolves w s0 a4) (whold : w.hold = true :=
    by assumption) (wtier : w.tier = true := by assumption) :
    ∀ t, execEvict a1 a2 a3 a4 = .next t → Evolves w s0 t := by
  unfold execEvict
  refine fun t e => ev_next ?_ e
  repeat' (first | with_reducible (first | assumption | apply ev_kvMove) | intro _ | split | dsimp only | with_reducible (first | apply ev_upd | apply ev_updTier))

theorem ev_execKvAppend (a1 : Parcel) (a2 a3 : List WordErr) (a4 : State) (h4 : Evolves w s0 a4) (whold : w.hold = true
    := by assumption) (wtier : w.tier = true := by assumption) :
    ∀ t, execKvAppend a1 a2 a3 a4 = .next t → Evolves w s0 t := by
  unfold execKvAppend
  refine fun t e => ev_next ?_ e
  repeat' (first | with_reducible (first | assumption | apply ev_KvCtx_finish | apply ev_KvCtx_append | apply ev_withPart) | intro _ | split | dsimp only | with_reducible (first | apply ev_upd | apply ev_updTier))

theorem ev_execKvCommit (a1 : Parcel) (a2 a3 : List WordErr) (a4 : State) (h4 : Evolves w s0 a4) (whold : w.hold = true
    := by assumption) (wtier : w.tier = true := by assumption) :
    ∀ t, execKvCommit a1 a2 a3 a4 = .next t → Evolves w s0 t := by
  unfold execKvCommit
  refine fun t e => ev_next ?_ e
  repeat' (first | with_reducible (first | assumption | apply ev_KvCtx_finish | apply ev_withPart | apply ev_KvCtx_commit) | intro _ | split | dsimp only | with_reducible (first | apply ev_upd | apply ev_updTier))

theorem ev_execKvPageFetch (a1 : Parcel) (a2 a3 : List WordErr) (a4 : State) (h4 : Evolves w s0 a4) (whold : w.hold =
    true := by assumption) (wtier : w.tier = true := by assumption) :
    ∀ t, execKvPageFetch a1 a2 a3 a4 = .next t → Evolves w s0 t := by
  unfold execKvPageFetch
  refine fun t e => ev_next ?_ e
  repeat' (first | with_reducible (first | assumption | apply ev_setFld | apply ev_KvCtx_attnJob | apply ev_withPart | apply ev_KvCtx_fetchPage | refine ev_of_snd (by assumption) ?_ | refine ev_of_fst (by assumption) ?_) | intro _ | split | dsimp only | with_reducible (first | apply ev_upd | apply ev_updTier))

theorem ev_execKvpErrClr (a1 : Path) (a2 : Parcel) (a3 : Word) (a4 : State) (h4 : Evolves w s0 a4) :
    ∀ t, execKvpErrClr a1 a2 a3 a4 = .next t → Evolves w s0 t := by
  unfold execKvpErrClr
  refine fun t e => ev_next ?_ e
  repeat' (first | with_reducible (first | assumption | apply ev_clearKvErr | apply ev_rwl) | intro _ | split | dsimp only | with_reducible (first | apply ev_upd | apply ev_updTier))

theorem ev_execMigrate (a1 : Parcel) (a2 a3 : List WordErr) (a4 : State) (h4 : Evolves w s0 a4) (whold : w.hold = true
    := by assumption) (wtier : w.tier = true := by assumption) :
    ∀ t, execMigrate a1 a2 a3 a4 = .next t → Evolves w s0 t := by
  unfold execMigrate
  refine fun t e => ev_next ?_ e
  repeat' (first | with_reducible (first | assumption | apply ev_kvMove) | intro _ | split | dsimp only | with_reducible (first | apply ev_upd | apply ev_updTier))

theorem ev_execPromote (a1 : Parcel) (a2 a3 : List WordErr) (a4 : State) (h4 : Evolves w s0 a4) (whold : w.hold = true
    := by assumption) (wtier : w.tier = true := by assumption) :
    ∀ t, execPromote a1 a2 a3 a4 = .next t → Evolves w s0 t := by
  unfold execPromote
  refine fun t e => ev_next ?_ e
  repeat' (first | with_reducible (first | assumption | apply ev_kvMove) | intro _ | split | dsimp only | with_reducible (first | apply ev_upd | apply ev_updTier))

theorem ev_execSetFrame (a1 : Parcel) (a2 : List WordErr) (a3 : State) (h3 : Evolves w s0 a3) (whold : w.hold = true :=
    by assumption) (wtier : w.tier = true := by assumption) :
    ∀ t, execSetFrame a1 a2 a3 = .next t → Evolves w s0 t := by
  unfold execSetFrame
  refine fun t e => ev_next ?_ e
  repeat' (first | with_reducible (first | assumption | apply ev_kvMove) | intro _ | split | dsimp only | with_reducible (first | apply ev_upd | apply ev_updTier))

theorem ev_execWriteback (a1 : Parcel) (a2 a3 : List WordErr) (a4 : State) (h4 : Evolves w s0 a4) (whold : w.hold =
    true := by assumption) (wtier : w.tier = true := by assumption) :
    ∀ t, execWriteback a1 a2 a3 a4 = .next t → Evolves w s0 t := by
  unfold execWriteback
  refine fun t e => ev_next ?_ e
  repeat' (first | with_reducible (first | assumption | apply ev_kvMove) | intro _ | split | dsimp only | with_reducible (first | apply ev_upd | apply ev_updTier))

theorem ev_fxSetNext (a1 : State) (a2 a3 : Nat) (a4 : Option Nat) (h1 : Evolves w s0 a1) :
    Evolves w s0 (State.fxSetNext a1 a2 a3 a4) := by
  unfold State.fxSetNext
  repeat' (first | with_reducible (first | assumption) | intro _ | split | dsimp only | with_reducible (first | apply ev_upd | apply ev_updTier))

theorem ev_fwuResult (a1 : State) (a2 : Path) (a3 : Nat) (a4 : optParam Nat 0) (h1 : Evolves w s0 a1) :
    Evolves w s0 (State.fwuResult a1 a2 a3 a4) := by
  unfold State.fwuResult
  repeat' (first | with_reducible (first | assumption | apply ev_setRdB) | intro _ | split | dsimp only | with_reducible (first | apply ev_upd | apply ev_updTier))

theorem ev_hostReadFor (a1 : State) (a2 a3 a4 : Nat) (a5 : ReadFor) (h1 : Evolves w s0 a1) :
    Evolves w s0 (State.hostReadFor a1 a2 a3 a4 a5) := by
  unfold State.hostReadFor
  repeat' (first | with_reducible (first | assumption | apply ev_emit) | intro _ | split | dsimp only | with_reducible (first | apply ev_upd | apply ev_updTier))

theorem ev_fwuReadLost (a1 : State) (h1 : Evolves w s0 a1) :
    Evolves w s0 (State.fwuReadLost a1) := by
  unfold State.fwuReadLost
  repeat' (first | with_reducible (first | assumption | apply ev_fwuResult | apply ev_setBit | refine ev_of_snd (by assumption) ?_ | refine ev_of_fst (by assumption) ?_) | intro _ | split | dsimp only | with_reducible (first | apply ev_upd | apply ev_updTier))

theorem ev_fwuIssue (a1 : State) (h1 : Evolves w s0 a1) :
    Evolves w s0 (State.fwuIssue a1) := by
  unfold State.fwuIssue
  repeat' (first | with_reducible (first | assumption | apply ev_hostReadFor | apply ev_bmeWaits | apply ev_fwuReadLost | refine ev_of_snd (by assumption) ?_ | refine ev_of_fst (by assumption) ?_) | intro _ | split | dsimp only | with_reducible (first | apply ev_upd | apply ev_updTier))

theorem ev_copyData (a1 : State) (a2 a3 : Nat) (a4 : List Byte) (a5 : Bool) (h1 : Evolves w s0 a1) (whold : w.hold =
    true := by assumption) (wtier : w.tier = true := by assumption) :
    Evolves w s0 (State.copyData a1 a2 a3 a4 a5) := by
  unfold State.copyData
  repeat' (first | with_reducible (first | assumption | apply ev_tierPoison | apply ev_tierWrite | apply ev_endPart | refine ev_of_snd (by assumption) ?_ | refine ev_of_fst (by assumption) ?_) | intro _ | split | dsimp only | with_reducible (first | apply ev_upd | apply ev_updTier))

theorem ev_copyToHost (a1 : State) (a2 a3 : Nat) (a4 : List Byte) (a5 : Bool) (h1 : Evolves w s0 a1) :
    Evolves w s0 (State.copyToHost a1 a2 a3 a4 a5) := by
  unfold State.copyToHost
  repeat' (first | with_reducible (first | assumption | apply ev_free | apply ev_emit | refine ev_of_snd (by assumption) ?_ | refine ev_of_fst (by assumption) ?_) | intro _ | split | dsimp only | with_reducible (first | apply ev_upd | apply ev_updTier))

theorem ev_copyMove (a1 : State) (a2 : Nat) (a3 : Desc) (a4 : CopyOp) (a5 a6 : Nat) (a7 a8 : List WordErr) (h1 :
    Evolves w s0 a1) (whold : w.hold = true := by assumption) (wtier : w.tier = true := by assumption) :
    Evolves w s0 (State.copyMove a1 a2 a3 a4 a5 a6 a7 a8) := by
  unfold State.copyMove
  repeat' (first | with_reducible (first | assumption | apply ev_tierPoison | apply ev_tierErrors | apply ev_tierWrite | apply ev_endPart | apply ev_copyToHost | refine ev_of_snd (by assumption) ?_ | refine ev_of_fst (by assumption) ?_) | intro _ | split | dsimp only | with_reducible (first | apply ev_upd | apply ev_updTier))

theorem ev_fxSend (a1 : State) (a2 : Nat) (a3 : Desc) (a4 : FxOp) (a5 a6 : Nat) (h1 : Evolves w s0 a1) :
    Evolves w s0 (State.fxSend a1 a2 a3 a4 a5 a6) := by
  induction a5 generalizing a1 a6 with
  | zero => exact ev_fxSetNext _ _ _ _ h1
  | succ k ih =>
    unfold State.fxSend
    dsimp only
    split
    · exact ev_fxSetNext _ _ _ _ h1
    · split
      · exact ev_fxSetNext _ _ _ _ (ev_fxAnswer _ _ _ _ h1)
      · split
        · split
          · rename_i e
            exact ih _ _ (ev_of_snd e (ev_sendRequest _ _ _ _ h1))
          · rename_i e
            exact ih _ _ (ev_fxAnswer _ _ _ _ (ev_of_snd e (ev_sendRequest _ _ _ _ h1)))
        · refine ev_fxSetNext _ _ _ _ ?_
          split
          · exact ev_setBit _ _ h1
          · exact h1

theorem ev_recordHost (a1 : State) (a2 a3 a4 : Nat) (h1 : Evolves w s0 a1) :
    Evolves w s0 (State.recordHost a1 a2 a3 a4) := by
  unfold State.recordHost
  repeat' (first | with_reducible (first | assumption | apply ev_setBit | apply ev_setFld | apply ev_setRd64) | intro _ | split | dsimp only | with_reducible (first | apply ev_upd | apply ev_updTier))

theorem ev_execCopy (a1 : Parcel) (a2 a3 : List WordErr) (a4 : Bool) (a5 : State) (h5 : Evolves w s0 a5) (whold :
    w.hold = true := by assumption) (wtier : w.tier = true := by assumption) :
    ∀ t, execCopy a1 a2 a3 a4 a5 = .next t → Evolves w s0 t := by
  unfold execCopy
  refine fun t e => ev_next ?_ e
  repeat' (first | with_reducible (first | assumption | apply ev_hostReadFor | apply ev_endPart | apply ev_bmeWaits | apply ev_copyMove | apply ev_withPart | apply ev_recordHost | refine ev_of_snd (by assumption) ?_ | refine ev_of_fst (by assumption) ?_) | intro _ | split | dsimp only | with_reducible (first | apply ev_upd | apply ev_updTier))

theorem ev_execCopyZero (a1 : Parcel) (a2 : State) (h2 : Evolves w s0 a2) (whold : w.hold = true := by assumption)
    (wtier : w.tier = true := by assumption) :
    ∀ t, execCopyZero a1 a2 = .next t → Evolves w s0 t := by
  unfold execCopyZero
  refine fun t e => ev_next ?_ e
  repeat' (first | with_reducible (first | assumption | apply ev_tierWrite | apply ev_endPart | apply ev_withPart | refine ev_of_snd (by assumption) ?_ | refine ev_of_fst (by assumption) ?_) | intro _ | split | dsimp only | with_reducible (first | apply ev_upd | apply ev_updTier))

theorem ev_execFxfer (a1 : Parcel) (a2 : Nat) (a3 : List WordErr) (a4 : State) (h4 : Evolves w s0 a4) :
    ∀ t, execFxfer a1 a2 a3 a4 = .next t → Evolves w s0 t := by
  unfold execFxfer
  refine fun t e => ev_next ?_ e
  repeat' (first | with_reducible (first | assumption | apply ev_fxFinish | apply ev_fxAnswer | apply ev_holdErrors | apply ev_endPart | apply ev_withPart | apply ev_fxSend) | intro _ | split | dsimp only | with_reducible (first | apply ev_upd | apply ev_updTier))

theorem ev_execSignalReceive (a1 : Packet) (a2 : State) (h2 : Evolves w s0 a2) :
    ∀ t, execSignalReceive a1 a2 = .next t → Evolves w s0 t := by
  unfold execSignalReceive
  refine fun t e => ev_next ?_ e
  repeat' (first | with_reducible (first | assumption | apply ev_updMark | apply ev_markSource | apply ev_takePacket | apply ev_sendAny) | intro _ | split | dsimp only | with_reducible (first | apply ev_upd | apply ev_updTier))

theorem ev_execWriteReceive (a1 : Packet) (a2 : State) (h2 : Evolves w s0 a2) (whold : w.hold = true := by assumption) :
    ∀ t, execWriteReceive a1 a2 = .next t → Evolves w s0 t := by
  unfold execWriteReceive
  refine fun t e => ev_next ?_ e
  repeat' (first | with_reducible (first | assumption | apply ev_holdPut | apply ev_markSource | apply ev_takePacket | apply ev_sendAny | refine ev_of_snd (by assumption) ?_ | refine ev_of_fst (by assumption) ?_) | intro _ | split | dsimp only | with_reducible (first | apply ev_upd | apply ev_updTier))

theorem ev_coalesce (a1 : State) (a2 : Nat) (h1 : Evolves w s0 a1) :
    Evolves w s0 (State.coalesce a1 a2) := by
  unfold State.coalesce
  repeat' (first | with_reducible (first | assumption | apply ev_msix | apply ev_setCtx) | intro _ | split | dsimp only | with_reducible (first | apply ev_upd | apply ev_updTier))

theorem ev_writeRecord (a1 : State) (a2 : Nat) (a3 : List Byte) (a4 : Bool) (h1 : Evolves w s0 a1) :
    Evolves w s0 (State.writeRecord a1 a2 a3 a4) := by
  unfold State.writeRecord
  repeat' (first | with_reducible (first | assumption | apply ev_coalesce | apply ev_setCtx | apply ev_emit) | intro _ | split | dsimp only | with_reducible (first | apply ev_upd | apply ev_updTier))

theorem ev_unreserve (a1 : State) (a2 : Nat) (h1 : Evolves w s0 a1) :
    Evolves w s0 (State.unreserve a1 a2) := by
  unfold State.unreserve
  repeat' (first | with_reducible (first | assumption | apply ev_setCtx) | intro _ | split | dsimp only | with_reducible (first | apply ev_upd | apply ev_updTier))

theorem ev_queueRecord (a1 : State) (a2 : Desc) (a3 a4 a5 : Nat) (h1 : Evolves w s0 a1) :
    Evolves w s0 (State.queueRecord a1 a2 a3 a4 a5) := by
  unfold State.queueRecord
  repeat' (first | with_reducible (first | assumption | apply ev_writeRecord | apply ev_unreserve | apply ev_bmeWaits | apply ev_setCtx) | intro _ | split | dsimp only | with_reducible (first | apply ev_upd | apply ev_updTier))

theorem ev_flushHeld (a1 : State) (a2 : Nat) (h1 : Evolves w s0 a1) :
    Evolves w s0 (State.flushHeld a1 a2) := by
  unfold State.flushHeld
  repeat' (first | with_reducible (first | assumption | apply ev_writeRecord | apply ev_bmeWaits | apply ev_setCtx) | intro _ | split | dsimp only | with_reducible (first | apply ev_upd | apply ev_updTier))

theorem ev_flushRecords (a1 : State) (a2 : Nat) (h1 : Evolves w s0 a1) :
    Evolves w s0 (State.flushRecords a1 a2) := by
  unfold State.flushRecords
  repeat' (first | with_reducible (first | assumption | apply ev_writeRecord | apply ev_flushHeld | apply ev_setCtx | apply ev_foldl | apply ev_foldl_fst | apply ev_foldl_snd) | intro _ | split | dsimp only | with_reducible (first | apply ev_upd | apply ev_updTier))

theorem ev_stopWith (a1 : State) (a2 a3 a4 : Nat) (a5 : Fld) (h1 : Evolves w s0 a1) :
    Evolves w s0 (State.stopWith a1 a2 a3 a4 a5) := by
  unfold State.stopWith
  repeat' (first | with_reducible (first | assumption | apply ev_setBit | apply ev_flushHeld | apply ev_setCtx) | intro _ | split | dsimp only | with_reducible (first | apply ev_upd | apply ev_updTier))

theorem ev_execIrqCoalesceTimer (a1 : Fin 4096) (a2 : State) (h2 : Evolves w s0 a2) :
    ∀ t, execIrqCoalesceTimer a1 a2 = .next t → Evolves w s0 t := by
  unfold execIrqCoalesceTimer
  refine fun t e => ev_next ?_ e
  repeat' (first | with_reducible (first | assumption | apply ev_atDeadline | apply ev_msix | apply ev_setCtx) | intro _ | split | dsimp only | with_reducible (first | apply ev_upd | apply ev_updTier))

theorem ev_execMsixUnmask (a1 : Fin 1024) (a2 : Fin 2048) (a3 : State) (h3 : Evolves w s0 a3) :
    ∀ t, execMsixUnmask a1 a2 a3 = .next t → Evolves w s0 t := by
  unfold execMsixUnmask
  refine fun t e => ev_next ?_ e
  repeat' (first | with_reducible (first | assumption | apply ev_setRdB | apply ev_emit) | intro _ | split | dsimp only | with_reducible (first | apply ev_upd | apply ev_updTier))

theorem ev_journal (a1 : State) (a2 a3 a4 : Nat) (a5 : List Byte) (h1 : Evolves w s0 a1) :
    Evolves w s0 (State.journal a1 a2 a3 a4 a5).2 := by
  unfold State.journal
  repeat' (first | with_reducible (first | assumption | apply ev_setBind | apply ev_sendAny) | intro _ | split | dsimp only | with_reducible (first | apply ev_upd | apply ev_updTier))

end Sys2Proof.Laws
end

