-- ==== Sys2Proof/Laws/EvGangway.lean ====
section
/-! SUPPORT. What a command may do to the state (Evolves), for every function of the gangway and the collectives.
-/

set_option Elab.async false
set_option linter.unreachableTactic false
set_option linter.unusedTactic false
set_option linter.unusedVariables false

namespace Sys2Proof.Laws

open Sys2Proof.Machine Sys2Proof.Safety

variable {w : Areas} {s0 : State}

theorem ev_KvCtx_qRow (a1 : KvCtx) (a2 : Nat) (a3 : Node) (a4 : State) (h4 : Evolves w s0 a4) :
    Evolves w s0 (KvCtx.qRow a1 a2 a3 a4).2 := by
  unfold KvCtx.qRow
  repeat' (first | with_reducible (first | assumption | apply ev_KvCtx_read | apply ev_thenDo) | intro _ | split | dsimp only | with_reducible (first | apply ev_upd | apply ev_updTier))

theorem ev_KvCtx_tryChildren (a1 : KvCtx) (a2 : WalkJob) (a3 : Nat) (a4 : List (Nat × Node)) (a5 : Weights)
    (a6 a7 : Nat) (a8 : State) (h8 : Evolves w s0 a8) : Evolves w s0 (KvCtx.tryChildren a1 a2 a3 a4 a5 a6 a7 a8).2 := by
  induction a4 generalizing a5 a6 a7 a8 with
  | nil => exact h8
  | cons x r ih =>
    refine ev_thenDo _ _ (ev_KvCtx_qRow _ _ _ _ h8) fun _ _ h => ?_
    exact ev_snd_ite (h := h) (ih _ _ _ _ h)

theorem ev_KvCtx_walkNode (a1 : KvCtx) (a2 : WalkJob) (a3 : Nat) (a4 : State) (h4 : Evolves w s0 a4) :
    Evolves w s0 (KvCtx.walkNode a1 a2 a3 a4).2 := by
  unfold KvCtx.walkNode
  repeat' (first | with_reducible (first | assumption | apply ev_KvCtx_read | apply ev_KvCtx_tryChildren | apply ev_thenDo | refine ev_of_snd (by assumption) ?_ | refine ev_of_fst (by assumption) ?_) | intro _ | split | dsimp only | with_reducible (first | apply ev_upd | apply ev_updTier))

theorem ev_KvCtx_walk (a1 : KvCtx) (a2 : WalkJob) (a3 a4 : Nat) (a5 a6 : List Nat) (a7 : State)
    (h7 : Evolves w s0 a7) : Evolves w s0 (KvCtx.walk a1 a2 a3 a4 a5 a6 a7).2 := by
  induction a3 generalizing a4 a5 a6 a7 with
  | zero => exact h7
  | succ n ih =>
    refine ev_thenDo _ _ (ev_KvCtx_walkNode _ _ _ _ h7) fun _ _ h => ?_
    split
    · exact h
    · exact h
    · split
      · exact h
      · exact ih _ _ _ _ h

theorem ev_KvCtx_candList (a1 : KvCtx) (a2 : Bool) (a3 a4 a5 : Nat) (a6 : State) (h6 : Evolves w s0 a6) :
    Evolves w s0 (KvCtx.candList a1 a2 a3 a4 a5 a6).2 := by
  unfold KvCtx.candList
  repeat' (first | with_reducible (first | assumption | apply ev_KvCtx_read | apply ev_thenDo) | intro _ | split | dsimp only | with_reducible (first | apply ev_upd | apply ev_updTier))

theorem ev_restoreLens (a1 : State) (a2 a3 : Nat) (a4 : List (Nat × Nat)) (h1 : Evolves w s0 a1) (whold : w.hold = true
    := by assumption) (wtier : w.tier = true := by assumption) :
    Evolves w s0 (State.restoreLens a1 a2 a3 a4) := by
  unfold State.restoreLens
  repeat' (first | with_reducible (first | assumption | apply ev_KvCtx_write | apply ev_foldl | apply ev_foldl_fst | apply ev_foldl_snd | refine ev_of_snd (by assumption) ?_ | refine ev_of_fst (by assumption) ?_) | intro _ | split | dsimp only | with_reducible (first | apply ev_upd | apply ev_updTier))

theorem ev_KvCtx_commitAll (a1 : KvCtx) (a2 a3 : Nat) (a4 a5 : List Nat) (a6 : List (Nat × Nat)) (a7 : State)
    (h7 : Evolves w s0 a7) (whold : w.hold = true := by assumption) (wtier : w.tier = true := by assumption) : Evolves w s0 (KvCtx.commitAll a1 a2 a3 a4 a5 a6 a7).2 := by
  induction a5 generalizing a6 a7 with
  | nil => exact h7
  | cons st r ih =>
    unfold KvCtx.commitAll
    dsimp only
    split
    · rename_i e; exact ih _ _ (ev_of_snd e (ev_KvCtx_commit _ _ _ h7))
    · rename_i e
      have h := ev_of_snd e (ev_KvCtx_commit _ _ _ h7)
      dsimp only
      split
      · exact h
      · exact ev_restoreLens _ _ _ _ h

theorem ev_setReq (a1 : State) (a2 : Nat) (a3 : GwReq) (h1 : Evolves w s0 a1) :
    Evolves w s0 (State.setReq a1 a2 a3) := by
  unfold State.setReq
  repeat' (first | with_reducible (first | assumption) | intro _ | split | dsimp only | with_reducible (first | apply ev_upd | apply ev_updTier))

theorem ev_gwError (a1 : State) (a2 a3 a4 a5 a6 : Nat) (h1 : Evolves w s0 a1) :
    Evolves w s0 (State.gwError a1 a2 a3 a4 a5 a6) := by
  unfold State.gwError
  repeat' (first | with_reducible (first | assumption | apply ev_setBit | apply ev_setFld) | intro _ | split | dsimp only | with_reducible (first | apply ev_upd | apply ev_updTier))

theorem ev_KvCtx_gwAccept (a1 : KvCtx) (a2 : GwAcceptOp) (a3 : Nat) (a4 : GwReq) (a5 : State) (h5 : Evolves w s0 a5)
    (whold : w.hold = true := by assumption) (wtier : w.tier = true := by assumption) :
    Evolves w s0 (KvCtx.gwAccept a1 a2 a3 a4 a5).2 := by
  unfold KvCtx.gwAccept
  repeat' (first | with_reducible (first | assumption | apply ev_KvCtx_read | apply ev_KvCtx_write | apply ev_setBit | apply ev_setReq | apply ev_need | apply ev_gwError | apply ev_KvCtx_access | apply ev_KvCtx_walk | apply ev_thenDo | refine ev_of_snd (by assumption) ?_ | refine ev_of_fst (by assumption) ?_) | intro _ | split | dsimp only | with_reducible (first | apply ev_upd | apply ev_updTier))

theorem ev_KvCtx_gwEnd (a1 : KvCtx) (a2 : State) (a3 : List Region) (a4 : KvRes (Option Nat)) (h2 : Evolves w s0 a2)
    (h4 : (Evolves w s0 (a4).2)) :
    Evolves w s0 (KvCtx.gwEnd a1 a2 a3 a4) := by
  unfold KvCtx.gwEnd
  repeat' (first | with_reducible (first | assumption | apply ev_poisonAll | apply ev_endPart) | intro _ | split | dsimp only | with_reducible (first | apply ev_upd | apply ev_updTier))

theorem ev_KvCtx_joinStreams (a1 : KvCtx) (a2 : List Nat) (a3 : State) (h3 : Evolves w s0 a3) :
    Evolves w s0 (KvCtx.joinStreams a1 a2 a3).2 := by
  unfold KvCtx.joinStreams
  repeat' (first | with_reducible (first | assumption | apply ev_KvCtx_stream | apply ev_eachDo | apply ev_need | apply ev_thenDo) | intro _ | split | dsimp only | with_reducible (first | apply ev_upd | apply ev_updTier))

theorem ev_setGwBind (a1 : State) (a2 : Nat) (a3 : GwBind) (h1 : Evolves w s0 a1) :
    Evolves w s0 (State.setGwBind a1 a2 a3) := by
  unfold State.setGwBind
  repeat' (first | with_reducible (first | assumption) | intro _ | split | dsimp only | with_reducible (first | apply ev_upd | apply ev_updTier))

theorem ev_sendNotice (a1 : State) (a2 : Nat) (a3 : Packet) (h1 : Evolves w s0 a1) :
    Evolves w s0 (State.sendNotice a1 a2 a3) := by
  unfold State.sendNotice
  repeat' (first | with_reducible (first | assumption | apply ev_sendRequest | refine ev_of_snd (by assumption) ?_ | refine ev_of_fst (by assumption) ?_) | intro _ | split | dsimp only | with_reducible (first | apply ev_upd | apply ev_updTier))

theorem ev_KvCtx_gwJoin (a1 : KvCtx) (a2 : GwJoinOp) (a3 : State) (h3 : Evolves w s0 a3) :
    Evolves w s0 (KvCtx.gwJoin a1 a2 a3).2 := by
  unfold KvCtx.gwJoin
  repeat' (first | with_reducible (first | assumption | apply ev_KvCtx_read | apply ev_KvCtx_joinStreams | apply ev_need | apply ev_setGwBind | apply ev_sendNotice | apply ev_thenDo | refine ev_of_snd (by assumption) ?_ | refine ev_of_fst (by assumption) ?_) | intro _ | split | dsimp only | with_reducible (first | apply ev_upd | apply ev_updTier))

theorem ev_KvCtx_gwOpen (a1 : KvCtx) (a2 : GwOpenOp) (a3 : State) (h3 : Evolves w s0 a3) :
    Evolves w s0 (KvCtx.gwOpen a1 a2 a3).2 := by
  unfold KvCtx.gwOpen
  repeat' (first | with_reducible (first | assumption | apply ev_KvCtx_read | apply ev_setReq | apply ev_need | apply ev_thenDo) | intro _ | split | dsimp only | with_reducible (first | apply ev_upd | apply ev_updTier))

theorem ev_notify1 (a1 : State) (a2 : Nat) (a3 : GwMember) (a4 : Nat) (a5 : Notice) (a6 : Option Nat) (h1 : Evolves w
    s0 a1) :
    Evolves w s0 (State.notify1 a1 a2 a3 a4 a5 a6) := by
  unfold State.notify1
  repeat' (first | with_reducible (first | assumption | apply ev_setReq | apply ev_sendNotice) | intro _ | split | dsimp only | with_reducible (first | apply ev_upd | apply ev_updTier))

theorem ev_notifyAll (a1 : State) (a2 a3 : Nat) (a4 : Notice) (a5 : Option Nat) (h1 : Evolves w s0 a1) :
    Evolves w s0 (State.notifyAll a1 a2 a3 a4 a5) := by
  unfold State.notifyAll
  repeat' (first | with_reducible (first | assumption | apply ev_notify1 | apply ev_foldl | apply ev_foldl_fst | apply ev_foldl_snd) | intro _ | split | dsimp only | with_reducible (first | apply ev_upd | apply ev_updTier))

theorem ev_KvCtx_openRound (a1 : KvCtx) (a2 : GwTreeOp) (a3 : Nat) (a4 : GwReq) (a5 : List Node) (a6 : Nat) (a7 :
    State) (h7 : Evolves w s0 a7) (whold : w.hold = true := by assumption) (wtier : w.tier = true := by assumption) :
    Evolves w s0 (KvCtx.openRound a1 a2 a3 a4 a5 a6 a7).2 := by
  unfold KvCtx.openRound
  repeat' (first | with_reducible (first | assumption | apply ev_KvCtx_write | apply ev_setReq | apply ev_notifyAll | apply ev_thenDo) | intro _ | split | dsimp only | with_reducible (first | apply ev_upd | apply ev_updTier))

theorem ev_KvCtx_ngList (a1 : KvCtx) (a2 : Bool) (a3 : GwReq) (a4 : State) (h4 : Evolves w s0 a4) :
    Evolves w s0 (KvCtx.ngList a1 a2 a3 a4).2 := by
  unfold KvCtx.ngList
  repeat' (first | with_reducible (first | assumption | apply ev_KvCtx_read | apply ev_thenDo) | intro _ | split | dsimp only | with_reducible (first | apply ev_upd | apply ev_updTier))

theorem ev_KvCtx_gwTree (a1 : KvCtx) (a2 : GwTreeOp) (a3 : Nat) (a4 : GwReq) (a5 : State) (h5 : Evolves w s0 a5) (whold
    : w.hold = true := by assumption) (wtier : w.tier = true := by assumption) :
    Evolves w s0 (KvCtx.gwTree a1 a2 a3 a4 a5).2 := by
  unfold KvCtx.gwTree
  repeat' (first | with_reducible (first | assumption | apply ev_KvCtx_candList | apply ev_KvCtx_openRound | apply ev_KvCtx_ngList | apply ev_thenDo | refine ev_of_snd (by assumption) ?_ | refine ev_of_fst (by assumption) ?_) | intro _ | split | dsimp only | with_reducible (first | apply ev_upd | apply ev_updTier))

theorem ev_KvCtx_reportGate (a1 : KvCtx) (a2 : Nat) (a3 : State) (h3 : Evolves w s0 a3) :
    Evolves w s0 (KvCtx.reportGate a1 a2 a3).2 := by
  unfold KvCtx.reportGate
  repeat' (first | with_reducible (first | assumption | apply ev_need | apply ev_KvCtx_access | apply ev_thenDo) | intro _ | split | dsimp only | with_reducible (first | apply ev_upd | apply ev_updTier))

theorem ev_gwJournalAck (a1 : State) (a2 a3 : Nat) (a4 : Option Nat) (h1 : Evolves w s0 a1) :
    Evolves w s0 (State.gwJournalAck a1 a2 a3 a4) := by
  unfold State.gwJournalAck
  exact ev_foldl (ev_upd h1) fun _ _ h => ev_sendNotice _ _ _ h

theorem ev_advanceFab (a1 : State) (a2 : Nat) (h1 : Evolves w s0 a1) :
    Evolves w s0 (State.advanceFab a1 a2) := by
  unfold State.advanceFab
  repeat' (first | with_reducible (first | assumption | apply ev_advanceTo) | intro _ | split | dsimp only | with_reducible (first | apply ev_upd | apply ev_updTier))

theorem ev_releaseHeld (a1 : State) (a2 : Nat) (a3 : Bool) (h1 : Evolves w s0 a1) :
    Evolves w s0 (State.releaseHeld a1 a2 a3).2 := by
  unfold State.releaseHeld
  repeat' (first | with_reducible (first | assumption | apply ev_queueRecord | apply ev_setGwBind | apply ev_foldl | apply ev_foldl_fst | apply ev_foldl_snd | refine ev_of_snd (by assumption) ?_ | refine ev_of_fst (by assumption) ?_) | intro _ | split | dsimp only | with_reducible (first | apply ev_upd | apply ev_updTier))

theorem ev_startDeferred (a1 : State) (a2 a3 a4 : Nat) (h1 : Evolves w s0 a1) :
    Evolves w s0 (State.startDeferred a1 a2 a3 a4) := by
  unfold State.startDeferred
  repeat' (first | with_reducible (first | assumption) | intro _ | split | dsimp only | with_reducible (first | apply ev_upd | apply ev_updTier))

theorem ev_journalStream (a1 : State) (a2 a3 a4 a5 a6 a7 a8 : Nat) (h1 : Evolves w s0 a1) :
    Evolves w s0 (State.journalStream a1 a2 a3 a4 a5 a6 a7 a8) := by
  unfold State.journalStream
  repeat' (first | with_reducible (first | assumption | apply ev_journal | apply ev_foldl | apply ev_foldl_fst | apply ev_foldl_snd | refine ev_of_snd (by assumption) ?_ | refine ev_of_fst (by assumption) ?_) | intro _ | split | dsimp only | with_reducible (first | apply ev_upd | apply ev_updTier))

theorem ev_journalApply (a1 : State) (a2 a3 a4 a5 : Nat) (a6 : List (Nat × Nat)) (h1 : Evolves w s0 a1) :
    Evolves w s0 (State.journalApply a1 a2 a3 a4 a5 a6).2 := by
  unfold State.journalApply
  repeat' (first | with_reducible (first | assumption | apply ev_journal | apply ev_journalStream | apply ev_foldl | apply ev_foldl_fst | apply ev_foldl_snd | refine ev_of_snd (by assumption) ?_ | refine ev_of_fst (by assumption) ?_) | intro _ | split | dsimp only | with_reducible (first | apply ev_upd | apply ev_updTier))

theorem ev_applyAt (a1 : State) (a2 a3 : List WordErr) (a4 : Notice) (a5 a6 : Nat) (a7 : GwBind)
    (h1 : Evolves w s0 a1) (whold : w.hold = true := by assumption) (wtier : w.tier = true := by assumption) : ∀ t, State.applyAt a1 a2 a3 a4 a5 a6 a7 = some t → Evolves w s0 t := by
  unfold State.applyAt
  intro t e
  split at e
  · contradiction
  · dsimp only at e
    split at e
    · rename_i e1
      have h := ev_of_snd e1 (ev_KvCtx_commitAll _ _ _ _ _ _ _ h1)
      split at e
      · contradiction
      · injection e with e; subst e
        exact ev_sendNotice _ _ _ (ev_releaseHeld _ _ _ (ev_setGwBind _ _ _ h))
    · rename_i e1
      have h := ev_of_snd e1 (ev_KvCtx_commitAll _ _ _ _ _ _ _ h1)
      split at e <;> (injection e with e; subst e)
      · exact ev_sendNotice _ _ _ (ev_startDeferred _ _ _ _ (ev_releaseHeld _ _ _ (ev_setGwBind _ _ _ h)))
      · exact ev_setGwBind _ _ _ (ev_journalApply _ _ _ _ _ _
          (ev_startDeferred _ _ _ _ (ev_releaseHeld _ _ _ (ev_setGwBind _ _ _ h))))

theorem ev_clearGwErr (a1 : State) (a2 : Nat) (h1 : Evolves w s0 a1) :
    Evolves w s0 (State.clearGwErr a1 a2) := by
  unfold State.clearGwErr
  repeat' (first | with_reducible (first | assumption | apply ev_setRd) | intro _ | split | dsimp only | with_reducible (first | apply ev_upd | apply ev_updTier))

theorem ev_freeReq (a1 : State) (a2 : Nat) (h1 : Evolves w s0 a1) :
    Evolves w s0 (State.freeReq a1 a2) := by
  unfold State.freeReq
  repeat' (first | with_reducible (first | assumption) | intro _ | split | dsimp only | with_reducible (first | apply ev_upd | apply ev_updTier))

theorem ev_endGw (a1 : State) (a2 : Nat) (a3 : Option Nat) (a4 : Nat) (h1 : Evolves w s0 a1) :
    Evolves w s0 (State.endGw a1 a2 a3 a4) := by
  unfold State.endGw
  repeat' (first | with_reducible (first | assumption | apply ev_endPart) | intro _ | split | dsimp only | with_reducible (first | apply ev_upd | apply ev_updTier))

theorem ev_closeStep (a1 : State) (a2 : Nat) (h1 : Evolves w s0 a1) :
    Evolves w s0 (State.closeStep a1 a2) := by
  unfold State.closeStep
  repeat' (first | with_reducible (first | assumption | apply ev_freeReq | apply ev_setReq | apply ev_notifyAll | apply ev_endGw) | intro _ | split | dsimp only | with_reducible (first | apply ev_upd | apply ev_updTier))

theorem ev_putTokens (a1 : State) (a2 : GwReq) (a3 : Nat) (a4 : List Nat) (h1 : Evolves w s0 a1) (whold : w.hold = true
    := by assumption) :
    Evolves w s0 (State.putTokens a1 a2 a3 a4) := by
  unfold State.putTokens
  repeat' (first | with_reducible (first | assumption | apply ev_holdPut | apply ev_foldl | apply ev_foldl_fst | apply ev_foldl_snd | refine ev_of_snd (by assumption) ?_ | refine ev_of_fst (by assumption) ?_) | intro _ | split | dsimp only | with_reducible (first | apply ev_upd | apply ev_updTier))

theorem ev_ngUpdate (a1 : State) (a2 : GwReq) (a3 : List Nat) (h1 : Evolves w s0 a1) (whold : w.hold = true := by
    assumption) :
    Evolves w s0 (State.ngUpdate a1 a2 a3) := by
  unfold State.ngUpdate
  repeat' (first | with_reducible (first | assumption | apply ev_holdPut) | intro _ | split | dsimp only | with_reducible (first | apply ev_upd | apply ev_updTier))

theorem ev_commitRound (a1 : State) (a2 : Nat) (a3 : GwReq) (a4 : GwLatch) (h1 : Evolves w s0 a1) (whold : w.hold =
    true := by assumption) :
    Evolves w s0 (State.commitRound a1 a2 a3 a4) := by
  unfold State.commitRound
  repeat' (first | with_reducible (first | assumption | apply ev_setReq | apply ev_journal | apply ev_putTokens | apply ev_ngUpdate | apply ev_notifyAll | refine ev_of_snd (by assumption) ?_ | refine ev_of_fst (by assumption) ?_) | intro _ | split | dsimp only | with_reducible (first | apply ev_upd | apply ev_updTier))

theorem ev_deliverToken (a1 : State) (a2 : Nat) (a3 : GwReq) (a4 : Nat) (h1 : Evolves w s0 a1) :
    Evolves w s0 (State.deliverToken a1 a2 a3 a4) := by
  unfold State.deliverToken
  repeat' (first | with_reducible (first | assumption | apply ev_setReq | apply ev_closeStep | apply ev_msix | apply ev_emit) | intro _ | split | dsimp only | with_reducible (first | apply ev_upd | apply ev_updTier))

theorem ev_dropDeferred (a1 : State) (a2 a3 : Nat) (h1 : Evolves w s0 a1) :
    Evolves w s0 (State.dropDeferred a1 a2 a3) := by
  unfold State.dropDeferred
  repeat' (first | with_reducible (first | assumption) | intro _ | split | dsimp only | with_reducible (first | apply ev_upd | apply ev_updTier))

theorem ev_discardAt (a1 : State) (a2 a3 : List WordErr) (a4 : Notice) (a5 a6 : Nat) (a7 : GwBind)
    (h1 : Evolves w s0 a1) (whold : w.hold = true := by assumption) (wtier : w.tier = true := by assumption) : ∀ t, State.discardAt a1 a2 a3 a4 a5 a6 a7 = some t → Evolves w s0 t := by
  unfold State.discardAt
  intro t e
  split at e
  · contradiction
  · have h := ev_releaseHeld _ (bindKey a5 a6) true (ev_dropDeferred _ a5 a6 (ev_setGwBind _ (bindKey a5 a6)
      { a7 with openEpoch := 0, lastEpoch := a4.epoch } h1))
    dsimp only at e
    split at e <;> rename_i e1
    · split at e
      · contradiction
      · injection e with e; subst e
        exact ev_sendNotice _ _ _ (ev_of_snd e1 (ev_KvCtx_commitAll _ _ _ _ _ _ _ h))
    · injection e with e; subst e
      exact ev_sendNotice _ _ _ (ev_of_snd e1 (ev_KvCtx_commitAll _ _ _ _ _ _ _ h))

theorem ev_discardDone (a1 : State) (a2 : Nat) (h1 : Evolves w s0 a1) (whold : w.hold = true := by assumption) :
    Evolves w s0 (State.discardDone a1 a2) := by
  unfold State.discardDone
  repeat' (first | with_reducible (first | assumption | apply ev_setReq | apply ev_holdPut | apply ev_endGw | refine ev_of_snd (by assumption) ?_ | refine ev_of_fst (by assumption) ?_) | intro _ | split | dsimp only | with_reducible (first | apply ev_upd | apply ev_updTier))

theorem ev_drainNotices (a1 : State) (h1 : Evolves w s0 a1) :
    Evolves w s0 (State.drainNotices a1) := by
  unfold State.drainNotices
  repeat' (first | with_reducible (first | assumption | apply ev_sendNotice | apply ev_foldl | apply ev_foldl_fst | apply ev_foldl_snd | refine ev_of_snd (by assumption) ?_ | refine ev_of_fst (by assumption) ?_) | intro _ | split | dsimp only | with_reducible (first | apply ev_upd | apply ev_updTier))

theorem ev_dropRound (a1 : State) (a2 : Nat) (h1 : Evolves w s0 a1) :
    Evolves w s0 (State.dropRound a1 a2) := by
  unfold State.dropRound
  repeat' (first | with_reducible (first | assumption | apply ev_setReq | apply ev_notifyAll | apply ev_endGw) | intro _ | split | dsimp only | with_reducible (first | apply ev_upd | apply ev_updTier))

theorem ev_repair (a1 : State) (a2 a3 : Nat) (h1 : Evolves w s0 a1) :
    Evolves w s0 (State.repair a1 a2 a3) := by
  unfold State.repair
  repeat' (first | with_reducible (first | assumption | apply ev_notify1 | apply ev_setBit | apply ev_setReq | apply ev_gwError | apply ev_dropRound | apply ev_foldl | apply ev_foldl_fst | apply ev_foldl_snd) | intro _ | split | dsimp only | with_reducible (first | apply ev_upd | apply ev_updTier))

theorem ev_unbind (a1 : State) (a2 a3 : Nat) (h1 : Evolves w s0 a1) :
    Evolves w s0 (State.unbind a1 a2 a3) := by
  unfold State.unbind
  repeat' (first | with_reducible (first | assumption | apply ev_setFld | apply ev_releaseHeld | apply ev_dropDeferred | apply ev_foldl | apply ev_foldl_fst | apply ev_foldl_snd) | intro _ | split | dsimp only | with_reducible (first | apply ev_upd | apply ev_updTier))

theorem ev_gwDisable (a1 : State) (a2 : Nat) (h1 : Evolves w s0 a1) :
    Evolves w s0 (State.gwDisable a1 a2) := by
  unfold State.gwDisable
  repeat' (first | with_reducible (first | assumption | apply ev_repair | apply ev_unbind | apply ev_setReq | apply ev_closeStep | apply ev_dropRound | apply ev_foldl | apply ev_foldl_fst | apply ev_foldl_snd | refine ev_of_snd (by assumption) ?_ | refine ev_of_fst (by assumption) ?_) | intro _ | split | dsimp only | with_reducible (first | apply ev_upd | apply ev_updTier))

theorem ev_gwReturn (a1 : State) (a2 : Nat) (h1 : Evolves w s0 a1) :
    Evolves w s0 (State.gwReturn a1 a2) := by
  unfold State.gwReturn
  repeat' (first | with_reducible (first | assumption | apply ev_dropRound | apply ev_foldl | apply ev_foldl_fst | apply ev_foldl_snd | refine ev_of_snd (by assumption) ?_ | refine ev_of_fst (by assumption) ?_) | intro _ | split | dsimp only | with_reducible (first | apply ev_upd | apply ev_updTier))

theorem ev_leaveAt (a1 : State) (a2 : Notice) (a3 a4 : Nat) (a5 : GwBind) (h1 : Evolves w s0 a1) :
    ∀ t, State.leaveAt a1 a2 a3 a4 a5 = some t → Evolves w s0 t := by
  unfold State.leaveAt
  intro t e
  repeat' (first | contradiction | (injection e with e; subst e) | (first | with_reducible (first | assumption | apply ev_unbind | apply ev_sendNotice) | intro _ | split | dsimp only | with_reducible (first | apply ev_upd | apply ev_updTier)) | split at e)

theorem ev_loseReq (a1 : State) (a2 a3 : Nat) (h1 : Evolves w s0 a1) :
    Evolves w s0 (State.loseReq a1 a2 a3) := by
  unfold State.loseReq
  repeat' (first | with_reducible (first | assumption | apply ev_setReq | apply ev_gwError | apply ev_endGw) | intro _ | split | dsimp only | with_reducible (first | apply ev_upd | apply ev_updTier))

theorem ev_memberFailed (a1 : State) (a2 a3 a4 a5 a6 a7 : Nat) (h1 : Evolves w s0 a1) (whold : w.hold = true := by
    assumption) :
    Evolves w s0 (State.memberFailed a1 a2 a3 a4 a5 a6 a7) := by
  unfold State.memberFailed
  repeat' (first | with_reducible (first | assumption | apply ev_repair | apply ev_loseReq | apply ev_setReq | apply ev_closeStep | apply ev_discardDone | apply ev_endGw) | intro _ | split | dsimp only | with_reducible (first | apply ev_upd | apply ev_updTier))

theorem ev_stale (a1 : State) (a2 : Nat) (h1 : Evolves w s0 a1) :
    Evolves w s0 (State.stale a1 a2) := by
  unfold State.stale
  repeat' (first | with_reducible (first | assumption | apply ev_addSat | apply ev_setBit) | intro _ | split | dsimp only | with_reducible (first | apply ev_upd | apply ev_updTier))

theorem ev_memberNotice (a1 : State) (a2 : Packet) (a3 : Nat)
    (a4 : Notice → Nat → Nat → GwBind → State → Option State) (h1 : Evolves w s0 a1)
    (h4 : ∀ y1 y2 y3 y4 y5, Evolves w s0 y5 → ∀ t, a4 y1 y2 y3 y4 y5 = some t → Evolves w s0 t) :
    Evolves w s0 (State.memberNotice a1 a2 a3 a4) := by
  have answer : ∀ s st, Evolves w s0 s → Evolves w s0 (((s.takePacket a2).markSource (pkParcel a2) a2.src.toNat).sendAny
      (responseTo a2 st)) := fun s st h => ev_sendAny _ _ (ev_markSource _ _ _ (ev_takePacket _ _ h))
  unfold State.memberNotice
  dsimp only
  split
  · exact answer _ _ h1
  · split
    · exact answer _ _ h1
    · rename_i b _
      split
      · exact ev_stale _ _ (answer _ _ h1)
      · split
        · split
          · exact h1
          · refine ev_getD (fun t e => h4 _ _ _ _ _ (ev_setGwBind _ _ _ h1) t e) h1
        · split
          · split
            · rename_i e; exact answer _ _ (h4 _ _ _ _ _ (ev_setGwBind _ _ _ h1) _ e)
            · exact h1
          · split
            · split
              · exact answer _ _ h1
              · exact answer _ _ (ev_setGwBind _ _ _ h1)
            · exact answer _ _ h1

theorem ev_noticeFailed (a1 : State) (a2 : OutReq) (a3 : Nat) (h1 : Evolves w s0 a1) (whold : w.hold = true := by
    assumption) :
    Evolves w s0 (State.noticeFailed a1 a2 a3) := by
  unfold State.noticeFailed
  repeat' (first | with_reducible (first | assumption | apply ev_unbind | apply ev_setReq | apply ev_memberFailed | apply ev_setGwBind | apply ev_endGw) | intro _ | split | dsimp only | with_reducible (first | apply ev_upd | apply ev_updTier))

theorem ev_openAt (a1 : State) (a2 : Notice) (a3 a4 : Nat) (a5 : GwBind) (h1 : Evolves w s0 a1) :
    ∀ t, State.openAt a1 a2 a3 a4 a5 = some t → Evolves w s0 t := by
  unfold State.openAt
  intro t e
  repeat' (first | contradiction | (injection e with e; subst e) | (first | with_reducible (first | assumption | apply ev_setGwBind | apply ev_sendNotice) | intro _ | split | dsimp only | with_reducible (first | apply ev_upd | apply ev_updTier)) | split at e)

theorem ev_rollbackAt (a1 : State) (a2 : Notice) (a3 a4 : Nat) (a5 : GwBind) (h1 : Evolves w s0 a1) (whold : w.hold =
    true := by assumption) (wtier : w.tier = true := by assumption) :
    ∀ t, State.rollbackAt a1 a2 a3 a4 a5 = some t → Evolves w s0 t := by
  unfold State.rollbackAt
  intro t e
  repeat' (first | contradiction | (injection e with e; subst e) | (first | with_reducible (first | assumption | apply ev_setGwBind | apply ev_restoreLens | apply ev_sendNotice | refine ev_of_snd (by assumption) ?_ | refine ev_of_fst (by assumption) ?_) | intro _ | split | dsimp only | with_reducible (first | apply ev_upd | apply ev_updTier)) | split at e)

theorem ev_withGw (a1 : State) (a2 a3 a4 : Nat) (a5 : Desc → State) (h1 : Evolves w s0 a1) (h5 : ∀ y1, Evolves w s0 (a5
    y1)) :
    Evolves w s0 (State.withGw a1 a2 a3 a4 a5) := by
  unfold State.withGw
  repeat' (first | with_reducible (first | assumption | apply ev_withPart | apply h5) | intro _ | split | dsimp only | with_reducible (first | apply ev_upd | apply ev_updTier))

theorem ev_execAckNotice (a1 : Packet) (a2 : State) (h2 : Evolves w s0 a2) (whold : w.hold = true := by assumption) :
    ∀ t, execAckNotice a1 a2 = .next t → Evolves w s0 t := by
  unfold execAckNotice
  refine fun t e => ev_next ?_ e
  have h := fun st => ev_sendAny _ (responseTo a1 st) (ev_markSource _ (pkParcel a1) a1.src.toNat (ev_takePacket _ a1 h2))
  refine ev_ite (fun _ => h _) fun _ => ?_
  split
  · exact h _
  · refine ev_ite (fun _ => ev_stale _ _ (h _)) fun _ => ev_ite (fun _ => h _) fun _ =>
      ev_ite (fun _ => ev_memberFailed _ _ _ _ _ _ _ (ev_setReq _ _ _ (h _))) fun _ => ?_
    have h3 := fun k r q => ev_setReq _ k q (ev_setReq _ k r (h (a2.noticeStatus a1 K_ACK)))
    refine ev_ite (fun _ => ev_ite (fun _ => h3 _ _ _) fun _ => ev_endGw _ _ _ _ (ev_setReq _ _ _ (h3 _ _ _))) fun _ =>
      ev_ite (fun _ => ev_ite (fun _ => ?_) fun _ => ev_closeStep _ _ (h3 _ _ _)) fun _ =>
      ev_ite (fun _ => ev_closeStep _ _ (ev_discardDone _ _ (h3 _ _ _))) fun _ =>
      ev_ite (fun _ => ev_closeStep _ _ (ev_setReq _ _ _ (h3 _ _ _))) fun _ => ev_closeStep _ _ (h3 _ _ _)
    split
    · exact ev_notify1 _ _ _ _ _ _ (ev_setReq _ _ _ (h3 _ _ _))
    · exact h3 _ _ _

theorem ev_execApplyNotice (a1 : Packet) (a2 a3 : List WordErr) (a4 : State) (h4 : Evolves w s0 a4) (whold : w.hold =
    true := by assumption) (wtier : w.tier = true := by assumption) :
    ∀ t, execApplyNotice a1 a2 a3 a4 = .next t → Evolves w s0 t := by
  unfold execApplyNotice
  refine fun t e => ev_next ?_ e
  repeat' (first | with_reducible (first | assumption | apply ev_memberNotice | (refine (ev_applyAt _ _ _ _ _ _ _ ?_) _ (by assumption))) | intro _ | split | dsimp only | with_reducible (first | apply ev_upd | apply ev_updTier))

theorem ev_execApplyTimeout (a1 : Parcel) (a2 : Fin 64) (a3 : State) (h3 : Evolves w s0 a3) (whold : w.hold = true :=
    by assumption) :
    ∀ t, execApplyTimeout a1 a2 a3 = .next t → Evolves w s0 t := by
  unfold execApplyTimeout
  refine fun t e => ev_next ?_ e
  repeat' (first | with_reducible (first | assumption | apply ev_atDeadline | apply ev_memberFailed | apply ev_foldl | apply ev_foldl_fst | apply ev_foldl_snd | refine ev_of_snd (by assumption) ?_ | refine ev_of_fst (by assumption) ?_) | intro _ | split | dsimp only | with_reducible (first | apply ev_upd | apply ev_updTier))

theorem ev_execConsumed (a1 : Fin 1024) (a2 : Parcel) (a3 : Fin 64) (a4 : Word) (a5 : State) (h5 : Evolves w s0 a5) :
    ∀ t, execConsumed a1 a2 a3 a4 a5 = .next t → Evolves w s0 t := by
  unfold execConsumed
  refine fun t e => ev_next ?_ e
  repeat' (first | with_reducible (first | assumption | apply ev_addSat | apply ev_setReq) | intro _ | split | dsimp only | with_reducible (first | apply ev_upd | apply ev_updTier))

theorem ev_execDiscardNotice (a1 : Packet) (a2 a3 : List WordErr) (a4 : State) (h4 : Evolves w s0 a4) (whold : w.hold =
    true := by assumption) (wtier : w.tier = true := by assumption) :
    ∀ t, execDiscardNotice a1 a2 a3 a4 = .next t → Evolves w s0 t := by
  unfold execDiscardNotice
  refine fun t e => ev_next ?_ e
  repeat' (first | with_reducible (first | assumption | apply ev_memberNotice | (refine (ev_discardAt _ _ _ _ _ _ _ ?_) _ (by assumption))) | intro _ | split | dsimp only | with_reducible (first | apply ev_upd | apply ev_updTier))

theorem ev_execEgressDelivery (a1 : Parcel) (a2 : Fin 64) (a3 : State) (h3 : Evolves w s0 a3) :
    ∀ t, execEgressDelivery a1 a2 a3 = .next t → Evolves w s0 t := by
  unfold execEgressDelivery
  refine fun t e => ev_next ?_ e
  repeat' (first | with_reducible (first | assumption | apply ev_advanceFab | apply ev_setBit | apply ev_setReq | apply ev_deliverToken | apply ev_bmeWaits) | intro _ | split | dsimp only | with_reducible (first | apply ev_upd | apply ev_updTier))

theorem ev_execGwAccept (a1 : Parcel) (a2 : Nat) (a3 : List WordErr) (a4 : State) (h4 : Evolves w s0 a4) (whold :
    w.hold = true := by assumption) (wtier : w.tier = true := by assumption) :
    ∀ t, execGwAccept a1 a2 a3 a4 = .next t → Evolves w s0 t := by
  unfold execGwAccept
  refine fun t e => ev_next ?_ e
  repeat' (first | with_reducible (first | assumption | apply ev_KvCtx_gwEnd | apply ev_KvCtx_gwAccept | apply ev_endPart | apply ev_withGw) | intro _ | split | dsimp only | with_reducible (first | apply ev_upd | apply ev_updTier))

theorem ev_execGwClose (a1 : Parcel) (a2 : Nat) (a3 : State) (h3 : Evolves w s0 a3) :
    ∀ t, execGwClose a1 a2 a3 = .next t → Evolves w s0 t := by
  unfold execGwClose
  refine fun t e => ev_next ?_ e
  repeat' (first | with_reducible (first | assumption | apply ev_setReq | apply ev_endPart | apply ev_withGw | apply ev_closeStep | apply ev_dropRound) | intro _ | split | dsimp only | with_reducible (first | apply ev_upd | apply ev_updTier))

theorem ev_execGwCommit (a1 : Parcel) (a2 : Nat) (a3 : State) (h3 : Evolves w s0 a3) (whold : w.hold = true := by
    assumption) :
    ∀ t, execGwCommit a1 a2 a3 = .next t → Evolves w s0 t := by
  unfold execGwCommit
  refine fun t e => ev_next ?_ e
  repeat' (first | with_reducible (first | assumption | apply ev_commitRound | apply ev_KvCtx_gwEnd | apply ev_endPart | apply ev_holdPut | apply ev_withGw | apply ev_KvCtx_reportGate | apply ev_thenDo | refine ev_of_snd (by assumption) ?_ | refine ev_of_fst (by assumption) ?_) | intro _ | split | dsimp only | with_reducible (first | apply ev_upd | apply ev_updTier))

theorem ev_execGwDiscard (a1 : Parcel) (a2 : Nat) (a3 : State) (h3 : Evolves w s0 a3) (whold : w.hold = true := by
    assumption) :
    ∀ t, execGwDiscard a1 a2 a3 = .next t → Evolves w s0 t := by
  unfold execGwDiscard
  refine fun t e => ev_next ?_ e
  repeat' (first | with_reducible (first | assumption | apply ev_setReq | apply ev_KvCtx_gwEnd | apply ev_endPart | apply ev_withGw | apply ev_discardDone | apply ev_KvCtx_reportGate | apply ev_dropRound | apply ev_thenDo) | intro _ | split | dsimp only | with_reducible (first | apply ev_upd | apply ev_updTier))

theorem ev_execGwJoin (a1 : Parcel) (a2 : Nat) (a3 : List WordErr) (a4 : State) (h4 : Evolves w s0 a4) :
    ∀ t, execGwJoin a1 a2 a3 a4 = .next t → Evolves w s0 t := by
  unfold execGwJoin
  refine fun t e => ev_next ?_ e
  repeat' (first | with_reducible (first | assumption | apply ev_KvCtx_gwEnd | apply ev_withGw | apply ev_KvCtx_gwJoin) | intro _ | split | dsimp only | with_reducible (first | apply ev_upd | apply ev_updTier))

theorem ev_execGwLeave (a1 : Parcel) (a2 : Nat) (a3 : State) (h3 : Evolves w s0 a3) :
    ∀ t, execGwLeave a1 a2 a3 = .next t → Evolves w s0 t := by
  unfold execGwLeave
  refine fun t e => ev_next ?_ e
  repeat' (first | with_reducible (first | assumption | apply ev_endPart | apply ev_withGw | apply ev_setGwBind | apply ev_sendNotice) | intro _ | split | dsimp only | with_reducible (first | apply ev_upd | apply ev_updTier))

theorem ev_execGwOpen (a1 : Parcel) (a2 : Nat) (a3 : List WordErr) (a4 : State) (h4 : Evolves w s0 a4) :
    ∀ t, execGwOpen a1 a2 a3 a4 = .next t → Evolves w s0 t := by
  unfold execGwOpen
  refine fun t e => ev_next ?_ e
  repeat' (first | with_reducible (first | assumption | apply ev_KvCtx_gwOpen | apply ev_KvCtx_gwEnd | apply ev_withGw) | intro _ | split | dsimp only | with_reducible (first | apply ev_upd | apply ev_updTier))

theorem ev_execGwTree (a1 : Parcel) (a2 : Nat) (a3 : List WordErr) (a4 : State) (h4 : Evolves w s0 a4) (whold : w.hold
    = true := by assumption) (wtier : w.tier = true := by assumption) :
    ∀ t, execGwTree a1 a2 a3 a4 = .next t → Evolves w s0 t := by
  unfold execGwTree
  refine fun t e => ev_next ?_ e
  repeat' (first | with_reducible (first | assumption | apply ev_KvCtx_gwEnd | apply ev_endPart | apply ev_withGw | apply ev_KvCtx_gwTree) | intro _ | split | dsimp only | with_reducible (first | apply ev_upd | apply ev_updTier))

theorem ev_execGwTreeRepair (a1 : Parcel) (a2 : Nat) (a3 : State) (h3 : Evolves w s0 a3) (whold : w.hold = true := by
    assumption) (wtier : w.tier = true := by assumption) :
    ∀ t, execGwTreeRepair a1 a2 a3 = .next t → Evolves w s0 t := by
  unfold execGwTreeRepair
  refine fun t e => ev_next ?_ e
  repeat' (first | with_reducible (first | assumption | apply ev_KvCtx_gwEnd | apply ev_endPart | apply ev_withGw | apply ev_free | apply ev_KvCtx_openRound | refine ev_of_snd (by assumption) ?_ | refine ev_of_fst (by assumption) ?_) | intro _ | split | dsimp only | with_reducible (first | apply ev_upd | apply ev_updTier))

theorem ev_execGwyErrClr (a1 : Path) (a2 : Parcel) (a3 : Word) (a4 : State) (h4 : Evolves w s0 a4) :
    ∀ t, execGwyErrClr a1 a2 a3 a4 = .next t → Evolves w s0 t := by
  unfold execGwyErrClr
  refine fun t e => ev_next ?_ e
  repeat' (first | with_reducible (first | assumption | apply ev_rwl | apply ev_clearGwErr) | intro _ | split | dsimp only | with_reducible (first | apply ev_upd | apply ev_updTier))

theorem ev_execJoinAck (a1 : Packet) (a2 : State) (h2 : Evolves w s0 a2) :
    ∀ t, execJoinAck a1 a2 = .next t → Evolves w s0 t := by
  unfold execJoinAck
  refine fun t e => ev_next ?_ e
  repeat' (first | with_reducible (first | assumption | apply ev_unbind | apply ev_markSource | apply ev_takePacket | apply ev_setGwBind | apply ev_sendAny | apply ev_endGw) | intro _ | split | dsimp only | with_reducible (first | apply ev_upd | apply ev_updTier))

theorem ev_execJoinNotice (a1 : Packet) (a2 : State) (h2 : Evolves w s0 a2) :
    ∀ t, execJoinNotice a1 a2 = .next t → Evolves w s0 t := by
  unfold execJoinNotice
  refine fun t e => ev_next ?_ e
  repeat' (first | with_reducible (first | assumption | apply ev_setReq | apply ev_closeStep | apply ev_markSource | apply ev_takePacket | apply ev_sendAny | apply ev_sendNotice) | intro _ | split | dsimp only | with_reducible (first | apply ev_upd | apply ev_updTier))

theorem ev_execLeaveNotice (a1 : Packet) (a2 : State) (h2 : Evolves w s0 a2) :
    ∀ t, execLeaveNotice a1 a2 = .next t → Evolves w s0 t := by
  unfold execLeaveNotice
  refine fun t e => ev_next ?_ e
  repeat' (first | with_reducible (first | assumption | (refine (ev_leaveAt _ _ _ _ _ ?_) _ (by assumption)) | apply ev_memberNotice) | intro _ | split | dsimp only | with_reducible (first | apply ev_upd | apply ev_updTier))

theorem ev_execOpenNotice (a1 : Packet) (a2 : State) (h2 : Evolves w s0 a2) :
    ∀ t, execOpenNotice a1 a2 = .next t → Evolves w s0 t := by
  unfold execOpenNotice
  refine fun t e => ev_next ?_ e
  repeat' (first | with_reducible (first | assumption | apply ev_memberNotice | (refine (ev_openAt _ _ _ _ _ ?_) _ (by assumption))) | intro _ | split | dsimp only | with_reducible (first | apply ev_upd | apply ev_updTier))

theorem ev_execResponseReceive (a1 : Packet) (a2 : State) (h2 : Evolves w s0 a2) (whold : w.hold = true := by
    assumption) :
    ∀ t, execResponseReceive a1 a2 = .next t → Evolves w s0 t := by
  unfold execResponseReceive
  refine fun t e => ev_next ?_ e
  repeat' (first | with_reducible (first | assumption | apply ev_addSat | apply ev_drainNotices | apply ev_settle | apply ev_noticeFailed | apply ev_takePacket) | intro _ | split | dsimp only | with_reducible (first | apply ev_upd | apply ev_updTier))

theorem ev_execResponseTimeout (a1 : BitVec 16) (a2 : State) (h2 : Evolves w s0 a2) (whold : w.hold = true := by
    assumption) :
    ∀ t, execResponseTimeout a1 a2 = .next t → Evolves w s0 t := by
  unfold execResponseTimeout
  refine fun t e => ev_next ?_ e
  repeat' (first | with_reducible (first | assumption | apply ev_addSat | apply ev_drainNotices | apply ev_atDeadline | apply ev_settle | apply ev_noticeFailed) | intro _ | split | dsimp only | with_reducible (first | apply ev_upd | apply ev_updTier))

theorem ev_execRollbackNotice (a1 : Packet) (a2 : State) (h2 : Evolves w s0 a2) (whold : w.hold = true := by
    assumption) (wtier : w.tier = true := by assumption) :
    ∀ t, execRollbackNotice a1 a2 = .next t → Evolves w s0 t := by
  unfold execRollbackNotice
  refine fun t e => ev_next ?_ e
  repeat' (first | with_reducible (first | assumption | apply ev_memberNotice | (refine (ev_rollbackAt _ _ _ _ _ ?_) _ (by assumption))) | intro _ | split | dsimp only | with_reducible (first | apply ev_upd | apply ev_updTier))

theorem ev_clearAbort (a1 : State) (h1 : Evolves w s0 a1) :
    Evolves w s0 (State.clearAbort a1) := by
  unfold State.clearAbort
  repeat' (first | with_reducible (first | assumption | apply ev_setRd) | intro _ | split | dsimp only | with_reducible (first | apply ev_upd | apply ev_updTier))

theorem ev_collSend (a1 : State) (a2 : List Packet) (h1 : Evolves w s0 a1) :
    Evolves w s0 (State.collSend a1 a2).2 := by
  unfold State.collSend
  repeat' (first | with_reducible (first | assumption | apply ev_sendPacket | apply ev_foldl | apply ev_foldl_fst | apply ev_foldl_snd | refine ev_of_snd (by assumption) ?_ | refine ev_of_fst (by assumption) ?_) | intro _ | split | dsimp only | with_reducible (first | apply ev_upd | apply ev_updTier))

theorem ev_stray (a1 : State) (h1 : Evolves w s0 a1) :
    Evolves w s0 (State.stray a1) := by
  unfold State.stray
  repeat' (first | with_reducible (first | assumption | apply ev_addSat | apply ev_setBit) | intro _ | split | dsimp only | with_reducible (first | apply ev_upd | apply ev_updTier))

theorem ev_collTake (a1 : State) (a2 : Packet) (a3 : BitVec 8) (a4 : Nat → Bool) (a5 : State → GroupRec → Nat → Nat →
    Nat → Nat → State) (h1 : Evolves w s0 a1) (h5 : ∀ y1 y2 y3 y4 y5 y6, Evolves w s0 y1 → Evolves w s0 (a5 y1 y2 y3 y4
    y5 y6)) :
    Evolves w s0 (State.collTake a1 a2 a3 a4 a5) := by
  unfold State.collTake
  repeat' (first | with_reducible (first | assumption | apply ev_takePacket | apply ev_stray | apply h5 | refine ev_of_snd (by assumption) ?_ | refine ev_of_fst (by assumption) ?_) | intro _ | split | dsimp only | with_reducible (first | apply ev_upd | apply ev_updTier))

theorem ev_dropGroups (a1 : State) (a2 : Nat) (h1 : Evolves w s0 a1) :
    Evolves w s0 (State.dropGroups a1 a2) := by
  unfold State.dropGroups
  repeat' (first | with_reducible (first | assumption | refine ev_of_snd (by assumption) ?_ | refine ev_of_fst (by assumption) ?_) | intro _ | split | dsimp only | with_reducible (first | apply ev_upd | apply ev_updTier))

theorem ev_failMember (a1 : State) (a2 : Nat) (a3 : Nat × Desc × ReduceOp) (h1 : Evolves w s0 a1) :
    Evolves w s0 (State.failMember a1 a2 a3) := by
  unfold State.failMember
  repeat' (first | with_reducible (first | assumption | apply ev_collFailed | apply ev_endPart | refine ev_of_snd (by assumption) ?_ | refine ev_of_fst (by assumption) ?_) | intro _ | split | dsimp only | with_reducible (first | apply ev_upd | apply ev_updTier))

theorem ev_legFinish (a1 : State) (a2 : GroupRec) (a3 a4 : Nat) (a5 : LegOp) (a6 : Nat) (h1 : Evolves w s0 a1) (whold :
    w.hold = true := by assumption) :
    Evolves w s0 (State.legFinish a1 a2 a3 a4 a5 a6) := by
  unfold State.legFinish
  repeat' (first | with_reducible (first | assumption | apply ev_advanceSeq | apply ev_collFailed | apply ev_collMark | apply ev_putOp | apply ev_endPart | apply ev_holdPut | apply ev_foldl | apply ev_foldl_fst | apply ev_foldl_snd | refine ev_of_snd (by assumption) ?_ | refine ev_of_fst (by assumption) ?_) | intro _ | split | dsimp only | with_reducible (first | apply ev_upd | apply ev_updTier))

theorem ev_legWrite (a1 : State) (a2 : GroupRec) (a3 a4 : Nat) (a5 : LegOp) (a6 : Nat) (h1 : Evolves w s0 a1) (whold :
    w.hold = true := by assumption) :
    Evolves w s0 (State.legWrite a1 a2 a3 a4 a5 a6) := by
  unfold State.legWrite
  repeat' (first | with_reducible (first | assumption | apply ev_legFinish | apply ev_putOp | apply ev_holdPut | apply ev_failMember | apply ev_foldl | apply ev_foldl_fst | apply ev_foldl_snd | refine ev_of_snd (by assumption) ?_ | refine ev_of_fst (by assumption) ?_) | intro _ | split | dsimp only | with_reducible (first | apply ev_upd | apply ev_updTier))

theorem ev_legReduce (a1 : State) (a2 : GroupRec) (a3 a4 : Nat) (a5 : LegOp) (a6 : Nat) (h1 : Evolves w s0 a1) (whold :
    w.hold = true := by assumption) :
    Evolves w s0 (State.legReduce a1 a2 a3 a4 a5 a6) := by
  unfold State.legReduce
  repeat' (first | with_reducible (first | assumption | apply ev_legWrite | apply ev_add64 | apply ev_collSend | apply ev_legFailed | apply ev_failMember | refine ev_of_snd (by assumption) ?_ | refine ev_of_fst (by assumption) ?_) | intro _ | split | dsimp only | with_reducible (first | apply ev_upd | apply ev_updTier))

theorem ev_legMismatch (a1 : State) (a2 : GroupRec) (a3 a4 a5 a6 : Nat) (h1 : Evolves w s0 a1) :
    Evolves w s0 (State.legMismatch a1 a2 a3 a4 a5 a6) := by
  unfold State.legMismatch
  repeat' (first | with_reducible (first | assumption | apply ev_legAbort) | intro _ | split | dsimp only | with_reducible (first | apply ev_upd | apply ev_updTier))

theorem ev_legAdvance (a1 : State) (a2 : GroupRec) (a3 a4 : Nat) (a5 : LegOp) (h1 : Evolves w s0 a1) (whold : w.hold =
    true := by assumption) :
    Evolves w s0 (State.legAdvance a1 a2 a3 a4 a5) := by
  unfold State.legAdvance
  repeat' (first | with_reducible (first | assumption | apply ev_legWrite | apply ev_legReduce | apply ev_legMismatch | apply ev_putOp | refine ev_of_snd (by assumption) ?_ | refine ev_of_fst (by assumption) ?_) | intro _ | split | dsimp only | with_reducible (first | apply ev_upd | apply ev_updTier))

theorem ev_stagePut (a1 : State) (a2 : GroupRec) (a3 a4 a5 a6 a7 : Nat) (a8 : List Nat) (h1 : Evolves w s0 a1) (whold :
    w.hold = true := by assumption) :
    Evolves w s0 (State.stagePut a1 a2 a3 a4 a5 a6 a7 a8).2 := by
  unfold State.stagePut
  repeat' (first | with_reducible (first | assumption | apply ev_writeRows | refine ev_of_snd (by assumption) ?_ | refine ev_of_fst (by assumption) ?_) | intro _ | split | dsimp only | with_reducible (first | apply ev_upd | apply ev_updTier))

theorem ev_legExchange (a1 : State) (a2 : GroupRec) (a3 a4 : Nat) (a5 : LegOp) (h1 : Evolves w s0 a1) (whold : w.hold =
    true := by assumption) :
    Evolves w s0 (State.legExchange a1 a2 a3 a4 a5) := by
  unfold State.legExchange
  repeat' (first | with_reducible (first | assumption | apply ev_stagePut | apply ev_legMismatch | apply ev_add64 | apply ev_collSend | apply ev_legFailed | apply ev_legAdvance | apply ev_foldl | apply ev_foldl_fst | apply ev_foldl_snd | refine ev_of_snd (by assumption) ?_ | refine ev_of_fst (by assumption) ?_) | intro _ | split | dsimp only | with_reducible (first | apply ev_upd | apply ev_updTier))

theorem ev_execAllReduce (a1 : Parcel) (a2 : Nat) (a3 : List WordErr) (a4 : State) (h4 : Evolves w s0 a4) (whold :
    w.hold = true := by assumption) :
    ∀ t, execAllReduce a1 a2 a3 a4 = .next t → Evolves w s0 t := by
  unfold execAllReduce
  refine fun t e => ev_next ?_ e
  repeat' (first | with_reducible (first | assumption | apply ev_applyAbort | apply ev_readAll | apply ev_legExchange | apply ev_collFailed | apply ev_collMark | apply ev_putOp | apply ev_endPart | apply ev_withPart | refine ev_of_snd (by assumption) ?_ | refine ev_of_fst (by assumption) ?_) | intro _ | split | dsimp only | with_reducible (first | apply ev_upd | apply ev_updTier))

theorem ev_execColAbortClr (a1 : Path) (a2 : Word) (a3 : State) (h3 : Evolves w s0 a3) :
    ∀ t, execColAbortClr a1 a2 a3 = .next t → Evolves w s0 t := by
  unfold execColAbortClr
  refine fun t e => ev_next ?_ e
  repeat' (first | with_reducible (first | assumption | apply ev_rwl | apply ev_clearAbort) | intro _ | split | dsimp only | with_reducible (first | apply ev_upd | apply ev_updTier))

theorem ev_execCollAbort (a1 : Packet) (a2 : State) (h2 : Evolves w s0 a2) :
    ∀ t, execCollAbort a1 a2 = .next t → Evolves w s0 t := by
  unfold execCollAbort
  refine fun t e => ev_next ?_ e
  repeat' (first | with_reducible (first | assumption | apply ev_abortLeg | apply ev_collTake) | intro _ | split | dsimp only | with_reducible (first | apply ev_upd | apply ev_updTier))

theorem ev_execCollCount (a1 : Packet) (a2 : List WordErr) (a3 : State) (h3 : Evolves w s0 a3) (whold : w.hold = true
    := by assumption) :
    ∀ t, execCollCount a1 a2 a3 = .next t → Evolves w s0 t := by
  unfold execCollCount
  refine fun t e => ev_next ?_ e
  repeat' (first | with_reducible (first | assumption | apply ev_holdErrors | apply ev_collTake | apply ev_legAdvance) | intro _ | split | dsimp only | with_reducible (first | apply ev_upd | apply ev_updTier))

theorem ev_execCollPart (a1 : Packet) (a2 : List WordErr) (a3 : State) (h3 : Evolves w s0 a3) (whold : w.hold = true :=
    by assumption) :
    ∀ t, execCollPart a1 a2 a3 = .next t → Evolves w s0 t := by
  unfold execCollPart
  refine fun t e => ev_next ?_ e
  repeat' (first | with_reducible (first | assumption | apply ev_stagePut | apply ev_holdErrors | apply ev_collTake | apply ev_legAdvance | refine ev_of_snd (by assumption) ?_ | refine ev_of_fst (by assumption) ?_) | intro _ | split | dsimp only | with_reducible (first | apply ev_upd | apply ev_updTier))

theorem ev_execCollResult (a1 : Packet) (a2 : State) (h2 : Evolves w s0 a2) (whold : w.hold = true := by assumption) :
    ∀ t, execCollResult a1 a2 = .next t → Evolves w s0 t := by
  unfold execCollResult
  refine fun t e => ev_next ?_ e
  repeat' (first | with_reducible (first | assumption | apply ev_collTake | apply ev_legAdvance | refine ev_of_snd (by assumption) ?_ | refine ev_of_fst (by assumption) ?_) | intro _ | split | dsimp only | with_reducible (first | apply ev_upd | apply ev_updTier))

theorem ev_execGroupSetDefine (a1 : Parcel) (a2 : Nat) (a3 : List WordErr) (a4 : State) (h4 : Evolves w s0 a4) :
    ∀ t, execGroupSetDefine a1 a2 a3 a4 = .next t → Evolves w s0 t := by
  unfold execGroupSetDefine
  refine fun t e => ev_next ?_ e
  repeat' (first | with_reducible (first | assumption | apply ev_setGroup | apply ev_endPart | apply ev_withPart | apply ev_runPart | refine ev_of_snd (by assumption) ?_ | refine ev_of_fst (by assumption) ?_) | intro _ | split | dsimp only | with_reducible (first | apply ev_upd | apply ev_updTier))

theorem ev_execGroupSetFree (a1 : Parcel) (a2 : Nat) (a3 : State) (h3 : Evolves w s0 a3) :
    ∀ t, execGroupSetFree a1 a2 a3 = .next t → Evolves w s0 t := by
  unfold execGroupSetFree
  refine fun t e => ev_next ?_ e
  repeat' (first | with_reducible (first | assumption | apply ev_setGroup | apply ev_endPart | apply ev_withPart) | intro _ | split | dsimp only | with_reducible (first | apply ev_upd | apply ev_updTier))

theorem ev_execLegTimeout (a1 : Parcel) (a2 : Fin 4096) (a3 : Fin 16) (a4 : State) (h4 : Evolves w s0 a4) :
    ∀ t, execLegTimeout a1 a2 a3 a4 = .next t → Evolves w s0 t := by
  unfold execLegTimeout
  refine fun t e => ev_next ?_ e
  repeat' (first | with_reducible (first | assumption | apply ev_legAbort | apply ev_atDeadline) | intro _ | split | dsimp only | with_reducible (first | apply ev_upd | apply ev_updTier))

end Sys2Proof.Laws
end

