-- ==== Sys2Proof/Laws/EvHost.lean ====
section
/-! SUPPORT. What a command may do to the state (Evolves), for every function of descriptors, the Toll and the host interface.
-/

set_option Elab.async false
set_option linter.unreachableTactic false
set_option linter.unusedTactic false
set_option linter.unusedVariables false

namespace Sys2Proof.Laws

open Sys2Proof.Machine Sys2Proof.Safety

variable {w : Areas} {s0 : State}

theorem ev_updDesc (a1 : State) (a2 : Nat) (a3 : Desc → Desc) (h1 : Evolves w s0 a1) :
    Evolves w s0 (State.updDesc a1 a2 a3) := by
  unfold State.updDesc
  repeat' (first | with_reducible (first | assumption) | intro _ | split | dsimp only | with_reducible (first | apply ev_upd | apply ev_updTier))

theorem ev_admitParts (a1 : State) (a2 a3 a4 : Nat) (h1 : Evolves w s0 a1) :
    Evolves w s0 (State.admitParts a1 a2 a3 a4) := by
  unfold State.admitParts
  repeat' (first | with_reducible (first | assumption | apply ev_updDesc) | intro _ | split | dsimp only | with_reducible (first | apply ev_upd | apply ev_updTier))

theorem ev_setPart (a1 : State) (a2 a3 : Nat) (a4 : PartSt) (h1 : Evolves w s0 a1) :
    Evolves w s0 (State.setPart a1 a2 a3 a4) := by
  unfold State.setPart
  repeat' (first | with_reducible (first | assumption | apply ev_mapParts) | intro _ | split | dsimp only | with_reducible (first | apply ev_upd | apply ev_updTier))

theorem ev_deferPart (a1 : State) (a2 a3 a4 : Nat) (a5 : Desc) (h1 : Evolves w s0 a1) :
    Evolves w s0 (State.deferPart a1 a2 a3 a4 a5) := by
  unfold State.deferPart
  repeat' (first | with_reducible (first | assumption | apply ev_setPart | apply ev_setBit | apply ev_endPart | apply ev_gwError) | intro _ | split | dsimp only | with_reducible (first | apply ev_upd | apply ev_updTier))

theorem ev_denyLease (a1 : State) (a2 a3 : Nat) (h1 : Evolves w s0 a1) :
    Evolves w s0 (State.denyLease a1 a2 a3) := by
  unfold State.denyLease
  repeat' (first | with_reducible (first | assumption | apply ev_addSat | apply ev_setBit | apply ev_updDesc) | intro _ | split | dsimp only | with_reducible (first | apply ev_upd | apply ev_updTier))

theorem ev_finishDesc (a1 : State) (a2 : Desc) (a3 a4 a5 : Nat) (h1 : Evolves w s0 a1) :
    Evolves w s0 (State.finishDesc a1 a2 a3 a4 a5) := by
  unfold State.finishDesc
  repeat' (first | with_reducible (first | assumption | apply ev_queueRecord | apply ev_setGwBind) | intro _ | split | dsimp only | with_reducible (first | apply ev_upd | apply ev_updTier))

theorem ev_holdBack (a1 : State) (a2 a3 : Nat) (h1 : Evolves w s0 a1) :
    Evolves w s0 (State.holdBack a1 a2 a3) := by
  unfold State.holdBack
  repeat' (first | with_reducible (first | assumption | apply ev_updDesc) | intro _ | split | dsimp only | with_reducible (first | apply ev_upd | apply ev_updTier))

theorem ev_startGate (a1 : State) (a2 a3 : Nat) (a4 : Desc → Part → State) (h1 : Evolves w s0 a1) (h4 : ∀ y1 y2,
    Evolves w s0 (a4 y1 y2)) :
    Evolves w s0 (State.startGate a1 a2 a3 a4) := by
  unfold State.startGate
  repeat' (first | with_reducible (first | assumption | apply ev_collSweep | apply ev_endPart | apply h4) | intro _ | split | dsimp only | with_reducible (first | apply ev_upd | apply ev_updTier))

theorem ev_seqRun (a1 : State) (a2 a3 : Nat) (a4 : Desc → Bool) (a5 : Desc → State → State) (h1 : Evolves w s0 a1) (h5
    : ∀ y1 y2, Evolves w s0 y2 → Evolves w s0 (a5 y1 y2)) :
    Evolves w s0 (State.seqRun a1 a2 a3 a4 a5) := by
  unfold State.seqRun
  repeat' (first | with_reducible (first | assumption | apply ev_endPart | apply ev_startGate | apply h5) | intro _ | split | dsimp only | with_reducible (first | apply ev_upd | apply ev_updTier))

theorem ev_markOp (a1 : State) (a2 a3 a4 : Nat) (a5 : Nat → Mark → Mark) (h1 : Evolves w s0 a1) :
    Evolves w s0 (State.markOp a1 a2 a3 a4 a5) := by
  unfold State.markOp
  repeat' (first | with_reducible (first | assumption | apply ev_seqRun | apply ev_updMark) | intro _ | split | dsimp only | with_reducible (first | apply ev_upd | apply ev_updTier))

theorem ev_setBucket (a1 : State) (a2 : Nat) (a3 : ℤ) (h1 : Evolves w s0 a1) :
    Evolves w s0 (State.setBucket a1 a2 a3) := by
  unfold State.setBucket
  repeat' (first | with_reducible (first | assumption | apply ev_setFld) | intro _ | split | dsimp only | with_reducible (first | apply ev_upd | apply ev_updTier))

theorem ev_setPool (a1 : State) (a2 : ℤ) (h1 : Evolves w s0 a1) :
    Evolves w s0 (State.setPool a1 a2) := by
  unfold State.setPool
  repeat' (first | with_reducible (first | assumption | apply ev_setFld) | intro _ | split | dsimp only | with_reducible (first | apply ev_upd | apply ev_updTier))

theorem ev_noteRaised (a1 : State) (a2 : Nat) (a3 : Bool) (h1 : Evolves w s0 a1) :
    Evolves w s0 (State.noteRaised a1 a2 a3) := by
  unfold State.noteRaised
  repeat' (first | with_reducible (first | assumption | apply ev_addSat | apply ev_setBit) | intro _ | split | dsimp only | with_reducible (first | apply ev_upd | apply ev_updTier))

theorem ev_poolDraw (a1 : State) (a2 : Nat) (a3 : Desc) (a4 : Nat) (h1 : Evolves w s0 a1) :
    ∀ t, State.poolDraw a1 a2 a3 a4 = some t → Evolves w s0 t := by
  unfold State.poolDraw
  intro t e
  dsimp only at e
  split at e
  · injection e with e; subst e; exact h1
  · split at e
    · injection e with e; subst e; exact h1
    · split at e
      · contradiction
      · injection e with e; subst e; exact ev_upd (ev_setPool _ _ h1)

theorem ev_sendSignal (a1 : State) (a2 : Desc) (a3 a4 a5 : Nat) (h1 : Evolves w s0 a1) :
    Evolves w s0 (State.sendSignal a1 a2 a3 a4 a5) := by
  unfold State.sendSignal
  repeat' (first | with_reducible (first | assumption | apply ev_updDesc | apply ev_finishDesc | apply ev_sendRequest | refine ev_of_snd (by assumption) ?_ | refine ev_of_fst (by assumption) ?_) | intro _ | split | dsimp only | with_reducible (first | apply ev_upd | apply ev_updTier))

theorem ev_execDescriptorAdmit (a1 : Parcel) (a2 : Nat) (a3 : State) (h3 : Evolves w s0 a3) :
    ∀ t, execDescriptorAdmit a1 a2 a3 = .next t → Evolves w s0 t := by
  unfold execDescriptorAdmit
  refine fun t e => ev_next ?_ e
  repeat' (first | with_reducible (first | assumption | apply ev_noteRaised | apply ev_setBucket | (refine (ev_poolDraw _ _ _ _ ?_) _ (by assumption)) | apply ev_holdBack | apply ev_admitParts) | intro _ | split | dsimp only | with_reducible (first | apply ev_upd | apply ev_updTier))

theorem ev_execDescriptorComplete (a1 a2 a3 : Nat) (a4 : Bool) (a5 : State) (h5 : Evolves w s0 a5) :
    ∀ t, execDescriptorComplete a1 a2 a3 a4 a5 = .next t → Evolves w s0 t := by
  unfold execDescriptorComplete
  refine fun t e => ev_next ?_ e
  repeat' (first | with_reducible (first | assumption | apply ev_updMark | apply ev_collSweep | apply ev_finishDesc | apply ev_sendSignal | refine ev_of_snd (by assumption) ?_ | refine ev_of_fst (by assumption) ?_) | intro _ | split | dsimp only | with_reducible (first | apply ev_upd | apply ev_updTier))

theorem ev_execFence (a1 : Parcel) (a2 : Nat) (a3 : State) (h3 : Evolves w s0 a3) :
    ∀ t, execFence a1 a2 a3 = .next t → Evolves w s0 t := by
  unfold execFence
  refine fun t e => ev_next ?_ e
  repeat' (first | with_reducible (first | assumption | apply ev_seqRun) | intro _ | split | dsimp only | with_reducible (first | apply ev_upd | apply ev_updTier))

theorem ev_execLeaseDenyTimeout (a1 : Parcel) (a2 : Nat) (a3 : State) (h3 : Evolves w s0 a3) :
    ∀ t, execLeaseDenyTimeout a1 a2 a3 = .next t → Evolves w s0 t := by
  unfold execLeaseDenyTimeout
  refine fun t e => ev_next ?_ e
  repeat' (first | with_reducible (first | assumption | apply ev_atDeadline | apply ev_collSweep | apply ev_denyLease | apply ev_foldl | apply ev_foldl_fst | apply ev_foldl_snd | refine ev_of_snd (by assumption) ?_ | refine ev_of_fst (by assumption) ?_) | intro _ | split | dsimp only | with_reducible (first | apply ev_upd | apply ev_updTier))

theorem ev_execMarkAdd (a1 : Parcel) (a2 : Nat) (a3 : State) (h3 : Evolves w s0 a3) :
    ∀ t, execMarkAdd a1 a2 a3 = .next t → Evolves w s0 t := by
  unfold execMarkAdd
  refine fun t e => ev_next ?_ e
  repeat' (first | with_reducible (first | assumption | apply ev_markOp) | intro _ | split | dsimp only | with_reducible (first | apply ev_upd | apply ev_updTier))

theorem ev_execMarkClearError (a1 : Parcel) (a2 : Nat) (a3 : State) (h3 : Evolves w s0 a3) :
    ∀ t, execMarkClearError a1 a2 a3 = .next t → Evolves w s0 t := by
  unfold execMarkClearError
  refine fun t e => ev_next ?_ e
  repeat' (first | with_reducible (first | assumption | apply ev_markOp) | intro _ | split | dsimp only | with_reducible (first | apply ev_upd | apply ev_updTier))

theorem ev_execMarkSet (a1 : Parcel) (a2 : Nat) (a3 : State) (h3 : Evolves w s0 a3) :
    ∀ t, execMarkSet a1 a2 a3 = .next t → Evolves w s0 t := by
  unfold execMarkSet
  refine fun t e => ev_next ?_ e
  repeat' (first | with_reducible (first | assumption | apply ev_markOp) | intro _ | split | dsimp only | with_reducible (first | apply ev_upd | apply ev_updTier))

theorem ev_execNop (a1 : Parcel) (a2 : Nat) (a3 : State) (h3 : Evolves w s0 a3) :
    ∀ t, execNop a1 a2 a3 = .next t → Evolves w s0 t := by
  unfold execNop
  refine fun t e => ev_next ?_ e
  repeat' (first | with_reducible (first | assumption | apply ev_seqRun) | intro _ | split | dsimp only | with_reducible (first | apply ev_upd | apply ev_updTier))

theorem ev_execPartStart (a1 : Parcel) (a2 : Nat) (a3 : Bool) (a4 : State) (h4 : Evolves w s0 a4) :
    ∀ t, execPartStart a1 a2 a3 a4 = .next t → Evolves w s0 t := by
  unfold execPartStart
  refine fun t e => ev_next ?_ e
  repeat' (first | with_reducible (first | assumption | apply ev_deferPart | apply ev_setPart | apply ev_latchAttn | apply ev_startGate) | intro _ | split | dsimp only | with_reducible (first | apply ev_upd | apply ev_updTier))

theorem ev_addJob (a1 : State) (a2 a3 : Nat) (h1 : Evolves w s0 a1) :
    Evolves w s0 (State.addJob a1 a2 a3) := by
  unfold State.addJob
  repeat' (first | with_reducible (first | assumption | apply ev_add64 | refine ev_of_snd (by assumption) ?_ | refine ev_of_fst (by assumption) ?_) | intro _ | split | dsimp only | with_reducible (first | apply ev_upd | apply ev_updTier))

theorem ev_addAccount (a1 : State) (a2 a3 a4 : Nat) (h1 : Evolves w s0 a1) :
    Evolves w s0 (State.addAccount a1 a2 a3 a4) := by
  unfold State.addAccount
  repeat' (first | with_reducible (first | assumption | apply ev_addJob) | intro _ | split | dsimp only | with_reducible (first | apply ev_upd | apply ev_updTier))

theorem ev_coolantIn (a1 : State) (a2 : Nat) (h1 : Evolves w s0 a1) :
    Evolves w s0 (State.coolantIn a1 a2) := by
  unfold State.coolantIn
  repeat' (first | with_reducible (first | assumption | apply ev_setBit | apply ev_setFld | apply ev_raise | apply ev_setRd) | intro _ | split | dsimp only | with_reducible (first | apply ev_upd | apply ev_updTier))

theorem ev_cutTick (a1 : State) (h1 : Evolves w s0 a1) :
    Evolves w s0 (State.cutTick a1) := by
  unfold State.cutTick
  repeat' (first | with_reducible (first | assumption | apply ev_setBit | apply ev_setFld | apply ev_raise | apply ev_foldl | apply ev_foldl_fst | apply ev_foldl_snd) | intro _ | split | dsimp only | with_reducible (first | apply ev_upd | apply ev_updTier))

theorem ev_freeJob (a1 : State) (a2 : Path) (h1 : Evolves w s0 a1) :
    Evolves w s0 (State.freeJob a1 a2) := by
  unfold State.freeJob
  repeat' (first | with_reducible (first | assumption) | intro _ | split | dsimp only | with_reducible (first | apply ev_upd | apply ev_updTier))

theorem ev_gateStep (a1 : State) (a2 : Nat) (h1 : Evolves w s0 a1) :
    Evolves w s0 (State.gateStep a1 a2) := by
  unfold State.gateStep
  repeat' (first | with_reducible (first | assumption | apply ev_setFld) | intro _ | split | dsimp only | with_reducible (first | apply ev_upd | apply ev_updTier))

theorem ev_refillAll (a1 : State) (a2 : Nat) (h1 : Evolves w s0 a1) :
    Evolves w s0 (State.refillAll a1 a2) := by
  unfold State.refillAll
  repeat' (first | with_reducible (first | assumption | apply ev_setBucket | apply ev_foldl | apply ev_foldl_fst | apply ev_foldl_snd) | intro _ | split | dsimp only | with_reducible (first | apply ev_upd | apply ev_updTier))

theorem ev_thermalStep (a1 : State) (h1 : Evolves w s0 a1) :
    Evolves w s0 (State.thermalStep a1) := by
  unfold State.thermalStep
  repeat' (first | with_reducible (first | assumption | apply ev_setBit | apply ev_setFld | apply ev_raise) | intro _ | split | dsimp only | with_reducible (first | apply ev_upd | apply ev_updTier))

theorem ev_newTick (a1 : State) (h1 : Evolves w s0 a1) :
    Evolves w s0 (State.newTick a1) := by
  unfold State.newTick
  repeat' (first | with_reducible (first | assumption | apply ev_refillAll | apply ev_setBit | apply ev_setFld | apply ev_thermalStep | apply ev_setPool | apply ev_gateStep | apply ev_foldl | apply ev_foldl_fst | apply ev_foldl_snd) | intro _ | split | dsimp only | with_reducible (first | apply ev_upd | apply ev_updTier))

theorem ev_readRail (a1 : State) (a2 : Nat) (a3 : Option RailRead) (h1 : Evolves w s0 a1) :
    Evolves w s0 (State.readRail a1 a2 a3) := by
  unfold State.readRail
  repeat' (first | with_reducible (first | assumption | apply ev_addSat | apply ev_setBit | apply ev_setFld | apply ev_raise) | intro _ | split | dsimp only | with_reducible (first | apply ev_upd | apply ev_updTier))

theorem ev_settleTick (a1 : State) (a2 : List AccountUse) (a3 : List Nat) (a4 : Bool) (a5 : Nat) (h1 : Evolves w s0 a1)
    :
    Evolves w s0 (State.settleTick a1 a2 a3 a4 a5) := by
  unfold State.settleTick
  repeat' (first | with_reducible (first | assumption | apply ev_setFld | apply ev_add64 | apply ev_addAccount | apply ev_foldl | apply ev_foldl_fst | apply ev_foldl_snd | refine ev_of_snd (by assumption) ?_ | refine ev_of_fst (by assumption) ?_) | intro _ | split | dsimp only | with_reducible (first | apply ev_upd | apply ev_updTier))

theorem ev_execCoolantStale (a1 : State) (h1 : Evolves w s0 a1) :
    ∀ t, execCoolantStale a1 = .next t → Evolves w s0 t := by
  unfold execCoolantStale
  refine fun t e => ev_next ?_ e
  repeat' (first | with_reducible (first | assumption | apply ev_setBit | apply ev_atDeadline | apply ev_setFld | apply ev_raise) | intro _ | split | dsimp only | with_reducible (first | apply ev_upd | apply ev_updTier))

theorem ev_execForecast (a1 : List Nat) (a2 : Nat) (a3 : State) (h3 : Evolves w s0 a3) :
    ∀ t, execForecast a1 a2 a3 = .next t → Evolves w s0 t := by
  unfold execForecast
  refine fun t e => ev_next ?_ e
  repeat' (first | with_reducible (first | assumption | apply ev_setRd | apply ev_foldl | apply ev_foldl_fst | apply ev_foldl_snd) | intro _ | split | dsimp only | with_reducible (first | apply ev_upd | apply ev_updTier))

theorem ev_execGateWindow (a1 : Parcel) (a2 : Nat) (a3 : State) (h3 : Evolves w s0 a3) :
    ∀ t, execGateWindow a1 a2 a3 = .next t → Evolves w s0 t := by
  unfold execGateWindow
  refine fun t e => ev_next ?_ e
  repeat' (first | with_reducible (first | assumption) | intro _ | split | dsimp only | with_reducible (first | apply ev_upd | apply ev_updTier))

theorem ev_execTelemetrySweep (a1 : List (Option RailRead)) (a2 : Nat) (a3 : State) (h3 : Evolves w s0 a3) :
    ∀ t, execTelemetrySweep a1 a2 a3 = .next t → Evolves w s0 t := by
  unfold execTelemetrySweep
  refine fun t e => ev_next ?_ e
  repeat' (first | with_reducible (first | assumption | apply ev_cutTick | apply ev_setFld | apply ev_readRail | apply ev_foldl | apply ev_foldl_fst | apply ev_foldl_snd | refine ev_of_snd (by assumption) ?_ | refine ev_of_fst (by assumption) ?_) | intro _ | split | dsimp only | with_reducible (first | apply ev_upd | apply ev_updTier))

theorem ev_execThermalSample (a1 : List (Option ℤ)) (a2 : State) (h2 : Evolves w s0 a2) :
    ∀ t, execThermalSample a1 a2 = .next t → Evolves w s0 t := by
  unfold execThermalSample
  refine fun t e => ev_next ?_ e
  repeat' (first | with_reducible (first | assumption | apply ev_setBit | apply ev_setFld | apply ev_raise | apply ev_foldl | apply ev_foldl_fst | apply ev_foldl_snd | refine ev_of_snd (by assumption) ?_ | refine ev_of_fst (by assumption) ?_) | intro _ | split | dsimp only | with_reducible (first | apply ev_upd | apply ev_updTier))

theorem ev_execThermtrip (a1 : List (Option ℤ)) (a2 : State) (h2 : Evolves w s0 a2) :
    ∀ t, execThermtrip a1 a2 = .next t → Evolves w s0 t := by
  unfold execThermtrip
  refine fun t e => ev_next ?_ e
  repeat' (first | with_reducible (first | assumption | apply ev_emit) | intro _ | split | dsimp only | with_reducible (first | apply ev_upd | apply ev_updTier))

theorem ev_execTick (a1 : List AccountUse) (a2 : List Nat) (a3 : Bool) (a4 : State) (h4 : Evolves w s0 a4) :
    ∀ t, execTick a1 a2 a3 a4 = .next t → Evolves w s0 t := by
  unfold execTick
  refine fun t e => ev_next ?_ e
  repeat' (first | with_reducible (first | assumption | apply ev_newTick | apply ev_setFld | apply ev_settleTick) | intro _ | split | dsimp only | with_reducible (first | apply ev_upd | apply ev_updTier))

theorem ev_execTileRamp (a1 : Parcel) (a2 : State) (h2 : Evolves w s0 a2) :
    ∀ t, execTileRamp a1 a2 = .next t → Evolves w s0 t := by
  unfold execTileRamp
  refine fun t e => ev_next ?_ e
  repeat' (first | with_reducible (first | assumption) | intro _ | split | dsimp only | with_reducible (first | apply ev_upd | apply ev_updTier))

theorem ev_execTolJobFree (a1 : Path) (a2 : Word) (a3 : State) (h3 : Evolves w s0 a3) :
    ∀ t, execTolJobFree a1 a2 a3 = .next t → Evolves w s0 t := by
  unfold execTolJobFree
  refine fun t e => ev_next ?_ e
  repeat' (first | with_reducible (first | assumption | apply ev_freeJob | apply ev_rwl) | intro _ | split | dsimp only | with_reducible (first | apply ev_upd | apply ev_updTier))

theorem ev_ctxResult (a1 : State) (a2 : Path) (a3 : Nat) (h1 : Evolves w s0 a1) :
    Evolves w s0 (State.ctxResult a1 a2 a3) := by
  unfold State.ctxResult
  repeat' (first | with_reducible (first | assumption | apply ev_setBit | apply ev_setFldB) | intro _ | split | dsimp only | with_reducible (first | apply ev_upd | apply ev_updTier))

theorem ev_ctxCommand (a1 : State) (a2 : Path) (a3 : List CtxState) (a4 : Nat → State → State) (h1 : Evolves w s0 a1)
    (h4 : ∀ y1 y2, Evolves w s0 y2 → Evolves w s0 (a4 y1 y2)) :
    Evolves w s0 (State.ctxCommand a1 a2 a3 a4) := by
  unfold State.ctxCommand
  repeat' (first | with_reducible (first | assumption | apply ev_rwl | apply ev_ctxResult | apply h4) | intro _ | split | dsimp only | with_reducible (first | apply ev_upd | apply ev_updTier))

theorem ev_stopFxfer (a1 : State) (a2 a3 a4 : Nat) (h1 : Evolves w s0 a1) :
    Evolves w s0 (State.stopFxfer a1 a2 a3 a4) := by
  unfold State.stopFxfer
  repeat' (first | with_reducible (first | assumption | apply ev_fxFinish | apply ev_fxAnswer | apply ev_fxSetNext | apply ev_endPart) | intro _ | split | dsimp only | with_reducible (first | apply ev_upd | apply ev_updTier))

theorem ev_endParts (a1 : State) (a2 : Desc → Part → Bool) (a3 : Nat) (h1 : Evolves w s0 a1) :
    Evolves w s0 (State.endParts a1 a2 a3) := by
  unfold State.endParts
  repeat' (first | with_reducible (first | assumption | apply ev_collSweep | apply ev_endPart | apply ev_stopFxfer | apply ev_foldl | apply ev_foldl_fst | apply ev_foldl_snd | refine ev_of_snd (by assumption) ?_ | refine ev_of_fst (by assumption) ?_) | intro _ | split | dsimp only | with_reducible (first | apply ev_upd | apply ev_updTier))

theorem ev_abortCtx (a1 : State) (a2 : Path) (h1 : Evolves w s0 a1) :
    Evolves w s0 (State.abortCtx a1 a2) := by
  unfold State.abortCtx
  repeat' (first | with_reducible (first | assumption | apply ev_ctxCommand | apply ev_setCtx | apply ev_ctxResult | apply ev_endParts) | intro _ | split | dsimp only | with_reducible (first | apply ev_upd | apply ev_updTier))

theorem ev_accept (a1 : State) (a2 a3 : Nat) (a4 : BitVec 512) (h1 : Evolves w s0 a1) :
    Evolves w s0 (State.accept a1 a2 a3 a4) := by
  unfold State.accept
  repeat' (first | with_reducible (first | assumption) | intro _ | split | dsimp only | with_reducible (first | apply ev_upd | apply ev_updTier))

theorem ev_bindMarks (a1 : State) (a2 a3 : Nat) (h1 : Evolves w s0 a1) :
    Evolves w s0 (State.bindMarks a1 a2 a3) := by
  unfold State.bindMarks
  repeat' (first | with_reducible (first | assumption | refine ev_of_snd (by assumption) ?_ | refine ev_of_fst (by assumption) ?_) | intro _ | split | dsimp only | with_reducible (first | apply ev_upd | apply ev_updTier))

theorem ev_bmeFlush (a1 : State) (a2 : Nat) (h1 : Evolves w s0 a1) :
    Evolves w s0 (State.bmeFlush a1 a2) := by
  unfold State.bmeFlush
  repeat' (first | with_reducible (first | assumption | apply ev_flushRecords | apply ev_fwuIssue | apply ev_emit | apply ev_foldl | apply ev_foldl_fst | apply ev_foldl_snd | refine ev_of_snd (by assumption) ?_ | refine ev_of_fst (by assumption) ?_) | intro _ | split | dsimp only | with_reducible (first | apply ev_upd | apply ev_updTier))

theorem ev_clearHostErr (a1 : State) (h1 : Evolves w s0 a1) :
    Evolves w s0 (State.clearHostErr a1) := by
  unfold State.clearHostErr
  repeat' (first | with_reducible (first | assumption | apply ev_setRd64 | apply ev_setRd) | intro _ | split | dsimp only | with_reducible (first | apply ev_upd | apply ev_updTier))

theorem ev_unbindMarks (a1 : State) (a2 a3 : Nat) (h1 : Evolves w s0 a1) :
    Evolves w s0 (State.unbindMarks a1 a2 a3) := by
  unfold State.unbindMarks
  repeat' (first | with_reducible (first | assumption | refine ev_of_snd (by assumption) ?_ | refine ev_of_fst (by assumption) ?_) | intro _ | split | dsimp only | with_reducible (first | apply ev_upd | apply ev_updTier))

theorem ev_rebind (a1 : State) (a2 : Nat) (h1 : Evolves w s0 a1) :
    ∀ t, State.rebind a1 a2 = some t → Evolves w s0 t := by
  unfold State.rebind
  intro t e
  dsimp only at e
  split at e
  · injection e with e
    subst e
    exact ev_foldl (ev_foldl h1 fun _ _ h => ev_unbindMarks _ _ _ h) fun _ _ h => ev_bindMarks _ _ _ h
  · contradiction

theorem ev_ctxChecked (a1 : State) (a2 : Path) (a3 : Nat) (a4 : State → State) (h1 : Evolves w s0 a1) (h4 : ∀ y1,
    Evolves w s0 y1 → Evolves w s0 (a4 y1)) :
    Evolves w s0 (State.ctxChecked a1 a2 a3 a4) := by
  unfold State.ctxChecked
  repeat' (first | with_reducible (first | assumption | (refine (ev_rebind _ _ ?_) _ (by assumption)) | apply ev_ctxResult | apply h4) | intro _ | split | dsimp only | with_reducible (first | apply ev_upd | apply ev_updTier))

theorem ev_createCtx (a1 : State) (a2 : Path) (h1 : Evolves w s0 a1) :
    Evolves w s0 (State.createCtx a1 a2) := by
  unfold State.createCtx
  repeat' (first | with_reducible (first | assumption | apply ev_ctxCommand | apply ev_ctxChecked | apply ev_setCtx) | intro _ | split | dsimp only | with_reducible (first | apply ev_upd | apply ev_updTier))

theorem ev_dbBad (a1 : State) (h1 : Evolves w s0 a1) :
    Evolves w s0 (State.dbBad a1) := by
  unfold State.dbBad
  repeat' (first | with_reducible (first | assumption | apply ev_addSat) | intro _ | split | dsimp only | with_reducible (first | apply ev_upd | apply ev_updTier))

theorem ev_dbWord (a1 : State) (a2 a3 a4 : Nat) (a5 : Bool) (a6 : Nat → Nat) (a7 : Nat → Nat → State) (h1 : Evolves w
    s0 a1) (h7 : ∀ y1 y2, Evolves w s0 (a7 y1 y2)) :
    Evolves w s0 (State.dbWord a1 a2 a3 a4 a5 a6 a7) := by
  unfold State.dbWord
  repeat' (first | with_reducible (first | assumption | apply ev_dbBad | apply h7) | intro _ | split | dsimp only | with_reducible (first | apply ev_upd | apply ev_updTier))

theorem ev_destroyCtx (a1 : State) (a2 : Path) (h1 : Evolves w s0 a1) :
    Evolves w s0 (State.destroyCtx a1 a2) := by
  unfold State.destroyCtx
  repeat' (first | with_reducible (first | assumption | apply ev_ctxCommand | apply ev_unbindMarks | apply ev_setCtx | apply ev_ctxResult | apply ev_dropGroups | apply ev_foldl | apply ev_foldl_fst | apply ev_foldl_snd) | intro _ | split | dsimp only | with_reducible (first | apply ev_upd | apply ev_updTier))

theorem ev_disableFn (a1 : State) (a2 : Nat) (a3 a4 : Bool) (h1 : Evolves w s0 a1) :
    Evolves w s0 (State.disableFn a1 a2 a3 a4) := by
  unfold State.disableFn
  repeat' (first | with_reducible (first | assumption | apply ev_fwuReadLost | apply ev_endParts | apply ev_setFn) | intro _ | split | dsimp only | with_reducible (first | apply ev_upd | apply ev_updTier))

theorem ev_fetchDone (a1 : State) (a2 a3 a4 : Nat) (a5 : List Byte) (h1 : Evolves w s0 a1) :
    Evolves w s0 (State.fetchDone a1 a2 a3 a4 a5) := by
  unfold State.fetchDone
  repeat' (first | with_reducible (first | assumption | apply ev_collSweep | apply ev_setCtx | apply ev_accept | apply ev_emit | apply ev_foldl | apply ev_foldl_fst | apply ev_foldl_snd) | intro _ | split | dsimp only | with_reducible (first | apply ev_upd | apply ev_updTier))

theorem ev_fetchFails (a1 : State) (a2 a3 : Nat) (h1 : Evolves w s0 a1) :
    Evolves w s0 (State.fetchFails a1 a2 a3) := by
  unfold State.fetchFails
  repeat' (first | with_reducible (first | assumption | apply ev_stopWith | apply ev_setCtx) | intro _ | split | dsimp only | with_reducible (first | apply ev_upd | apply ev_updTier))

theorem ev_takeRead (a1 : State) (a2 : Nat) (h1 : Evolves w s0 a1) :
    Evolves w s0 (State.takeRead a1 a2) := by
  unfold State.takeRead
  repeat' (first | with_reducible (first | assumption) | intro _ | split | dsimp only | with_reducible (first | apply ev_upd | apply ev_updTier))

theorem ev_writeCtxCfg (a1 : State) (a2 : Path) (a3 : Nat) (a4 : Word) (h1 : Evolves w s0 a1) :
    Evolves w s0 (State.writeCtxCfg a1 a2 a3 a4) := by
  unfold State.writeCtxCfg
  repeat' (first | with_reducible (first | assumption | apply ev_rwl | apply ev_setRdB | apply ev_setBit) | intro _ | split | dsimp only | with_reducible (first | apply ev_upd | apply ev_updTier))

theorem ev_startCtx (a1 : State) (a2 : Path) (h1 : Evolves w s0 a1) :
    Evolves w s0 (State.startCtx a1 a2) := by
  unfold State.startCtx
  repeat' (first | with_reducible (first | assumption | apply ev_ctxCommand | apply ev_ctxChecked | apply ev_setCtx) | intro _ | split | dsimp only | with_reducible (first | apply ev_upd | apply ev_updTier))

theorem ev_rewindCtx (a1 : State) (a2 : Path) (h1 : Evolves w s0 a1) :
    Evolves w s0 (State.rewindCtx a1 a2) := by
  unfold State.rewindCtx
  repeat' (first | with_reducible (first | assumption | apply ev_ctxCommand | apply ev_setCtx | apply ev_ctxResult) | intro _ | split | dsimp only | with_reducible (first | apply ev_upd | apply ev_updTier))

theorem ev_stopCtx (a1 : State) (a2 : Path) (h1 : Evolves w s0 a1) :
    Evolves w s0 (State.stopCtx a1 a2) := by
  unfold State.stopCtx
  repeat' (first | with_reducible (first | assumption | apply ev_ctxCommand | apply ev_setCtx | apply ev_ctxResult) | intro _ | split | dsimp only | with_reducible (first | apply ev_upd | apply ev_updTier))

theorem ev_writeCtxCmd (a1 : State) (a2 : Path) (a3 : Nat) (h1 : Evolves w s0 a1) :
    Evolves w s0 (State.writeCtxCmd a1 a2 a3) := by
  unfold State.writeCtxCmd
  repeat' (first | with_reducible (first | assumption | apply ev_startCtx | apply ev_createCtx | apply ev_rwl | apply ev_rewindCtx | apply ev_stopCtx | apply ev_abortCtx | apply ev_ctxResult | apply ev_destroyCtx) | intro _ | split | dsimp only | with_reducible (first | apply ev_upd | apply ev_updTier))

theorem ev_resetMsix (a1 : State) (a2 : Nat) (h1 : Evolves w s0 a1) :
    Evolves w s0 (State.resetMsix a1 a2) := by
  unfold State.resetMsix
  exact ev_updRegs (s := a1) (storeWf_filter _ _) h1

theorem ev_signalGone (a1 : State) (a2 : Desc) (h1 : Evolves w s0 a1) :
    Evolves w s0 (State.signalGone a1 a2) := by
  unfold State.signalGone
  repeat' (first | with_reducible (first | assumption | apply ev_updMark | apply ev_sendAny) | intro _ | split | dsimp only | with_reducible (first | apply ev_upd | apply ev_updTier))

theorem ev_stopQueues (a1 : State) (a2 : Nat) (h1 : Evolves w s0 a1) :
    Evolves w s0 (State.stopQueues a1 a2) := by
  unfold State.stopQueues
  repeat' (first | with_reducible (first | assumption | apply ev_disableQueue | apply ev_foldl | apply ev_foldl_fst | apply ev_foldl_snd) | intro _ | split | dsimp only | with_reducible (first | apply ev_upd | apply ev_updTier))

theorem ev_execAerUncorrectable (a1 : State) (h1 : Evolves w s0 a1) :
    ∀ t, execAerUncorrectable a1 = .next t → Evolves w s0 t := by
  unfold execAerUncorrectable
  refine fun t e => ev_next ?_ e
  repeat' (first | with_reducible (first | assumption | apply ev_raise) | intro _ | split | dsimp only | with_reducible (first | apply ev_upd | apply ev_updTier))

theorem ev_execApertureAccess (a1 a2 : Nat) (a3 : Option (List Byte)) (a4 : List WordErr) (a5 : State) (h5 : Evolves w
    s0 a5) (whold : w.hold = true := by assumption) :
    ∀ t, execApertureAccess a1 a2 a3 a4 a5 = .next t → Evolves w s0 t := by
  unfold execApertureAccess
  refine fun t e => ev_next ?_ e
  repeat' (first | with_reducible (first | assumption | apply ev_addSat | apply ev_readClean | apply ev_holdPut | apply ev_recordHost | apply ev_emit | refine ev_of_snd (by assumption) ?_ | refine ev_of_fst (by assumption) ?_) | intro _ | split | dsimp only | with_reducible (first | apply ev_upd | apply ev_updTier))

theorem ev_execAtsInvalidate (a1 : Nat) (a2 : List Nat) (a3 : State) (h3 : Evolves w s0 a3) :
    ∀ t, execAtsInvalidate a1 a2 a3 = .next t → Evolves w s0 t := by
  unfold execAtsInvalidate
  refine fun t e => ev_next ?_ e
  repeat' (first | with_reducible (first | assumption | apply ev_emit) | intro _ | split | dsimp only | with_reducible (first | apply ev_upd | apply ev_updTier))

theorem ev_execBar0BadAccess (a1 : Fin 1024) (a2 a3 : Nat) (a4 : Bool) (a5 : State) (h5 : Evolves w s0 a5) :
    ∀ t, execBar0BadAccess a1 a2 a3 a4 a5 = .next t → Evolves w s0 t := by
  unfold execBar0BadAccess
  refine fun t e => ev_next ?_ e
  repeat' (first | with_reducible (first | assumption | apply ev_addSat | apply ev_recordHost | apply ev_emit) | intro _ | split | dsimp only | with_reducible (first | apply ev_upd | apply ev_updTier))

theorem ev_execBmeClear (a1 : Fin 1024) (a2 : State) (h2 : Evolves w s0 a2) :
    ∀ t, execBmeClear a1 a2 = .next t → Evolves w s0 t := by
  unfold execBmeClear
  refine fun t e => ev_next ?_ e
  repeat' (first | with_reducible (first | assumption | apply ev_setFn) | intro _ | split | dsimp only | with_reducible (first | apply ev_upd | apply ev_updTier))

theorem ev_execBmeLimitExpiry (a1 : Fin 1024) (a2 : State) (h2 : Evolves w s0 a2) :
    ∀ t, execBmeLimitExpiry a1 a2 = .next t → Evolves w s0 t := by
  unfold execBmeLimitExpiry
  refine fun t e => ev_next ?_ e
  repeat' (first | with_reducible (first | assumption | apply ev_atDeadline | apply ev_disableFn) | intro _ | split | dsimp only | with_reducible (first | apply ev_upd | apply ev_updTier))

theorem ev_execBmeSet (a1 : Fin 1024) (a2 : State) (h2 : Evolves w s0 a2) :
    ∀ t, execBmeSet a1 a2 = .next t → Evolves w s0 t := by
  unfold execBmeSet
  refine fun t e => ev_next ?_ e
  repeat' (first | with_reducible (first | assumption | apply ev_bmeFlush | apply ev_setFn) | intro _ | split | dsimp only | with_reducible (first | apply ev_upd | apply ev_updTier))

theorem ev_execCompletionHead (a1 : Fin 1024) (a2 : Fin 128) (a3 : Word) (a4 : Bool) (a5 : State) (h5 : Evolves w s0
    a5) :
    ∀ t, execCompletionHead a1 a2 a3 a4 a5 = .next t → Evolves w s0 t := by
  unfold execCompletionHead
  refine fun t e => ev_next ?_ e
  repeat' (first | with_reducible (first | assumption | apply ev_addSat | apply ev_dbWord | apply ev_dbBad | apply ev_flushHeld | apply ev_setCtx) | intro _ | split | dsimp only | with_reducible (first | apply ev_upd | apply ev_updTier))

theorem ev_execContextConfigWrite (a1 : Path) (a2 : Nat) (a3 : Word) (a4 : State) (h4 : Evolves w s0 a4) :
    ∀ t, execContextConfigWrite a1 a2 a3 a4 = .next t → Evolves w s0 t := by
  unfold execContextConfigWrite
  refine fun t e => ev_next ?_ e
  repeat' (first | with_reducible (first | assumption | apply ev_writeCtxCfg) | intro _ | split | dsimp only | with_reducible (first | apply ev_upd | apply ev_updTier))

theorem ev_execCtxAbort (a1 : Path) (a2 : State) (h2 : Evolves w s0 a2) :
    ∀ t, execCtxAbort a1 a2 = .next t → Evolves w s0 t := by
  unfold execCtxAbort
  refine fun t e => ev_next ?_ e
  repeat' (first | with_reducible (first | assumption | apply ev_abortCtx) | intro _ | split | dsimp only | with_reducible (first | apply ev_upd | apply ev_updTier))

theorem ev_execCtxCreate (a1 : Path) (a2 : State) (h2 : Evolves w s0 a2) :
    ∀ t, execCtxCreate a1 a2 = .next t → Evolves w s0 t := by
  unfold execCtxCreate
  refine fun t e => ev_next ?_ e
  repeat' (first | with_reducible (first | assumption | apply ev_createCtx) | intro _ | split | dsimp only | with_reducible (first | apply ev_upd | apply ev_updTier))

theorem ev_execCtxDestroy (a1 : Path) (a2 : State) (h2 : Evolves w s0 a2) :
    ∀ t, execCtxDestroy a1 a2 = .next t → Evolves w s0 t := by
  unfold execCtxDestroy
  refine fun t e => ev_next ?_ e
  repeat' (first | with_reducible (first | assumption | apply ev_destroyCtx) | intro _ | split | dsimp only | with_reducible (first | apply ev_upd | apply ev_updTier))

theorem ev_execCtxRewind (a1 : Path) (a2 : State) (h2 : Evolves w s0 a2) :
    ∀ t, execCtxRewind a1 a2 = .next t → Evolves w s0 t := by
  unfold execCtxRewind
  refine fun t e => ev_next ?_ e
  repeat' (first | with_reducible (first | assumption | apply ev_rewindCtx) | intro _ | split | dsimp only | with_reducible (first | apply ev_upd | apply ev_updTier))

theorem ev_execCtxStart (a1 : Path) (a2 : State) (h2 : Evolves w s0 a2) :
    ∀ t, execCtxStart a1 a2 = .next t → Evolves w s0 t := by
  unfold execCtxStart
  refine fun t e => ev_next ?_ e
  repeat' (first | with_reducible (first | assumption | apply ev_startCtx) | intro _ | split | dsimp only | with_reducible (first | apply ev_upd | apply ev_updTier))

theorem ev_execCtxStop (a1 : Path) (a2 : State) (h2 : Evolves w s0 a2) :
    ∀ t, execCtxStop a1 a2 = .next t → Evolves w s0 t := by
  unfold execCtxStop
  refine fun t e => ev_next ?_ e
  repeat' (first | with_reducible (first | assumption | apply ev_stopCtx) | intro _ | split | dsimp only | with_reducible (first | apply ev_upd | apply ev_updTier))

theorem ev_execDescriptorFetch (a1 : Fin 4096) (a2 : Bool) (a3 : State) (h3 : Evolves w s0 a3) :
    ∀ t, execDescriptorFetch a1 a2 a3 = .next t → Evolves w s0 t := by
  unfold execDescriptorFetch
  refine fun t e => ev_next ?_ e
  repeat' (first | with_reducible (first | assumption | apply ev_hostReadFor | apply ev_bmeWaits | apply ev_recordHost | apply ev_fetchFails | apply ev_setCtx) | intro _ | split | dsimp only | with_reducible (first | apply ev_upd | apply ev_updTier))

theorem ev_execDoorbell (a1 : Fin 1024) (a2 : Fin 128) (a3 : Word) (a4 : Bool) (a5 : State) (h5 : Evolves w s0 a5) :
    ∀ t, execDoorbell a1 a2 a3 a4 a5 = .next t → Evolves w s0 t := by
  unfold execDoorbell
  refine fun t e => ev_next ?_ e
  repeat' (first | with_reducible (first | assumption | apply ev_doorbellWake | apply ev_addSat | apply ev_stopWith | apply ev_dbWord | apply ev_setCtx) | intro _ | split | dsimp only | with_reducible (first | apply ev_upd | apply ev_updTier))

theorem ev_execFetchComplete (a1 : Fin 4096) (a2 : List Byte) (a3 : State) (h3 : Evolves w s0 a3) :
    ∀ t, execFetchComplete a1 a2 a3 = .next t → Evolves w s0 t := by
  unfold execFetchComplete
  refine fun t e => ev_next ?_ e
  repeat' (first | with_reducible (first | assumption | apply ev_takeRead | apply ev_fetchDone) | intro _ | split | dsimp only | with_reducible (first | apply ev_upd | apply ev_updTier))

theorem ev_execFlr (a1 : Fin 1024) (a2 : State) (h2 : Evolves w s0 a2) :
    ∀ t, execFlr a1 a2 = .next t → Evolves w s0 t := by
  unfold execFlr
  refine fun t e => ev_next ?_ e
  repeat' (first | with_reducible (first | assumption | apply ev_disableFn | apply ev_foldl | apply ev_foldl_fst | apply ev_foldl_snd | refine ev_of_snd (by assumption) ?_ | refine ev_of_fst (by assumption) ?_) | intro _ | split | dsimp only | with_reducible (first | apply ev_upd | apply ev_updTier))

theorem ev_execFunctionDisableDone (a1 : Fin 1024) (a2 : State) (h2 : Evolves w s0 a2) :
    ∀ t, execFunctionDisableDone a1 a2 = .next t → Evolves w s0 t := by
  unfold execFunctionDisableDone
  refine fun t e => ev_next ?_ e
  repeat' (first | with_reducible (first | assumption | apply ev_resetMsix | apply ev_gwDisable | apply ev_stopQueues | apply ev_collSweep | apply ev_mapParts | apply ev_signalGone | apply ev_emit | apply ev_setFn | apply ev_foldl | apply ev_foldl_fst | apply ev_foldl_snd | refine ev_of_snd (by assumption) ?_ | refine ev_of_fst (by assumption) ?_) | intro _ | split | dsimp only | with_reducible (first | apply ev_upd | apply ev_updTier))

theorem ev_execHifErrClr (a1 : Path) (a2 : Word) (a3 : State) (h3 : Evolves w s0 a3) :
    ∀ t, execHifErrClr a1 a2 a3 = .next t → Evolves w s0 t := by
  unfold execHifErrClr
  refine fun t e => ev_next ?_ e
  repeat' (first | with_reducible (first | assumption | apply ev_rwl | apply ev_clearHostErr) | intro _ | split | dsimp only | with_reducible (first | apply ev_upd | apply ev_updTier))

theorem ev_execHostLinkTraining (a1 a2 : Nat) (a3 : Bool) (a4 : State) (h4 : Evolves w s0 a4) :
    ∀ t, execHostLinkTraining a1 a2 a3 a4 = .next t → Evolves w s0 t := by
  unfold execHostLinkTraining
  refine fun t e => ev_next ?_ e
  repeat' (first | with_reducible (first | assumption | apply ev_setFld | apply ev_raise | apply ev_setRd) | intro _ | split | dsimp only | with_reducible (first | apply ev_upd | apply ev_updTier))

theorem ev_execStoppingDrained (a1 : Fin 4096) (a2 : State) (h2 : Evolves w s0 a2) :
    ∀ t, execStoppingDrained a1 a2 = .next t → Evolves w s0 t := by
  unfold execStoppingDrained
  refine fun t e => ev_next ?_ e
  repeat' (first | with_reducible (first | assumption | apply ev_setCtx) | intro _ | split | dsimp only | with_reducible (first | apply ev_upd | apply ev_updTier))

theorem ev_execVfDisable (a1 : Bool) (a2 : Fin 1024) (a3 : State) (h3 : Evolves w s0 a3) :
    ∀ t, execVfDisable a1 a2 a3 = .next t → Evolves w s0 t := by
  unfold execVfDisable
  refine fun t e => ev_next ?_ e
  repeat' (first | with_reducible (first | assumption | apply ev_disableFn | apply ev_foldl | apply ev_foldl_fst | apply ev_foldl_snd | refine ev_of_snd (by assumption) ?_ | refine ev_of_fst (by assumption) ?_) | intro _ | split | dsimp only | with_reducible (first | apply ev_upd | apply ev_updTier))

theorem ev_execVfEnable (a1 : Fin 1024) (a2 : State) (h2 : Evolves w s0 a2) :
    ∀ t, execVfEnable a1 a2 = .next t → Evolves w s0 t := by
  unfold execVfEnable
  refine fun t e => ev_next ?_ e
  repeat' (first | with_reducible (first | assumption | apply ev_setFn | apply ev_foldl | apply ev_foldl_fst | apply ev_foldl_snd) | intro _ | split | dsimp only | with_reducible (first | apply ev_upd | apply ev_updTier))

end Sys2Proof.Laws
end

