-- ==== Sys2Proof/Laws/EvDevice.lean ====
section
/-! SUPPORT. What a command may do to the state (Evolves), for every function of non-volatile data, resets, power, recovery, bring-up and firmware.
-/

set_option Elab.async false
set_option linter.unreachableTactic false
set_option linter.unusedTactic false
set_option linter.unusedVariables false

namespace Sys2Proof.Laws

open Sys2Proof.Machine Sys2Proof.Safety

variable {w : Areas} {s0 : State}

theorem ev_mirrorSlot (a1 : State) (a2 : Nat) (h1 : Evolves w s0 a1) :
    Evolves w s0 (State.mirrorSlot a1 a2) := by
  unfold State.mirrorSlot
  repeat' (first | with_reducible (first | assumption | apply ev_setRd) | intro _ | split | dsimp only | with_reducible (first | apply ev_upd | apply ev_updTier))

theorem ev_nvMirror (a1 : State) (h1 : Evolves w s0 a1) :
    Evolves w s0 (State.nvMirror a1) := by
  unfold State.nvMirror
  repeat' (first | with_reducible (first | assumption | apply ev_mirrorSlot | apply ev_setFld | apply ev_foldl | apply ev_foldl_fst | apply ev_foldl_snd) | intro _ | split | dsimp only | with_reducible (first | apply ev_upd | apply ev_updTier))

theorem ev_nvApply (a1 : State) (a2 : NvWrite) (h1 : Evolves w s0 a1) (wnv : w.nv = true := by assumption) :
    Evolves w s0 (State.nvApply a1 a2) := by
  unfold State.nvApply
  repeat' (first | with_reducible (first | assumption | apply ev_nvMirror | apply ev_setBit) | intro _ | split | dsimp only | with_reducible (first | apply ev_upd | apply ev_updTier | apply ev_updNv))

theorem ev_nvWrite (a1 : State) (a2 : NvWrite) (h1 : Evolves w s0 a1) (wnv : w.nv = true := by assumption) :
    Evolves w s0 (State.nvWrite a1 a2) := by
  unfold State.nvWrite
  repeat' (first | with_reducible (first | assumption | apply ev_nvApply) | intro _ | split | dsimp only | with_reducible (first | apply ev_upd | apply ev_updTier | apply ev_updNv))

theorem ev_bootRecord (a1 : State) (a2 a3 : Nat) (h1 : Evolves w s0 a1) (wnv : w.nv = true := by assumption) :
    Evolves w s0 (State.bootRecord a1 a2 a3) := by
  unfold State.bootRecord
  repeat' (first | with_reducible (first | assumption | apply ev_nvWrite) | intro _ | split | dsimp only | with_reducible (first | apply ev_upd | apply ev_updTier | apply ev_updNv))

theorem ev_enterRecovery (a1 : State) (a2 : ActRec) (a3 : Nat) (h1 : Evolves w s0 a1) (wnv : w.nv = true := by
    assumption) :
    Evolves w s0 (State.enterRecovery a1 a2 a3) := by
  unfold State.enterRecovery
  repeat' (first | with_reducible (first | assumption | apply ev_setBit | apply ev_nvWrite | apply ev_raise | apply ev_bootRecord) | intro _ | split | dsimp only | with_reducible (first | apply ev_upd | apply ev_updTier | apply ev_updNv))

theorem ev_noteFallBack (a1 : State) (a2 : Nat) (h1 : Evolves w s0 a1) (wnv : w.nv = true := by assumption) :
    Evolves w s0 (State.noteFallBack a1 a2) := by
  unfold State.noteFallBack
  repeat' (first | with_reducible (first | assumption | apply ev_setBit | apply ev_bootRecord) | intro _ | split | dsimp only | with_reducible (first | apply ev_upd | apply ev_updTier | apply ev_updNv))

theorem ev_bootKinds (a1 : State) (a2 : ActRec) (a3 : List Nat) (h1 : Evolves w s0 a1) (wnv : w.nv = true := by assumption) :
    Evolves w s0 (State.bootKinds a1 a2 a3) := by
  induction a3 generalizing a1 a2 with
  | nil => exact h1
  | cons k ks ih =>
    unfold State.bootKinds
    dsimp only
    split
    · exact ih _ _ h1
    · split
      · exact ev_enterRecovery _ _ _ h1
      · exact ih _ _ (ev_noteFallBack _ _ (ev_nvWrite _ _ h1))

theorem ev_setRcvd (a1 : State) (a2 : Nat) (h1 : Evolves w s0 a1) :
    Evolves w s0 (State.setRcvd a1 a2) := by
  unfold State.setRcvd
  repeat' (first | with_reducible (first | assumption | apply ev_setFld | apply ev_foldl | apply ev_foldl_fst | apply ev_foldl_snd) | intro _ | split | dsimp only | with_reducible (first | apply ev_upd | apply ev_updTier))

theorem ev_noteRcvd (a1 : State) (h1 : Evolves w s0 a1) :
    Evolves w s0 (State.noteRcvd a1) := by
  unfold State.noteRcvd
  repeat' (first | with_reducible (first | assumption | apply ev_setFld) | intro _ | split | dsimp only | with_reducible (first | apply ev_upd | apply ev_updTier))

theorem ev_loadPlan (a1 : State) (h1 : Evolves w s0 a1) :
    Evolves w s0 (State.loadPlan a1) := by
  unfold State.loadPlan
  repeat' (first | with_reducible (first | assumption | apply ev_setBit | apply ev_setFld | apply ev_setRd64 | apply ev_foldl | apply ev_foldl_fst | apply ev_foldl_snd | refine ev_of_snd (by assumption) ?_ | refine ev_of_fst (by assumption) ?_) | intro _ | split | dsimp only | with_reducible (first | apply ev_upd | apply ev_updTier))

theorem ev_restoreSession (a1 : State) (h1 : Evolves w s0 a1) :
    Evolves w s0 (State.restoreSession a1) := by
  unfold State.restoreSession
  repeat' (first | with_reducible (first | assumption | apply ev_setFld | apply ev_setRcvd | apply ev_noteRcvd) | intro _ | split | dsimp only | with_reducible (first | apply ev_upd | apply ev_updTier))

theorem ev_mount (a1 : State) (h1 : Evolves w s0 a1) :
    Evolves w s0 (State.mount a1) := by
  unfold State.mount
  repeat' (first | with_reducible (first | assumption | apply ev_nvMirror | apply ev_restoreSession | apply ev_setBit | apply ev_raise | refine ev_of_snd (by assumption) ?_ | refine ev_of_fst (by assumption) ?_) | intro _ | split | dsimp only | with_reducible (first | apply ev_upd | apply ev_updTier))

theorem ev_nvDrain (a1 : State) (h1 : Evolves w s0 a1) (wnv : w.nv = true := by assumption) :
    Evolves w s0 (State.nvDrain a1) := by
  unfold State.nvDrain
  repeat' (first | with_reducible (first | assumption | apply ev_nvWrite | apply ev_foldl | apply ev_foldl_fst | apply ev_foldl_snd) | intro _ | split | dsimp only | with_reducible (first | apply ev_upd | apply ev_updTier | apply ev_updNv))

theorem ev_romBoot (a1 : State) (h1 : Evolves w s0 a1) (wnv : w.nv = true := by assumption) :
    Evolves w s0 (State.romBoot a1) := by
  unfold State.romBoot
  repeat' (first | with_reducible (first | assumption | apply ev_enterRecovery | apply ev_bootKinds | apply ev_nvWrite | apply ev_noteFallBack | apply ev_foldl | apply ev_foldl_fst | apply ev_foldl_snd) | intro _ | split | dsimp only | with_reducible (first | apply ev_upd | apply ev_updTier | apply ev_updNv))

theorem ev_dropRegs (a1 : State) (a2 : Nat → Bool) (h1 : Evolves w s0 a1) :
    Evolves w s0 (State.dropRegs a1 a2) := by
  unfold State.dropRegs
  exact ev_updRegs (storeWf_filter _ _) h1

theorem ev_recordCause (a1 : State) (a2 a3 a4 : Nat) (h1 : Evolves w s0 a1) :
    Evolves w s0 (State.recordCause a1 a2 a3 a4) := by
  unfold State.recordCause
  repeat' (first | with_reducible (first | assumption | apply ev_setRd64 | apply ev_setRd) | intro _ | split | dsimp only | with_reducible (first | apply ev_upd | apply ev_updTier))

theorem ev_resetColl (a1 : State) (h1 : Evolves w s0 a1) :
    Evolves w s0 (State.resetColl a1) := by
  unfold State.resetColl
  repeat' (first | with_reducible (first | assumption | apply ev_advanceSeq | apply ev_collMark | apply ev_endPart | apply ev_foldl | apply ev_foldl_fst | apply ev_foldl_snd | refine ev_of_snd (by assumption) ?_ | refine ev_of_fst (by assumption) ?_) | intro _ | split | dsimp only | with_reducible (first | apply ev_upd | apply ev_updTier))

theorem ev_resetEth (a1 : State) (a2 : Nat) (a3 : Bool) (h1 : Evolves w s0 a1) :
    Evolves w s0 (State.resetEth a1 a2 a3) := by
  unfold State.resetEth
  repeat' (first | with_reducible (first | assumption | apply ev_addSat | apply ev_dropRegs) | intro _ | split | dsimp only | with_reducible (first | apply ev_upd | apply ev_updTier))

theorem ev_resetFt (a1 : State) (a2 : Nat) (h1 : Evolves w s0 a1) :
    Evolves w s0 (State.resetFt a1 a2) := by
  unfold State.resetFt
  repeat' (first | with_reducible (first | assumption | apply ev_failPort | apply ev_setFarCtl | apply ev_setFld | apply ev_dropRegs) | intro _ | split | dsimp only | with_reducible (first | apply ev_upd | apply ev_updTier))

theorem ev_resetLink (a1 : State) (a2 : Nat) (h1 : Evolves w s0 a1) :
    Evolves w s0 (State.resetLink a1 a2) := by
  unfold State.resetLink
  repeat' (first | with_reducible (first | assumption | apply ev_leaveUp | apply ev_returnCredits | apply ev_setFld | apply ev_dropCur | apply ev_dropRegs | apply ev_discardStale | apply ev_lostPacket | apply ev_setLink | apply ev_foldl | apply ev_foldl_fst | apply ev_foldl_snd | refine ev_of_snd (by assumption) ?_ | refine ev_of_fst (by assumption) ?_) | intro _ | split | dsimp only | with_reducible (first | apply ev_upd | apply ev_updTier))

theorem ev_resetFab (a1 : State) (h1 : Evolves w s0 a1) :
    Evolves w s0 (State.resetFab a1) := by
  unfold State.resetFab
  repeat' (first | with_reducible (first | assumption | apply ev_setFld | apply ev_dropRegs | apply ev_lostPacket | apply ev_foldl | apply ev_foldl_fst | apply ev_foldl_snd | refine ev_of_snd (by assumption) ?_ | refine ev_of_fst (by assumption) ?_) | intro _ | split | dsimp only | with_reducible (first | apply ev_upd | apply ev_updTier))

theorem ev_blockReset (a1 : State) (a2 : Nat) (a3 : Bool) (h1 : Evolves w s0 a1) :
    Evolves w s0 (State.blockReset a1 a2 a3) := by
  unfold State.blockReset
  repeat' (first | with_reducible (first | assumption | apply ev_resetColl | apply ev_setBit | apply ev_resetEth | apply ev_resetFt | apply ev_resetLink | apply ev_resetFab | apply ev_recordCause | refine ev_of_snd (by assumption) ?_ | refine ev_of_fst (by assumption) ?_) | intro _ | split | dsimp only | with_reducible (first | apply ev_upd | apply ev_updTier))

theorem ev_clockLost (a1 : State) (a2 : Fld) (h1 : Evolves w s0 a1) :
    Evolves w s0 (State.clockLost a1 a2) := by
  unfold State.clockLost
  repeat' (first | with_reducible (first | assumption | apply ev_addSat | apply ev_setBit | apply ev_enterSafe | apply ev_raise | apply ev_enterTrain | apply ev_foldl | apply ev_foldl_fst | apply ev_foldl_snd) | intro _ | split | dsimp only | with_reducible (first | apply ev_upd | apply ev_updTier))

theorem ev_deviceReset (a1 : State) (a2 : Bool) (h1 : Evolves w s0 a1) (whold : w.hold = true := by assumption) (wnv : w.nv = true := by assumption) (wown : w.own = true := by assumption) :
    Evolves w s0 (State.deviceReset a1 a2) := by
  unfold State.deviceReset
  refine ev_setFld _ _ _ (ev_trans h1 ⟨rfl, rfl, le_refl _, le_refl _, List.prefix_refl _, fun h => ?_,
    fun h => ⟨rfl, h.2⟩, by simp [whold], fun _ => ⟨rfl, rfl⟩, by simp [wnv], by simp [wown]⟩)
  simp only [RegsOk]
  split
  · rfl
  · exact storeWf_filter _ _ h

theorem ev_judgePlan (a1 : State) (a2 : Nat) (h1 : Evolves w s0 a1) :
    Evolves w s0 (State.judgePlan a1 a2) := by
  unfold State.judgePlan
  repeat' (first | with_reducible (first | assumption | apply ev_degrade) | intro _ | split | dsimp only | with_reducible (first | apply ev_upd | apply ev_updTier))

theorem ev_levelReset (a1 : State) (a2 : Nat) (h1 : Evolves w s0 a1) :
    Evolves w s0 (State.levelReset a1 a2) := by
  unfold State.levelReset
  repeat' (first | with_reducible (first | assumption | apply ev_requestReset) | intro _ | split | dsimp only | with_reducible (first | apply ev_upd | apply ev_updTier))

theorem ev_restartWdt (a1 : State) (h1 : Evolves w s0 a1) :
    Evolves w s0 (State.restartWdt a1) := by
  unfold State.restartWdt
  repeat' (first | with_reducible (first | assumption) | intro _ | split | dsimp only | with_reducible (first | apply ev_upd | apply ev_updTier))

theorem ev_writeWdtCfg (a1 : State) (a2 : Path) (a3 : Word) (h1 : Evolves w s0 a1) :
    Evolves w s0 (State.writeWdtCfg a1 a2 a3) := by
  unfold State.writeWdtCfg
  repeat' (first | with_reducible (first | assumption | apply ev_restartWdt | apply ev_setRd) | intro _ | split | dsimp only | with_reducible (first | apply ev_upd | apply ev_updTier))

theorem ev_releaseEngines (a1 : State) (a2 : Nat) (h1 : Evolves w s0 a1) :
    Evolves w s0 (State.releaseEngines a1 a2) := by
  unfold State.releaseEngines
  repeat' (first | with_reducible (first | assumption | apply ev_refreshUnits | apply ev_setFld | apply ev_setRd64 | apply ev_refreshTiles) | intro _ | split | dsimp only | with_reducible (first | apply ev_upd | apply ev_updTier))

theorem ev_releaseHold (a1 : State) (a2 : Nat) (h1 : Evolves w s0 a1) :
    Evolves w s0 (State.releaseHold a1 a2) := by
  unfold State.releaseHold
  repeat' (first | with_reducible (first | assumption | apply ev_setRd64 | apply ev_setRd | apply ev_foldl | apply ev_foldl_fst | apply ev_foldl_snd) | intro _ | split | dsimp only | with_reducible (first | apply ev_upd | apply ev_updTier))

theorem ev_releaseStep (a1 : State) (a2 : Nat) (h1 : Evolves w s0 a1) (wnv : w.nv = true := by assumption) :
    Evolves w s0 (State.releaseStep a1 a2) := by
  unfold State.releaseStep
  repeat' (first | with_reducible (first | assumption | apply ev_advanceTo | apply ev_mount | apply ev_setBit | apply ev_loadPlan | apply ev_restartWdt | apply ev_setFld | apply ev_releaseEngines | apply ev_romBoot | apply ev_releaseHold | apply ev_judgePlan | apply ev_foldl | apply ev_foldl_fst | apply ev_foldl_snd) | intro _ | split | dsimp only | with_reducible (first | apply ev_upd | apply ev_updTier | apply ev_updNv))

theorem ev_settlePulse (a1 : State) (a2 : Bool) (h1 : Evolves w s0 a1) (wown : w.own = true := by assumption) :
    Evolves w s0 (State.settlePulse a1 a2) := by
  unfold State.settlePulse
  repeat' (first | with_reducible (first | assumption | apply ev_free | refine ev_of_snd (by assumption) ?_ | refine ev_of_fst (by assumption) ?_) | intro _ | split | dsimp only | with_reducible (first | apply ev_upd | apply ev_updTier | apply ev_updOwn))

theorem ev_execBlockResetRelease (a1 : Fin 40) (a2 : State) (h2 : Evolves w s0 a2) :
    ∀ t, execBlockResetRelease a1 a2 = .next t → Evolves w s0 t := by
  unfold execBlockResetRelease
  refine fun t e => ev_next ?_ e
  repeat' (first | with_reducible (first | assumption | apply ev_travStart | apply ev_atDeadline | apply ev_setFld | apply ev_foldl | apply ev_foldl_fst | apply ev_foldl_snd) | intro _ | split | dsimp only | with_reducible (first | apply ev_upd | apply ev_updTier))

theorem ev_execColBlockReset (a1 : Path) (a2 : State) (h2 : Evolves w s0 a2) :
    ∀ t, execColBlockReset a1 a2 = .next t → Evolves w s0 t := by
  unfold execColBlockReset
  refine fun t e => ev_next ?_ e
  repeat' (first | with_reducible (first | assumption | apply ev_rwl | apply ev_blockReset) | intro _ | split | dsimp only | with_reducible (first | apply ev_upd | apply ev_updTier))

theorem ev_execCrossingWake (a1 : Nat) (a2 : State) (h2 : Evolves w s0 a2) :
    ∀ t, execCrossingWake a1 a2 = .next t → Evolves w s0 t := by
  unfold execCrossingWake
  refine fun t e => ev_next ?_ e
  repeat' (first | with_reducible (first | assumption) | intro _ | split | dsimp only | with_reducible (first | apply ev_upd | apply ev_updTier))

theorem ev_execDeviceResetAssert (a1 : Option Bool) (a2 : State) (h2 : Evolves w s0 a2) (whold : w.hold = true := by
    assumption) (wnv : w.nv = true := by assumption) (wown : w.own = true := by assumption) :
    ∀ t, execDeviceResetAssert a1 a2 = .next t → Evolves w s0 t := by
  unfold execDeviceResetAssert
  refine fun t e => ev_next ?_ e
  repeat' (first | with_reducible (first | assumption | apply ev_setFld | apply ev_deviceReset | apply ev_settlePulse | refine ev_of_snd (by assumption) ?_ | refine ev_of_fst (by assumption) ?_) | intro _ | split | dsimp only | with_reducible (first | apply ev_upd | apply ev_updTier | apply ev_updNv | apply ev_updOwn))

theorem ev_execEthBlockReset (a1 : Path) (a2 : Fin 2) (a3 : Bool) (a4 : State) (h4 : Evolves w s0 a4) :
    ∀ t, execEthBlockReset a1 a2 a3 a4 = .next t → Evolves w s0 t := by
  unfold execEthBlockReset
  refine fun t e => ev_next ?_ e
  repeat' (first | with_reducible (first | assumption | apply ev_rwl | apply ev_blockReset) | intro _ | split | dsimp only | with_reducible (first | apply ev_upd | apply ev_updTier))

theorem ev_execFabBlockReset (a1 : Path) (a2 : State) (h2 : Evolves w s0 a2) :
    ∀ t, execFabBlockReset a1 a2 = .next t → Evolves w s0 t := by
  unfold execFabBlockReset
  refine fun t e => ev_next ?_ e
  repeat' (first | with_reducible (first | assumption | apply ev_rwl | apply ev_blockReset) | intro _ | split | dsimp only | with_reducible (first | apply ev_upd | apply ev_updTier))

theorem ev_execFtBlockReset (a1 : Path) (a2 : Fin 4) (a3 : State) (h3 : Evolves w s0 a3) :
    ∀ t, execFtBlockReset a1 a2 a3 = .next t → Evolves w s0 t := by
  unfold execFtBlockReset
  refine fun t e => ev_next ?_ e
  repeat' (first | with_reducible (first | assumption | apply ev_rwl | apply ev_blockReset) | intro _ | split | dsimp only | with_reducible (first | apply ev_upd | apply ev_updTier))

theorem ev_execLnkBlockReset (a1 : Path) (a2 : Port) (a3 : State) (h3 : Evolves w s0 a3) :
    ∀ t, execLnkBlockReset a1 a2 a3 = .next t → Evolves w s0 t := by
  unfold execLnkBlockReset
  refine fun t e => ev_next ?_ e
  repeat' (first | with_reducible (first | assumption | apply ev_rwl | apply ev_blockReset) | intro _ | split | dsimp only | with_reducible (first | apply ev_upd | apply ev_updTier))

theorem ev_execPerst (a1 : State) (h1 : Evolves w s0 a1) :
    ∀ t, execPerst a1 = .next t → Evolves w s0 t := by
  unfold execPerst
  refine fun t e => ev_next ?_ e
  repeat' (first | with_reducible (first | assumption | apply ev_levelReset) | intro _ | split | dsimp only | with_reducible (first | apply ev_upd | apply ev_updTier))

theorem ev_execPllLockLost (a1 : State) (h1 : Evolves w s0 a1) :
    ∀ t, execPllLockLost a1 = .next t → Evolves w s0 t := by
  unfold execPllLockLost
  refine fun t e => ev_next ?_ e
  repeat' (first | with_reducible (first | assumption | apply ev_clockLost | apply ev_setFld) | intro _ | split | dsimp only | with_reducible (first | apply ev_upd | apply ev_updTier))

theorem ev_execPllRelock (a1 : State) (h1 : Evolves w s0 a1) :
    ∀ t, execPllRelock a1 = .next t → Evolves w s0 t := by
  unfold execPllRelock
  refine fun t e => ev_next ?_ e
  repeat' (first | with_reducible (first | assumption | apply ev_setBit | apply ev_setFld) | intro _ | split | dsimp only | with_reducible (first | apply ev_upd | apply ev_updTier))

theorem ev_execPowerOn (a1 : State) (h1 : Evolves w s0 a1) :
    ∀ t, execPowerOn a1 = .next t → Evolves w s0 t := by
  unfold execPowerOn
  refine fun t e => ev_next ?_ e
  repeat' (first | with_reducible (first | assumption | apply ev_levelReset) | intro _ | split | dsimp only | with_reducible (first | apply ev_upd | apply ev_updTier))

theorem ev_execRefMeasure (a1 : BitVec 20) (a2 : State) (h2 : Evolves w s0 a2) :
    ∀ t, execRefMeasure a1 a2 = .next t → Evolves w s0 t := by
  unfold execRefMeasure
  refine fun t e => ev_next ?_ e
  repeat' (first | with_reducible (first | assumption | apply ev_setBit | apply ev_clockLost | apply ev_setFld) | intro _ | split | dsimp only | with_reducible (first | apply ev_upd | apply ev_updTier))

theorem ev_execResetDeasserted (a1 : Fin 4) (a2 : State) (h2 : Evolves w s0 a2) :
    ∀ t, execResetDeasserted a1 a2 = .next t → Evolves w s0 t := by
  unfold execResetDeasserted
  refine fun t e => ev_next ?_ e
  repeat' (first | with_reducible (first | assumption) | intro _ | split | dsimp only | with_reducible (first | apply ev_upd | apply ev_updTier))

theorem ev_execResetReleaseStep (a1 : Bool) (a2 : State) (h2 : Evolves w s0 a2) (wnv : w.nv = true := by assumption) :
    ∀ t, execResetReleaseStep a1 a2 = .next t → Evolves w s0 t := by
  unfold execResetReleaseStep
  refine fun t e => ev_next ?_ e
  repeat' (first | with_reducible (first | assumption | apply ev_advanceTo | apply ev_releaseStep | apply ev_recordCause | refine ev_of_snd (by assumption) ?_ | refine ev_of_fst (by assumption) ?_) | intro _ | split | dsimp only | with_reducible (first | apply ev_upd | apply ev_updTier | apply ev_updNv))

theorem ev_execRstGo (a1 : Path) (a2 : Word) (a3 : State) (h3 : Evolves w s0 a3) :
    ∀ t, execRstGo a1 a2 a3 = .next t → Evolves w s0 t := by
  unfold execRstGo
  refine fun t e => ev_next ?_ e
  repeat' (first | with_reducible (first | assumption | apply ev_requestReset | apply ev_rwl) | intro _ | split | dsimp only | with_reducible (first | apply ev_upd | apply ev_updTier))

theorem ev_execSysReset (a1 : State) (h1 : Evolves w s0 a1) :
    ∀ t, execSysReset a1 = .next t → Evolves w s0 t := by
  unfold execSysReset
  refine fun t e => ev_next ?_ e
  repeat' (first | with_reducible (first | assumption | apply ev_levelReset) | intro _ | split | dsimp only | with_reducible (first | apply ev_upd | apply ev_updTier))

theorem ev_execWatchdog (a1 : State) (h1 : Evolves w s0 a1) :
    ∀ t, execWatchdog a1 = .next t → Evolves w s0 t := by
  unfold execWatchdog
  refine fun t e => ev_next ?_ e
  repeat' (first | with_reducible (first | assumption | apply ev_requestReset | apply ev_atDeadline) | intro _ | split | dsimp only | with_reducible (first | apply ev_upd | apply ev_updTier))

theorem ev_execWdtKick (a1 : Path) (a2 : Word) (a3 : State) (h3 : Evolves w s0 a3) :
    ∀ t, execWdtKick a1 a2 a3 = .next t → Evolves w s0 t := by
  unfold execWdtKick
  refine fun t e => ev_next ?_ e
  repeat' (first | with_reducible (first | assumption | apply ev_restartWdt) | intro _ | split | dsimp only | with_reducible (first | apply ev_upd | apply ev_updTier))

theorem ev_beginEntry (a1 : State) (a2 : Path) (a3 : Nat) (h1 : Evolves w s0 a1) :
    Evolves w s0 (State.beginEntry a1 a2 a3) := by
  unfold State.beginEntry
  repeat' (first | with_reducible (first | assumption | apply ev_setBit | apply ev_pwrResult | refine ev_of_snd (by assumption) ?_ | refine ev_of_fst (by assumption) ?_) | intro _ | split | dsimp only | with_reducible (first | apply ev_upd | apply ev_updTier))

theorem ev_setHoldRails (a1 : State) (a2 : Nat → Nat) (h1 : Evolves w s0 a1) :
    Evolves w s0 (State.setHoldRails a1 a2) := by
  unfold State.setHoldRails
  repeat' (first | with_reducible (first | assumption | apply ev_setFld | apply ev_foldl | apply ev_foldl_fst | apply ev_foldl_snd) | intro _ | split | dsimp only | with_reducible (first | apply ev_upd | apply ev_updTier))

theorem ev_stopBells (a1 : State) (h1 : Evolves w s0 a1) :
    Evolves w s0 (State.stopBells a1) := by
  unfold State.stopBells
  repeat' (first | with_reducible (first | assumption | apply ev_disarmBells | apply ev_foldl | apply ev_foldl_fst | apply ev_foldl_snd) | intro _ | split | dsimp only | with_reducible (first | apply ev_upd | apply ev_updTier))

theorem ev_commitLaidUp (a1 : State) (h1 : Evolves w s0 a1) :
    Evolves w s0 (State.commitLaidUp a1) := by
  unfold State.commitLaidUp
  repeat' (first | with_reducible (first | assumption | apply ev_setBit | apply ev_setHoldRails | apply ev_setFld | apply ev_dropRegs | apply ev_stopBells | refine ev_of_snd (by assumption) ?_ | refine ev_of_fst (by assumption) ?_) | intro _ | split | dsimp only | with_reducible (first | apply ev_upd | apply ev_updTier))

theorem ev_commitOff (a1 : State) (h1 : Evolves w s0 a1) (whold : w.hold = true := by assumption) (wnv : w.nv = true := by assumption) (wown : w.own = true := by assumption) :
    Evolves w s0 (State.commitOff a1) := by
  unfold State.commitOff
  exact ev_upd (ev_setBit _ _ (ev_updHold (fun _ => rfl) (ev_deviceReset _ _ (ev_emit _ h1))))

theorem ev_downAccess (a1 : State) (h1 : Evolves w s0 a1) :
    Evolves w s0 (State.downAccess a1) := by
  unfold State.downAccess
  repeat' (first | with_reducible (first | assumption | apply ev_addSat | apply ev_setBit) | intro _ | split | dsimp only | with_reducible (first | apply ev_upd | apply ev_updTier))

theorem ev_imageBad (a1 : State) (h1 : Evolves w s0 a1) :
    Evolves w s0 (State.imageBad a1) := by
  unfold State.imageBad
  repeat' (first | with_reducible (first | assumption | apply ev_setBit | apply ev_dropRegs | apply ev_raise | refine ev_of_snd (by assumption) ?_ | refine ev_of_fst (by assumption) ?_) | intro _ | split | dsimp only | with_reducible (first | apply ev_upd | apply ev_updTier))

theorem ev_pwrRefuse (a1 : State) (a2 : Path) (a3 : Nat) (h1 : Evolves w s0 a1) :
    Evolves w s0 (State.pwrRefuse a1 a2 a3) := by
  unfold State.pwrRefuse
  repeat' (first | with_reducible (first | assumption | apply ev_setRdB | apply ev_setBit) | intro _ | split | dsimp only | with_reducible (first | apply ev_upd | apply ev_updTier))

theorem ev_pwrCommand (a1 : State) (a2 : Path) (a3 : Nat) (h1 : Evolves w s0 a1) :
    Evolves w s0 (State.pwrCommand a1 a2 a3) := by
  unfold State.pwrCommand
  repeat' (first | with_reducible (first | assumption | apply ev_beginWake | apply ev_rwl | apply ev_setRdB | apply ev_pwrRefuse | apply ev_pwrResult | apply ev_beginEntry) | intro _ | split | dsimp only | with_reducible (first | apply ev_upd | apply ev_updTier))

theorem ev_releasePads (a1 : State) (h1 : Evolves w s0 a1) :
    Evolves w s0 (State.releasePads a1) := by
  unfold State.releasePads
  repeat' (first | with_reducible (first | assumption | apply ev_setBit | apply ev_setFld | apply ev_foldl | apply ev_foldl_fst | apply ev_foldl_snd) | intro _ | split | dsimp only | with_reducible (first | apply ev_upd | apply ev_updTier))

theorem ev_execEntryAnswer (a1 : Fin 11) (a2 : Parcel) (a3 : Bool) (a4 : State) (h4 : Evolves w s0 a4) :
    ∀ t, execEntryAnswer a1 a2 a3 a4 = .next t → Evolves w s0 t := by
  unfold execEntryAnswer
  refine fun t e => ev_next ?_ e
  repeat' (first | with_reducible (first | assumption | apply ev_setBit | apply ev_pwrResult | apply ev_pwrIdle) | intro _ | split | dsimp only | with_reducible (first | apply ev_upd | apply ev_updTier))

theorem ev_execEntryCommit (a1 : State) (h1 : Evolves w s0 a1) (whold : w.hold = true := by assumption) (wnv : w.nv =
    true := by assumption) (wown : w.own = true := by assumption) :
    ∀ t, execEntryCommit a1 = .next t → Evolves w s0 t := by
  unfold execEntryCommit
  refine fun t e => ev_next ?_ e
  repeat' (first | with_reducible (first | assumption | apply ev_setFld | apply ev_pwrResult | apply ev_commitOff | apply ev_pwrIdle | apply ev_commitLaidUp | apply ev_stopBells) | intro _ | split | dsimp only | with_reducible (first | apply ev_upd | apply ev_updTier | apply ev_updNv | apply ev_updOwn))

theorem ev_execEntryReask (a1 : Parcel) (a2 : State) (h2 : Evolves w s0 a2) :
    ∀ t, execEntryReask a1 a2 = .next t → Evolves w s0 t := by
  unfold execEntryReask
  refine fun t e => ev_next ?_ e
  repeat' (first | with_reducible (first | assumption | apply ev_atDeadline) | intro _ | split | dsimp only | with_reducible (first | apply ev_upd | apply ev_updTier))

theorem ev_execEntryTimeout (a1 : State) (h1 : Evolves w s0 a1) :
    ∀ t, execEntryTimeout a1 = .next t → Evolves w s0 t := by
  unfold execEntryTimeout
  refine fun t e => ev_next ?_ e
  repeat' (first | with_reducible (first | assumption | apply ev_setBit | apply ev_atDeadline | apply ev_pwrResult | apply ev_pwrIdle) | intro _ | split | dsimp only | with_reducible (first | apply ev_upd | apply ev_updTier))

theorem ev_execLaidUp (a1 : Path) (a2 : State) (h2 : Evolves w s0 a2) :
    ∀ t, execLaidUp a1 a2 = .next t → Evolves w s0 t := by
  unfold execLaidUp
  refine fun t e => ev_next ?_ e
  repeat' (first | with_reducible (first | assumption | apply ev_pwrCommand) | intro _ | split | dsimp only | with_reducible (first | apply ev_upd | apply ev_updTier))

theorem ev_execMoored (a1 : Path) (a2 : State) (h2 : Evolves w s0 a2) :
    ∀ t, execMoored a1 a2 = .next t → Evolves w s0 t := by
  unfold execMoored
  refine fun t e => ev_next ?_ e
  repeat' (first | with_reducible (first | assumption | apply ev_pwrCommand) | intro _ | split | dsimp only | with_reducible (first | apply ev_upd | apply ev_updTier))

theorem ev_execPadRelease (a1 : Path) (a2 : Word) (a3 : State) (h3 : Evolves w s0 a3) :
    ∀ t, execPadRelease a1 a2 a3 = .next t → Evolves w s0 t := by
  unfold execPadRelease
  refine fun t e => ev_next ?_ e
  repeat' (first | with_reducible (first | assumption | apply ev_rwl | apply ev_releasePads) | intro _ | split | dsimp only | with_reducible (first | apply ev_upd | apply ev_updTier))

theorem ev_execParcelDownAccess (a1 : Path) (a2 : Nat) (a3 : Bool) (a4 : State) (h4 : Evolves w s0 a4) :
    ∀ t, execParcelDownAccess a1 a2 a3 a4 = .next t → Evolves w s0 t := by
  unfold execParcelDownAccess
  refine fun t e => ev_next ?_ e
  repeat' (first | with_reducible (first | assumption | apply ev_downAccess | apply ev_emit) | intro _ | split | dsimp only | with_reducible (first | apply ev_upd | apply ev_updTier))

theorem ev_execPwrOff (a1 : Path) (a2 : State) (h2 : Evolves w s0 a2) :
    ∀ t, execPwrOff a1 a2 = .next t → Evolves w s0 t := by
  unfold execPwrOff
  refine fun t e => ev_next ?_ e
  repeat' (first | with_reducible (first | assumption | apply ev_pwrCommand) | intro _ | split | dsimp only | with_reducible (first | apply ev_upd | apply ev_updTier))

theorem ev_execUnderway (a1 : Path) (a2 : State) (h2 : Evolves w s0 a2) :
    ∀ t, execUnderway a1 a2 = .next t → Evolves w s0 t := by
  unfold execUnderway
  refine fun t e => ev_next ?_ e
  repeat' (first | with_reducible (first | assumption | apply ev_pwrCommand) | intro _ | split | dsimp only | with_reducible (first | apply ev_upd | apply ev_updTier))

theorem ev_execWakeEvent (a1 : Fin 5) (a2 : Parcel) (a3 : State) (h3 : Evolves w s0 a3) :
    ∀ t, execWakeEvent a1 a2 a3 = .next t → Evolves w s0 t := by
  unfold execWakeEvent
  refine fun t e => ev_next ?_ e
  repeat' (first | with_reducible (first | assumption | apply ev_doorbellWake | apply ev_wakeEvent) | intro _ | split | dsimp only | with_reducible (first | apply ev_upd | apply ev_updTier))

theorem ev_execWakeStep (a1 : Bool) (a2 : State) (h2 : Evolves w s0 a2) :
    ∀ t, execWakeStep a1 a2 = .next t → Evolves w s0 t := by
  unfold execWakeStep
  refine fun t e => ev_next ?_ e
  repeat' (first | with_reducible (first | assumption | apply ev_refreshUnits | apply ev_setBit | apply ev_setHoldRails | apply ev_setFld | apply ev_pwrResult | apply ev_imageBad | apply ev_pwrIdle | apply ev_refreshTiles | apply ev_foldl | apply ev_foldl_fst | apply ev_foldl_snd) | intro _ | split | dsimp only | with_reducible (first | apply ev_upd | apply ev_updTier))

theorem ev_answerOrders (a1 : State) (h1 : Evolves w s0 a1) :
    Evolves w s0 (State.answerOrders a1) := by
  unfold State.answerOrders
  repeat' (first | with_reducible (first | assumption | apply ev_setBind | apply ev_sendAny | apply ev_foldl | apply ev_foldl_fst | apply ev_foldl_snd) | intro _ | split | dsimp only | with_reducible (first | apply ev_upd | apply ev_updTier))

theorem ev_resetLogic (a1 : State) (a2 : Nat) (h1 : Evolves w s0 a1) :
    Evolves w s0 (State.resetLogic a1 a2) := by
  unfold State.resetLogic
  repeat' (first | with_reducible (first | assumption | apply ev_dropRegs | apply ev_setVu | apply ev_setNearCtl | refine ev_of_snd (by assumption) ?_ | refine ev_of_fst (by assumption) ?_) | intro _ | split | dsimp only | with_reducible (first | apply ev_upd | apply ev_updTier))

theorem ev_freeBind (a1 : State) (a2 : Nat) (h1 : Evolves w s0 a1) :
    Evolves w s0 (State.freeBind a1 a2) := by
  unfold State.freeBind
  repeat' (first | with_reducible (first | assumption | apply ev_setBind | refine ev_of_snd (by assumption) ?_ | refine ev_of_fst (by assumption) ?_) | intro _ | split | dsimp only | with_reducible (first | apply ev_upd | apply ev_updTier))

theorem ev_replaceParcel (a1 : State) (a2 : Nat) (h1 : Evolves w s0 a1) :
    Evolves w s0 (State.replaceParcel a1 a2) := by
  unfold State.replaceParcel
  repeat' (first | with_reducible (first | assumption | apply ev_freeBind | apply ev_setBit | apply ev_setFld | apply ev_mgmtEvent | apply ev_foldl | apply ev_foldl_fst | apply ev_foldl_snd | refine ev_of_snd (by assumption) ?_ | refine ev_of_fst (by assumption) ?_) | intro _ | split | dsimp only | with_reducible (first | apply ev_upd | apply ev_updTier))

theorem ev_assertReset (a1 : State) (a2 : Nat) (h1 : Evolves w s0 a1) :
    Evolves w s0 (State.assertReset a1 a2) := by
  unfold State.assertReset
  repeat' (first | with_reducible (first | assumption | apply ev_setFld | apply ev_resetLogic | apply ev_recordCause | apply ev_setRt | apply ev_replaceParcel) | intro _ | split | dsimp only | with_reducible (first | apply ev_upd | apply ev_updTier))

theorem ev_bellReaction (a1 : State) (a2 : Nat) (h1 : Evolves w s0 a1) :
    Evolves w s0 (State.bellReaction a1 a2) := by
  unfold State.bellReaction
  repeat' (first | with_reducible (first | assumption | apply ev_abortBench | apply ev_beginFence | apply ev_castOff) | intro _ | split | dsimp only | with_reducible (first | apply ev_upd | apply ev_updTier))

theorem ev_benchUnit (a1 : State) (a2 a3 : Nat) (a4 : BenchRes) (h1 : Evolves w s0 a1) :
    Evolves w s0 (State.benchUnit a1 a2 a3 a4).1 := by
  unfold State.benchUnit
  repeat' (first | with_reducible (first | assumption | apply ev_refreshUnits | apply ev_setFld | apply ev_degrade | refine ev_of_snd (by assumption) ?_ | refine ev_of_fst (by assumption) ?_) | intro _ | split | dsimp only | with_reducible (first | apply ev_upd | apply ev_updTier))

theorem ev_benchTile (a1 : State) (a2 a3 : Nat) (a4 : BenchRes) (h1 : Evolves w s0 a1) :
    Evolves w s0 (State.benchTile a1 a2 a3 a4).1 := by
  unfold State.benchTile
  repeat' (first | with_reducible (first | assumption | apply ev_withdrawTile | apply ev_degrade | refine ev_of_snd (by assumption) ?_ | refine ev_of_fst (by assumption) ?_) | intro _ | split | dsimp only | with_reducible (first | apply ev_upd | apply ev_updTier))

theorem ev_benchChecks (a1 : State) (a2 : Nat) (a3 : BenchRun) (h1 : Evolves w s0 a1) :
    Evolves w s0 (State.benchChecks a1 a2 a3).1 := by
  unfold State.benchChecks
  repeat' (first | with_reducible (first | assumption | apply ev_benchUnit | apply ev_benchTile | apply ev_foldl | apply ev_foldl_fst | apply ev_foldl_snd | refine ev_of_snd (by assumption) ?_ | refine ev_of_fst (by assumption) ?_) | intro _ | split | dsimp only | with_reducible (first | apply ev_upd | apply ev_updTier))

theorem ev_benchFields (a1 : State) (a2 : Nat) (a3 : BenchRes) (h1 : Evolves w s0 a1) :
    Evolves w s0 (State.benchFields a1 a2 a3) := by
  unfold State.benchFields
  repeat' (first | with_reducible (first | assumption | apply ev_setBit | apply ev_setFld | refine ev_of_snd (by assumption) ?_ | refine ev_of_fst (by assumption) ?_) | intro _ | split | dsimp only | with_reducible (first | apply ev_upd | apply ev_updTier))

theorem ev_resetParcel (a1 : State) (a2 : Nat) (h1 : Evolves w s0 a1) :
    Evolves w s0 (State.resetParcel a1 a2) := by
  unfold State.resetParcel
  repeat' (first | with_reducible (first | assumption | apply ev_setFld | apply ev_assertReset | apply ev_beginFence | apply ev_setRt | refine ev_of_snd (by assumption) ?_ | refine ev_of_fst (by assumption) ?_) | intro _ | split | dsimp only | with_reducible (first | apply ev_upd | apply ev_updTier))

theorem ev_dropRequests (a1 : State) (a2 : Nat) (h1 : Evolves w s0 a1) :
    Evolves w s0 (State.dropRequests a1 a2) := by
  unfold State.dropRequests
  repeat' (first | with_reducible (first | assumption | apply ev_winGive | apply ev_foldl | apply ev_foldl_fst | apply ev_foldl_snd | refine ev_of_snd (by assumption) ?_ | refine ev_of_fst (by assumption) ?_) | intro _ | split | dsimp only | with_reducible (first | apply ev_upd | apply ev_updTier))

theorem ev_fenceCommand (a1 : State) (a2 : Path) (a3 : Nat) (h1 : Evolves w s0 a1) :
    Evolves w s0 (State.fenceCommand a1 a2 a3) := by
  unfold State.fenceCommand
  repeat' (first | with_reducible (first | assumption | apply ev_rwl | apply ev_beginFence) | intro _ | split | dsimp only | with_reducible (first | apply ev_upd | apply ev_updTier))

theorem ev_hangHarts (a1 : State) (a2 : Nat) (a3 : List Nat) (h1 : Evolves w s0 a1) :
    Evolves w s0 (State.hangHarts a1 a2 a3) := by
  unfold State.hangHarts
  repeat' (first | with_reducible (first | assumption | apply ev_setBit | apply ev_setFld | apply ev_foldl | apply ev_foldl_fst | apply ev_foldl_snd) | intro _ | split | dsimp only | with_reducible (first | apply ev_upd | apply ev_updTier))

theorem ev_ringBell (a1 : State) (a2 a3 : Nat) (h1 : Evolves w s0 a1) :
    Evolves w s0 (State.ringBell a1 a2 a3) := by
  unfold State.ringBell
  repeat' (first | with_reducible (first | assumption | apply ev_setFld) | intro _ | split | dsimp only | with_reducible (first | apply ev_upd | apply ev_updTier))

theorem ev_surveyEnds (a1 : State) (a2 a3 : Nat) (h1 : Evolves w s0 a1) :
    Evolves w s0 (State.surveyEnds a1 a2 a3) := by
  unfold State.surveyEnds
  repeat' (first | with_reducible (first | assumption | apply ev_setRdB | apply ev_setBit | apply ev_setBind | apply ev_setFldB) | intro _ | split | dsimp only | with_reducible (first | apply ev_upd | apply ev_updTier))

theorem ev_resetCommand (a1 : State) (a2 : Path) (a3 : Nat) (h1 : Evolves w s0 a1) :
    Evolves w s0 (State.resetCommand a1 a2 a3) := by
  unfold State.resetCommand
  repeat' (first | with_reducible (first | assumption | apply ev_rwl | apply ev_resetParcel) | intro _ | split | dsimp only | with_reducible (first | apply ev_upd | apply ev_updTier))

theorem ev_restFenced (a1 : State) (a2 : Nat) (h1 : Evolves w s0 a1) :
    Evolves w s0 (State.restFenced a1 a2) := by
  unfold State.restFenced
  repeat' (first | with_reducible (first | assumption | apply ev_setFld) | intro _ | split | dsimp only | with_reducible (first | apply ev_upd | apply ev_updTier))

theorem ev_stopEngines (a1 : State) (a2 : Nat) (h1 : Evolves w s0 a1) :
    Evolves w s0 (State.stopEngines a1 a2) := by
  unfold State.stopEngines
  repeat' (first | with_reducible (first | assumption | apply ev_mapParts | apply ev_setVu | apply ev_setRt) | intro _ | split | dsimp only | with_reducible (first | apply ev_upd | apply ev_updTier))

theorem ev_stopHome (a1 : State) (a2 : Nat) (h1 : Evolves w s0 a1) :
    Evolves w s0 (State.stopHome a1 a2) := by
  unfold State.stopHome
  repeat' (first | with_reducible (first | assumption) | intro _ | split | dsimp only | with_reducible (first | apply ev_upd | apply ev_updTier))

theorem ev_takeoverFails (a1 : State) (a2 : Nat) (h1 : Evolves w s0 a1) :
    Evolves w s0 (State.takeoverFails a1 a2) := by
  unfold State.takeoverFails
  repeat' (first | with_reducible (first | assumption | apply ev_setBit | apply ev_setBind | apply ev_raise) | intro _ | split | dsimp only | with_reducible (first | apply ev_upd | apply ev_updTier))

theorem ev_writeLosses (a1 : State) (a2 : List Loss) (h1 : Evolves w s0 a1) (wnv : w.nv = true := by assumption) :
    Evolves w s0 (State.writeLosses a1 a2) := by
  unfold State.writeLosses
  repeat' (first | with_reducible (first | assumption | apply ev_nvWrite | apply ev_foldl | apply ev_foldl_fst | apply ev_foldl_snd | refine ev_of_snd (by assumption) ?_ | refine ev_of_fst (by assumption) ?_) | intro _ | split | dsimp only | with_reducible (first | apply ev_upd | apply ev_updTier | apply ev_updNv))

theorem ev_execBellExpiry (a1 : Parcel) (a2 : List (Option Nat)) (a3 : State) (h3 : Evolves w s0 a3) :
    ∀ t, execBellExpiry a1 a2 a3 = .next t → Evolves w s0 t := by
  unfold execBellExpiry
  refine fun t e => ev_next ?_ e
  repeat' (first | with_reducible (first | assumption | apply ev_bellReaction | apply ev_atDeadline | apply ev_raise | apply ev_hangHarts | apply ev_setRt) | intro _ | split | dsimp only | with_reducible (first | apply ev_upd | apply ev_updTier))

theorem ev_execBellRing (a1 : Path) (a2 : Parcel) (a3 : Word) (a4 : State) (h4 : Evolves w s0 a4) :
    ∀ t, execBellRing a1 a2 a3 a4 = .next t → Evolves w s0 t := by
  unfold execBellRing
  refine fun t e => ev_next ?_ e
  repeat' (first | with_reducible (first | assumption | apply ev_ringBell) | intro _ | split | dsimp only | with_reducible (first | apply ev_upd | apply ev_updTier))

theorem ev_execFenceComplete (a1 : Parcel) (a2 : State) (h2 : Evolves w s0 a2) :
    ∀ t, execFenceComplete a1 a2 = .next t → Evolves w s0 t := by
  unfold execFenceComplete
  refine fun t e => ev_next ?_ e
  repeat' (first | with_reducible (first | assumption | apply ev_stopEngines | apply ev_takeoverFails | apply ev_setFld | apply ev_collSweep | apply ev_dropRequests | apply ev_restFenced | apply ev_assertReset | apply ev_answerOrders | apply ev_stopHome | apply ev_foldl | apply ev_foldl_fst | apply ev_foldl_snd | refine ev_of_snd (by assumption) ?_ | refine ev_of_fst (by assumption) ?_) | intro _ | split | dsimp only | with_reducible (first | apply ev_upd | apply ev_updTier))

theorem ev_execParcelBenchDone (a1 : Parcel) (a2 : BenchRun) (a3 : State) (h3 : Evolves w s0 a3) (wnv : w.nv = true :=
    by assumption) :
    ∀ t, execParcelBenchDone a1 a2 a3 = .next t → Evolves w s0 t := by
  unfold execParcelBenchDone
  refine fun t e => ev_next ?_ e
  repeat' (first | with_reducible (first | assumption | apply ev_benchChecks | apply ev_drainNotices | apply ev_setFld | apply ev_restFenced | apply ev_gwReturn | apply ev_answerOrders | apply ev_writeLosses | apply ev_addWrap | apply ev_setRt | apply ev_replaceParcel | apply ev_benchFields | refine ev_of_snd (by assumption) ?_ | refine ev_of_fst (by assumption) ?_) | intro _ | split | dsimp only | with_reducible (first | apply ev_upd | apply ev_updTier | apply ev_updNv))

theorem ev_execParcelFence (a1 : Path) (a2 : Parcel) (a3 : State) (h3 : Evolves w s0 a3) :
    ∀ t, execParcelFence a1 a2 a3 = .next t → Evolves w s0 t := by
  unfold execParcelFence
  refine fun t e => ev_next ?_ e
  repeat' (first | with_reducible (first | assumption | apply ev_fenceCommand) | intro _ | split | dsimp only | with_reducible (first | apply ev_upd | apply ev_updTier))

theorem ev_execParcelReset (a1 : Path) (a2 : Parcel) (a3 : State) (h3 : Evolves w s0 a3) :
    ∀ t, execParcelReset a1 a2 a3 = .next t → Evolves w s0 t := by
  unfold execParcelReset
  refine fun t e => ev_next ?_ e
  repeat' (first | with_reducible (first | assumption | apply ev_resetCommand) | intro _ | split | dsimp only | with_reducible (first | apply ev_upd | apply ev_updTier))

theorem ev_execParcelResetRelease (a1 : Parcel) (a2 : State) (h2 : Evolves w s0 a2) :
    ∀ t, execParcelResetRelease a1 a2 = .next t → Evolves w s0 t := by
  unfold execParcelResetRelease
  refine fun t e => ev_next ?_ e
  repeat' (first | with_reducible (first | assumption | apply ev_refreshUnits | apply ev_setFld | apply ev_refreshTiles) | intro _ | split | dsimp only | with_reducible (first | apply ev_upd | apply ev_updTier))

theorem ev_execSeqImageReload (a1 : Parcel) (a2 : State) (h2 : Evolves w s0 a2) :
    ∀ t, execSeqImageReload a1 a2 = .next t → Evolves w s0 t := by
  unfold execSeqImageReload
  refine fun t e => ev_next ?_ e
  repeat' (first | with_reducible (first | assumption | apply ev_setFld | apply ev_setRt) | intro _ | split | dsimp only | with_reducible (first | apply ev_upd | apply ev_updTier))

theorem ev_ackJournal (a1 : State) (a2 a3 : Nat) (h1 : Evolves w s0 a1) :
    Evolves w s0 (State.ackJournal a1 a2 a3) := by
  unfold State.ackJournal
  repeat' (first | with_reducible (first | assumption | apply ev_sendAny) | intro _ | split | dsimp only | with_reducible (first | apply ev_upd | apply ev_updTier))

theorem ev_ackStream (a1 : State) (a2 a3 a4 : Nat) (h1 : Evolves w s0 a1) :
    Evolves w s0 (State.ackStream a1 a2 a3 a4) := by
  unfold State.ackStream
  repeat' (first | with_reducible (first | assumption | apply ev_gwJournalAck | apply ev_setBind | apply ev_sendAny | apply ev_foldl | apply ev_foldl_fst | apply ev_foldl_snd) | intro _ | split | dsimp only | with_reducible (first | apply ev_upd | apply ev_updTier))

theorem ev_heard (a1 : State) (a2 : Nat) (h1 : Evolves w s0 a1) :
    Evolves w s0 (State.heard a1 a2) := by
  unfold State.heard
  repeat' (first | with_reducible (first | assumption | apply ev_setBind) | intro _ | split | dsimp only | with_reducible (first | apply ev_upd | apply ev_updTier))

theorem ev_mirrorBad (a1 : State) (a2 : Nat) (h1 : Evolves w s0 a1) :
    Evolves w s0 (State.mirrorBad a1 a2) := by
  unfold State.mirrorBad
  repeat' (first | with_reducible (first | assumption | apply ev_setBind) | intro _ | split | dsimp only | with_reducible (first | apply ev_upd | apply ev_updTier))

theorem ev_reliefPut (a1 : State) (a2 a3 a4 : Nat) (a5 : List Byte) (h1 : Evolves w s0 a1) (whold : w.hold = true := by assumption) (wtier : w.tier = true := by assumption) :
    ∀ t, State.reliefPut a1 a2 a3 a4 a5 = some t → Evolves w s0 t := by
  unfold State.reliefPut
  intro t e
  split at e
  · injection e with e; subst e; exact ev_mirrorBad _ _ h1
  · split at e
    · contradiction
    · have h := ev_tierWrite a1 a3 a4 a5 h1
      generalize a1.tierWrite a3 a4 a5 = x at e h
      injection e with e; subst e
      exact ev_ite (fun _ => h) fun _ => ev_mirrorBad _ _ h

theorem ev_kvWrites (a1 : State) (a2 a3 : Nat) (a4 : List Byte) (h1 : Evolves w s0 a1) (whold : w.hold = true := by assumption) (wtier : w.tier = true := by assumption) :
    ∀ t, State.kvWrites a1 a2 a3 a4 = some t → Evolves w s0 t := by
  unfold State.kvWrites
  intro t e
  dsimp only at e
  have data : ∀ u, (if (a4.drop 32).isEmpty then some a1
      else match a1.mirrorAddr a2 a3 (leAt a4 0 8) (a4.drop 32).length with
        | none => some (a1.mirrorBad a2)
        | some m => a1.reliefPut a2 1 m (a4.drop 32)) = some u → Evolves w s0 u := by
    intro u e
    split at e
    · injection e with e; subst e; exact h1
    · split at e
      · injection e with e; subst e; exact ev_mirrorBad _ _ h1
      · exact (ev_reliefPut _ _ _ _ _ h1) _ e
  split at e
  · exact data _ e
  · obtain ⟨u, hu, hp⟩ := Option.bind_eq_some_iff.1 e
    exact (ev_reliefPut _ _ _ _ _ (data _ hu)) _ hp

theorem ev_openRelief (a1 : State) (a2 a3 : Nat) (h1 : Evolves w s0 a1) :
    Evolves w s0 (State.openRelief a1 a2 a3) := by
  unfold State.openRelief
  repeat' (first | with_reducible (first | assumption | apply ev_setReq | apply ev_free | refine ev_of_snd (by assumption) ?_ | refine ev_of_fst (by assumption) ?_) | intro _ | split | dsimp only | with_reducible (first | apply ev_upd | apply ev_updTier))

theorem ev_rlfResult (a1 : State) (a2 : Path) (a3 : Nat) (h1 : Evolves w s0 a1) :
    Evolves w s0 (State.rlfResult a1 a2 a3) := by
  unfold State.rlfResult
  repeat' (first | with_reducible (first | assumption | apply ev_setFldB) | intro _ | split | dsimp only | with_reducible (first | apply ev_upd | apply ev_updTier))

theorem ev_rlfCommand (a1 : State) (a2 : Path) (a3 : Nat → Bool) (a4 : Nat → State → State) (h1 : Evolves w s0 a1) (h4
    : ∀ y1 y2, Evolves w s0 y2 → Evolves w s0 (a4 y1 y2)) :
    Evolves w s0 (State.rlfCommand a1 a2 a3 a4) := by
  unfold State.rlfCommand
  repeat' (first | with_reducible (first | assumption | apply ev_rwl | apply ev_rlfResult | apply h4) | intro _ | split | dsimp only | with_reducible (first | apply ev_upd | apply ev_updTier))

theorem ev_execSurvey (a1 : Path) (a2 : State) (h2 : Evolves w s0 a2) :
    ∀ t, execSurvey a1 a2 = .next t → Evolves w s0 t := by
  unfold execSurvey
  refine fun t e => ev_next ?_ e
  repeat' (first | with_reducible (first | assumption | apply ev_setRdB | apply ev_setBind | apply ev_rlfCommand | apply ev_rlfResult) | intro _ | split | dsimp only | with_reducible (first | apply ev_upd | apply ev_updTier))

theorem ev_execCastoff (a1 : Path) (a2 : State) (h2 : Evolves w s0 a2) :
    ∀ t, execCastoff a1 a2 = .next t → Evolves w s0 t := by
  unfold execCastoff
  refine fun t e => ev_next ?_ e
  repeat' (first | with_reducible (first | assumption | apply ev_rlfCommand | apply ev_rlfResult | apply ev_castOff) | intro _ | split | dsimp only | with_reducible (first | apply ev_upd | apply ev_updTier))

theorem ev_withoutRelief (a1 : State) (a2 : Nat) (h1 : Evolves w s0 a1) :
    Evolves w s0 (State.withoutRelief a1 a2) := by
  unfold State.withoutRelief
  repeat' (first | with_reducible (first | assumption | apply ev_gwJournalAck | apply ev_foldl | apply ev_foldl_fst | apply ev_foldl_snd) | intro _ | split | dsimp only | with_reducible (first | apply ev_upd | apply ev_updTier))

theorem ev_execDisarm (a1 : Path) (a2 : State) (h2 : Evolves w s0 a2) :
    ∀ t, execDisarm a1 a2 = .next t → Evolves w s0 t := by
  unfold execDisarm
  refine fun t e => ev_next ?_ e
  repeat' (first | with_reducible (first | assumption | apply ev_freeBind | apply ev_withoutRelief | apply ev_surveyEnds | apply ev_rlfCommand | apply ev_rlfResult | refine ev_of_snd (by assumption) ?_ | refine ev_of_fst (by assumption) ?_) | intro _ | split | dsimp only | with_reducible (first | apply ev_upd | apply ev_updTier))

theorem ev_sendBeacons (a1 : State) (a2 : Nat) (h1 : Evolves w s0 a1) :
    Evolves w s0 (State.sendBeacons a1 a2) := by
  unfold State.sendBeacons
  repeat' (first | with_reducible (first | assumption | apply ev_sendAny | apply ev_foldl | apply ev_foldl_fst | apply ev_foldl_snd) | intro _ | split | dsimp only | with_reducible (first | apply ev_upd | apply ev_updTier))

theorem ev_execArmActive (a1 : Path) (a2 : State) (h2 : Evolves w s0 a2) :
    ∀ t, execArmActive a1 a2 = .next t → Evolves w s0 t := by
  unfold execArmActive
  refine fun t e => ev_next ?_ e
  repeat' (first | with_reducible (first | assumption | apply ev_setBind | apply ev_rlfCommand | apply ev_rlfResult | apply ev_sendBeacons | refine ev_of_snd (by assumption) ?_ | refine ev_of_fst (by assumption) ?_) | intro _ | split | dsimp only | with_reducible (first | apply ev_upd | apply ev_updTier))

theorem ev_execArmRelief (a1 : Path) (a2 : State) (h2 : Evolves w s0 a2) :
    ∀ t, execArmRelief a1 a2 = .next t → Evolves w s0 t := by
  unfold execArmRelief
  refine fun t e => ev_next ?_ e
  repeat' (first | with_reducible (first | assumption | apply ev_setBind | apply ev_rlfCommand | apply ev_rlfResult | refine ev_of_snd (by assumption) ?_ | refine ev_of_fst (by assumption) ?_) | intro _ | split | dsimp only | with_reducible (first | apply ev_upd | apply ev_updTier))

theorem ev_writeRlfCmd (a1 : State) (a2 : Path) (a3 : Nat) (h1 : Evolves w s0 a1) :
    Evolves w s0 (State.writeRlfCmd a1 a2 a3) := by
  unfold State.writeRlfCmd
  dsimp only
  split
  · split
    · rename_i e; exact ev_execArmActive _ _ h1 _ e
    · exact h1
  · split
    · rename_i e; exact ev_execArmRelief _ _ h1 _ e
    · exact h1
  · split
    · rename_i e; exact ev_execDisarm _ _ h1 _ e
    · exact h1
  · split
    · rename_i e; exact ev_execCastoff _ _ h1 _ e
    · exact h1
  · split
    · rename_i e; exact ev_execSurvey _ _ h1 _ e
    · exact h1
  · exact ev_rwl _ _ _ _ h1 fun _ h => h

theorem ev_sendEverywhere (a1 : State) (a2 : Packet) (h1 : Evolves w s0 a1) :
    Evolves w s0 (State.sendEverywhere a1 a2) := by
  unfold State.sendEverywhere
  repeat' (first | with_reducible (first | assumption | apply ev_linkSend | apply ev_sendAny | apply ev_foldl | apply ev_foldl_fst | apply ev_foldl_snd) | intro _ | split | dsimp only | with_reducible (first | apply ev_upd | apply ev_updTier))

theorem ev_staleJournal (a1 : State) (h1 : Evolves w s0 a1) :
    Evolves w s0 (State.staleJournal a1) := by
  unfold State.staleJournal
  repeat' (first | with_reducible (first | assumption | apply ev_addSat | apply ev_setBit) | intro _ | split | dsimp only | with_reducible (first | apply ev_upd | apply ev_updTier))

theorem ev_startChain (a1 : State) (a2 : Nat) (h1 : Evolves w s0 a1) :
    Evolves w s0 (State.startChain a1 a2) := by
  unfold State.startChain
  repeat' (first | with_reducible (first | assumption | (refine (ev_rebind _ _ ?_) _ (by assumption)) | apply ev_setBind | apply ev_setCtx) | intro _ | split | dsimp only | with_reducible (first | apply ev_upd | apply ev_updTier))

theorem ev_takenHome (a1 : State) (a2 : Nat) (h1 : Evolves w s0 a1) :
    Evolves w s0 (State.takenHome a1 a2).2 := by
  unfold State.takenHome
  repeat' (first | with_reducible (first | assumption | apply ev_free | refine ev_of_snd (by assumption) ?_ | refine ev_of_fst (by assumption) ?_) | intro _ | split | dsimp only | with_reducible (first | apply ev_upd | apply ev_updTier))

theorem ev_takeHome (a1 : State) (a2 : Nat) (h1 : Evolves w s0 a1) :
    Evolves w s0 (State.takeHome a1 a2) := by
  unfold State.takeHome
  repeat' (first | with_reducible (first | assumption | apply ev_setBind | apply ev_startChain | apply ev_openRelief | apply ev_sendAny | apply ev_takenHome | refine ev_of_snd (by assumption) ?_ | refine ev_of_fst (by assumption) ?_) | intro _ | split | dsimp only | with_reducible (first | apply ev_upd | apply ev_updTier))

theorem ev_startTakeover (a1 : State) (a2 a3 : Nat) (h1 : Evolves w s0 a1) :
    Evolves w s0 (State.startTakeover a1 a2 a3) := by
  unfold State.startTakeover
  repeat' (first | with_reducible (first | assumption | apply ev_setBind | apply ev_surveyEnds | apply ev_sendEverywhere | apply ev_takeHome | apply ev_foldl | apply ev_foldl_fst | apply ev_foldl_snd | refine ev_of_snd (by assumption) ?_ | refine ev_of_fst (by assumption) ?_) | intro _ | split | dsimp only | with_reducible (first | apply ev_upd | apply ev_updTier))

theorem ev_takeRecord (a1 : State) (a2 : Packet) (a3 : Nat → Nat → State → Option State)
    (a4 : BindSt → JStream → BindSt × JStream) (h1 : Evolves w s0 a1)
    (h3 : ∀ y1 y2 y3, Evolves w s0 y3 → ∀ t, a3 y1 y2 y3 = some t → Evolves w s0 t) :
    Evolves w s0 (State.takeRecord a1 a2 a3 a4) := by
  have h := ev_takePacket a1 a2 h1
  unfold State.takeRecord
  dsimp only
  split
  · exact h
  · split
    · exact ev_staleJournal _ h
    · split
      · exact h
      · have hb := fun i b => ev_heard _ i (ev_setBind _ i b h)
        split
        · exact hb _ _
        · split
          · split
            · exact hb _ _
            · exact ev_ackJournal _ _ _ (hb _ _)
          · split
            · exact hb _ _
            · rename_i e
              exact ev_ackJournal _ _ _ (ev_setBind _ _ _ (h3 _ _ _ (hb _ _) _ e))

theorem ev_tokenWrites (a1 : State) (a2 : Nat) (a3 : List Byte) (h1 : Evolves w s0 a1) (whold : w.hold = true := by assumption) (wtier : w.tier = true := by assumption) :
    ∀ t, State.tokenWrites a1 a2 a3 = some t → Evolves w s0 t := by
  have fold : ∀ (f : State → Nat → Option State), (∀ s k u, Evolves w s0 s → f s k = some u → Evolves w s0 u) →
      ∀ (l : List Nat) (o : Option State), (∀ u, o = some u → Evolves w s0 u) →
        ∀ t, l.foldl (fun o k => o.bind fun s => f s k) o = some t → Evolves w s0 t := by
    intro f hf l
    induction l with
    | nil => intro o ho t e; exact ho t e
    | cons k r ih =>
      intro o ho t e
      refine ih _ (fun u hu => ?_) t e
      obtain ⟨v, hv, hp⟩ := Option.bind_eq_some_iff.1 hu
      exact hf v k u (ho v hv) hp
  unfold State.tokenWrites
  intro t e
  dsimp only at e
  split at e
  · injection e with e; subst e; exact ev_mirrorBad _ _ h1
  · exact fold _ (fun _ _ _ h e => (ev_reliefPut _ _ _ _ _ h) _ e) _ _ (fun _ e => by injection e with e; subst e; exact h1) _ e

theorem ev_execArmActiveTimeout (a1 : Fin 16) (a2 : State) (h2 : Evolves w s0 a2) :
    ∀ t, execArmActiveTimeout a1 a2 = .next t → Evolves w s0 t := by
  unfold execArmActiveTimeout
  refine fun t e => ev_next ?_ e
  repeat' (first | with_reducible (first | assumption | apply ev_advanceTo | apply ev_setBind | apply ev_rlfResult | refine ev_of_snd (by assumption) ?_ | refine ev_of_fst (by assumption) ?_) | intro _ | split | dsimp only | with_reducible (first | apply ev_upd | apply ev_updTier))

theorem ev_execBeaconRecord (a1 : Packet) (a2 : State) (h2 : Evolves w s0 a2) :
    ∀ t, execBeaconRecord a1 a2 = .next t → Evolves w s0 t := by
  unfold execBeaconRecord
  refine fun t e => ev_next ?_ e
  repeat' (first | with_reducible (first | assumption | apply ev_setBind | apply ev_ackJournal | apply ev_heard | apply ev_takePacket | apply ev_staleJournal | refine ev_of_snd (by assumption) ?_ | refine ev_of_fst (by assumption) ?_) | intro _ | split | dsimp only | with_reducible (first | apply ev_upd | apply ev_updTier))

theorem ev_execBeaconSend (a1 : Fin 16) (a2 : State) (h2 : Evolves w s0 a2) :
    ∀ t, execBeaconSend a1 a2 = .next t → Evolves w s0 t := by
  unfold execBeaconSend
  refine fun t e => ev_next ?_ e
  repeat' (first | with_reducible (first | assumption | apply ev_sendBeacons) | intro _ | split | dsimp only | with_reducible (first | apply ev_upd | apply ev_updTier))

theorem ev_execCastoffReceive (a1 : Packet) (a2 : State) (h2 : Evolves w s0 a2) :
    ∀ t, execCastoffReceive a1 a2 = .next t → Evolves w s0 t := by
  unfold execCastoffReceive
  refine fun t e => ev_next ?_ e
  repeat' (first | with_reducible (first | assumption | apply ev_setBit | apply ev_takePacket | apply ev_staleJournal | apply ev_startTakeover) | intro _ | split | dsimp only | with_reducible (first | apply ev_upd | apply ev_updTier))

theorem ev_execChainTimeout (a1 : Fin 16) (a2 : State) (h2 : Evolves w s0 a2) :
    ∀ t, execChainTimeout a1 a2 = .next t → Evolves w s0 t := by
  unfold execChainTimeout
  refine fun t e => ev_next ?_ e
  repeat' (first | with_reducible (first | assumption | apply ev_takeoverFails | apply ev_atDeadline) | intro _ | split | dsimp only | with_reducible (first | apply ev_upd | apply ev_updTier))

theorem ev_execFenceAck (a1 : Packet) (a2 : State) (h2 : Evolves w s0 a2) :
    ∀ t, execFenceAck a1 a2 = .next t → Evolves w s0 t := by
  unfold execFenceAck
  refine fun t e => ev_next ?_ e
  repeat' (first | with_reducible (first | assumption | apply ev_setBind | apply ev_takePacket | apply ev_takeHome) | intro _ | split | dsimp only | with_reducible (first | apply ev_upd | apply ev_updTier))

theorem ev_execFenceOrder (a1 : Packet) (a2 : State) (h2 : Evolves w s0 a2) :
    ∀ t, execFenceOrder a1 a2 = .next t → Evolves w s0 t := by
  unfold execFenceOrder
  refine fun t e => ev_next ?_ e
  repeat' (first | with_reducible (first | assumption | apply ev_setBit | apply ev_setBind | apply ev_answerOrders | apply ev_beginFence | apply ev_takePacket | apply ev_foldl | apply ev_foldl_fst | apply ev_foldl_snd) | intro _ | split | dsimp only | with_reducible (first | apply ev_upd | apply ev_updTier))

theorem ev_execFenceWaitExpiry (a1 : Fin 16) (a2 : State) (h2 : Evolves w s0 a2) :
    ∀ t, execFenceWaitExpiry a1 a2 = .next t → Evolves w s0 t := by
  unfold execFenceWaitExpiry
  refine fun t e => ev_next ?_ e
  repeat' (first | with_reducible (first | assumption | apply ev_takeoverFails | apply ev_atDeadline | apply ev_takeHome) | intro _ | split | dsimp only | with_reducible (first | apply ev_upd | apply ev_updTier))

theorem ev_execJournalAck (a1 : Packet) (a2 : State) (h2 : Evolves w s0 a2) :
    ∀ t, execJournalAck a1 a2 = .next t → Evolves w s0 t := by
  unfold execJournalAck
  refine fun t e => ev_next ?_ e
  repeat' (first | with_reducible (first | assumption | apply ev_setBind | apply ev_ackStream | apply ev_takePacket | apply ev_rlfResult | apply ev_staleJournal | refine ev_of_snd (by assumption) ?_ | refine ev_of_fst (by assumption) ?_) | intro _ | split | dsimp only | with_reducible (first | apply ev_upd | apply ev_updTier))

theorem ev_execJournalResend (a1 : Fin 16) (a2 : Parcel) (a3 : State) (h3 : Evolves w s0 a3) :
    ∀ t, execJournalResend a1 a2 a3 = .next t → Evolves w s0 t := by
  unfold execJournalResend
  refine fun t e => ev_next ?_ e
  repeat' (first | with_reducible (first | assumption | apply ev_advanceTo | apply ev_setBind | apply ev_sendAny | apply ev_foldl | apply ev_foldl_fst | apply ev_foldl_snd) | intro _ | split | dsimp only | with_reducible (first | apply ev_upd | apply ev_updTier))

theorem ev_execKvRecord (a1 : Packet) (a2 : State) (h2 : Evolves w s0 a2) (whold : w.hold = true := by assumption)
    (wtier : w.tier = true := by assumption) :
    ∀ t, execKvRecord a1 a2 = .next t → Evolves w s0 t := by
  unfold execKvRecord
  refine fun t e => ev_next ?_ e
  repeat' (first | with_reducible (first | assumption | apply ev_takeRecord | (refine (ev_kvWrites _ _ _ _ ?_) _ (by assumption))) | intro _ | split | dsimp only | with_reducible (first | apply ev_upd | apply ev_updTier))

theorem ev_execReliefLost (a1 : Fin 16) (a2 : State) (h2 : Evolves w s0 a2) :
    ∀ t, execReliefLost a1 a2 = .next t → Evolves w s0 t := by
  unfold execReliefLost
  refine fun t e => ev_next ?_ e
  repeat' (first | with_reducible (first | assumption | apply ev_withoutRelief | apply ev_setBit | apply ev_setBind | apply ev_atDeadline) | intro _ | split | dsimp only | with_reducible (first | apply ev_upd | apply ev_updTier))

theorem ev_execSilence (a1 : Fin 16) (a2 : State) (h2 : Evolves w s0 a2) :
    ∀ t, execSilence a1 a2 = .next t → Evolves w s0 t := by
  unfold execSilence
  refine fun t e => ev_next ?_ e
  repeat' (first | with_reducible (first | assumption | apply ev_atDeadline | apply ev_startTakeover) | intro _ | split | dsimp only | with_reducible (first | apply ev_upd | apply ev_updTier))

theorem ev_execSurveyDone (a1 : Fin 16) (a2 : Bool) (a3 : List WordErr) (a4 : Bool) (a5 : State) (h5 : Evolves w s0 a5)
    :
    ∀ t, execSurveyDone a1 a2 a3 a4 a5 = .next t → Evolves w s0 t := by
  unfold execSurveyDone
  refine fun t e => ev_next ?_ e
  repeat' (first | with_reducible (first | assumption | apply ev_nearErrors | apply ev_surveyEnds) | intro _ | split | dsimp only | with_reducible (first | apply ev_upd | apply ev_updTier))

theorem ev_execTaken (a1 : Packet) (a2 : State) (h2 : Evolves w s0 a2) (whold : w.hold = true := by assumption) :
    ∀ t, execTaken a1 a2 = .next t → Evolves w s0 t := by
  unfold execTaken
  refine fun t e => ev_next ?_ e
  repeat' (first | with_reducible (first | assumption | apply ev_repair | apply ev_setReq | apply ev_closeStep | apply ev_discardDone | apply ev_takePacket | apply ev_sendAny | apply ev_dropRound) | intro _ | split | dsimp only | with_reducible (first | apply ev_upd | apply ev_updTier))

theorem ev_execTakenAck (a1 : Packet) (a2 : State) (h2 : Evolves w s0 a2) :
    ∀ t, execTakenAck a1 a2 = .next t → Evolves w s0 t := by
  unfold execTakenAck
  refine fun t e => ev_next ?_ e
  repeat' (first | with_reducible (first | assumption | apply ev_takePacket | apply ev_startChain) | intro _ | split | dsimp only | with_reducible (first | apply ev_upd | apply ev_updTier))

theorem ev_execTakeoverDone (a1 : Fin 16) (a2 : State) (h2 : Evolves w s0 a2) :
    ∀ t, execTakeoverDone a1 a2 = .next t → Evolves w s0 t := by
  unfold execTakeoverDone
  refine fun t e => ev_next ?_ e
  repeat' (first | with_reducible (first | assumption | apply ev_setRdB | apply ev_setBit | apply ev_setBind | apply ev_takeoverFails) | intro _ | split | dsimp only | with_reducible (first | apply ev_upd | apply ev_updTier))

theorem ev_execTokenRecord (a1 : Packet) (a2 : State) (h2 : Evolves w s0 a2) (whold : w.hold = true := by assumption)
    (wtier : w.tier = true := by assumption) :
    ∀ t, execTokenRecord a1 a2 = .next t → Evolves w s0 t := by
  unfold execTokenRecord
  refine fun t e => ev_next ?_ e
  repeat' (first | with_reducible (first | assumption | apply ev_takeRecord | (refine (ev_tokenWrites _ _ _ ?_) _ (by assumption))) | intro _ | split | dsimp only | with_reducible (first | apply ev_upd | apply ev_updTier))

theorem ev_benchOutcome (a1 : State) (a2 : Nat) (a3 : BenchRes) (h1 : Evolves w s0 a1) :
    Evolves w s0 (State.benchOutcome a1 a2 a3) := by
  unfold State.benchOutcome
  repeat' (first | with_reducible (first | assumption | apply ev_setFld | apply ev_benchFields | refine ev_of_snd (by assumption) ?_ | refine ev_of_fst (by assumption) ?_) | intro _ | split | dsimp only | with_reducible (first | apply ev_upd | apply ev_updTier))

theorem ev_bruAccepted (a1 : State) (a2 : Path) (h1 : Evolves w s0 a1) :
    Evolves w s0 (State.bruAccepted a1 a2) := by
  unfold State.bruAccepted
  repeat' (first | with_reducible (first | assumption | apply ev_setRdB) | intro _ | split | dsimp only | with_reducible (first | apply ev_upd | apply ev_updTier))

theorem ev_bruRefused (a1 : State) (a2 : Path) (a3 : Nat) (h1 : Evolves w s0 a1) :
    Evolves w s0 (State.bruRefused a1 a2 a3) := by
  unfold State.bruRefused
  repeat' (first | with_reducible (first | assumption | apply ev_setRdB | apply ev_setBit) | intro _ | split | dsimp only | with_reducible (first | apply ev_upd | apply ev_updTier))

theorem ev_bruCommand (a1 : State) (a2 : Path) (a3 : State → Nat) (a4 : State → State) (h1 : Evolves w s0 a1) (h4 : ∀
    y1, Evolves w s0 y1 → Evolves w s0 (a4 y1)) :
    Evolves w s0 (State.bruCommand a1 a2 a3 a4) := by
  unfold State.bruCommand
  repeat' (first | with_reducible (first | assumption | apply ev_bruAccepted | apply ev_rwl | apply ev_bruRefused | apply h4) | intro _ | split | dsimp only | with_reducible (first | apply ev_upd | apply ev_updTier))

theorem ev_computeReset (a1 : State) (a2 : Path) (a3 : BitVec 12) (h1 : Evolves w s0 a1) :
    Evolves w s0 (State.computeReset a1 a2 a3) := by
  unfold State.computeReset
  repeat' (first | with_reducible (first | assumption | apply ev_bruCommand | apply ev_resetParcel | apply ev_foldl | apply ev_foldl_fst | apply ev_foldl_snd) | intro _ | split | dsimp only | with_reducible (first | apply ev_upd | apply ev_updTier))

theorem ev_deviceChecks (a1 : State) (a2 : Bool) (a3 : BitVec 20) (h1 : Evolves w s0 a1) :
    Evolves w s0 (State.deviceChecks a1 a2 a3) := by
  unfold State.deviceChecks
  repeat' (first | with_reducible (first | assumption | apply ev_setBit | apply ev_setFld | apply ev_raise | apply ev_foldl | apply ev_foldl_fst | apply ev_foldl_snd) | intro _ | split | dsimp only | with_reducible (first | apply ev_upd | apply ev_updTier))

theorem ev_loadParcel (a1 : State) (a2 : Nat) (a3 : List Byte) (h1 : Evolves w s0 a1) :
    Evolves w s0 (State.loadParcel a1 a2 a3) := by
  unfold State.loadParcel
  repeat' (first | with_reducible (first | assumption | apply ev_setFld | apply ev_setRt) | intro _ | split | dsimp only | with_reducible (first | apply ev_upd | apply ev_updTier))

theorem ev_restorePlan (a1 : State) (a2 : Path) (h1 : Evolves w s0 a1) (wnv : w.nv = true := by assumption) :
    Evolves w s0 (State.restorePlan a1 a2) := by
  unfold State.restorePlan
  repeat' (first | with_reducible (first | assumption | apply ev_setBit | apply ev_bruCommand | apply ev_nvWrite | apply ev_foldl | apply ev_foldl_fst | apply ev_foldl_snd | refine ev_of_snd (by assumption) ?_ | refine ev_of_fst (by assumption) ?_) | intro _ | split | dsimp only | with_reducible (first | apply ev_upd | apply ev_updTier | apply ev_updNv))

theorem ev_startLoad (a1 : State) (a2 : Path) (a3 a4 : BitVec 12) (h1 : Evolves w s0 a1) :
    Evolves w s0 (State.startLoad a1 a2 a3 a4) := by
  unfold State.startLoad
  repeat' (first | with_reducible (first | assumption | apply ev_setBit | apply ev_bruCommand | apply ev_setFld | apply ev_raise | apply ev_loadParcel | apply ev_foldl | apply ev_foldl_fst | apply ev_foldl_snd | refine ev_of_snd (by assumption) ?_ | refine ev_of_fst (by assumption) ?_) | intro _ | split | dsimp only | with_reducible (first | apply ev_upd | apply ev_updTier))

theorem ev_startTrain (a1 : State) (a2 : Path) (h1 : Evolves w s0 a1) :
    Evolves w s0 (State.startTrain a1 a2) := by
  unfold State.startTrain
  repeat' (first | with_reducible (first | assumption | apply ev_bruCommand | apply ev_setFld) | intro _ | split | dsimp only | with_reducible (first | apply ev_upd | apply ev_updTier))

theorem ev_startBench (a1 : State) (a2 : Path) (a3 : BitVec 12) (h1 : Evolves w s0 a1) :
    Evolves w s0 (State.startBench a1 a2 a3) := by
  unfold State.startBench
  repeat' (first | with_reducible (first | assumption | apply ev_bruCommand | apply ev_setFld) | intro _ | split | dsimp only | with_reducible (first | apply ev_upd | apply ev_updTier))

theorem ev_writeBruCmd (a1 : State) (a2 : Path) (a3 : Nat) (h1 : Evolves w s0 a1) (wnv : w.nv = true := by assumption) :
    Evolves w s0 (State.writeBruCmd a1 a2 a3) := by
  unfold State.writeBruCmd
  repeat' (first | with_reducible (first | assumption | apply ev_rwl | apply ev_computeReset | apply ev_restorePlan | apply ev_startLoad | apply ev_startTrain | apply ev_startBench) | intro _ | split | dsimp only | with_reducible (first | apply ev_upd | apply ev_updTier | apply ev_updNv))

theorem ev_trainChannels (a1 : State) (a2 a3 : Nat) (a4 : List (Option Nat)) (h1 : Evolves w s0 a1) :
    Evolves w s0 (State.trainChannels a1 a2 a3 a4) := by
  unfold State.trainChannels
  repeat' (first | with_reducible (first | assumption | apply ev_setTag | apply ev_failChannel | apply ev_foldl | apply ev_foldl_fst | apply ev_foldl_snd | refine ev_of_snd (by assumption) ?_ | refine ev_of_fst (by assumption) ?_) | intro _ | split | dsimp only | with_reducible (first | apply ev_upd | apply ev_updTier))

theorem ev_execBenchRunDone (a1 : Vector BenchRun 12) (a2 : Bool) (a3 : BitVec 20) (a4 : State) (h4 : Evolves w s0 a4)
    (wnv : w.nv = true := by assumption) :
    ∀ t, execBenchRunDone a1 a2 a3 a4 = .next t → Evolves w s0 t := by
  unfold execBenchRunDone
  refine fun t e => ev_next ?_ e
  repeat' (first | with_reducible (first | assumption | apply ev_benchChecks | apply ev_setBit | apply ev_setFld | apply ev_benchOutcome | apply ev_deviceChecks | apply ev_writeLosses | apply ev_foldl | apply ev_foldl_fst | apply ev_foldl_snd | refine ev_of_snd (by assumption) ?_ | refine ev_of_fst (by assumption) ?_) | intro _ | split | dsimp only | with_reducible (first | apply ev_upd | apply ev_updTier | apply ev_updNv))

theorem ev_execBruBench (a1 : Path) (a2 : BitVec 12) (a3 : State) (h3 : Evolves w s0 a3) :
    ∀ t, execBruBench a1 a2 a3 = .next t → Evolves w s0 t := by
  unfold execBruBench
  refine fun t e => ev_next ?_ e
  repeat' (first | with_reducible (first | assumption | apply ev_startBench) | intro _ | split | dsimp only | with_reducible (first | apply ev_upd | apply ev_updTier))

theorem ev_execBruLoad (a1 : Path) (a2 a3 : BitVec 12) (a4 : State) (h4 : Evolves w s0 a4) :
    ∀ t, execBruLoad a1 a2 a3 a4 = .next t → Evolves w s0 t := by
  unfold execBruLoad
  refine fun t e => ev_next ?_ e
  repeat' (first | with_reducible (first | assumption | apply ev_startLoad) | intro _ | split | dsimp only | with_reducible (first | apply ev_upd | apply ev_updTier))

theorem ev_execBruTrain (a1 : Path) (a2 : State) (h2 : Evolves w s0 a2) :
    ∀ t, execBruTrain a1 a2 = .next t → Evolves w s0 t := by
  unfold execBruTrain
  refine fun t e => ev_next ?_ e
  repeat' (first | with_reducible (first | assumption | apply ev_startTrain) | intro _ | split | dsimp only | with_reducible (first | apply ev_upd | apply ev_updTier))

theorem ev_execComputeReset (a1 : Path) (a2 : BitVec 12) (a3 : State) (h3 : Evolves w s0 a3) :
    ∀ t, execComputeReset a1 a2 a3 = .next t → Evolves w s0 t := by
  unfold execComputeReset
  refine fun t e => ev_next ?_ e
  repeat' (first | with_reducible (first | assumption | apply ev_computeReset) | intro _ | split | dsimp only | with_reducible (first | apply ev_upd | apply ev_updTier))

theorem ev_execFpRestore (a1 : Path) (a2 : State) (h2 : Evolves w s0 a2) (wnv : w.nv = true := by assumption) :
    ∀ t, execFpRestore a1 a2 = .next t → Evolves w s0 t := by
  unfold execFpRestore
  refine fun t e => ev_next ?_ e
  repeat' (first | with_reducible (first | assumption | apply ev_restorePlan) | intro _ | split | dsimp only | with_reducible (first | apply ev_upd | apply ev_updTier | apply ev_updNv))

theorem ev_execLinkWaitExpiry (a1 : State) (h1 : Evolves w s0 a1) :
    ∀ t, execLinkWaitExpiry a1 = .next t → Evolves w s0 t := by
  unfold execLinkWaitExpiry
  refine fun t e => ev_next ?_ e
  repeat' (first | with_reducible (first | assumption | apply ev_setBit | apply ev_atDeadline | apply ev_setFld) | intro _ | split | dsimp only | with_reducible (first | apply ev_upd | apply ev_updTier))

theorem ev_execStackTrainDone (a1 : Fin 12) (a2 : Bool) (a3 : Byte) (a4 : Vector (Option Byte) 32) (a5 : State) (h5 :
    Evolves w s0 a5) :
    ∀ t, execStackTrainDone a1 a2 a3 a4 a5 = .next t → Evolves w s0 t := by
  unfold execStackTrainDone
  refine fun t e => ev_next ?_ e
  repeat' (first | with_reducible (first | assumption | apply ev_setBit | apply ev_setFld | apply ev_trainChannels | apply ev_degrade | apply ev_foldl | apply ev_foldl_fst | apply ev_foldl_snd) | intro _ | split | dsimp only | with_reducible (first | apply ev_upd | apply ev_updTier))

theorem ev_setFwuState (a1 : State) (a2 : Nat) (h1 : Evolves w s0 a1) :
    Evolves w s0 (State.setFwuState a1 a2) := by
  unfold State.setFwuState
  repeat' (first | with_reducible (first | assumption | apply ev_setFld) | intro _ | split | dsimp only | with_reducible (first | apply ev_upd | apply ev_updTier))

theorem ev_endSession (a1 : State) (h1 : Evolves w s0 a1) (wnv : w.nv = true := by assumption) :
    Evolves w s0 (State.endSession a1) := by
  unfold State.endSession
  repeat' (first | with_reducible (first | assumption | apply ev_setFwuState | apply ev_nvWrite) | intro _ | split | dsimp only | with_reducible (first | apply ev_upd | apply ev_updTier | apply ev_updNv))

theorem ev_activated (a1 : State) (h1 : Evolves w s0 a1) (wnv : w.nv = true := by assumption) :
    Evolves w s0 (State.activated a1) := by
  unfold State.activated
  repeat' (first | with_reducible (first | assumption | apply ev_requestReset | apply ev_setBit | apply ev_endSession) | intro _ | split | dsimp only | with_reducible (first | apply ev_upd | apply ev_updTier | apply ev_updNv))

theorem ev_activation (a1 : State) (h1 : Evolves w s0 a1) (wnv : w.nv = true := by assumption) :
    ∀ t, State.activation a1 = .ok t → Evolves w s0 t := by
  unfold State.activation
  intro t e
  dsimp only at e
  split at e
  · contradiction
  · split at e
    · split at e
      · contradiction
      · injection e with e; subst e; exact ev_nvWrite _ _ h1
    · injection e with e; subst e; exact ev_nvWrite _ _ h1

theorem ev_activate (a1 : State) (a2 : Option Path) (h1 : Evolves w s0 a1) (wnv : w.nv = true := by assumption) :
    Evolves w s0 (State.activate a1 a2) := by
  unfold State.activate
  repeat' (first | with_reducible (first | assumption | apply ev_activated | apply ev_fwuResult | apply ev_setBit | (refine (ev_activation _ ?_) _ (by assumption)) | apply ev_setFwuState | apply ev_endSession | refine ev_of_snd (by assumption) ?_ | refine ev_of_fst (by assumption) ?_) | intro _ | split | dsimp only | with_reducible (first | apply ev_upd | apply ev_updTier | apply ev_updNv))

theorem ev_clearSlot (a1 : State) (a2 : Nat) (h1 : Evolves w s0 a1) (wnv : w.nv = true := by assumption) :
    Evolves w s0 (State.clearSlot a1 a2) := by
  unfold State.clearSlot
  repeat' (first | with_reducible (first | assumption | apply ev_nvMirror) | intro _ | split | dsimp only | with_reducible (first | apply ev_upd | apply ev_updTier | apply ev_updNv))

theorem ev_failVerify (a1 : State) (a2 : Path) (a3 a4 : Nat) (h1 : Evolves w s0 a1) (wnv : w.nv = true := by
    assumption) :
    Evolves w s0 (State.failVerify a1 a2 a3 a4) := by
  unfold State.failVerify
  repeat' (first | with_reducible (first | assumption | apply ev_fwuResult | apply ev_setFwuState | apply ev_endSession) | intro _ | split | dsimp only | with_reducible (first | apply ev_upd | apply ev_updTier | apply ev_updNv))

theorem ev_fwuBy (a1 : State) (a2 : Path) (a3 : Nat) (a4 : State → State) (h1 : Evolves w s0 a1) (h4 : ∀ y1, Evolves w
    s0 y1 → Evolves w s0 (a4 y1)) :
    Evolves w s0 (State.fwuBy a1 a2 a3 a4) := by
  unfold State.fwuBy
  repeat' (first | with_reducible (first | assumption | apply ev_violation | apply h4) | intro _ | split | dsimp only | with_reducible (first | apply ev_upd | apply ev_updTier))

theorem ev_fwuCommand (a1 : State) (a2 : Path) (a3 : State → Bool) (a4 : State → State) (h1 : Evolves w s0 a1) (h4 : ∀
    y1, Evolves w s0 y1 → Evolves w s0 (a4 y1)) :
    Evolves w s0 (State.fwuCommand a1 a2 a3 a4) := by
  unfold State.fwuCommand
  repeat' (first | with_reducible (first | assumption | apply ev_fwuResult | apply ev_fwuBy | apply h4) | intro _ | split | dsimp only | with_reducible (first | apply ev_upd | apply ev_updTier))

theorem ev_fwuAbort (a1 : State) (a2 : Path) (h1 : Evolves w s0 a1) (wnv : w.nv = true := by assumption) :
    Evolves w s0 (State.fwuAbort a1 a2) := by
  unfold State.fwuAbort
  repeat' (first | with_reducible (first | assumption | apply ev_fwuResult | apply ev_fwuCommand | apply ev_endSession | refine ev_of_snd (by assumption) ?_ | refine ev_of_fst (by assumption) ?_) | intro _ | split | dsimp only | with_reducible (first | apply ev_upd | apply ev_updTier | apply ev_updNv))

theorem ev_fwuActivate (a1 : State) (a2 : Path) (a3 : Bool) (a4 : Nat) (h1 : Evolves w s0 a1) (wnv : w.nv = true := by
    assumption) :
    Evolves w s0 (State.fwuActivate a1 a2 a3 a4) := by
  unfold State.fwuActivate
  repeat' (first | with_reducible (first | assumption | apply ev_fwuResult | apply ev_setFwuState | apply ev_fwuCommand | apply ev_activate) | intro _ | split | dsimp only | with_reducible (first | apply ev_upd | apply ev_updTier | apply ev_updNv))

theorem ev_saveSession (a1 : State) (h1 : Evolves w s0 a1) (wnv : w.nv = true := by assumption) :
    Evolves w s0 (State.saveSession a1) := by
  unfold State.saveSession
  repeat' (first | with_reducible (first | assumption | apply ev_nvWrite) | intro _ | split | dsimp only | with_reducible (first | apply ev_upd | apply ev_updTier | apply ev_updNv))

theorem ev_fwuBegin (a1 : State) (a2 : Path) (a3 a4 : Nat) (h1 : Evolves w s0 a1) (wnv : w.nv = true := by assumption) :
    Evolves w s0 (State.fwuBegin a1 a2 a3 a4) := by
  unfold State.fwuBegin
  repeat' (first | with_reducible (first | assumption | apply ev_fwuResult | apply ev_saveSession | apply ev_setFld | apply ev_setFwuState | apply ev_fwuCommand | apply ev_setRcvd | apply ev_noteRcvd) | intro _ | split | dsimp only | with_reducible (first | apply ev_upd | apply ev_updTier | apply ev_updNv))

theorem ev_fwuBlock (a1 : State) (a2 : Path) (h1 : Evolves w s0 a1) :
    Evolves w s0 (State.fwuBlock a1 a2) := by
  unfold State.fwuBlock
  repeat' (first | with_reducible (first | assumption | apply ev_fwuResult | apply ev_setBit | apply ev_fwuCommand | apply ev_fwuIssue | refine ev_of_snd (by assumption) ?_ | refine ev_of_fst (by assumption) ?_) | intro _ | split | dsimp only | with_reducible (first | apply ev_upd | apply ev_updTier))

theorem ev_fwuConfirm (a1 : State) (a2 : Path) (a3 : Nat) (h1 : Evolves w s0 a1) (wnv : w.nv = true := by assumption) :
    Evolves w s0 (State.fwuConfirm a1 a2 a3) := by
  unfold State.fwuConfirm
  repeat' (first | with_reducible (first | assumption | apply ev_nvMirror | apply ev_nvWrite) | intro _ | split | dsimp only | with_reducible (first | apply ev_upd | apply ev_updTier | apply ev_updNv))

theorem ev_stageUnit (a1 : State) (a2 : Nat) (a3 : List Byte) (h1 : Evolves w s0 a1) (wnv : w.nv = true := by
    assumption) :
    Evolves w s0 (State.stageUnit a1 a2 a3) := by
  unfold State.stageUnit
  repeat' (first | with_reducible (first | assumption | apply ev_saveSession | apply ev_setRcvd | apply ev_noteRcvd) | intro _ | split | dsimp only | with_reducible (first | apply ev_upd | apply ev_updTier | apply ev_updNv))

theorem ev_fwuData (a1 : State) (a2 : List Byte) (h1 : Evolves w s0 a1) (wnv : w.nv = true := by assumption) :
    Evolves w s0 (State.fwuData a1 a2) := by
  unfold State.fwuData
  repeat' (first | with_reducible (first | assumption | apply ev_fwuResult | apply ev_setBit | apply ev_stageUnit | refine ev_of_snd (by assumption) ?_ | refine ev_of_fst (by assumption) ?_) | intro _ | split | dsimp only | with_reducible (first | apply ev_upd | apply ev_updTier | apply ev_updNv))

theorem ev_fwuSwitch (a1 : State) (a2 : Path) (a3 : Nat) (h1 : Evolves w s0 a1) (wnv : w.nv = true := by assumption) :
    Evolves w s0 (State.fwuSwitch a1 a2 a3) := by
  unfold State.fwuSwitch
  repeat' (first | with_reducible (first | assumption | apply ev_fwuResult | apply ev_fwuCommand | apply ev_nvWrite) | intro _ | split | dsimp only | with_reducible (first | apply ev_upd | apply ev_updTier | apply ev_updNv))

theorem ev_writeSlot (a1 : State) (a2 : Nat) (a3 : SlotImg) (h1 : Evolves w s0 a1) (wnv : w.nv = true := by assumption)
    :
    Evolves w s0 (State.writeSlot a1 a2 a3) := by
  unfold State.writeSlot
  repeat' (first | with_reducible (first | assumption | apply ev_nvMirror) | intro _ | split | dsimp only | with_reducible (first | apply ev_upd | apply ev_updTier | apply ev_updNv))

theorem ev_fwuVerify (a1 : State) (a2 : Path) (a3 : Bool) (h1 : Evolves w s0 a1) (wnv : w.nv = true := by assumption) :
    Evolves w s0 (State.fwuVerify a1 a2 a3) := by
  unfold State.fwuVerify
  repeat' (first | with_reducible (first | assumption | apply ev_fwuResult | apply ev_setBit | apply ev_writeSlot | apply ev_saveSession | apply ev_setFwuState | apply ev_clearSlot | apply ev_fwuCommand | apply ev_failVerify) | intro _ | split | dsimp only | with_reducible (first | apply ev_upd | apply ev_updTier | apply ev_updNv))

theorem ev_readFailed (a1 : State) (a2 : HostRd) (a3 : Nat) (h1 : Evolves w s0 a1) :
    Evolves w s0 (State.readFailed a1 a2 a3) := by
  unfold State.readFailed
  repeat' (first | with_reducible (first | assumption | apply ev_endPart | apply ev_recordHost | apply ev_fwuReadLost | apply ev_raise | apply ev_fetchFails | apply ev_takeRead) | intro _ | split | dsimp only | with_reducible (first | apply ev_upd | apply ev_updTier))

theorem ev_writeFwuCmd (a1 : State) (a2 : Path) (a3 : Nat) (a4 : Bool) (h1 : Evolves w s0 a1) (wnv : w.nv = true := by
    assumption) :
    Evolves w s0 (State.writeFwuCmd a1 a2 a3 a4) := by
  unfold State.writeFwuCmd
  repeat' (first | with_reducible (first | assumption | apply ev_fwuBegin | apply ev_fwuActivate | apply ev_fwuAbort | apply ev_fwuSwitch | apply ev_fwuVerify | apply ev_fwuBlock | apply ev_fwuBy) | intro _ | split | dsimp only | with_reducible (first | apply ev_upd | apply ev_updTier | apply ev_updNv))

theorem ev_startCompact (a1 : State) (a2 : Path) (a3 : Nat) (h1 : Evolves w s0 a1) (wnv : w.nv = true := by assumption)
    :
    Evolves w s0 (State.startCompact a1 a2 a3) := by
  unfold State.startCompact
  repeat' (first | with_reducible (first | assumption | apply ev_nvMirror | apply ev_rwl) | intro _ | split | dsimp only | with_reducible (first | apply ev_upd | apply ev_updTier | apply ev_updNv))

theorem ev_execCompact (a1 : Path) (a2 : State) (h2 : Evolves w s0 a2) (wnv : w.nv = true := by assumption) :
    ∀ t, execCompact a1 a2 = .next t → Evolves w s0 t := by
  unfold execCompact
  refine fun t e => ev_next ?_ e
  repeat' (first | with_reducible (first | assumption | apply ev_startCompact) | intro _ | split | dsimp only | with_reducible (first | apply ev_upd | apply ev_updTier | apply ev_updNv))

theorem ev_execCompactionDone (a1 : State) (h1 : Evolves w s0 a1) (wnv : w.nv = true := by assumption) :
    ∀ t, execCompactionDone a1 = .next t → Evolves w s0 t := by
  unfold execCompactionDone
  refine fun t e => ev_next ?_ e
  repeat' (first | with_reducible (first | assumption | apply ev_nvMirror | apply ev_nvDrain) | intro _ | split | dsimp only | with_reducible (first | apply ev_upd | apply ev_updTier | apply ev_updNv))

theorem ev_execFwuAbort (a1 : Path) (a2 : State) (h2 : Evolves w s0 a2) (wnv : w.nv = true := by assumption) :
    ∀ t, execFwuAbort a1 a2 = .next t → Evolves w s0 t := by
  unfold execFwuAbort
  refine fun t e => ev_next ?_ e
  repeat' (first | with_reducible (first | assumption | apply ev_fwuAbort) | intro _ | split | dsimp only | with_reducible (first | apply ev_upd | apply ev_updTier | apply ev_updNv))

theorem ev_execFwuActivate (a1 : Path) (a2 : Bool) (a3 : State) (h3 : Evolves w s0 a3) (wnv : w.nv = true := by
    assumption) :
    ∀ t, execFwuActivate a1 a2 a3 = .next t → Evolves w s0 t := by
  unfold execFwuActivate
  refine fun t e => ev_next ?_ e
  repeat' (first | with_reducible (first | assumption | apply ev_fwuActivate) | intro _ | split | dsimp only | with_reducible (first | apply ev_upd | apply ev_updTier | apply ev_updNv))

theorem ev_execFwuBegin (a1 : Path) (a2 : Fin 8) (a3 : State) (h3 : Evolves w s0 a3) (wnv : w.nv = true := by
    assumption) :
    ∀ t, execFwuBegin a1 a2 a3 = .next t → Evolves w s0 t := by
  unfold execFwuBegin
  refine fun t e => ev_next ?_ e
  repeat' (first | with_reducible (first | assumption | apply ev_fwuBegin) | intro _ | split | dsimp only | with_reducible (first | apply ev_upd | apply ev_updTier | apply ev_updNv))

theorem ev_execFwuBlock (a1 : Path) (a2 : State) (h2 : Evolves w s0 a2) :
    ∀ t, execFwuBlock a1 a2 = .next t → Evolves w s0 t := by
  unfold execFwuBlock
  refine fun t e => ev_next ?_ e
  repeat' (first | with_reducible (first | assumption | apply ev_fwuBlock) | intro _ | split | dsimp only | with_reducible (first | apply ev_upd | apply ev_updTier))

theorem ev_execFwuConfirm (a1 : Path) (a2 : Word) (a3 : State) (h3 : Evolves w s0 a3) (wnv : w.nv = true := by
    assumption) :
    ∀ t, execFwuConfirm a1 a2 a3 = .next t → Evolves w s0 t := by
  unfold execFwuConfirm
  refine fun t e => ev_next ?_ e
  repeat' (first | with_reducible (first | assumption | apply ev_fwuConfirm) | intro _ | split | dsimp only | with_reducible (first | apply ev_upd | apply ev_updTier | apply ev_updNv))

theorem ev_execFwuSwitch (a1 : Path) (a2 : Fin 8) (a3 : State) (h3 : Evolves w s0 a3) (wnv : w.nv = true := by
    assumption) :
    ∀ t, execFwuSwitch a1 a2 a3 = .next t → Evolves w s0 t := by
  unfold execFwuSwitch
  refine fun t e => ev_next ?_ e
  repeat' (first | with_reducible (first | assumption | apply ev_fwuSwitch) | intro _ | split | dsimp only | with_reducible (first | apply ev_upd | apply ev_updTier | apply ev_updNv))

theorem ev_execFwuVerify (a1 : Path) (a2 : Bool) (a3 : State) (h3 : Evolves w s0 a3) (wnv : w.nv = true := by
    assumption) :
    ∀ t, execFwuVerify a1 a2 a3 = .next t → Evolves w s0 t := by
  unfold execFwuVerify
  refine fun t e => ev_next ?_ e
  repeat' (first | with_reducible (first | assumption | apply ev_fwuVerify) | intro _ | split | dsimp only | with_reducible (first | apply ev_upd | apply ev_updTier | apply ev_updNv))

theorem ev_execHostReadCompletion (a1 : Nat) (a2 : HostAnswer) (a3 : State) (h3 : Evolves w s0 a3) (whold : w.hold =
    true := by assumption) (wtier : w.tier = true := by assumption) (wnv : w.nv = true := by assumption) :
    ∀ t, execHostReadCompletion a1 a2 a3 = .next t → Evolves w s0 t := by
  unfold execHostReadCompletion
  refine fun t e => ev_next ?_ e
  repeat' (first | with_reducible (first | assumption | apply ev_fwuData | apply ev_copyData | apply ev_readFailed | apply ev_takeRead | apply ev_fetchDone) | intro _ | split | dsimp only | with_reducible (first | apply ev_upd | apply ev_updTier | apply ev_updNv))

theorem ev_execHostReadTimeout (a1 : Nat) (a2 : State) (h2 : Evolves w s0 a2) :
    ∀ t, execHostReadTimeout a1 a2 = .next t → Evolves w s0 t := by
  unfold execHostReadTimeout
  refine fun t e => ev_next ?_ e
  repeat' (first | with_reducible (first | assumption | apply ev_readFailed) | intro _ | split | dsimp only | with_reducible (first | apply ev_upd | apply ev_updTier))

theorem ev_execPwrFail (a1 : State) (h1 : Evolves w s0 a1) (wnv : w.nv = true := by assumption) :
    ∀ t, execPwrFail a1 = .next t → Evolves w s0 t := by
  unfold execPwrFail
  refine fun t e => ev_next ?_ e
  repeat' (first | with_reducible (first | assumption | apply ev_latchEvent | apply ev_nvMirror | refine ev_of_snd (by assumption) ?_ | refine ev_of_fst (by assumption) ?_) | intro _ | split | dsimp only | with_reducible (first | apply ev_upd | apply ev_updTier | apply ev_updNv))

theorem ev_execPwrFailRise (a1 : State) (h1 : Evolves w s0 a1) (wnv : w.nv = true := by assumption) :
    ∀ t, execPwrFailRise a1 = .next t → Evolves w s0 t := by
  unfold execPwrFailRise
  refine fun t e => ev_next ?_ e
  repeat' (first | with_reducible (first | assumption | apply ev_nvMirror | apply ev_setFld | apply ev_nvDrain) | intro _ | split | dsimp only | with_reducible (first | apply ev_upd | apply ev_updTier | apply ev_updNv))

theorem ev_execScheduledActivation (a1 : State) (h1 : Evolves w s0 a1) (wnv : w.nv = true := by assumption) :
    ∀ t, execScheduledActivation a1 = .next t → Evolves w s0 t := by
  unfold execScheduledActivation
  refine fun t e => ev_next ?_ e
  repeat' (first | with_reducible (first | assumption | apply ev_advanceTo | apply ev_activate) | intro _ | split | dsimp only | with_reducible (first | apply ev_upd | apply ev_updTier | apply ev_updNv))

end Sys2Proof.Laws
end

