-- ==== Sys2Proof/Laws/EvManage.lean ====
section
/-! SUPPORT. What a command may do to the state (Evolves), for every function of register reads and writes, the management port and JTAG.
-/

set_option Elab.async false
set_option linter.unreachableTactic false
set_option linter.unusedTactic false
set_option linter.unusedVariables false

namespace Sys2Proof.Laws

open Sys2Proof.Machine Sys2Proof.Safety

variable {w : Areas} {s0 : State}

theorem ev_readReg (a1 : State) (a2 : Path) (a3 : Nat) (h1 : Evolves w s0 a1) :
    Evolves w s0 (State.readReg a1 a2 a3).2 := by
  unfold State.readReg
  repeat' (first | with_reducible (first | assumption | apply ev_downAccess | refine ev_of_snd (by assumption) ?_ | refine ev_of_fst (by assumption) ?_) | intro _ | split | dsimp only | with_reducible (first | apply ev_upd | apply ev_updTier))

theorem ev_execLowWordRead (a1 : Path) (a2 : Nat) (a3 : State) (h3 : Evolves w s0 a3) :
    ∀ t, execLowWordRead a1 a2 a3 = .next t → Evolves w s0 t := by
  unfold execLowWordRead
  refine fun t e => ev_next ?_ e
  repeat' (first | with_reducible (first | assumption | apply ev_readReg | apply ev_emit | refine ev_of_snd (by assumption) ?_ | refine ev_of_fst (by assumption) ?_) | intro _ | split | dsimp only | with_reducible (first | apply ev_upd | apply ev_updTier))

theorem ev_goWrite (a1 : State) (a2 : Path) (a3 a4 : Nat) (a5 : State → State) (h1 : Evolves w s0 a1) (h5 : ∀ y1,
    Evolves w s0 y1 → Evolves w s0 (a5 y1)) :
    Evolves w s0 (State.goWrite a1 a2 a3 a4 a5) := by
  unfold State.goWrite
  repeat' (first | with_reducible (first | assumption | apply ev_rwl | apply h5) | intro _ | split | dsimp only | with_reducible (first | apply ev_upd | apply ev_updTier))

theorem ev_storeBits (a1 : State) (a2 : Path) (a3 a4 : Nat) (a5 : RegRow) (a6 a7 a8 : Nat) (h1 : Evolves w s0 a1) :
    Evolves w s0 (State.storeBits a1 a2 a3 a4 a5 a6 a7 a8) := by
  unfold State.storeBits
  repeat' (first | with_reducible (first | assumption | apply ev_setRdB) | intro _ | split | dsimp only | with_reducible (first | apply ev_upd | apply ev_updTier))

theorem ev_storeByType (a1 : State) (a2 : Path) (a3 a4 : Nat) (a5 : RegRow) (h1 : Evolves w s0 a1) :
    Evolves w s0 (State.storeByType a1 a2 a3 a4 a5) := by
  unfold State.storeByType
  repeat' (first | with_reducible (first | assumption | apply ev_rwl | apply ev_storeBits) | intro _ | split | dsimp only | with_reducible (first | apply ev_upd | apply ev_updTier))

theorem ev_writeFcuPin (a1 : State) (a2 : Nat) (h1 : Evolves w s0 a1) :
    Evolves w s0 (State.writeFcuPin a1 a2) := by
  unfold State.writeFcuPin
  repeat' (first | with_reducible (first | assumption | apply ev_setRd | refine ev_of_snd (by assumption) ?_ | refine ev_of_fst (by assumption) ?_) | intro _ | split | dsimp only | with_reducible (first | apply ev_upd | apply ev_updTier))

theorem ev_writeFcu (a1 : State) (a2 : Path) (a3 : Nat) (a4 : Word) (a5 : RegRow) (h1 : Evolves w s0 a1) :
    Evolves w s0 (State.writeFcu a1 a2 a3 a4 a5) := by
  unfold State.writeFcu
  repeat' (first | with_reducible (first | assumption | apply ev_rwl | apply ev_goWrite | apply ev_clearFirst | apply ev_storeByType | apply ev_writeFcuPin | apply ev_writeFcuCfg | apply ev_clearStat | apply ev_popLog | apply ev_forceSafe) | intro _ | split | dsimp only | with_reducible (first | apply ev_upd | apply ev_updTier))

theorem ev_writeFtCtrl (a1 : State) (a2 a3 : Nat) (h1 : Evolves w s0 a1) :
    Evolves w s0 (State.writeFtCtrl a1 a2 a3) := by
  unfold State.writeFtCtrl
  repeat' (first | with_reducible (first | assumption | apply ev_setFld | apply ev_resetFarPort) | intro _ | split | dsimp only | with_reducible (first | apply ev_upd | apply ev_updTier))

theorem ev_writeFab (a1 : State) (a2 : Path) (a3 a4 : Nat) (a5 : RegRow) (h1 : Evolves w s0 a1) :
    Evolves w s0 (State.writeFab a1 a2 a3 a4 a5) := by
  unfold State.writeFab
  repeat' (first | with_reducible (first | assumption | apply ev_writeTract | apply ev_writeFtCtrl | apply ev_rwl | apply ev_goWrite | apply ev_travStart | apply ev_clearAbort | apply ev_storeByType) | intro _ | split | dsimp only | with_reducible (first | apply ev_upd | apply ev_updTier))

theorem ev_writeLnkCtrl (a1 : State) (a2 : Path) (a3 a4 : Nat) (h1 : Evolves w s0 a1) :
    Evolves w s0 (State.writeLnkCtrl a1 a2 a3 a4) := by
  unfold State.writeLnkCtrl
  repeat' (first | with_reducible (first | assumption | apply ev_leaveUp | apply ev_lnkRetrain | apply ev_lnkRestart | apply ev_rwl | apply ev_laneReq | apply ev_setFld | apply ev_dropCur) | intro _ | split | dsimp only | with_reducible (first | apply ev_upd | apply ev_updTier))

theorem ev_writeLnk (a1 : State) (a2 : Path) (a3 a4 : Nat) (a5 : RegRow) (h1 : Evolves w s0 a1) :
    Evolves w s0 (State.writeLnk a1 a2 a3 a4 a5) := by
  unfold State.writeLnk
  repeat' (first | with_reducible (first | assumption | apply ev_goWrite | apply ev_storeByType | apply ev_writeLnkCtrl | apply ev_setRd) | intro _ | split | dsimp only | with_reducible (first | apply ev_upd | apply ev_updTier))

theorem ev_writeMsix (a1 : State) (a2 : Nat) (a3 : Word) (h1 : Evolves w s0 a1) :
    Evolves w s0 (State.writeMsix a1 a2 a3) := by
  unfold State.writeMsix
  repeat' (first | with_reducible (first | assumption | apply ev_setRdB | apply ev_msix) | intro _ | split | dsimp only | with_reducible (first | apply ev_upd | apply ev_updTier))

theorem ev_writeParcel (a1 : State) (a2 : Path) (a3 a4 : Nat) (a5 : RegRow) (h1 : Evolves w s0 a1) :
    Evolves w s0 (State.writeParcel a1 a2 a3 a4 a5) := by
  unfold State.writeParcel
  repeat' (first | with_reducible (first | assumption | apply ev_clearWdcErr | apply ev_writeArb | apply ev_clearNearErr | apply ev_clearKvErr | apply ev_writeTract | apply ev_rwl | apply ev_goWrite | apply ev_writeScrub | apply ev_clearGwErr | apply ev_writePlotOwner | apply ev_writeRetrainReq | apply ev_clearHoldErr | apply ev_storeByType | apply ev_setRd | apply ev_freeSlot | apply ev_wdcCommit | apply ev_foldl | apply ev_foldl_fst | apply ev_foldl_snd) | intro _ | split | dsimp only | with_reducible (first | apply ev_upd | apply ev_updTier))

theorem ev_writeBell (a1 : State) (a2 : Path) (a3 a4 : Nat) (h1 : Evolves w s0 a1) :
    Evolves w s0 (State.writeBell a1 a2 a3 a4) := by
  unfold State.writeBell
  repeat' (first | with_reducible (first | assumption | apply ev_ringBell) | intro _ | split | dsimp only | with_reducible (first | apply ev_upd | apply ev_updTier))

theorem ev_writeParcelCmd (a1 : State) (a2 : Path) (a3 a4 : Nat) (h1 : Evolves w s0 a1) :
    Evolves w s0 (State.writeParcelCmd a1 a2 a3 a4) := by
  unfold State.writeParcelCmd
  repeat' (first | with_reducible (first | assumption | apply ev_fenceCommand | apply ev_rwl | apply ev_resetCommand) | intro _ | split | dsimp only | with_reducible (first | apply ev_upd | apply ev_updTier))

theorem ev_writeRec (a1 : State) (a2 : Path) (a3 a4 : Nat) (a5 : RegRow) (h1 : Evolves w s0 a1) :
    Evolves w s0 (State.writeRec a1 a2 a3 a4 a5) := by
  unfold State.writeRec
  repeat' (first | with_reducible (first | assumption | apply ev_rwl | apply ev_writeBell | apply ev_storeBits | apply ev_storeByType | apply ev_writeRlfCmd | apply ev_writeParcelCmd) | intro _ | split | dsimp only | with_reducible (first | apply ev_upd | apply ev_updTier))

theorem ev_writeHif (a1 : State) (a2 : Path) (a3 : Nat) (a4 : Word) (a5 : RegRow) (h1 : Evolves w s0 a1) (wown : w.own
    = true := by assumption) :
    Evolves w s0 (State.writeHif a1 a2 a3 a4 a5) := by
  unfold State.writeHif
  repeat' (first | with_reducible (first | assumption | apply ev_goWrite | apply ev_storeByType | apply ev_writeCtxCfg | apply ev_clearViol | apply ev_clearHostErr | apply ev_ownCommand | apply ev_writeCtxCmd) | intro _ | split | dsimp only | with_reducible (first | apply ev_upd | apply ev_updTier | apply ev_updOwn))

theorem ev_writeEth (a1 : State) (a2 : Path) (a3 a4 : Nat) (a5 : RegRow) (h1 : Evolves w s0 a1) :
    Evolves w s0 (State.writeEth a1 a2 a3 a4 a5) := by
  unfold State.writeEth
  repeat' (first | with_reducible (first | assumption | apply ev_writeQCtrl | apply ev_rwl | apply ev_storeBits | apply ev_storeByType) | intro _ | split | dsimp only | with_reducible (first | apply ev_upd | apply ev_updTier))

theorem ev_writeFirmware (a1 : State) (a2 : Path) (a3 a4 : Nat) (a5 : RegRow) (h1 : Evolves w s0 a1) (wnv : w.nv = true
    := by assumption) :
    Evolves w s0 (State.writeFirmware a1 a2 a3 a4 a5) := by
  unfold State.writeFirmware
  repeat' (first | with_reducible (first | assumption | apply ev_writeBruCmd | apply ev_writeFwuCmd | apply ev_free | apply ev_storeByType | apply ev_fwuConfirm | apply ev_startCompact | apply ev_fwuBy | refine ev_of_snd (by assumption) ?_ | refine ev_of_fst (by assumption) ?_) | intro _ | split | dsimp only | with_reducible (first | apply ev_upd | apply ev_updTier | apply ev_updNv))

theorem ev_writeBlock1 (a1 : State) (a2 : Nat) (h1 : Evolves w s0 a1) :
    Evolves w s0 (State.writeBlock1 a1 a2) := by
  unfold State.writeBlock1
  repeat' (first | with_reducible (first | assumption | apply ev_free | apply ev_blockReset | apply ev_foldl | apply ev_foldl_fst | apply ev_foldl_snd | refine ev_of_snd (by assumption) ?_ | refine ev_of_fst (by assumption) ?_) | intro _ | split | dsimp only | with_reducible (first | apply ev_upd | apply ev_updTier))

theorem ev_writeCentral (a1 : State) (a2 : Path) (a3 : Nat) (a4 : Word) (a5 : RegRow) (h1 : Evolves w s0 a1) :
    Evolves w s0 (State.writeCentral a1 a2 a3 a4 a5) := by
  unfold State.writeCentral
  repeat' (first | with_reducible (first | assumption | apply ev_pwrCommand | apply ev_requestReset | apply ev_freeJob | apply ev_rwl | apply ev_goWrite | apply ev_restartWdt | apply ev_setFld | apply ev_storeByType | apply ev_releasePads | apply ev_writeBlock1 | apply ev_blockReset | apply ev_writeWdtCfg | apply ev_foldl | apply ev_foldl_fst | apply ev_foldl_snd) | intro _ | split | dsimp only | with_reducible (first | apply ev_upd | apply ev_updTier))

theorem ev_writeReg (a1 : State) (a2 : Path) (a3 : Nat) (a4 : Word) (h1 : Evolves w s0 a1) (wnv : w.nv = true := by
    assumption) (wown : w.own = true := by assumption) :
    Evolves w s0 (State.writeReg a1 a2 a3 a4) := by
  unfold State.writeReg
  repeat' (first | with_reducible (first | assumption | apply ev_writeFcu | apply ev_writeFab | apply ev_downAccess | apply ev_writeLnk | apply ev_writeMsix | apply ev_writeParcel | apply ev_writeRec | apply ev_writeHif | apply ev_writeEth | apply ev_writeFirmware | apply ev_writeCentral) | intro _ | split | dsimp only | with_reducible (first | apply ev_upd | apply ev_updTier | apply ev_updNv | apply ev_updOwn))

theorem ev_regAccess (a1 : State) (a2 : Path) (a3 : Nat) (a4 : Option Word) (h1 : Evolves w s0 a1) (wnv : w.nv = true
    := by assumption) (wown : w.own = true := by assumption) :
    Evolves w s0 (State.regAccess a1 a2 a3 a4).2.2 := by
  unfold State.regAccess
  repeat' (first | with_reducible (first | assumption | apply ev_readReg | apply ev_writeReg | refine ev_of_snd (by assumption) ?_ | refine ev_of_fst (by assumption) ?_) | intro _ | split | dsimp only | with_reducible (first | apply ev_upd | apply ev_updTier | apply ev_updNv | apply ev_updOwn))

theorem ev_execRegAccess (a1 : Port) (a2 : Packet) (a3 : State) (h3 : Evolves w s0 a3) (wnv : w.nv = true := by
    assumption) (wown : w.own = true := by assumption) :
    ∀ t, execRegAccess a1 a2 a3 = .next t → Evolves w s0 t := by
  unfold execRegAccess
  refine fun t e => ev_next ?_ e
  repeat' (first | with_reducible (first | assumption | apply ev_regAccess | apply ev_addSat | apply ev_linkSend | apply ev_takePacket | refine ev_of_snd (by assumption) ?_ | refine ev_of_fst (by assumption) ?_) | intro _ | split | dsimp only | with_reducible (first | apply ev_upd | apply ev_updTier | apply ev_updNv | apply ev_updOwn))

theorem ev_execRegisterWrite (a1 : Path) (a2 : Nat) (a3 : Word) (a4 : State) (h4 : Evolves w s0 a4) (wnv : w.nv = true
    := by assumption) (wown : w.own = true := by assumption) :
    ∀ t, execRegisterWrite a1 a2 a3 a4 = .next t → Evolves w s0 t := by
  unfold execRegisterWrite
  refine fun t e => ev_next ?_ e
  repeat' (first | with_reducible (first | assumption | apply ev_writeReg) | intro _ | split | dsimp only | with_reducible (first | apply ev_upd | apply ev_updTier | apply ev_updNv | apply ev_updOwn))

theorem ev_say (a1 : State) (a2 : Transport) (a3 : List Byte) (h1 : Evolves w s0 a1) :
    Evolves w s0 (State.say a1 a2 a3) := by
  unfold State.say
  repeat' (first | with_reducible (first | assumption | apply ev_emit) | intro _ | split | dsimp only | with_reducible (first | apply ev_upd | apply ev_updTier))

theorem ev_askData (a1 : State) (h1 : Evolves w s0 a1) :
    Evolves w s0 (State.askData a1) := by
  unfold State.askData
  repeat' (first | with_reducible (first | assumption | apply ev_say) | intro _ | split | dsimp only | with_reducible (first | apply ev_upd | apply ev_updTier))

theorem ev_dropAddress (a1 : State) (h1 : Evolves w s0 a1) :
    Evolves w s0 (State.dropAddress a1) := by
  unfold State.dropAddress
  repeat' (first | with_reducible (first | assumption | apply ev_setFld) | intro _ | split | dsimp only | with_reducible (first | apply ev_upd | apply ev_updTier))

theorem ev_setUpd (a1 : State) (a2 : PldmUpd) (h1 : Evolves w s0 a1) :
    Evolves w s0 (State.setUpd a1 a2) := by
  unfold State.setUpd
  repeat' (first | with_reducible (first | assumption) | intro _ | split | dsimp only | with_reducible (first | apply ev_upd | apply ev_updTier))

theorem ev_gather (a1 : State) (a2 : List Byte) (h1 : Evolves w s0 a1) (wnv : w.nv = true := by assumption) :
    Evolves w s0 (State.gather a1 a2) := by
  unfold State.gather
  repeat' (first | with_reducible (first | assumption | apply ev_stageUnit | apply ev_setUpd) | intro _ | split | dsimp only | with_reducible (first | apply ev_upd | apply ev_updTier | apply ev_updNv))

theorem ev_heardTray (a1 : State) (h1 : Evolves w s0 a1) :
    Evolves w s0 (State.heardTray a1) := by
  unfold State.heardTray
  repeat' (first | with_reducible (first | assumption) | intro _ | split | dsimp only | with_reducible (first | apply ev_upd | apply ev_updTier))

theorem ev_keepEffecter (a1 : State) (a2 a3 : Nat) (h1 : Evolves w s0 a1) :
    Evolves w s0 (State.keepEffecter a1 a2 a3) := by
  unfold State.keepEffecter
  repeat' (first | with_reducible (first | assumption) | intro _ | split | dsimp only | with_reducible (first | apply ev_upd | apply ev_updTier))

theorem ev_leak (a1 : State) (h1 : Evolves w s0 a1) (wnv : w.nv = true := by assumption) :
    Evolves w s0 (State.leak a1) := by
  unfold State.leak
  repeat' (first | with_reducible (first | assumption | apply ev_latchEvent | apply ev_nvMirror | apply ev_setBit | refine ev_of_snd (by assumption) ?_ | refine ev_of_fst (by assumption) ?_) | intro _ | split | dsimp only | with_reducible (first | apply ev_upd | apply ev_updTier | apply ev_updNv))

theorem ev_pldm (a1 : State) (a2 : Transport) (a3 a4 : Nat) (a5 a6 : Bool) (a7 : State → Nat × List Byte × State) (h1 :
    Evolves w s0 a1) (h7 : ∀ y1, Evolves w s0 y1 → Evolves w s0 (a7 y1).2.2) :
    Evolves w s0 (State.pldm a1 a2 a3 a4 a5 a6 a7) := by
  unfold State.pldm
  repeat' (first | with_reducible (first | assumption | apply ev_say | apply h7 | refine ev_of_snd (by assumption) ?_ | refine ev_of_fst (by assumption) ?_) | intro _ | split | dsimp only | with_reducible (first | apply ev_upd | apply ev_updTier))

theorem ev_pollAck (a1 : State) (h1 : Evolves w s0 a1) :
    Evolves w s0 (State.pollAck a1) := by
  unfold State.pollAck
  repeat' (first | with_reducible (first | assumption) | intro _ | split | dsimp only | with_reducible (first | apply ev_upd | apply ev_updTier))

theorem ev_pollEvent (a1 : State) (h1 : Evolves w s0 a1) :
    Evolves w s0 (State.pollEvent a1).2 := by
  unfold State.pollEvent
  repeat' (first | with_reducible (first | assumption | refine ev_of_snd (by assumption) ?_ | refine ev_of_fst (by assumption) ?_) | intro _ | split | dsimp only | with_reducible (first | apply ev_upd | apply ev_updTier))

theorem ev_setNumeric (a1 : State) (a2 : Transport) (a3 a4 : Nat) (a5 : State → State) (h1 : Evolves w s0 a1) (h5 : ∀
    y1, Evolves w s0 y1 → Evolves w s0 (a5 y1)) :
    Evolves w s0 (State.setNumeric a1 a2 a3 a4 a5) := by
  unfold State.setNumeric
  repeat' (first | with_reducible (first | assumption | apply ev_pldm | apply ev_heardTray | apply h5 | refine ev_of_snd (by assumption) ?_ | refine ev_of_fst (by assumption) ?_) | intro _ | split | dsimp only | with_reducible (first | apply ev_upd | apply ev_updTier))

theorem ev_setPhase (a1 : State) (a2 : Nat) (h1 : Evolves w s0 a1) :
    Evolves w s0 (State.setPhase a1 a2) := by
  unfold State.setPhase
  repeat' (first | with_reducible (first | assumption | apply ev_setUpd) | intro _ | split | dsimp only | with_reducible (first | apply ev_upd | apply ev_updTier))

theorem ev_setState (a1 : State) (a2 : Transport) (a3 a4 a5 : Nat) (a6 : Bool) (a7 : State → State) (h1 : Evolves w s0
    a1) (h7 : ∀ y1, Evolves w s0 y1 → Evolves w s0 (a7 y1)) :
    Evolves w s0 (State.setState a1 a2 a3 a4 a5 a6 a7) := by
  unfold State.setState
  repeat' (first | with_reducible (first | assumption | apply ev_keepEffecter | apply ev_pldm | apply ev_heardTray | apply h7 | refine ev_of_snd (by assumption) ?_ | refine ev_of_fst (by assumption) ?_) | intro _ | split | dsimp only | with_reducible (first | apply ev_upd | apply ev_updTier))

theorem ev_signed (a1 : State) (a2 a3 : List Byte) (h1 : Evolves w s0 a1) :
    Evolves w s0 (State.signed a1 a2 a3).2 := by
  unfold State.signed
  repeat' (first | with_reducible (first | assumption | apply ev_free | refine ev_of_snd (by assumption) ?_ | refine ev_of_fst (by assumption) ?_) | intro _ | split | dsimp only | with_reducible (first | apply ev_upd | apply ev_updTier))

theorem ev_spdmCmd (a1 : State) (a2 : Transport) (a3 : Nat) (a4 : State → List Byte × State) (h1 : Evolves w s0 a1) (h4
    : ∀ y1, Evolves w s0 y1 → Evolves w s0 (a4 y1).2) :
    Evolves w s0 (State.spdmCmd a1 a2 a3 a4) := by
  unfold State.spdmCmd
  repeat' (first | with_reducible (first | assumption | apply ev_say | apply h4 | refine ev_of_snd (by assumption) ?_ | refine ev_of_fst (by assumption) ?_) | intro _ | split | dsimp only | with_reducible (first | apply ev_upd | apply ev_updTier))

theorem ev_spdmStage (a1 : State) (a2 : Transport) (a3 : Nat) (h1 : Evolves w s0 a1) :
    Evolves w s0 (State.spdmStage a1 a2 a3) := by
  unfold State.spdmStage
  repeat' (first | with_reducible (first | assumption) | intro _ | split | dsimp only | with_reducible (first | apply ev_upd | apply ev_updTier))

theorem ev_swapAck (a1 : State) (a2 : Nat) (h1 : Evolves w s0 a1) :
    Evolves w s0 (State.swapAck a1 a2) := by
  unfold State.swapAck
  repeat' (first | with_reducible (first | assumption | apply ev_mgmtEvent) | intro _ | split | dsimp only | with_reducible (first | apply ev_upd | apply ev_updTier))

theorem ev_updCmd (a1 : State) (a2 : Transport) (a3 : Nat) (a4 : State → Nat × List Byte × State) (h1 : Evolves w s0
    a1) (h4 : ∀ y1, Evolves w s0 y1 → Evolves w s0 (a4 y1).2.2) :
    Evolves w s0 (State.updCmd a1 a2 a3 a4) := by
  unfold State.updCmd
  repeat' (first | with_reducible (first | assumption | apply ev_pldm | apply h4 | refine ev_of_snd (by assumption) ?_ | refine ev_of_fst (by assumption) ?_) | intro _ | split | dsimp only | with_reducible (first | apply ev_upd | apply ev_updTier))

theorem ev_vendorReg (a1 : State) (a2 : Transport) (a3 : Nat) (a4 : Option Word) (h1 : Evolves w s0 a1) (wnv : w.nv =
    true := by assumption) (wown : w.own = true := by assumption) :
    Evolves w s0 (State.vendorReg a1 a2 a3 a4) := by
  unfold State.vendorReg
  repeat' (first | with_reducible (first | assumption | apply ev_regAccess | apply ev_say | refine ev_of_snd (by assumption) ?_ | refine ev_of_fst (by assumption) ?_) | intro _ | split | dsimp only | with_reducible (first | apply ev_upd | apply ev_updTier | apply ev_updNv | apply ev_updOwn))

theorem ev_execActivateFirmware (a1 : Transport) (a2 : State) (h2 : Evolves w s0 a2) (wnv : w.nv = true := by
    assumption) :
    ∀ t, execActivateFirmware a1 a2 = .next t → Evolves w s0 t := by
  unfold execActivateFirmware
  refine fun t e => ev_next ?_ e
  repeat' (first | with_reducible (first | assumption | apply ev_updCmd | apply ev_fwuActivate | apply ev_setUpd | refine ev_of_snd (by assumption) ?_ | refine ev_of_fst (by assumption) ?_) | intro _ | split | dsimp only | with_reducible (first | apply ev_upd | apply ev_updTier | apply ev_updNv))

theorem ev_execApplyComplete (a1 : State) (h1 : Evolves w s0 a1) :
    ∀ t, execApplyComplete a1 = .next t → Evolves w s0 t := by
  unfold execApplyComplete
  refine fun t e => ev_next ?_ e
  repeat' (first | with_reducible (first | assumption | apply ev_say | apply ev_setPhase) | intro _ | split | dsimp only | with_reducible (first | apply ev_upd | apply ev_updTier))

theorem ev_execBackupEnergyStore (a1 : Transport) (a2 : BitVec 8) (a3 : State) (h3 : Evolves w s0 a3) :
    ∀ t, execBackupEnergyStore a1 a2 a3 = .next t → Evolves w s0 t := by
  unfold execBackupEnergyStore
  refine fun t e => ev_next ?_ e
  repeat' (first | with_reducible (first | assumption | apply ev_setFld | apply ev_setState) | intro _ | split | dsimp only | with_reducible (first | apply ev_upd | apply ev_updTier))

theorem ev_execBackupStale (a1 : State) (h1 : Evolves w s0 a1) :
    ∀ t, execBackupStale a1 = .next t → Evolves w s0 t := by
  unfold execBackupStale
  refine fun t e => ev_next ?_ e
  repeat' (first | with_reducible (first | assumption | apply ev_atDeadline | apply ev_setFld) | intro _ | split | dsimp only | with_reducible (first | apply ev_upd | apply ev_updTier))

theorem ev_execBudget (a1 : Transport) (a2 : BitVec 32) (a3 : State) (h3 : Evolves w s0 a3) (wnv : w.nv = true := by
    assumption) :
    ∀ t, execBudget a1 a2 a3 = .next t → Evolves w s0 t := by
  unfold execBudget
  refine fun t e => ev_next ?_ e
  repeat' (first | with_reducible (first | assumption | apply ev_setFld | apply ev_nvWrite | apply ev_setNumeric) | intro _ | split | dsimp only | with_reducible (first | apply ev_upd | apply ev_updTier | apply ev_updNv))

theorem ev_execCancelUpdate (a1 : Transport) (a2 : State) (h2 : Evolves w s0 a2) (wnv : w.nv = true := by assumption) :
    ∀ t, execCancelUpdate a1 a2 = .next t → Evolves w s0 t := by
  unfold execCancelUpdate
  refine fun t e => ev_next ?_ e
  repeat' (first | with_reducible (first | assumption | apply ev_updCmd | apply ev_fwuAbort | apply ev_setUpd | refine ev_of_snd (by assumption) ?_ | refine ev_of_fst (by assumption) ?_) | intro _ | split | dsimp only | with_reducible (first | apply ev_upd | apply ev_updTier | apply ev_updNv))

theorem ev_execCancelUpdateComponent (a1 : Transport) (a2 : State) (h2 : Evolves w s0 a2) (wnv : w.nv = true := by
    assumption) :
    ∀ t, execCancelUpdateComponent a1 a2 = .next t → Evolves w s0 t := by
  unfold execCancelUpdateComponent
  refine fun t e => ev_next ?_ e
  repeat' (first | with_reducible (first | assumption | apply ev_updCmd | apply ev_fwuAbort | apply ev_setUpd | refine ev_of_snd (by assumption) ?_ | refine ev_of_fst (by assumption) ?_) | intro _ | split | dsimp only | with_reducible (first | apply ev_upd | apply ev_updTier | apply ev_updNv))

theorem ev_execChallenge (a1 : Transport) (a2 : BitVec 8) (a3 : List Byte) (a4 : State) (h4 : Evolves w s0 a4) :
    ∀ t, execChallenge a1 a2 a3 a4 = .next t → Evolves w s0 t := by
  unfold execChallenge
  refine fun t e => ev_next ?_ e
  repeat' (first | with_reducible (first | assumption | apply ev_signed | apply ev_spdmCmd | refine ev_of_snd (by assumption) ?_ | refine ev_of_fst (by assumption) ?_) | intro _ | split | dsimp only | with_reducible (first | apply ev_upd | apply ev_updTier))

theorem ev_execCoolantFlow (a1 : Transport) (a2 : BitVec 32) (a3 : State) (h3 : Evolves w s0 a3) :
    ∀ t, execCoolantFlow a1 a2 a3 = .next t → Evolves w s0 t := by
  unfold execCoolantFlow
  refine fun t e => ev_next ?_ e
  repeat' (first | with_reducible (first | assumption | apply ev_setNumeric | apply ev_setRd) | intro _ | split | dsimp only | with_reducible (first | apply ev_upd | apply ev_updTier))

theorem ev_execCoolantInlet (a1 : Transport) (a2 : BitVec 32) (a3 : State) (h3 : Evolves w s0 a3) :
    ∀ t, execCoolantInlet a1 a2 a3 = .next t → Evolves w s0 t := by
  unfold execCoolantInlet
  refine fun t e => ev_next ?_ e
  repeat' (first | with_reducible (first | assumption | apply ev_setNumeric | apply ev_coolantIn) | intro _ | split | dsimp only | with_reducible (first | apply ev_upd | apply ev_updTier))

theorem ev_execCoolantOutlet (a1 : Transport) (a2 : BitVec 32) (a3 : State) (h3 : Evolves w s0 a3) :
    ∀ t, execCoolantOutlet a1 a2 a3 = .next t → Evolves w s0 t := by
  unfold execCoolantOutlet
  refine fun t e => ev_next ?_ e
  repeat' (first | with_reducible (first | assumption | apply ev_setNumeric | apply ev_setRd) | intro _ | split | dsimp only | with_reducible (first | apply ev_upd | apply ev_updTier))

theorem ev_execEntdaa (a1 : BitVec 7) (a2 : State) (h2 : Evolves w s0 a2) :
    ∀ t, execEntdaa a1 a2 = .next t → Evolves w s0 t := by
  unfold execEntdaa
  refine fun t e => ev_next ?_ e
  repeat' (first | with_reducible (first | assumption | apply ev_setBit | apply ev_setFld) | intro _ | split | dsimp only | with_reducible (first | apply ev_upd | apply ev_updTier))

theorem ev_execGetCapabilities (a1 : Transport) (a2 : State) (h2 : Evolves w s0 a2) :
    ∀ t, execGetCapabilities a1 a2 = .next t → Evolves w s0 t := by
  unfold execGetCapabilities
  refine fun t e => ev_next ?_ e
  repeat' (first | with_reducible (first | assumption | apply ev_spdmStage | apply ev_spdmCmd) | intro _ | split | dsimp only | with_reducible (first | apply ev_upd | apply ev_updTier))

theorem ev_execGetCertificate (a1 : Transport) (a2 : BitVec 8) (a3 a4 : BitVec 16) (a5 : State) (h5 : Evolves w s0 a5) :
    ∀ t, execGetCertificate a1 a2 a3 a4 a5 = .next t → Evolves w s0 t := by
  unfold execGetCertificate
  refine fun t e => ev_next ?_ e
  repeat' (first | with_reducible (first | assumption | apply ev_spdmCmd | refine ev_of_snd (by assumption) ?_ | refine ev_of_fst (by assumption) ?_) | intro _ | split | dsimp only | with_reducible (first | apply ev_upd | apply ev_updTier))

theorem ev_execGetDigests (a1 : Transport) (a2 : State) (h2 : Evolves w s0 a2) :
    ∀ t, execGetDigests a1 a2 = .next t → Evolves w s0 t := by
  unfold execGetDigests
  refine fun t e => ev_next ?_ e
  repeat' (first | with_reducible (first | assumption | apply ev_spdmCmd) | intro _ | split | dsimp only | with_reducible (first | apply ev_upd | apply ev_updTier))

theorem ev_execGetFirmwareParameters (a1 : Transport) (a2 : State) (h2 : Evolves w s0 a2) :
    ∀ t, execGetFirmwareParameters a1 a2 = .next t → Evolves w s0 t := by
  unfold execGetFirmwareParameters
  refine fun t e => ev_next ?_ e
  repeat' (first | with_reducible (first | assumption | apply ev_updCmd | refine ev_of_snd (by assumption) ?_ | refine ev_of_fst (by assumption) ?_) | intro _ | split | dsimp only | with_reducible (first | apply ev_upd | apply ev_updTier))

theorem ev_execGetMeasurements (a1 : Transport) (a2 : BitVec 8) (a3 : Bool) (a4 : List Byte) (a5 : State) (h5 : Evolves
    w s0 a5) :
    ∀ t, execGetMeasurements a1 a2 a3 a4 a5 = .next t → Evolves w s0 t := by
  unfold execGetMeasurements
  refine fun t e => ev_next ?_ e
  repeat' (first | with_reducible (first | assumption | apply ev_signed | apply ev_spdmCmd | refine ev_of_snd (by assumption) ?_ | refine ev_of_fst (by assumption) ?_) | intro _ | split | dsimp only | with_reducible (first | apply ev_upd | apply ev_updTier))

theorem ev_execGetNumericEffecterValue (a1 : Transport) (a2 : BitVec 16) (a3 : State) (h3 : Evolves w s0 a3) :
    ∀ t, execGetNumericEffecterValue a1 a2 a3 = .next t → Evolves w s0 t := by
  unfold execGetNumericEffecterValue
  refine fun t e => ev_next ?_ e
  repeat' (first | with_reducible (first | assumption | apply ev_pldm | refine ev_of_snd (by assumption) ?_ | refine ev_of_fst (by assumption) ?_) | intro _ | split | dsimp only | with_reducible (first | apply ev_upd | apply ev_updTier))

theorem ev_execGetPdr (a1 : Transport) (a2 : BitVec 32) (a3 : State) (h3 : Evolves w s0 a3) :
    ∀ t, execGetPdr a1 a2 a3 = .next t → Evolves w s0 t := by
  unfold execGetPdr
  refine fun t e => ev_next ?_ e
  repeat' (first | with_reducible (first | assumption | apply ev_pldm | refine ev_of_snd (by assumption) ?_ | refine ev_of_fst (by assumption) ?_) | intro _ | split | dsimp only | with_reducible (first | apply ev_upd | apply ev_updTier))

theorem ev_execGetPdrRepositoryInfo (a1 : Transport) (a2 : State) (h2 : Evolves w s0 a2) :
    ∀ t, execGetPdrRepositoryInfo a1 a2 = .next t → Evolves w s0 t := by
  unfold execGetPdrRepositoryInfo
  refine fun t e => ev_next ?_ e
  repeat' (first | with_reducible (first | assumption | apply ev_pldm | refine ev_of_snd (by assumption) ?_ | refine ev_of_fst (by assumption) ?_) | intro _ | split | dsimp only | with_reducible (first | apply ev_upd | apply ev_updTier))

theorem ev_execGetPldmCommands (a1 : Transport) (a2 : BitVec 8) (a3 : State) (h3 : Evolves w s0 a3) :
    ∀ t, execGetPldmCommands a1 a2 a3 = .next t → Evolves w s0 t := by
  unfold execGetPldmCommands
  refine fun t e => ev_next ?_ e
  repeat' (first | with_reducible (first | assumption | apply ev_pldm | refine ev_of_snd (by assumption) ?_ | refine ev_of_fst (by assumption) ?_) | intro _ | split | dsimp only | with_reducible (first | apply ev_upd | apply ev_updTier))

theorem ev_execGetPldmTypes (a1 : Transport) (a2 : State) (h2 : Evolves w s0 a2) :
    ∀ t, execGetPldmTypes a1 a2 = .next t → Evolves w s0 t := by
  unfold execGetPldmTypes
  refine fun t e => ev_next ?_ e
  repeat' (first | with_reducible (first | assumption | apply ev_pldm | refine ev_of_snd (by assumption) ?_ | refine ev_of_fst (by assumption) ?_) | intro _ | split | dsimp only | with_reducible (first | apply ev_upd | apply ev_updTier))

theorem ev_execGetPldmVersion (a1 : Transport) (a2 : BitVec 8) (a3 : State) (h3 : Evolves w s0 a3) :
    ∀ t, execGetPldmVersion a1 a2 a3 = .next t → Evolves w s0 t := by
  unfold execGetPldmVersion
  refine fun t e => ev_next ?_ e
  repeat' (first | with_reducible (first | assumption | apply ev_pldm | refine ev_of_snd (by assumption) ?_ | refine ev_of_fst (by assumption) ?_) | intro _ | split | dsimp only | with_reducible (first | apply ev_upd | apply ev_updTier))

theorem ev_execGetSensorReading (a1 : Transport) (a2 : Sensor) (a3 : State) (h3 : Evolves w s0 a3) :
    ∀ t, execGetSensorReading a1 a2 a3 = .next t → Evolves w s0 t := by
  unfold execGetSensorReading
  refine fun t e => ev_next ?_ e
  repeat' (first | with_reducible (first | assumption | apply ev_pldm | refine ev_of_snd (by assumption) ?_ | refine ev_of_fst (by assumption) ?_) | intro _ | split | dsimp only | with_reducible (first | apply ev_upd | apply ev_updTier))

theorem ev_execGetStateEffecterStates (a1 : Transport) (a2 : BitVec 16) (a3 : State) (h3 : Evolves w s0 a3) :
    ∀ t, execGetStateEffecterStates a1 a2 a3 = .next t → Evolves w s0 t := by
  unfold execGetStateEffecterStates
  refine fun t e => ev_next ?_ e
  repeat' (first | with_reducible (first | assumption | apply ev_pldm | refine ev_of_snd (by assumption) ?_ | refine ev_of_fst (by assumption) ?_) | intro _ | split | dsimp only | with_reducible (first | apply ev_upd | apply ev_updTier))

theorem ev_execGetStateSensorReadings (a1 : Transport) (a2 : Sensor) (a3 : State) (h3 : Evolves w s0 a3) :
    ∀ t, execGetStateSensorReadings a1 a2 a3 = .next t → Evolves w s0 t := by
  unfold execGetStateSensorReadings
  refine fun t e => ev_next ?_ e
  repeat' (first | with_reducible (first | assumption | apply ev_pldm | refine ev_of_snd (by assumption) ?_ | refine ev_of_fst (by assumption) ?_) | intro _ | split | dsimp only | with_reducible (first | apply ev_upd | apply ev_updTier))

theorem ev_execGetStatus (a1 : Transport) (a2 : State) (h2 : Evolves w s0 a2) :
    ∀ t, execGetStatus a1 a2 = .next t → Evolves w s0 t := by
  unfold execGetStatus
  refine fun t e => ev_next ?_ e
  repeat' (first | with_reducible (first | assumption | apply ev_updCmd | refine ev_of_snd (by assumption) ?_ | refine ev_of_fst (by assumption) ?_) | intro _ | split | dsimp only | with_reducible (first | apply ev_upd | apply ev_updTier))

theorem ev_execGetTid (a1 : Transport) (a2 : State) (h2 : Evolves w s0 a2) :
    ∀ t, execGetTid a1 a2 = .next t → Evolves w s0 t := by
  unfold execGetTid
  refine fun t e => ev_next ?_ e
  repeat' (first | with_reducible (first | assumption | apply ev_pldm | refine ev_of_snd (by assumption) ?_ | refine ev_of_fst (by assumption) ?_) | intro _ | split | dsimp only | with_reducible (first | apply ev_upd | apply ev_updTier))

theorem ev_execGetVersion (a1 : Transport) (a2 : State) (h2 : Evolves w s0 a2) :
    ∀ t, execGetVersion a1 a2 = .next t → Evolves w s0 t := by
  unfold execGetVersion
  refine fun t e => ev_next ?_ e
  repeat' (first | with_reducible (first | assumption | apply ev_spdmStage | apply ev_spdmCmd) | intro _ | split | dsimp only | with_reducible (first | apply ev_upd | apply ev_updTier))

theorem ev_execIbiRetry (a1 : State) (h1 : Evolves w s0 a1) :
    ∀ t, execIbiRetry a1 = .next t → Evolves w s0 t := by
  unfold execIbiRetry
  refine fun t e => ev_next ?_ e
  repeat' (first | with_reducible (first | assumption | apply ev_atDeadline | apply ev_emit) | intro _ | split | dsimp only | with_reducible (first | apply ev_upd | apply ev_updTier))

theorem ev_execLeak (a1 : Transport) (a2 : BitVec 8) (a3 : State) (h3 : Evolves w s0 a3) (wnv : w.nv = true := by
    assumption) :
    ∀ t, execLeak a1 a2 a3 = .next t → Evolves w s0 t := by
  unfold execLeak
  refine fun t e => ev_next ?_ e
  repeat' (first | with_reducible (first | assumption | apply ev_leak | apply ev_setState) | intro _ | split | dsimp only | with_reducible (first | apply ev_upd | apply ev_updTier | apply ev_updNv))

theorem ev_execMctpReassemblyTimeout (a1 : Transport) (a2 : State) (h2 : Evolves w s0 a2) :
    ∀ t, execMctpReassemblyTimeout a1 a2 = .next t → Evolves w s0 t := by
  unfold execMctpReassemblyTimeout
  refine fun t e => ev_next ?_ e
  repeat' (first | with_reducible (first | assumption | apply ev_addSat | apply ev_setBit) | intro _ | split | dsimp only | with_reducible (first | apply ev_upd | apply ev_updTier))

theorem ev_execMgmtCmd (a1 : Transport) (a2 : State) (h2 : Evolves w s0 a2) :
    ∀ t, execMgmtCmd a1 a2 = .next t → Evolves w s0 t := by
  unfold execMgmtCmd
  refine fun t e => ev_next ?_ e
  repeat' (first | with_reducible (first | assumption | apply ev_requestReset | apply ev_setState) | intro _ | split | dsimp only | with_reducible (first | apply ev_upd | apply ev_updTier))

theorem ev_execMgpWake (a1 : Transport) (a2 : BitVec 8) (a3 : State) (h3 : Evolves w s0 a3) :
    ∀ t, execMgpWake a1 a2 a3 = .next t → Evolves w s0 t := by
  unfold execMgpWake
  refine fun t e => ev_next ?_ e
  repeat' (first | with_reducible (first | assumption | apply ev_wakeEvent | apply ev_setState) | intro _ | split | dsimp only | with_reducible (first | apply ev_upd | apply ev_updTier))

theorem ev_execNegotiateAlgorithms (a1 : Transport) (a2 a3 : Bool) (a4 : State) (h4 : Evolves w s0 a4) :
    ∀ t, execNegotiateAlgorithms a1 a2 a3 a4 = .next t → Evolves w s0 t := by
  unfold execNegotiateAlgorithms
  refine fun t e => ev_next ?_ e
  repeat' (first | with_reducible (first | assumption | apply ev_spdmStage | apply ev_spdmCmd | refine ev_of_snd (by assumption) ?_ | refine ev_of_fst (by assumption) ?_) | intro _ | split | dsimp only | with_reducible (first | apply ev_upd | apply ev_updTier))

theorem ev_execPassComponentTable (a1 : Transport) (a2 : Bool) (a3 : State) (h3 : Evolves w s0 a3) :
    ∀ t, execPassComponentTable a1 a2 a3 = .next t → Evolves w s0 t := by
  unfold execPassComponentTable
  refine fun t e => ev_next ?_ e
  repeat' (first | with_reducible (first | assumption | apply ev_updCmd | apply ev_setPhase | refine ev_of_snd (by assumption) ?_ | refine ev_of_fst (by assumption) ?_) | intro _ | split | dsimp only | with_reducible (first | apply ev_upd | apply ev_updTier))

theorem ev_execPollForPlatformEventMessage (a1 : Transport) (a2 : Bool) (a3 : State) (h3 : Evolves w s0 a3) :
    ∀ t, execPollForPlatformEventMessage a1 a2 a3 = .next t → Evolves w s0 t := by
  unfold execPollForPlatformEventMessage
  refine fun t e => ev_next ?_ e
  repeat' (first | with_reducible (first | assumption | apply ev_pollEvent | apply ev_pollAck | apply ev_pldm | refine ev_of_snd (by assumption) ?_ | refine ev_of_fst (by assumption) ?_) | intro _ | split | dsimp only | with_reducible (first | apply ev_upd | apply ev_updTier))

theorem ev_execPrepareSwap (a1 : Transport) (a2 : State) (h2 : Evolves w s0 a2) :
    ∀ t, execPrepareSwap a1 a2 = .next t → Evolves w s0 t := by
  unfold execPrepareSwap
  refine fun t e => ev_next ?_ e
  repeat' (first | with_reducible (first | assumption | apply ev_setBit | apply ev_raise | apply ev_setState | apply ev_swapAck) | intro _ | split | dsimp only | with_reducible (first | apply ev_upd | apply ev_updTier))

theorem ev_execQueryDeviceIdentifiers (a1 : Transport) (a2 : State) (h2 : Evolves w s0 a2) :
    ∀ t, execQueryDeviceIdentifiers a1 a2 = .next t → Evolves w s0 t := by
  unfold execQueryDeviceIdentifiers
  refine fun t e => ev_next ?_ e
  repeat' (first | with_reducible (first | assumption | apply ev_updCmd | refine ev_of_snd (by assumption) ?_ | refine ev_of_fst (by assumption) ?_) | intro _ | split | dsimp only | with_reducible (first | apply ev_upd | apply ev_updTier))

theorem ev_execRegRead (a1 : Transport) (a2 : BitVec 32) (a3 : State) (h3 : Evolves w s0 a3) (wnv : w.nv = true := by
    assumption) (wown : w.own = true := by assumption) :
    ∀ t, execRegRead a1 a2 a3 = .next t → Evolves w s0 t := by
  unfold execRegRead
  refine fun t e => ev_next ?_ e
  repeat' (first | with_reducible (first | assumption | apply ev_vendorReg) | intro _ | split | dsimp only | with_reducible (first | apply ev_upd | apply ev_updTier | apply ev_updNv | apply ev_updOwn))

theorem ev_execRegWrite (a1 : Transport) (a2 a3 : Word) (a4 : State) (h4 : Evolves w s0 a4) (wnv : w.nv = true := by
    assumption) (wown : w.own = true := by assumption) :
    ∀ t, execRegWrite a1 a2 a3 a4 = .next t → Evolves w s0 t := by
  unfold execRegWrite
  refine fun t e => ev_next ?_ e
  repeat' (first | with_reducible (first | assumption | apply ev_vendorReg) | intro _ | split | dsimp only | with_reducible (first | apply ev_upd | apply ev_updTier | apply ev_updNv | apply ev_updOwn))

theorem ev_execRequestFirmwareData (a1 : BitVec 8) (a2 : List Byte) (a3 : State) (h3 : Evolves w s0 a3) (wnv : w.nv =
    true := by assumption) :
    ∀ t, execRequestFirmwareData a1 a2 a3 = .next t → Evolves w s0 t := by
  unfold execRequestFirmwareData
  refine fun t e => ev_next ?_ e
  repeat' (first | with_reducible (first | assumption | apply ev_askData | apply ev_gather) | intro _ | split | dsimp only | with_reducible (first | apply ev_upd | apply ev_updTier | apply ev_updNv))

theorem ev_execRequestUpdate (a1 : Transport) (a2 : State) (h2 : Evolves w s0 a2) :
    ∀ t, execRequestUpdate a1 a2 = .next t → Evolves w s0 t := by
  unfold execRequestUpdate
  refine fun t e => ev_next ?_ e
  repeat' (first | with_reducible (first | assumption | apply ev_updCmd | apply ev_setUpd | refine ev_of_snd (by assumption) ?_ | refine ev_of_fst (by assumption) ?_) | intro _ | split | dsimp only | with_reducible (first | apply ev_upd | apply ev_updTier))

theorem ev_execRstdaa (a1 : State) (h1 : Evolves w s0 a1) :
    ∀ t, execRstdaa a1 = .next t → Evolves w s0 t := by
  unfold execRstdaa
  refine fun t e => ev_next ?_ e
  repeat' (first | with_reducible (first | assumption | apply ev_dropAddress) | intro _ | split | dsimp only | with_reducible (first | apply ev_upd | apply ev_updTier))

theorem ev_execSetEndpointId (a1 : Transport) (a2 : BitVec 8) (a3 : State) (h3 : Evolves w s0 a3) :
    ∀ t, execSetEndpointId a1 a2 a3 = .next t → Evolves w s0 t := by
  unfold execSetEndpointId
  refine fun t e => ev_next ?_ e
  repeat' (first | with_reducible (first | assumption | apply ev_setFld | apply ev_say) | intro _ | split | dsimp only | with_reducible (first | apply ev_upd | apply ev_updTier))

theorem ev_execSetEventReceiver (a1 : Transport) (a2 : BitVec 8) (a3 : State) (h3 : Evolves w s0 a3) :
    ∀ t, execSetEventReceiver a1 a2 a3 = .next t → Evolves w s0 t := by
  unfold execSetEventReceiver
  refine fun t e => ev_next ?_ e
  repeat' (first | with_reducible (first | assumption | apply ev_pldm | refine ev_of_snd (by assumption) ?_ | refine ev_of_fst (by assumption) ?_) | intro _ | split | dsimp only | with_reducible (first | apply ev_upd | apply ev_updTier))

theorem ev_execSetTid (a1 : Transport) (a2 : BitVec 8) (a3 : State) (h3 : Evolves w s0 a3) :
    ∀ t, execSetTid a1 a2 a3 = .next t → Evolves w s0 t := by
  unfold execSetTid
  refine fun t e => ev_next ?_ e
  repeat' (first | with_reducible (first | assumption | apply ev_pldm | refine ev_of_snd (by assumption) ?_ | refine ev_of_fst (by assumption) ?_) | intro _ | split | dsimp only | with_reducible (first | apply ev_upd | apply ev_updTier))

theorem ev_execSwapCancel (a1 : Transport) (a2 : BitVec 8) (a3 : State) (h3 : Evolves w s0 a3) :
    ∀ t, execSwapCancel a1 a2 a3 = .next t → Evolves w s0 t := by
  unfold execSwapCancel
  refine fun t e => ev_next ?_ e
  repeat' (first | with_reducible (first | assumption | apply ev_setFld | apply ev_setState | apply ev_swapAck) | intro _ | split | dsimp only | with_reducible (first | apply ev_upd | apply ev_updTier))

theorem ev_execTargetResetAction (a1 : State) (h1 : Evolves w s0 a1) :
    ∀ t, execTargetResetAction a1 = .next t → Evolves w s0 t := by
  unfold execTargetResetAction
  refine fun t e => ev_next ?_ e
  repeat' (first | with_reducible (first | assumption | apply ev_dropAddress) | intro _ | split | dsimp only | with_reducible (first | apply ev_upd | apply ev_updTier))

theorem ev_execTransferComplete (a1 : State) (h1 : Evolves w s0 a1) :
    ∀ t, execTransferComplete a1 = .next t → Evolves w s0 t := by
  unfold execTransferComplete
  refine fun t e => ev_next ?_ e
  repeat' (first | with_reducible (first | assumption | apply ev_say | apply ev_setPhase) | intro _ | split | dsimp only | with_reducible (first | apply ev_upd | apply ev_updTier))

theorem ev_execTrayAbsent (a1 : State) (h1 : Evolves w s0 a1) :
    ∀ t, execTrayAbsent a1 = .next t → Evolves w s0 t := by
  unfold execTrayAbsent
  refine fun t e => ev_next ?_ e
  repeat' (first | with_reducible (first | assumption | apply ev_setBit | apply ev_atDeadline | apply ev_raise) | intro _ | split | dsimp only | with_reducible (first | apply ev_upd | apply ev_updTier))

theorem ev_execUnsupportedCommand (a1 : Transport) (a2 a3 a4 : BitVec 8) (a5 : State) (h5 : Evolves w s0 a5) :
    ∀ t, execUnsupportedCommand a1 a2 a3 a4 a5 = .next t → Evolves w s0 t := by
  unfold execUnsupportedCommand
  refine fun t e => ev_next ?_ e
  repeat' (first | with_reducible (first | assumption | apply ev_say) | intro _ | split | dsimp only | with_reducible (first | apply ev_upd | apply ev_updTier))

theorem ev_execUpdateComponent (a1 : Transport) (a2 : BitVec 16) (a3 : BitVec 32) (a4 : State) (h4 : Evolves w s0 a4)
    (wnv : w.nv = true := by assumption) :
    ∀ t, execUpdateComponent a1 a2 a3 a4 = .next t → Evolves w s0 t := by
  unfold execUpdateComponent
  refine fun t e => ev_next ?_ e
  repeat' (first | with_reducible (first | assumption | apply ev_updCmd | apply ev_fwuBegin | apply ev_askData | apply ev_setUpd | refine ev_of_snd (by assumption) ?_ | refine ev_of_fst (by assumption) ?_) | intro _ | split | dsimp only | with_reducible (first | apply ev_upd | apply ev_updTier | apply ev_updNv))

theorem ev_execVerifyComplete (a1 : Bool) (a2 : State) (h2 : Evolves w s0 a2) (wnv : w.nv = true := by assumption) :
    ∀ t, execVerifyComplete a1 a2 = .next t → Evolves w s0 t := by
  unfold execVerifyComplete
  refine fun t e => ev_next ?_ e
  repeat' (first | with_reducible (first | assumption | apply ev_fwuVerify | apply ev_say | apply ev_setPhase) | intro _ | split | dsimp only | with_reducible (first | apply ev_upd | apply ev_updTier | apply ev_updNv))

theorem ev_releasePins (a1 : State) (h1 : Evolves w s0 a1) :
    Evolves w s0 (State.releasePins a1) := by
  unfold State.releasePins
  repeat' (first | with_reducible (first | assumption) | intro _ | split | dsimp only | with_reducible (first | apply ev_upd | apply ev_updTier))

theorem ev_bypass (a1 : State) (a2 : List Bool) (h1 : Evolves w s0 a1) :
    Evolves w s0 (State.bypass a1 a2) := by
  unfold State.bypass
  repeat' (first | with_reducible (first | assumption | apply ev_releasePins | apply ev_emit) | intro _ | split | dsimp only | with_reducible (first | apply ev_upd | apply ev_updTier))

theorem ev_execBypass (a1 : List Bool) (a2 : State) (h2 : Evolves w s0 a2) :
    ∀ t, execBypass a1 a2 = .next t → Evolves w s0 t := by
  unfold execBypass
  refine fun t e => ev_next ?_ e
  repeat' (first | with_reducible (first | assumption | apply ev_bypass) | intro _ | split | dsimp only | with_reducible (first | apply ev_upd | apply ev_updTier))

theorem ev_execExtest (a1 a2 : List Bool) (a3 : State) (h3 : Evolves w s0 a3) :
    ∀ t, execExtest a1 a2 a3 = .next t → Evolves w s0 t := by
  unfold execExtest
  refine fun t e => ev_next ?_ e
  repeat' (first | with_reducible (first | assumption | apply ev_bypass | apply ev_emit) | intro _ | split | dsimp only | with_reducible (first | apply ev_upd | apply ev_updTier))

theorem ev_execIdcode (a1 : State) (h1 : Evolves w s0 a1) :
    ∀ t, execIdcode a1 = .next t → Evolves w s0 t := by
  unfold execIdcode
  refine fun t e => ev_next ?_ e
  repeat' (first | with_reducible (first | assumption | apply ev_releasePins | apply ev_emit) | intro _ | split | dsimp only | with_reducible (first | apply ev_upd | apply ev_updTier))

theorem ev_execSamplePreload (a1 a2 : List Bool) (a3 : State) (h3 : Evolves w s0 a3) :
    ∀ t, execSamplePreload a1 a2 a3 = .next t → Evolves w s0 t := by
  unfold execSamplePreload
  refine fun t e => ev_next ?_ e
  repeat' (first | with_reducible (first | assumption | apply ev_emit) | intro _ | split | dsimp only | with_reducible (first | apply ev_upd | apply ev_updTier))

end Sys2Proof.Laws
end

