-- ==== Sys2Proof/Laws/Maps.lean ====
section
/-! SUPPORT. What the operations on maps and sets of plain data do: a lookup after a change. -/

namespace Sys2Proof.Laws

open Sys2Proof.Machine

variable {α : Type}

/-- The record just put at a key is the one found there. -/
@[simp] theorem amGet_amSet (m : AMap α) (k : Nat) (v : α) : amGet (amSet m k v) k = some v := by
  induction m with
  | nil => simp [amSet, amGet]
  | cons e r ih =>
    obtain ⟨j, x⟩ := e
    simp only [amSet]
    split
    · simp [amGet]
    · split
      · simp [amGet]
      · rename_i h1 h2; simp [amGet, h2, ih]

/-- A record put at a key leaves every other key's record as it was. -/
theorem amGet_amSet_ne (m : AMap α) (k k' : Nat) (v : α) (h : k ≠ k') : amGet (amSet m k v) k' = amGet m k' := by
  induction m with
  | nil => simp [amSet, amGet, h]
  | cons e r ih =>
    obtain ⟨j, x⟩ := e
    simp only [amSet]
    split
    · simp [amGet, h]
    · split
      · rename_i h1 h2; subst h2; simp [amGet, h]
      · simp only [amGet, ih]

/-- A number just put into a set is in it, and so is everything that was. -/
theorem mem_setIns (l : List Nat) (a b : Nat) : b ∈ setIns l a ↔ b = a ∨ b ∈ l := by
  induction l with
  | nil => simp [setIns]
  | cons k r ih =>
    simp only [setIns]
    split
    · simp
    · split
      · rename_i h; subst h; simp
      · simp only [List.mem_cons, ih]; tauto

/-- A number taken out of a set is gone, and everything else stays. -/
theorem mem_setDel (l : List Nat) (a b : Nat) : b ∈ setDel l a ↔ b ∈ l ∧ b ≠ a := by simp [setDel]

end Sys2Proof.Laws
end

