-- ==== Sys2Proof/Laws/Registers.lean ====
section
/-! SUPPORT. The register file: reading a register or a field after a write, and what a write leaves alone. -/

namespace Sys2Proof.Laws

open Sys2Proof.Machine Sys2Proof.Safety

/-! ## Bit fields -/

theorem setBitsOf_lt {v hi lo x n : Nat} (hv : v < 2 ^ n) (hl : lo ≤ hi) (hh : hi < n) : setBitsOf v hi lo x < 2 ^ n := by
  unfold setBitsOf
  have h1 : v / 2 ^ (hi + 1) < 2 ^ (n - (hi + 1)) := by
    rw [Nat.div_lt_iff_lt_mul (by positivity), ← Nat.pow_add]
    rwa [show n - (hi + 1) + (hi + 1) = n by omega]
  have h2 : x % 2 ^ (hi + 1 - lo) < 2 ^ (hi + 1 - lo) := Nat.mod_lt _ (by positivity)
  have h3 : v % 2 ^ lo < 2 ^ lo := Nat.mod_lt _ (by positivity)
  have e1 : 2 ^ (hi + 1) = 2 ^ (hi + 1 - lo) * 2 ^ lo := by rw [← Nat.pow_add]; congr 1; omega
  have e2 : 2 ^ n = 2 ^ (n - (hi + 1)) * 2 ^ (hi + 1) := by rw [← Nat.pow_add]; congr 1; omega
  have h4 : x % 2 ^ (hi + 1 - lo) * 2 ^ lo + v % 2 ^ lo < 2 ^ (hi + 1) := by
    rw [e1]
    calc _ < x % 2 ^ (hi + 1 - lo) * 2 ^ lo + 2 ^ lo := by omega
      _ = (x % 2 ^ (hi + 1 - lo) + 1) * 2 ^ lo := by ring
      _ ≤ _ := Nat.mul_le_mul_right _ h2
  rw [e2, Nat.add_assoc]
  calc _ < v / 2 ^ (hi + 1) * 2 ^ (hi + 1) + 2 ^ (hi + 1) := by omega
    _ = (v / 2 ^ (hi + 1) + 1) * 2 ^ (hi + 1) := by ring
    _ ≤ _ := Nat.mul_le_mul_right _ h1

/-- A field just written reads as the value written. -/
theorem bitsOf_setBitsOf {v hi lo x : Nat} (hl : lo ≤ hi) :
    bitsOf (setBitsOf v hi lo x) hi lo = x % 2 ^ (hi + 1 - lo) := by
  unfold bitsOf setBitsOf
  have h3 : v % 2 ^ lo < 2 ^ lo := Nat.mod_lt _ (by positivity)
  have e1 : 2 ^ (hi + 1) = 2 ^ (hi + 1 - lo) * 2 ^ lo := by rw [← Nat.pow_add]; congr 1; omega
  rw [e1, show v / (2 ^ (hi + 1 - lo) * 2 ^ lo) * (2 ^ (hi + 1 - lo) * 2 ^ lo) + x % 2 ^ (hi + 1 - lo) * 2 ^ lo + v % 2 ^ lo
    = 2 ^ lo * (v / (2 ^ (hi + 1 - lo) * 2 ^ lo) * 2 ^ (hi + 1 - lo) + x % 2 ^ (hi + 1 - lo)) + v % 2 ^ lo by ring]
  rw [Nat.mul_add_div (by positivity), Nat.div_eq_of_lt h3, Nat.add_zero]
  simp [Nat.add_mod, Nat.mul_mod_left]

/-- A field below the one written keeps its value. -/
theorem bitsOf_setBitsOf_below {v hi lo x h l : Nat} (hh : h < lo) (hl : lo ≤ hi) :
    bitsOf (setBitsOf v hi lo x) h l = bitsOf v h l := by
  unfold bitsOf setBitsOf
  by_cases hle : l ≤ h
  · have e : ∀ y, y / 2 ^ l % 2 ^ (h + 1 - l) = y % 2 ^ (h + 1) / 2 ^ l := by
      intro y
      rw [← Nat.mod_mul_right_div_self, ← Nat.pow_add]
      congr 3; omega
    rw [e, e]
    congr 1
    have e1 : 2 ^ (hi + 1) = 2 ^ (h + 1) * 2 ^ (hi - h) := by rw [← Nat.pow_add]; congr 1; omega
    have e2 : 2 ^ lo = 2 ^ (h + 1) * 2 ^ (lo - (h + 1)) := by rw [← Nat.pow_add]; congr 1; omega
    rw [e1, e2, show v / (2 ^ (h + 1) * 2 ^ (hi - h)) * (2 ^ (h + 1) * 2 ^ (hi - h))
        + x % 2 ^ (hi + 1 - lo) * (2 ^ (h + 1) * 2 ^ (lo - (h + 1))) + v % (2 ^ (h + 1) * 2 ^ (lo - (h + 1)))
      = v % (2 ^ (h + 1) * 2 ^ (lo - (h + 1))) + 2 ^ (h + 1) * (v / (2 ^ (h + 1) * 2 ^ (hi - h)) * 2 ^ (hi - h)
        + x % 2 ^ (hi + 1 - lo) * 2 ^ (lo - (h + 1))) by ring]
    rw [Nat.add_mul_mod_self_left, Nat.mod_mul_right_mod]
  · have : h + 1 - l = 0 := by omega
    simp [this, Nat.mod_one]

/-- A field above the one written keeps its value. -/
theorem bitsOf_setBitsOf_above {v hi lo x h l : Nat} (hh : hi < l) (hl : lo ≤ hi) :
    bitsOf (setBitsOf v hi lo x) h l = bitsOf v h l := by
  unfold bitsOf setBitsOf
  congr 1
  have h2 : x % 2 ^ (hi + 1 - lo) < 2 ^ (hi + 1 - lo) := Nat.mod_lt _ (by positivity)
  have h3 : v % 2 ^ lo < 2 ^ lo := Nat.mod_lt _ (by positivity)
  have e1 : 2 ^ (hi + 1) = 2 ^ (hi + 1 - lo) * 2 ^ lo := by rw [← Nat.pow_add]; congr 1; omega
  have h4 : x % 2 ^ (hi + 1 - lo) * 2 ^ lo + v % 2 ^ lo < 2 ^ (hi + 1) := by
    rw [e1]
    calc _ < x % 2 ^ (hi + 1 - lo) * 2 ^ lo + 2 ^ lo := by omega
      _ = (x % 2 ^ (hi + 1 - lo) + 1) * 2 ^ lo := by ring
      _ ≤ _ := Nat.mul_le_mul_right _ h2
  have e2 : 2 ^ l = 2 ^ (hi + 1) * 2 ^ (l - (hi + 1)) := by rw [← Nat.pow_add]; congr 1; omega
  rw [e2, ← Nat.div_div_eq_div_mul, ← Nat.div_div_eq_div_mul]
  congr 1
  rw [Nat.add_assoc, Nat.mul_comm, Nat.mul_add_div (by positivity), Nat.div_eq_of_lt h4, Nat.add_zero]

/-! ## Registers -/

/-- A register just written reads as written. -/
theorem rdB_setRdB (s : State) (b o : Nat) (v : BitVec 32) (h : RegsOk s) : (s.setRdB b o v).rdB b o = v :=
  storeRead_storeWrite _ _ _ h

/-- A write leaves every other register as it was. -/
theorem rdB_setRdB_ne (s : State) (b o b' o' : Nat) (v : BitVec 32) (h : regKey b o ≠ regKey b' o') :
    (s.setRdB b o v).rdB b' o' = s.rdB b' o' := storeRead_storeWrite_ne _ _ _ _ h

@[simp] theorem regsOk_setRdB (s : State) (b o : Nat) (v : BitVec 32) (h : RegsOk s) : RegsOk (s.setRdB b o v) :=
  storeWf_storeWrite _ _ _ h

@[simp] theorem regsOk_setFld (s : State) (f : Fld) (v : Nat) (h : RegsOk s) : RegsOk (s.setFld f v) :=
  storeWf_storeWrite _ _ _ h

@[simp] theorem regsOk_setFldB (s : State) (b : Nat) (f : Fld) (v : Nat) (h : RegsOk s) : RegsOk (s.setFldB b f v) :=
  storeWf_storeWrite _ _ _ h

@[simp] theorem regsOk_setBit (s : State) (f : Fld) (h : RegsOk s) : RegsOk (s.setBit f) := storeWf_storeWrite _ _ _ h

@[simp] theorem regsOk_setRd (s : State) (o : Nat) (v : BitVec 32) (h : RegsOk s) : RegsOk (s.setRd o v) :=
  storeWf_storeWrite _ _ _ h

@[simp] theorem regsOk_addSat (s : State) (f : Fld) (n : Nat) (h : RegsOk s) : RegsOk (s.addSat f n) :=
  storeWf_storeWrite _ _ _ h

/-- A field just written reads as the value written, cut to its width. -/
theorem fldB_setFldB (s : State) (b : Nat) (f : Fld) (v : Nat) (h : RegsOk s) (hl : f.lo ≤ f.hi) (hh : f.hi < 32) :
    (s.setFldB b f v).fldB b f = v % 2 ^ (f.hi + 1 - f.lo) := by
  unfold State.fldB State.setFldB
  rw [rdB_setRdB _ _ _ _ h, BitVec.toNat_ofNat, Nat.mod_eq_of_lt (setBitsOf_lt (s.rdB b f.off).isLt hl hh),
    bitsOf_setBitsOf hl]

theorem fld_setFld (s : State) (f : Fld) (v : Nat) (h : RegsOk s) (hl : f.lo ≤ f.hi) (hh : f.hi < 32) :
    (s.setFld f v).fld f = v % 2 ^ (f.hi + 1 - f.lo) := fldB_setFldB s 0 f v h hl hh

/-- A field of another register keeps its value. -/
theorem fld_setFld_off (s : State) (f g : Fld) (v : Nat) (h : f.off ≠ g.off) : (s.setFld f v).fld g = s.fld g := by
  unfold State.fld State.fldB State.setFld State.setFldB
  rw [rdB_setRdB_ne]
  unfold regKey; omega

/-- Another field of the same register keeps its value. -/
theorem fld_setFld_disj (s : State) (f g : Fld) (v : Nat) (h : RegsOk s) (hl : f.lo ≤ f.hi) (hh : f.hi < 32)
    (hd : g.hi < f.lo ∨ f.hi < g.lo) : (s.setFld f v).fld g = s.fld g := by
  by_cases ho : f.off = g.off
  · unfold State.fld State.fldB State.setFld State.setFldB
    rw [ho, rdB_setRdB _ _ _ _ h, BitVec.toNat_ofNat, Nat.mod_eq_of_lt (setBitsOf_lt (s.rdB 0 g.off).isLt hl hh)]
    rcases hd with hd | hd
    · exact bitsOf_setBitsOf_below hd hl
    · exact bitsOf_setBitsOf_above hd hl
  · exact fld_setFld_off s f g v ho

end Sys2Proof.Laws
end

