-- ==== Sys2Proof/Laws/State.lean ====
section
/-! SUPPORT. What the shared updates leave alone: one lemma per field of State and update, true by unfolding, and the
registers under updates of other fields. -/

namespace Sys2Proof.Laws

open Sys2Proof.Machine Sys2Proof.Safety

variable (s : State)

@[simp] theorem setRdB_pending (b o : Nat) (v : BitVec 32) : (s.setRdB b o v).pending = s.pending := rfl
@[simp] theorem setRdB_out (b o : Nat) (v : BitVec 32) : (s.setRdB b o v).out = s.out := rfl
@[simp] theorem setRdB_freeCtr (b o : Nat) (v : BitVec 32) : (s.setRdB b o v).freeCtr = s.freeCtr := rfl
@[simp] theorem setRdB_mclk (b o : Nat) (v : BitVec 32) : (s.setRdB b o v).mclk = s.mclk := rfl
@[simp] theorem setRdB_fabTime (b o : Nat) (v : BitVec 32) : (s.setRdB b o v).fabTime = s.fabTime := rfl
@[simp] theorem setRdB_fabRunning (b o : Nat) (v : BitVec 32) : (s.setRdB b o v).fabRunning = s.fabRunning := rfl
@[simp] theorem setRdB_fabSlew (b o : Nat) (v : BitVec 32) : (s.setRdB b o v).fabSlew = s.fabSlew := rfl
@[simp] theorem setRdB_fuses (b o : Nat) (v : BitVec 32) : (s.setRdB b o v).fuses = s.fuses := rfl
@[simp] theorem setRdB_latches (b o : Nat) (v : BitVec 32) : (s.setRdB b o v).latches = s.latches := rfl
@[simp] theorem setRdB_hold (b o : Nat) (v : BitVec 32) : (s.setRdB b o v).hold = s.hold := rfl
@[simp] theorem setRdB_holdPoison (b o : Nat) (v : BitVec 32) : (s.setRdB b o v).holdPoison = s.holdPoison := rfl
@[simp] theorem setRdB_inbox (b o : Nat) (v : BitVec 32) : (s.setRdB b o v).inbox = s.inbox := rfl
@[simp] theorem setRdB_seq (b o : Nat) (v : BitVec 32) : (s.setRdB b o v).seq = s.seq := rfl
@[simp] theorem setRdB_host (b o : Nat) (v : BitVec 32) : (s.setRdB b o v).host = s.host := rfl
@[simp] theorem setRdB_own (b o : Nat) (v : BitVec 32) : (s.setRdB b o v).own = s.own := rfl
@[simp] theorem setRdB_fcu (b o : Nat) (v : BitVec 32) : (s.setRdB b o v).fcu = s.fcu := rfl
@[simp] theorem setRdB_rcv (b o : Nat) (v : BitVec 32) : (s.setRdB b o v).rcv = s.rcv := rfl
@[simp] theorem setRdB_slices (b o : Nat) (v : BitVec 32) : (s.setRdB b o v).slices = s.slices := rfl
@[simp] theorem setRdB_vus (b o : Nat) (v : BitVec 32) : (s.setRdB b o v).vus = s.vus := rfl
@[simp] theorem setRdB_kvp (b o : Nat) (v : BitVec 32) : (s.setRdB b o v).kvp = s.kvp := rfl
@[simp] theorem setRdB_gw (b o : Nat) (v : BitVec 32) : (s.setRdB b o v).gw = s.gw := rfl
@[simp] theorem setRdB_tier (b o : Nat) (v : BitVec 32) : (s.setRdB b o v).tier = s.tier := rfl
@[simp] theorem setRdB_eth (b o : Nat) (v : BitVec 32) : (s.setRdB b o v).eth = s.eth := rfl
@[simp] theorem setRdB_links (b o : Nat) (v : BitVec 32) : (s.setRdB b o v).links = s.links := rfl
@[simp] theorem setRdB_fab (b o : Nat) (v : BitVec 32) : (s.setRdB b o v).fab = s.fab := rfl
@[simp] theorem setRdB_coll (b o : Nat) (v : BitVec 32) : (s.setRdB b o v).coll = s.coll := rfl
@[simp] theorem setRdB_tol (b o : Nat) (v : BitVec 32) : (s.setRdB b o v).tol = s.tol := rfl
@[simp] theorem setRdB_rst (b o : Nat) (v : BitVec 32) : (s.setRdB b o v).rst = s.rst := rfl
@[simp] theorem setRdB_pwr (b o : Nat) (v : BitVec 32) : (s.setRdB b o v).pwr = s.pwr := rfl
@[simp] theorem setRdB_bru (b o : Nat) (v : BitVec 32) : (s.setRdB b o v).bru = s.bru := rfl
@[simp] theorem setRdB_nv (b o : Nat) (v : BitVec 32) : (s.setRdB b o v).nv = s.nv := rfl
@[simp] theorem setRdB_fwu (b o : Nat) (v : BitVec 32) : (s.setRdB b o v).fwu = s.fwu := rfl
@[simp] theorem setRdB_mgmt (b o : Nat) (v : BitVec 32) : (s.setRdB b o v).mgmt = s.mgmt := rfl
@[simp] theorem setRdB_jtag (b o : Nat) (v : BitVec 32) : (s.setRdB b o v).jtag = s.jtag := rfl

@[simp] theorem setRd_pending (o : Nat) (v : BitVec 32) : (s.setRd o v).pending = s.pending := rfl
@[simp] theorem setRd_out (o : Nat) (v : BitVec 32) : (s.setRd o v).out = s.out := rfl
@[simp] theorem setRd_freeCtr (o : Nat) (v : BitVec 32) : (s.setRd o v).freeCtr = s.freeCtr := rfl
@[simp] theorem setRd_mclk (o : Nat) (v : BitVec 32) : (s.setRd o v).mclk = s.mclk := rfl
@[simp] theorem setRd_fabTime (o : Nat) (v : BitVec 32) : (s.setRd o v).fabTime = s.fabTime := rfl
@[simp] theorem setRd_fabRunning (o : Nat) (v : BitVec 32) : (s.setRd o v).fabRunning = s.fabRunning := rfl
@[simp] theorem setRd_fabSlew (o : Nat) (v : BitVec 32) : (s.setRd o v).fabSlew = s.fabSlew := rfl
@[simp] theorem setRd_fuses (o : Nat) (v : BitVec 32) : (s.setRd o v).fuses = s.fuses := rfl
@[simp] theorem setRd_latches (o : Nat) (v : BitVec 32) : (s.setRd o v).latches = s.latches := rfl
@[simp] theorem setRd_hold (o : Nat) (v : BitVec 32) : (s.setRd o v).hold = s.hold := rfl
@[simp] theorem setRd_holdPoison (o : Nat) (v : BitVec 32) : (s.setRd o v).holdPoison = s.holdPoison := rfl
@[simp] theorem setRd_inbox (o : Nat) (v : BitVec 32) : (s.setRd o v).inbox = s.inbox := rfl
@[simp] theorem setRd_seq (o : Nat) (v : BitVec 32) : (s.setRd o v).seq = s.seq := rfl
@[simp] theorem setRd_host (o : Nat) (v : BitVec 32) : (s.setRd o v).host = s.host := rfl
@[simp] theorem setRd_own (o : Nat) (v : BitVec 32) : (s.setRd o v).own = s.own := rfl
@[simp] theorem setRd_fcu (o : Nat) (v : BitVec 32) : (s.setRd o v).fcu = s.fcu := rfl
@[simp] theorem setRd_rcv (o : Nat) (v : BitVec 32) : (s.setRd o v).rcv = s.rcv := rfl
@[simp] theorem setRd_slices (o : Nat) (v : BitVec 32) : (s.setRd o v).slices = s.slices := rfl
@[simp] theorem setRd_vus (o : Nat) (v : BitVec 32) : (s.setRd o v).vus = s.vus := rfl
@[simp] theorem setRd_kvp (o : Nat) (v : BitVec 32) : (s.setRd o v).kvp = s.kvp := rfl
@[simp] theorem setRd_gw (o : Nat) (v : BitVec 32) : (s.setRd o v).gw = s.gw := rfl
@[simp] theorem setRd_tier (o : Nat) (v : BitVec 32) : (s.setRd o v).tier = s.tier := rfl
@[simp] theorem setRd_eth (o : Nat) (v : BitVec 32) : (s.setRd o v).eth = s.eth := rfl
@[simp] theorem setRd_links (o : Nat) (v : BitVec 32) : (s.setRd o v).links = s.links := rfl
@[simp] theorem setRd_fab (o : Nat) (v : BitVec 32) : (s.setRd o v).fab = s.fab := rfl
@[simp] theorem setRd_coll (o : Nat) (v : BitVec 32) : (s.setRd o v).coll = s.coll := rfl
@[simp] theorem setRd_tol (o : Nat) (v : BitVec 32) : (s.setRd o v).tol = s.tol := rfl
@[simp] theorem setRd_rst (o : Nat) (v : BitVec 32) : (s.setRd o v).rst = s.rst := rfl
@[simp] theorem setRd_pwr (o : Nat) (v : BitVec 32) : (s.setRd o v).pwr = s.pwr := rfl
@[simp] theorem setRd_bru (o : Nat) (v : BitVec 32) : (s.setRd o v).bru = s.bru := rfl
@[simp] theorem setRd_nv (o : Nat) (v : BitVec 32) : (s.setRd o v).nv = s.nv := rfl
@[simp] theorem setRd_fwu (o : Nat) (v : BitVec 32) : (s.setRd o v).fwu = s.fwu := rfl
@[simp] theorem setRd_mgmt (o : Nat) (v : BitVec 32) : (s.setRd o v).mgmt = s.mgmt := rfl
@[simp] theorem setRd_jtag (o : Nat) (v : BitVec 32) : (s.setRd o v).jtag = s.jtag := rfl

@[simp] theorem setFldB_pending (b : Nat) (f : Fld) (v : Nat) : (s.setFldB b f v).pending = s.pending := rfl
@[simp] theorem setFldB_out (b : Nat) (f : Fld) (v : Nat) : (s.setFldB b f v).out = s.out := rfl
@[simp] theorem setFldB_freeCtr (b : Nat) (f : Fld) (v : Nat) : (s.setFldB b f v).freeCtr = s.freeCtr := rfl
@[simp] theorem setFldB_mclk (b : Nat) (f : Fld) (v : Nat) : (s.setFldB b f v).mclk = s.mclk := rfl
@[simp] theorem setFldB_fabTime (b : Nat) (f : Fld) (v : Nat) : (s.setFldB b f v).fabTime = s.fabTime := rfl
@[simp] theorem setFldB_fabRunning (b : Nat) (f : Fld) (v : Nat) : (s.setFldB b f v).fabRunning = s.fabRunning := rfl
@[simp] theorem setFldB_fabSlew (b : Nat) (f : Fld) (v : Nat) : (s.setFldB b f v).fabSlew = s.fabSlew := rfl
@[simp] theorem setFldB_fuses (b : Nat) (f : Fld) (v : Nat) : (s.setFldB b f v).fuses = s.fuses := rfl
@[simp] theorem setFldB_latches (b : Nat) (f : Fld) (v : Nat) : (s.setFldB b f v).latches = s.latches := rfl
@[simp] theorem setFldB_hold (b : Nat) (f : Fld) (v : Nat) : (s.setFldB b f v).hold = s.hold := rfl
@[simp] theorem setFldB_holdPoison (b : Nat) (f : Fld) (v : Nat) : (s.setFldB b f v).holdPoison = s.holdPoison := rfl
@[simp] theorem setFldB_inbox (b : Nat) (f : Fld) (v : Nat) : (s.setFldB b f v).inbox = s.inbox := rfl
@[simp] theorem setFldB_seq (b : Nat) (f : Fld) (v : Nat) : (s.setFldB b f v).seq = s.seq := rfl
@[simp] theorem setFldB_host (b : Nat) (f : Fld) (v : Nat) : (s.setFldB b f v).host = s.host := rfl
@[simp] theorem setFldB_own (b : Nat) (f : Fld) (v : Nat) : (s.setFldB b f v).own = s.own := rfl
@[simp] theorem setFldB_fcu (b : Nat) (f : Fld) (v : Nat) : (s.setFldB b f v).fcu = s.fcu := rfl
@[simp] theorem setFldB_rcv (b : Nat) (f : Fld) (v : Nat) : (s.setFldB b f v).rcv = s.rcv := rfl
@[simp] theorem setFldB_slices (b : Nat) (f : Fld) (v : Nat) : (s.setFldB b f v).slices = s.slices := rfl
@[simp] theorem setFldB_vus (b : Nat) (f : Fld) (v : Nat) : (s.setFldB b f v).vus = s.vus := rfl
@[simp] theorem setFldB_kvp (b : Nat) (f : Fld) (v : Nat) : (s.setFldB b f v).kvp = s.kvp := rfl
@[simp] theorem setFldB_gw (b : Nat) (f : Fld) (v : Nat) : (s.setFldB b f v).gw = s.gw := rfl
@[simp] theorem setFldB_tier (b : Nat) (f : Fld) (v : Nat) : (s.setFldB b f v).tier = s.tier := rfl
@[simp] theorem setFldB_eth (b : Nat) (f : Fld) (v : Nat) : (s.setFldB b f v).eth = s.eth := rfl
@[simp] theorem setFldB_links (b : Nat) (f : Fld) (v : Nat) : (s.setFldB b f v).links = s.links := rfl
@[simp] theorem setFldB_fab (b : Nat) (f : Fld) (v : Nat) : (s.setFldB b f v).fab = s.fab := rfl
@[simp] theorem setFldB_coll (b : Nat) (f : Fld) (v : Nat) : (s.setFldB b f v).coll = s.coll := rfl
@[simp] theorem setFldB_tol (b : Nat) (f : Fld) (v : Nat) : (s.setFldB b f v).tol = s.tol := rfl
@[simp] theorem setFldB_rst (b : Nat) (f : Fld) (v : Nat) : (s.setFldB b f v).rst = s.rst := rfl
@[simp] theorem setFldB_pwr (b : Nat) (f : Fld) (v : Nat) : (s.setFldB b f v).pwr = s.pwr := rfl
@[simp] theorem setFldB_bru (b : Nat) (f : Fld) (v : Nat) : (s.setFldB b f v).bru = s.bru := rfl
@[simp] theorem setFldB_nv (b : Nat) (f : Fld) (v : Nat) : (s.setFldB b f v).nv = s.nv := rfl
@[simp] theorem setFldB_fwu (b : Nat) (f : Fld) (v : Nat) : (s.setFldB b f v).fwu = s.fwu := rfl
@[simp] theorem setFldB_mgmt (b : Nat) (f : Fld) (v : Nat) : (s.setFldB b f v).mgmt = s.mgmt := rfl
@[simp] theorem setFldB_jtag (b : Nat) (f : Fld) (v : Nat) : (s.setFldB b f v).jtag = s.jtag := rfl

@[simp] theorem setFld_pending (f : Fld) (v : Nat) : (s.setFld f v).pending = s.pending := rfl
@[simp] theorem setFld_out (f : Fld) (v : Nat) : (s.setFld f v).out = s.out := rfl
@[simp] theorem setFld_freeCtr (f : Fld) (v : Nat) : (s.setFld f v).freeCtr = s.freeCtr := rfl
@[simp] theorem setFld_mclk (f : Fld) (v : Nat) : (s.setFld f v).mclk = s.mclk := rfl
@[simp] theorem setFld_fabTime (f : Fld) (v : Nat) : (s.setFld f v).fabTime = s.fabTime := rfl
@[simp] theorem setFld_fabRunning (f : Fld) (v : Nat) : (s.setFld f v).fabRunning = s.fabRunning := rfl
@[simp] theorem setFld_fabSlew (f : Fld) (v : Nat) : (s.setFld f v).fabSlew = s.fabSlew := rfl
@[simp] theorem setFld_fuses (f : Fld) (v : Nat) : (s.setFld f v).fuses = s.fuses := rfl
@[simp] theorem setFld_latches (f : Fld) (v : Nat) : (s.setFld f v).latches = s.latches := rfl
@[simp] theorem setFld_hold (f : Fld) (v : Nat) : (s.setFld f v).hold = s.hold := rfl
@[simp] theorem setFld_holdPoison (f : Fld) (v : Nat) : (s.setFld f v).holdPoison = s.holdPoison := rfl
@[simp] theorem setFld_inbox (f : Fld) (v : Nat) : (s.setFld f v).inbox = s.inbox := rfl
@[simp] theorem setFld_seq (f : Fld) (v : Nat) : (s.setFld f v).seq = s.seq := rfl
@[simp] theorem setFld_host (f : Fld) (v : Nat) : (s.setFld f v).host = s.host := rfl
@[simp] theorem setFld_own (f : Fld) (v : Nat) : (s.setFld f v).own = s.own := rfl
@[simp] theorem setFld_fcu (f : Fld) (v : Nat) : (s.setFld f v).fcu = s.fcu := rfl
@[simp] theorem setFld_rcv (f : Fld) (v : Nat) : (s.setFld f v).rcv = s.rcv := rfl
@[simp] theorem setFld_slices (f : Fld) (v : Nat) : (s.setFld f v).slices = s.slices := rfl
@[simp] theorem setFld_vus (f : Fld) (v : Nat) : (s.setFld f v).vus = s.vus := rfl
@[simp] theorem setFld_kvp (f : Fld) (v : Nat) : (s.setFld f v).kvp = s.kvp := rfl
@[simp] theorem setFld_gw (f : Fld) (v : Nat) : (s.setFld f v).gw = s.gw := rfl
@[simp] theorem setFld_tier (f : Fld) (v : Nat) : (s.setFld f v).tier = s.tier := rfl
@[simp] theorem setFld_eth (f : Fld) (v : Nat) : (s.setFld f v).eth = s.eth := rfl
@[simp] theorem setFld_links (f : Fld) (v : Nat) : (s.setFld f v).links = s.links := rfl
@[simp] theorem setFld_fab (f : Fld) (v : Nat) : (s.setFld f v).fab = s.fab := rfl
@[simp] theorem setFld_coll (f : Fld) (v : Nat) : (s.setFld f v).coll = s.coll := rfl
@[simp] theorem setFld_tol (f : Fld) (v : Nat) : (s.setFld f v).tol = s.tol := rfl
@[simp] theorem setFld_rst (f : Fld) (v : Nat) : (s.setFld f v).rst = s.rst := rfl
@[simp] theorem setFld_pwr (f : Fld) (v : Nat) : (s.setFld f v).pwr = s.pwr := rfl
@[simp] theorem setFld_bru (f : Fld) (v : Nat) : (s.setFld f v).bru = s.bru := rfl
@[simp] theorem setFld_nv (f : Fld) (v : Nat) : (s.setFld f v).nv = s.nv := rfl
@[simp] theorem setFld_fwu (f : Fld) (v : Nat) : (s.setFld f v).fwu = s.fwu := rfl
@[simp] theorem setFld_mgmt (f : Fld) (v : Nat) : (s.setFld f v).mgmt = s.mgmt := rfl
@[simp] theorem setFld_jtag (f : Fld) (v : Nat) : (s.setFld f v).jtag = s.jtag := rfl

@[simp] theorem setBit_pending (f : Fld) : (s.setBit f).pending = s.pending := rfl
@[simp] theorem setBit_out (f : Fld) : (s.setBit f).out = s.out := rfl
@[simp] theorem setBit_freeCtr (f : Fld) : (s.setBit f).freeCtr = s.freeCtr := rfl
@[simp] theorem setBit_mclk (f : Fld) : (s.setBit f).mclk = s.mclk := rfl
@[simp] theorem setBit_fabTime (f : Fld) : (s.setBit f).fabTime = s.fabTime := rfl
@[simp] theorem setBit_fabRunning (f : Fld) : (s.setBit f).fabRunning = s.fabRunning := rfl
@[simp] theorem setBit_fabSlew (f : Fld) : (s.setBit f).fabSlew = s.fabSlew := rfl
@[simp] theorem setBit_fuses (f : Fld) : (s.setBit f).fuses = s.fuses := rfl
@[simp] theorem setBit_latches (f : Fld) : (s.setBit f).latches = s.latches := rfl
@[simp] theorem setBit_hold (f : Fld) : (s.setBit f).hold = s.hold := rfl
@[simp] theorem setBit_holdPoison (f : Fld) : (s.setBit f).holdPoison = s.holdPoison := rfl
@[simp] theorem setBit_inbox (f : Fld) : (s.setBit f).inbox = s.inbox := rfl
@[simp] theorem setBit_seq (f : Fld) : (s.setBit f).seq = s.seq := rfl
@[simp] theorem setBit_host (f : Fld) : (s.setBit f).host = s.host := rfl
@[simp] theorem setBit_own (f : Fld) : (s.setBit f).own = s.own := rfl
@[simp] theorem setBit_fcu (f : Fld) : (s.setBit f).fcu = s.fcu := rfl
@[simp] theorem setBit_rcv (f : Fld) : (s.setBit f).rcv = s.rcv := rfl
@[simp] theorem setBit_slices (f : Fld) : (s.setBit f).slices = s.slices := rfl
@[simp] theorem setBit_vus (f : Fld) : (s.setBit f).vus = s.vus := rfl
@[simp] theorem setBit_kvp (f : Fld) : (s.setBit f).kvp = s.kvp := rfl
@[simp] theorem setBit_gw (f : Fld) : (s.setBit f).gw = s.gw := rfl
@[simp] theorem setBit_tier (f : Fld) : (s.setBit f).tier = s.tier := rfl
@[simp] theorem setBit_eth (f : Fld) : (s.setBit f).eth = s.eth := rfl
@[simp] theorem setBit_links (f : Fld) : (s.setBit f).links = s.links := rfl
@[simp] theorem setBit_fab (f : Fld) : (s.setBit f).fab = s.fab := rfl
@[simp] theorem setBit_coll (f : Fld) : (s.setBit f).coll = s.coll := rfl
@[simp] theorem setBit_tol (f : Fld) : (s.setBit f).tol = s.tol := rfl
@[simp] theorem setBit_rst (f : Fld) : (s.setBit f).rst = s.rst := rfl
@[simp] theorem setBit_pwr (f : Fld) : (s.setBit f).pwr = s.pwr := rfl
@[simp] theorem setBit_bru (f : Fld) : (s.setBit f).bru = s.bru := rfl
@[simp] theorem setBit_nv (f : Fld) : (s.setBit f).nv = s.nv := rfl
@[simp] theorem setBit_fwu (f : Fld) : (s.setBit f).fwu = s.fwu := rfl
@[simp] theorem setBit_mgmt (f : Fld) : (s.setBit f).mgmt = s.mgmt := rfl
@[simp] theorem setBit_jtag (f : Fld) : (s.setBit f).jtag = s.jtag := rfl

@[simp] theorem addSat_pending (f : Fld) (n : Nat) : (s.addSat f n).pending = s.pending := rfl
@[simp] theorem addSat_out (f : Fld) (n : Nat) : (s.addSat f n).out = s.out := rfl
@[simp] theorem addSat_freeCtr (f : Fld) (n : Nat) : (s.addSat f n).freeCtr = s.freeCtr := rfl
@[simp] theorem addSat_mclk (f : Fld) (n : Nat) : (s.addSat f n).mclk = s.mclk := rfl
@[simp] theorem addSat_fabTime (f : Fld) (n : Nat) : (s.addSat f n).fabTime = s.fabTime := rfl
@[simp] theorem addSat_fabRunning (f : Fld) (n : Nat) : (s.addSat f n).fabRunning = s.fabRunning := rfl
@[simp] theorem addSat_fabSlew (f : Fld) (n : Nat) : (s.addSat f n).fabSlew = s.fabSlew := rfl
@[simp] theorem addSat_fuses (f : Fld) (n : Nat) : (s.addSat f n).fuses = s.fuses := rfl
@[simp] theorem addSat_latches (f : Fld) (n : Nat) : (s.addSat f n).latches = s.latches := rfl
@[simp] theorem addSat_hold (f : Fld) (n : Nat) : (s.addSat f n).hold = s.hold := rfl
@[simp] theorem addSat_holdPoison (f : Fld) (n : Nat) : (s.addSat f n).holdPoison = s.holdPoison := rfl
@[simp] theorem addSat_inbox (f : Fld) (n : Nat) : (s.addSat f n).inbox = s.inbox := rfl
@[simp] theorem addSat_seq (f : Fld) (n : Nat) : (s.addSat f n).seq = s.seq := rfl
@[simp] theorem addSat_host (f : Fld) (n : Nat) : (s.addSat f n).host = s.host := rfl
@[simp] theorem addSat_own (f : Fld) (n : Nat) : (s.addSat f n).own = s.own := rfl
@[simp] theorem addSat_fcu (f : Fld) (n : Nat) : (s.addSat f n).fcu = s.fcu := rfl
@[simp] theorem addSat_rcv (f : Fld) (n : Nat) : (s.addSat f n).rcv = s.rcv := rfl
@[simp] theorem addSat_slices (f : Fld) (n : Nat) : (s.addSat f n).slices = s.slices := rfl
@[simp] theorem addSat_vus (f : Fld) (n : Nat) : (s.addSat f n).vus = s.vus := rfl
@[simp] theorem addSat_kvp (f : Fld) (n : Nat) : (s.addSat f n).kvp = s.kvp := rfl
@[simp] theorem addSat_gw (f : Fld) (n : Nat) : (s.addSat f n).gw = s.gw := rfl
@[simp] theorem addSat_tier (f : Fld) (n : Nat) : (s.addSat f n).tier = s.tier := rfl
@[simp] theorem addSat_eth (f : Fld) (n : Nat) : (s.addSat f n).eth = s.eth := rfl
@[simp] theorem addSat_links (f : Fld) (n : Nat) : (s.addSat f n).links = s.links := rfl
@[simp] theorem addSat_fab (f : Fld) (n : Nat) : (s.addSat f n).fab = s.fab := rfl
@[simp] theorem addSat_coll (f : Fld) (n : Nat) : (s.addSat f n).coll = s.coll := rfl
@[simp] theorem addSat_tol (f : Fld) (n : Nat) : (s.addSat f n).tol = s.tol := rfl
@[simp] theorem addSat_rst (f : Fld) (n : Nat) : (s.addSat f n).rst = s.rst := rfl
@[simp] theorem addSat_pwr (f : Fld) (n : Nat) : (s.addSat f n).pwr = s.pwr := rfl
@[simp] theorem addSat_bru (f : Fld) (n : Nat) : (s.addSat f n).bru = s.bru := rfl
@[simp] theorem addSat_nv (f : Fld) (n : Nat) : (s.addSat f n).nv = s.nv := rfl
@[simp] theorem addSat_fwu (f : Fld) (n : Nat) : (s.addSat f n).fwu = s.fwu := rfl
@[simp] theorem addSat_mgmt (f : Fld) (n : Nat) : (s.addSat f n).mgmt = s.mgmt := rfl
@[simp] theorem addSat_jtag (f : Fld) (n : Nat) : (s.addSat f n).jtag = s.jtag := rfl

@[simp] theorem emit_pending (o : Output) : (s.emit o).pending = s.pending := rfl
@[simp] theorem emit_freeCtr (o : Output) : (s.emit o).freeCtr = s.freeCtr := rfl
@[simp] theorem emit_mclk (o : Output) : (s.emit o).mclk = s.mclk := rfl
@[simp] theorem emit_fabTime (o : Output) : (s.emit o).fabTime = s.fabTime := rfl
@[simp] theorem emit_fabRunning (o : Output) : (s.emit o).fabRunning = s.fabRunning := rfl
@[simp] theorem emit_fabSlew (o : Output) : (s.emit o).fabSlew = s.fabSlew := rfl
@[simp] theorem emit_fuses (o : Output) : (s.emit o).fuses = s.fuses := rfl
@[simp] theorem emit_regs (o : Output) : (s.emit o).regs = s.regs := rfl
@[simp] theorem emit_latches (o : Output) : (s.emit o).latches = s.latches := rfl
@[simp] theorem emit_hold (o : Output) : (s.emit o).hold = s.hold := rfl
@[simp] theorem emit_holdPoison (o : Output) : (s.emit o).holdPoison = s.holdPoison := rfl
@[simp] theorem emit_inbox (o : Output) : (s.emit o).inbox = s.inbox := rfl
@[simp] theorem emit_seq (o : Output) : (s.emit o).seq = s.seq := rfl
@[simp] theorem emit_host (o : Output) : (s.emit o).host = s.host := rfl
@[simp] theorem emit_own (o : Output) : (s.emit o).own = s.own := rfl
@[simp] theorem emit_fcu (o : Output) : (s.emit o).fcu = s.fcu := rfl
@[simp] theorem emit_rcv (o : Output) : (s.emit o).rcv = s.rcv := rfl
@[simp] theorem emit_slices (o : Output) : (s.emit o).slices = s.slices := rfl
@[simp] theorem emit_vus (o : Output) : (s.emit o).vus = s.vus := rfl
@[simp] theorem emit_kvp (o : Output) : (s.emit o).kvp = s.kvp := rfl
@[simp] theorem emit_gw (o : Output) : (s.emit o).gw = s.gw := rfl
@[simp] theorem emit_tier (o : Output) : (s.emit o).tier = s.tier := rfl
@[simp] theorem emit_eth (o : Output) : (s.emit o).eth = s.eth := rfl
@[simp] theorem emit_links (o : Output) : (s.emit o).links = s.links := rfl
@[simp] theorem emit_fab (o : Output) : (s.emit o).fab = s.fab := rfl
@[simp] theorem emit_coll (o : Output) : (s.emit o).coll = s.coll := rfl
@[simp] theorem emit_tol (o : Output) : (s.emit o).tol = s.tol := rfl
@[simp] theorem emit_rst (o : Output) : (s.emit o).rst = s.rst := rfl
@[simp] theorem emit_pwr (o : Output) : (s.emit o).pwr = s.pwr := rfl
@[simp] theorem emit_bru (o : Output) : (s.emit o).bru = s.bru := rfl
@[simp] theorem emit_nv (o : Output) : (s.emit o).nv = s.nv := rfl
@[simp] theorem emit_fwu (o : Output) : (s.emit o).fwu = s.fwu := rfl
@[simp] theorem emit_mgmt (o : Output) : (s.emit o).mgmt = s.mgmt := rfl
@[simp] theorem emit_jtag (o : Output) : (s.emit o).jtag = s.jtag := rfl
@[simp] theorem emit_rdB (o : Output) (b x : Nat) : (s.emit o).rdB b x = s.rdB b x := rfl
@[simp] theorem emit_fld (o : Output) (g : Fld) : (s.emit o).fld g = s.fld g := rfl
@[simp] theorem emit_regsOk (o : Output) : RegsOk (s.emit o) ↔ RegsOk s := Iff.rfl

@[simp] theorem advanceTo_pending (t : Nat) : (s.advanceTo t).pending = s.pending := rfl
@[simp] theorem advanceTo_out (t : Nat) : (s.advanceTo t).out = s.out := rfl
@[simp] theorem advanceTo_freeCtr (t : Nat) : (s.advanceTo t).freeCtr = s.freeCtr := rfl
@[simp] theorem advanceTo_fabRunning (t : Nat) : (s.advanceTo t).fabRunning = s.fabRunning := rfl
@[simp] theorem advanceTo_fuses (t : Nat) : (s.advanceTo t).fuses = s.fuses := rfl
@[simp] theorem advanceTo_regs (t : Nat) : (s.advanceTo t).regs = s.regs := rfl
@[simp] theorem advanceTo_latches (t : Nat) : (s.advanceTo t).latches = s.latches := rfl
@[simp] theorem advanceTo_hold (t : Nat) : (s.advanceTo t).hold = s.hold := rfl
@[simp] theorem advanceTo_holdPoison (t : Nat) : (s.advanceTo t).holdPoison = s.holdPoison := rfl
@[simp] theorem advanceTo_inbox (t : Nat) : (s.advanceTo t).inbox = s.inbox := rfl
@[simp] theorem advanceTo_seq (t : Nat) : (s.advanceTo t).seq = s.seq := rfl
@[simp] theorem advanceTo_host (t : Nat) : (s.advanceTo t).host = s.host := rfl
@[simp] theorem advanceTo_own (t : Nat) : (s.advanceTo t).own = s.own := rfl
@[simp] theorem advanceTo_fcu (t : Nat) : (s.advanceTo t).fcu = s.fcu := rfl
@[simp] theorem advanceTo_rcv (t : Nat) : (s.advanceTo t).rcv = s.rcv := rfl
@[simp] theorem advanceTo_slices (t : Nat) : (s.advanceTo t).slices = s.slices := rfl
@[simp] theorem advanceTo_vus (t : Nat) : (s.advanceTo t).vus = s.vus := rfl
@[simp] theorem advanceTo_kvp (t : Nat) : (s.advanceTo t).kvp = s.kvp := rfl
@[simp] theorem advanceTo_gw (t : Nat) : (s.advanceTo t).gw = s.gw := rfl
@[simp] theorem advanceTo_tier (t : Nat) : (s.advanceTo t).tier = s.tier := rfl
@[simp] theorem advanceTo_eth (t : Nat) : (s.advanceTo t).eth = s.eth := rfl
@[simp] theorem advanceTo_links (t : Nat) : (s.advanceTo t).links = s.links := rfl
@[simp] theorem advanceTo_fab (t : Nat) : (s.advanceTo t).fab = s.fab := rfl
@[simp] theorem advanceTo_coll (t : Nat) : (s.advanceTo t).coll = s.coll := rfl
@[simp] theorem advanceTo_tol (t : Nat) : (s.advanceTo t).tol = s.tol := rfl
@[simp] theorem advanceTo_rst (t : Nat) : (s.advanceTo t).rst = s.rst := rfl
@[simp] theorem advanceTo_pwr (t : Nat) : (s.advanceTo t).pwr = s.pwr := rfl
@[simp] theorem advanceTo_bru (t : Nat) : (s.advanceTo t).bru = s.bru := rfl
@[simp] theorem advanceTo_nv (t : Nat) : (s.advanceTo t).nv = s.nv := rfl
@[simp] theorem advanceTo_fwu (t : Nat) : (s.advanceTo t).fwu = s.fwu := rfl
@[simp] theorem advanceTo_mgmt (t : Nat) : (s.advanceTo t).mgmt = s.mgmt := rfl
@[simp] theorem advanceTo_jtag (t : Nat) : (s.advanceTo t).jtag = s.jtag := rfl
@[simp] theorem advanceTo_rdB (t : Nat) (b x : Nat) : (s.advanceTo t).rdB b x = s.rdB b x := rfl
@[simp] theorem advanceTo_fld (t : Nat) (g : Fld) : (s.advanceTo t).fld g = s.fld g := rfl
@[simp] theorem advanceTo_regsOk (t : Nat) : RegsOk (s.advanceTo t) ↔ RegsOk s := Iff.rfl

@[simp] theorem mapParts_pending (f : Desc → Part → Part) : (s.mapParts f).pending = s.pending := rfl
@[simp] theorem mapParts_out (f : Desc → Part → Part) : (s.mapParts f).out = s.out := rfl
@[simp] theorem mapParts_freeCtr (f : Desc → Part → Part) : (s.mapParts f).freeCtr = s.freeCtr := rfl
@[simp] theorem mapParts_mclk (f : Desc → Part → Part) : (s.mapParts f).mclk = s.mclk := rfl
@[simp] theorem mapParts_fabTime (f : Desc → Part → Part) : (s.mapParts f).fabTime = s.fabTime := rfl
@[simp] theorem mapParts_fabRunning (f : Desc → Part → Part) : (s.mapParts f).fabRunning = s.fabRunning := rfl
@[simp] theorem mapParts_fabSlew (f : Desc → Part → Part) : (s.mapParts f).fabSlew = s.fabSlew := rfl
@[simp] theorem mapParts_fuses (f : Desc → Part → Part) : (s.mapParts f).fuses = s.fuses := rfl
@[simp] theorem mapParts_regs (f : Desc → Part → Part) : (s.mapParts f).regs = s.regs := rfl
@[simp] theorem mapParts_latches (f : Desc → Part → Part) : (s.mapParts f).latches = s.latches := rfl
@[simp] theorem mapParts_hold (f : Desc → Part → Part) : (s.mapParts f).hold = s.hold := rfl
@[simp] theorem mapParts_holdPoison (f : Desc → Part → Part) : (s.mapParts f).holdPoison = s.holdPoison := rfl
@[simp] theorem mapParts_inbox (f : Desc → Part → Part) : (s.mapParts f).inbox = s.inbox := rfl
@[simp] theorem mapParts_host (f : Desc → Part → Part) : (s.mapParts f).host = s.host := rfl
@[simp] theorem mapParts_own (f : Desc → Part → Part) : (s.mapParts f).own = s.own := rfl
@[simp] theorem mapParts_fcu (f : Desc → Part → Part) : (s.mapParts f).fcu = s.fcu := rfl
@[simp] theorem mapParts_rcv (f : Desc → Part → Part) : (s.mapParts f).rcv = s.rcv := rfl
@[simp] theorem mapParts_slices (f : Desc → Part → Part) : (s.mapParts f).slices = s.slices := rfl
@[simp] theorem mapParts_vus (f : Desc → Part → Part) : (s.mapParts f).vus = s.vus := rfl
@[simp] theorem mapParts_kvp (f : Desc → Part → Part) : (s.mapParts f).kvp = s.kvp := rfl
@[simp] theorem mapParts_gw (f : Desc → Part → Part) : (s.mapParts f).gw = s.gw := rfl
@[simp] theorem mapParts_tier (f : Desc → Part → Part) : (s.mapParts f).tier = s.tier := rfl
@[simp] theorem mapParts_eth (f : Desc → Part → Part) : (s.mapParts f).eth = s.eth := rfl
@[simp] theorem mapParts_links (f : Desc → Part → Part) : (s.mapParts f).links = s.links := rfl
@[simp] theorem mapParts_fab (f : Desc → Part → Part) : (s.mapParts f).fab = s.fab := rfl
@[simp] theorem mapParts_coll (f : Desc → Part → Part) : (s.mapParts f).coll = s.coll := rfl
@[simp] theorem mapParts_tol (f : Desc → Part → Part) : (s.mapParts f).tol = s.tol := rfl
@[simp] theorem mapParts_rst (f : Desc → Part → Part) : (s.mapParts f).rst = s.rst := rfl
@[simp] theorem mapParts_pwr (f : Desc → Part → Part) : (s.mapParts f).pwr = s.pwr := rfl
@[simp] theorem mapParts_bru (f : Desc → Part → Part) : (s.mapParts f).bru = s.bru := rfl
@[simp] theorem mapParts_nv (f : Desc → Part → Part) : (s.mapParts f).nv = s.nv := rfl
@[simp] theorem mapParts_fwu (f : Desc → Part → Part) : (s.mapParts f).fwu = s.fwu := rfl
@[simp] theorem mapParts_mgmt (f : Desc → Part → Part) : (s.mapParts f).mgmt = s.mgmt := rfl
@[simp] theorem mapParts_jtag (f : Desc → Part → Part) : (s.mapParts f).jtag = s.jtag := rfl
@[simp] theorem mapParts_rdB (f : Desc → Part → Part) (b x : Nat) : (s.mapParts f).rdB b x = s.rdB b x := rfl
@[simp] theorem mapParts_fld (f : Desc → Part → Part) (g : Fld) : (s.mapParts f).fld g = s.fld g := rfl
@[simp] theorem mapParts_regsOk (f : Desc → Part → Part) : RegsOk (s.mapParts f) ↔ RegsOk s := Iff.rfl

@[simp] theorem endPart_pending (n d st : Nat) : (s.endPart n d st).pending = s.pending := rfl
@[simp] theorem endPart_out (n d st : Nat) : (s.endPart n d st).out = s.out := rfl
@[simp] theorem endPart_freeCtr (n d st : Nat) : (s.endPart n d st).freeCtr = s.freeCtr := rfl
@[simp] theorem endPart_mclk (n d st : Nat) : (s.endPart n d st).mclk = s.mclk := rfl
@[simp] theorem endPart_fabTime (n d st : Nat) : (s.endPart n d st).fabTime = s.fabTime := rfl
@[simp] theorem endPart_fabRunning (n d st : Nat) : (s.endPart n d st).fabRunning = s.fabRunning := rfl
@[simp] theorem endPart_fabSlew (n d st : Nat) : (s.endPart n d st).fabSlew = s.fabSlew := rfl
@[simp] theorem endPart_fuses (n d st : Nat) : (s.endPart n d st).fuses = s.fuses := rfl
@[simp] theorem endPart_regs (n d st : Nat) : (s.endPart n d st).regs = s.regs := rfl
@[simp] theorem endPart_latches (n d st : Nat) : (s.endPart n d st).latches = s.latches := rfl
@[simp] theorem endPart_hold (n d st : Nat) : (s.endPart n d st).hold = s.hold := rfl
@[simp] theorem endPart_holdPoison (n d st : Nat) : (s.endPart n d st).holdPoison = s.holdPoison := rfl
@[simp] theorem endPart_inbox (n d st : Nat) : (s.endPart n d st).inbox = s.inbox := rfl
@[simp] theorem endPart_host (n d st : Nat) : (s.endPart n d st).host = s.host := rfl
@[simp] theorem endPart_own (n d st : Nat) : (s.endPart n d st).own = s.own := rfl
@[simp] theorem endPart_fcu (n d st : Nat) : (s.endPart n d st).fcu = s.fcu := rfl
@[simp] theorem endPart_rcv (n d st : Nat) : (s.endPart n d st).rcv = s.rcv := rfl
@[simp] theorem endPart_slices (n d st : Nat) : (s.endPart n d st).slices = s.slices := rfl
@[simp] theorem endPart_vus (n d st : Nat) : (s.endPart n d st).vus = s.vus := rfl
@[simp] theorem endPart_kvp (n d st : Nat) : (s.endPart n d st).kvp = s.kvp := rfl
@[simp] theorem endPart_gw (n d st : Nat) : (s.endPart n d st).gw = s.gw := rfl
@[simp] theorem endPart_tier (n d st : Nat) : (s.endPart n d st).tier = s.tier := rfl
@[simp] theorem endPart_eth (n d st : Nat) : (s.endPart n d st).eth = s.eth := rfl
@[simp] theorem endPart_links (n d st : Nat) : (s.endPart n d st).links = s.links := rfl
@[simp] theorem endPart_fab (n d st : Nat) : (s.endPart n d st).fab = s.fab := rfl
@[simp] theorem endPart_coll (n d st : Nat) : (s.endPart n d st).coll = s.coll := rfl
@[simp] theorem endPart_tol (n d st : Nat) : (s.endPart n d st).tol = s.tol := rfl
@[simp] theorem endPart_rst (n d st : Nat) : (s.endPart n d st).rst = s.rst := rfl
@[simp] theorem endPart_pwr (n d st : Nat) : (s.endPart n d st).pwr = s.pwr := rfl
@[simp] theorem endPart_bru (n d st : Nat) : (s.endPart n d st).bru = s.bru := rfl
@[simp] theorem endPart_nv (n d st : Nat) : (s.endPart n d st).nv = s.nv := rfl
@[simp] theorem endPart_fwu (n d st : Nat) : (s.endPart n d st).fwu = s.fwu := rfl
@[simp] theorem endPart_mgmt (n d st : Nat) : (s.endPart n d st).mgmt = s.mgmt := rfl
@[simp] theorem endPart_jtag (n d st : Nat) : (s.endPart n d st).jtag = s.jtag := rfl
@[simp] theorem endPart_rdB (n d st : Nat) (b x : Nat) : (s.endPart n d st).rdB b x = s.rdB b x := rfl
@[simp] theorem endPart_fld (n d st : Nat) (g : Fld) : (s.endPart n d st).fld g = s.fld g := rfl
@[simp] theorem endPart_regsOk (n d st : Nat) : RegsOk (s.endPart n d st) ↔ RegsOk s := Iff.rfl

@[simp] theorem setLink_pending (p : Nat) (l : LinkSt) : (s.setLink p l).pending = s.pending := rfl
@[simp] theorem setLink_out (p : Nat) (l : LinkSt) : (s.setLink p l).out = s.out := rfl
@[simp] theorem setLink_freeCtr (p : Nat) (l : LinkSt) : (s.setLink p l).freeCtr = s.freeCtr := rfl
@[simp] theorem setLink_mclk (p : Nat) (l : LinkSt) : (s.setLink p l).mclk = s.mclk := rfl
@[simp] theorem setLink_fabTime (p : Nat) (l : LinkSt) : (s.setLink p l).fabTime = s.fabTime := rfl
@[simp] theorem setLink_fabRunning (p : Nat) (l : LinkSt) : (s.setLink p l).fabRunning = s.fabRunning := rfl
@[simp] theorem setLink_fabSlew (p : Nat) (l : LinkSt) : (s.setLink p l).fabSlew = s.fabSlew := rfl
@[simp] theorem setLink_fuses (p : Nat) (l : LinkSt) : (s.setLink p l).fuses = s.fuses := rfl
@[simp] theorem setLink_regs (p : Nat) (l : LinkSt) : (s.setLink p l).regs = s.regs := rfl
@[simp] theorem setLink_latches (p : Nat) (l : LinkSt) : (s.setLink p l).latches = s.latches := rfl
@[simp] theorem setLink_hold (p : Nat) (l : LinkSt) : (s.setLink p l).hold = s.hold := rfl
@[simp] theorem setLink_holdPoison (p : Nat) (l : LinkSt) : (s.setLink p l).holdPoison = s.holdPoison := rfl
@[simp] theorem setLink_inbox (p : Nat) (l : LinkSt) : (s.setLink p l).inbox = s.inbox := rfl
@[simp] theorem setLink_seq (p : Nat) (l : LinkSt) : (s.setLink p l).seq = s.seq := rfl
@[simp] theorem setLink_host (p : Nat) (l : LinkSt) : (s.setLink p l).host = s.host := rfl
@[simp] theorem setLink_own (p : Nat) (l : LinkSt) : (s.setLink p l).own = s.own := rfl
@[simp] theorem setLink_fcu (p : Nat) (l : LinkSt) : (s.setLink p l).fcu = s.fcu := rfl
@[simp] theorem setLink_rcv (p : Nat) (l : LinkSt) : (s.setLink p l).rcv = s.rcv := rfl
@[simp] theorem setLink_slices (p : Nat) (l : LinkSt) : (s.setLink p l).slices = s.slices := rfl
@[simp] theorem setLink_vus (p : Nat) (l : LinkSt) : (s.setLink p l).vus = s.vus := rfl
@[simp] theorem setLink_kvp (p : Nat) (l : LinkSt) : (s.setLink p l).kvp = s.kvp := rfl
@[simp] theorem setLink_gw (p : Nat) (l : LinkSt) : (s.setLink p l).gw = s.gw := rfl
@[simp] theorem setLink_tier (p : Nat) (l : LinkSt) : (s.setLink p l).tier = s.tier := rfl
@[simp] theorem setLink_eth (p : Nat) (l : LinkSt) : (s.setLink p l).eth = s.eth := rfl
@[simp] theorem setLink_fab (p : Nat) (l : LinkSt) : (s.setLink p l).fab = s.fab := rfl
@[simp] theorem setLink_coll (p : Nat) (l : LinkSt) : (s.setLink p l).coll = s.coll := rfl
@[simp] theorem setLink_tol (p : Nat) (l : LinkSt) : (s.setLink p l).tol = s.tol := rfl
@[simp] theorem setLink_rst (p : Nat) (l : LinkSt) : (s.setLink p l).rst = s.rst := rfl
@[simp] theorem setLink_pwr (p : Nat) (l : LinkSt) : (s.setLink p l).pwr = s.pwr := rfl
@[simp] theorem setLink_bru (p : Nat) (l : LinkSt) : (s.setLink p l).bru = s.bru := rfl
@[simp] theorem setLink_nv (p : Nat) (l : LinkSt) : (s.setLink p l).nv = s.nv := rfl
@[simp] theorem setLink_fwu (p : Nat) (l : LinkSt) : (s.setLink p l).fwu = s.fwu := rfl
@[simp] theorem setLink_mgmt (p : Nat) (l : LinkSt) : (s.setLink p l).mgmt = s.mgmt := rfl
@[simp] theorem setLink_jtag (p : Nat) (l : LinkSt) : (s.setLink p l).jtag = s.jtag := rfl
@[simp] theorem setLink_rdB (p : Nat) (l : LinkSt) (b x : Nat) : (s.setLink p l).rdB b x = s.rdB b x := rfl
@[simp] theorem setLink_fld (p : Nat) (l : LinkSt) (g : Fld) : (s.setLink p l).fld g = s.fld g := rfl
@[simp] theorem setLink_regsOk (p : Nat) (l : LinkSt) : RegsOk (s.setLink p l) ↔ RegsOk s := Iff.rfl

@[simp] theorem setRt_pending (n : Nat) (r : ParcelRt) : (s.setRt n r).pending = s.pending := rfl
@[simp] theorem setRt_out (n : Nat) (r : ParcelRt) : (s.setRt n r).out = s.out := rfl
@[simp] theorem setRt_freeCtr (n : Nat) (r : ParcelRt) : (s.setRt n r).freeCtr = s.freeCtr := rfl
@[simp] theorem setRt_mclk (n : Nat) (r : ParcelRt) : (s.setRt n r).mclk = s.mclk := rfl
@[simp] theorem setRt_fabTime (n : Nat) (r : ParcelRt) : (s.setRt n r).fabTime = s.fabTime := rfl
@[simp] theorem setRt_fabRunning (n : Nat) (r : ParcelRt) : (s.setRt n r).fabRunning = s.fabRunning := rfl
@[simp] theorem setRt_fabSlew (n : Nat) (r : ParcelRt) : (s.setRt n r).fabSlew = s.fabSlew := rfl
@[simp] theorem setRt_fuses (n : Nat) (r : ParcelRt) : (s.setRt n r).fuses = s.fuses := rfl
@[simp] theorem setRt_regs (n : Nat) (r : ParcelRt) : (s.setRt n r).regs = s.regs := rfl
@[simp] theorem setRt_latches (n : Nat) (r : ParcelRt) : (s.setRt n r).latches = s.latches := rfl
@[simp] theorem setRt_hold (n : Nat) (r : ParcelRt) : (s.setRt n r).hold = s.hold := rfl
@[simp] theorem setRt_holdPoison (n : Nat) (r : ParcelRt) : (s.setRt n r).holdPoison = s.holdPoison := rfl
@[simp] theorem setRt_inbox (n : Nat) (r : ParcelRt) : (s.setRt n r).inbox = s.inbox := rfl
@[simp] theorem setRt_seq (n : Nat) (r : ParcelRt) : (s.setRt n r).seq = s.seq := rfl
@[simp] theorem setRt_host (n : Nat) (r : ParcelRt) : (s.setRt n r).host = s.host := rfl
@[simp] theorem setRt_own (n : Nat) (r : ParcelRt) : (s.setRt n r).own = s.own := rfl
@[simp] theorem setRt_fcu (n : Nat) (r : ParcelRt) : (s.setRt n r).fcu = s.fcu := rfl
@[simp] theorem setRt_slices (n : Nat) (r : ParcelRt) : (s.setRt n r).slices = s.slices := rfl
@[simp] theorem setRt_vus (n : Nat) (r : ParcelRt) : (s.setRt n r).vus = s.vus := rfl
@[simp] theorem setRt_kvp (n : Nat) (r : ParcelRt) : (s.setRt n r).kvp = s.kvp := rfl
@[simp] theorem setRt_gw (n : Nat) (r : ParcelRt) : (s.setRt n r).gw = s.gw := rfl
@[simp] theorem setRt_tier (n : Nat) (r : ParcelRt) : (s.setRt n r).tier = s.tier := rfl
@[simp] theorem setRt_eth (n : Nat) (r : ParcelRt) : (s.setRt n r).eth = s.eth := rfl
@[simp] theorem setRt_links (n : Nat) (r : ParcelRt) : (s.setRt n r).links = s.links := rfl
@[simp] theorem setRt_fab (n : Nat) (r : ParcelRt) : (s.setRt n r).fab = s.fab := rfl
@[simp] theorem setRt_coll (n : Nat) (r : ParcelRt) : (s.setRt n r).coll = s.coll := rfl
@[simp] theorem setRt_tol (n : Nat) (r : ParcelRt) : (s.setRt n r).tol = s.tol := rfl
@[simp] theorem setRt_rst (n : Nat) (r : ParcelRt) : (s.setRt n r).rst = s.rst := rfl
@[simp] theorem setRt_pwr (n : Nat) (r : ParcelRt) : (s.setRt n r).pwr = s.pwr := rfl
@[simp] theorem setRt_bru (n : Nat) (r : ParcelRt) : (s.setRt n r).bru = s.bru := rfl
@[simp] theorem setRt_nv (n : Nat) (r : ParcelRt) : (s.setRt n r).nv = s.nv := rfl
@[simp] theorem setRt_fwu (n : Nat) (r : ParcelRt) : (s.setRt n r).fwu = s.fwu := rfl
@[simp] theorem setRt_mgmt (n : Nat) (r : ParcelRt) : (s.setRt n r).mgmt = s.mgmt := rfl
@[simp] theorem setRt_jtag (n : Nat) (r : ParcelRt) : (s.setRt n r).jtag = s.jtag := rfl
@[simp] theorem setRt_rdB (n : Nat) (r : ParcelRt) (b x : Nat) : (s.setRt n r).rdB b x = s.rdB b x := rfl
@[simp] theorem setRt_fld (n : Nat) (r : ParcelRt) (g : Fld) : (s.setRt n r).fld g = s.fld g := rfl
@[simp] theorem setRt_regsOk (n : Nat) (r : ParcelRt) : RegsOk (s.setRt n r) ↔ RegsOk s := Iff.rfl

@[simp] theorem setBind_pending (n : Nat) (b : BindSt) : (s.setBind n b).pending = s.pending := rfl
@[simp] theorem setBind_out (n : Nat) (b : BindSt) : (s.setBind n b).out = s.out := rfl
@[simp] theorem setBind_freeCtr (n : Nat) (b : BindSt) : (s.setBind n b).freeCtr = s.freeCtr := rfl
@[simp] theorem setBind_mclk (n : Nat) (b : BindSt) : (s.setBind n b).mclk = s.mclk := rfl
@[simp] theorem setBind_fabTime (n : Nat) (b : BindSt) : (s.setBind n b).fabTime = s.fabTime := rfl
@[simp] theorem setBind_fabRunning (n : Nat) (b : BindSt) : (s.setBind n b).fabRunning = s.fabRunning := rfl
@[simp] theorem setBind_fabSlew (n : Nat) (b : BindSt) : (s.setBind n b).fabSlew = s.fabSlew := rfl
@[simp] theorem setBind_fuses (n : Nat) (b : BindSt) : (s.setBind n b).fuses = s.fuses := rfl
@[simp] theorem setBind_regs (n : Nat) (b : BindSt) : (s.setBind n b).regs = s.regs := rfl
@[simp] theorem setBind_latches (n : Nat) (b : BindSt) : (s.setBind n b).latches = s.latches := rfl
@[simp] theorem setBind_hold (n : Nat) (b : BindSt) : (s.setBind n b).hold = s.hold := rfl
@[simp] theorem setBind_holdPoison (n : Nat) (b : BindSt) : (s.setBind n b).holdPoison = s.holdPoison := rfl
@[simp] theorem setBind_inbox (n : Nat) (b : BindSt) : (s.setBind n b).inbox = s.inbox := rfl
@[simp] theorem setBind_seq (n : Nat) (b : BindSt) : (s.setBind n b).seq = s.seq := rfl
@[simp] theorem setBind_host (n : Nat) (b : BindSt) : (s.setBind n b).host = s.host := rfl
@[simp] theorem setBind_own (n : Nat) (b : BindSt) : (s.setBind n b).own = s.own := rfl
@[simp] theorem setBind_fcu (n : Nat) (b : BindSt) : (s.setBind n b).fcu = s.fcu := rfl
@[simp] theorem setBind_slices (n : Nat) (b : BindSt) : (s.setBind n b).slices = s.slices := rfl
@[simp] theorem setBind_vus (n : Nat) (b : BindSt) : (s.setBind n b).vus = s.vus := rfl
@[simp] theorem setBind_kvp (n : Nat) (b : BindSt) : (s.setBind n b).kvp = s.kvp := rfl
@[simp] theorem setBind_gw (n : Nat) (b : BindSt) : (s.setBind n b).gw = s.gw := rfl
@[simp] theorem setBind_tier (n : Nat) (b : BindSt) : (s.setBind n b).tier = s.tier := rfl
@[simp] theorem setBind_eth (n : Nat) (b : BindSt) : (s.setBind n b).eth = s.eth := rfl
@[simp] theorem setBind_links (n : Nat) (b : BindSt) : (s.setBind n b).links = s.links := rfl
@[simp] theorem setBind_fab (n : Nat) (b : BindSt) : (s.setBind n b).fab = s.fab := rfl
@[simp] theorem setBind_coll (n : Nat) (b : BindSt) : (s.setBind n b).coll = s.coll := rfl
@[simp] theorem setBind_tol (n : Nat) (b : BindSt) : (s.setBind n b).tol = s.tol := rfl
@[simp] theorem setBind_rst (n : Nat) (b : BindSt) : (s.setBind n b).rst = s.rst := rfl
@[simp] theorem setBind_pwr (n : Nat) (b : BindSt) : (s.setBind n b).pwr = s.pwr := rfl
@[simp] theorem setBind_bru (n : Nat) (b : BindSt) : (s.setBind n b).bru = s.bru := rfl
@[simp] theorem setBind_nv (n : Nat) (b : BindSt) : (s.setBind n b).nv = s.nv := rfl
@[simp] theorem setBind_fwu (n : Nat) (b : BindSt) : (s.setBind n b).fwu = s.fwu := rfl
@[simp] theorem setBind_mgmt (n : Nat) (b : BindSt) : (s.setBind n b).mgmt = s.mgmt := rfl
@[simp] theorem setBind_jtag (n : Nat) (b : BindSt) : (s.setBind n b).jtag = s.jtag := rfl
@[simp] theorem setBind_rdB (n : Nat) (b : BindSt) (k y : Nat) : (s.setBind n b).rdB k y = s.rdB k y := rfl
@[simp] theorem setBind_fld (n : Nat) (b : BindSt) (g : Fld) : (s.setBind n b).fld g = s.fld g := rfl
@[simp] theorem setBind_regsOk (n : Nat) (b : BindSt) : RegsOk (s.setBind n b) ↔ RegsOk s := Iff.rfl

@[simp] theorem setCtx_pending (c : Nat) (x : Ctx) : (s.setCtx c x).pending = s.pending := rfl
@[simp] theorem setCtx_out (c : Nat) (x : Ctx) : (s.setCtx c x).out = s.out := rfl
@[simp] theorem setCtx_freeCtr (c : Nat) (x : Ctx) : (s.setCtx c x).freeCtr = s.freeCtr := rfl
@[simp] theorem setCtx_mclk (c : Nat) (x : Ctx) : (s.setCtx c x).mclk = s.mclk := rfl
@[simp] theorem setCtx_fabTime (c : Nat) (x : Ctx) : (s.setCtx c x).fabTime = s.fabTime := rfl
@[simp] theorem setCtx_fabRunning (c : Nat) (x : Ctx) : (s.setCtx c x).fabRunning = s.fabRunning := rfl
@[simp] theorem setCtx_fabSlew (c : Nat) (x : Ctx) : (s.setCtx c x).fabSlew = s.fabSlew := rfl
@[simp] theorem setCtx_fuses (c : Nat) (x : Ctx) : (s.setCtx c x).fuses = s.fuses := rfl
@[simp] theorem setCtx_regs (c : Nat) (x : Ctx) : (s.setCtx c x).regs = s.regs := rfl
@[simp] theorem setCtx_latches (c : Nat) (x : Ctx) : (s.setCtx c x).latches = s.latches := rfl
@[simp] theorem setCtx_hold (c : Nat) (x : Ctx) : (s.setCtx c x).hold = s.hold := rfl
@[simp] theorem setCtx_holdPoison (c : Nat) (x : Ctx) : (s.setCtx c x).holdPoison = s.holdPoison := rfl
@[simp] theorem setCtx_inbox (c : Nat) (x : Ctx) : (s.setCtx c x).inbox = s.inbox := rfl
@[simp] theorem setCtx_seq (c : Nat) (x : Ctx) : (s.setCtx c x).seq = s.seq := rfl
@[simp] theorem setCtx_own (c : Nat) (x : Ctx) : (s.setCtx c x).own = s.own := rfl
@[simp] theorem setCtx_fcu (c : Nat) (x : Ctx) : (s.setCtx c x).fcu = s.fcu := rfl
@[simp] theorem setCtx_rcv (c : Nat) (x : Ctx) : (s.setCtx c x).rcv = s.rcv := rfl
@[simp] theorem setCtx_slices (c : Nat) (x : Ctx) : (s.setCtx c x).slices = s.slices := rfl
@[simp] theorem setCtx_vus (c : Nat) (x : Ctx) : (s.setCtx c x).vus = s.vus := rfl
@[simp] theorem setCtx_kvp (c : Nat) (x : Ctx) : (s.setCtx c x).kvp = s.kvp := rfl
@[simp] theorem setCtx_gw (c : Nat) (x : Ctx) : (s.setCtx c x).gw = s.gw := rfl
@[simp] theorem setCtx_tier (c : Nat) (x : Ctx) : (s.setCtx c x).tier = s.tier := rfl
@[simp] theorem setCtx_eth (c : Nat) (x : Ctx) : (s.setCtx c x).eth = s.eth := rfl
@[simp] theorem setCtx_links (c : Nat) (x : Ctx) : (s.setCtx c x).links = s.links := rfl
@[simp] theorem setCtx_fab (c : Nat) (x : Ctx) : (s.setCtx c x).fab = s.fab := rfl
@[simp] theorem setCtx_coll (c : Nat) (x : Ctx) : (s.setCtx c x).coll = s.coll := rfl
@[simp] theorem setCtx_tol (c : Nat) (x : Ctx) : (s.setCtx c x).tol = s.tol := rfl
@[simp] theorem setCtx_rst (c : Nat) (x : Ctx) : (s.setCtx c x).rst = s.rst := rfl
@[simp] theorem setCtx_pwr (c : Nat) (x : Ctx) : (s.setCtx c x).pwr = s.pwr := rfl
@[simp] theorem setCtx_bru (c : Nat) (x : Ctx) : (s.setCtx c x).bru = s.bru := rfl
@[simp] theorem setCtx_nv (c : Nat) (x : Ctx) : (s.setCtx c x).nv = s.nv := rfl
@[simp] theorem setCtx_fwu (c : Nat) (x : Ctx) : (s.setCtx c x).fwu = s.fwu := rfl
@[simp] theorem setCtx_mgmt (c : Nat) (x : Ctx) : (s.setCtx c x).mgmt = s.mgmt := rfl
@[simp] theorem setCtx_jtag (c : Nat) (x : Ctx) : (s.setCtx c x).jtag = s.jtag := rfl
@[simp] theorem setCtx_rdB (c : Nat) (x : Ctx) (b y : Nat) : (s.setCtx c x).rdB b y = s.rdB b y := rfl
@[simp] theorem setCtx_fld (c : Nat) (x : Ctx) (g : Fld) : (s.setCtx c x).fld g = s.fld g := rfl
@[simp] theorem setCtx_regsOk (c : Nat) (x : Ctx) : RegsOk (s.setCtx c x) ↔ RegsOk s := Iff.rfl

@[simp] theorem setFn_pending (f : Nat) (v : FnState) : (s.setFn f v).pending = s.pending := rfl
@[simp] theorem setFn_out (f : Nat) (v : FnState) : (s.setFn f v).out = s.out := rfl
@[simp] theorem setFn_freeCtr (f : Nat) (v : FnState) : (s.setFn f v).freeCtr = s.freeCtr := rfl
@[simp] theorem setFn_mclk (f : Nat) (v : FnState) : (s.setFn f v).mclk = s.mclk := rfl
@[simp] theorem setFn_fabTime (f : Nat) (v : FnState) : (s.setFn f v).fabTime = s.fabTime := rfl
@[simp] theorem setFn_fabRunning (f : Nat) (v : FnState) : (s.setFn f v).fabRunning = s.fabRunning := rfl
@[simp] theorem setFn_fabSlew (f : Nat) (v : FnState) : (s.setFn f v).fabSlew = s.fabSlew := rfl
@[simp] theorem setFn_fuses (f : Nat) (v : FnState) : (s.setFn f v).fuses = s.fuses := rfl
@[simp] theorem setFn_regs (f : Nat) (v : FnState) : (s.setFn f v).regs = s.regs := rfl
@[simp] theorem setFn_latches (f : Nat) (v : FnState) : (s.setFn f v).latches = s.latches := rfl
@[simp] theorem setFn_hold (f : Nat) (v : FnState) : (s.setFn f v).hold = s.hold := rfl
@[simp] theorem setFn_holdPoison (f : Nat) (v : FnState) : (s.setFn f v).holdPoison = s.holdPoison := rfl
@[simp] theorem setFn_inbox (f : Nat) (v : FnState) : (s.setFn f v).inbox = s.inbox := rfl
@[simp] theorem setFn_seq (f : Nat) (v : FnState) : (s.setFn f v).seq = s.seq := rfl
@[simp] theorem setFn_own (f : Nat) (v : FnState) : (s.setFn f v).own = s.own := rfl
@[simp] theorem setFn_fcu (f : Nat) (v : FnState) : (s.setFn f v).fcu = s.fcu := rfl
@[simp] theorem setFn_rcv (f : Nat) (v : FnState) : (s.setFn f v).rcv = s.rcv := rfl
@[simp] theorem setFn_slices (f : Nat) (v : FnState) : (s.setFn f v).slices = s.slices := rfl
@[simp] theorem setFn_vus (f : Nat) (v : FnState) : (s.setFn f v).vus = s.vus := rfl
@[simp] theorem setFn_kvp (f : Nat) (v : FnState) : (s.setFn f v).kvp = s.kvp := rfl
@[simp] theorem setFn_gw (f : Nat) (v : FnState) : (s.setFn f v).gw = s.gw := rfl
@[simp] theorem setFn_tier (f : Nat) (v : FnState) : (s.setFn f v).tier = s.tier := rfl
@[simp] theorem setFn_eth (f : Nat) (v : FnState) : (s.setFn f v).eth = s.eth := rfl
@[simp] theorem setFn_links (f : Nat) (v : FnState) : (s.setFn f v).links = s.links := rfl
@[simp] theorem setFn_fab (f : Nat) (v : FnState) : (s.setFn f v).fab = s.fab := rfl
@[simp] theorem setFn_coll (f : Nat) (v : FnState) : (s.setFn f v).coll = s.coll := rfl
@[simp] theorem setFn_tol (f : Nat) (v : FnState) : (s.setFn f v).tol = s.tol := rfl
@[simp] theorem setFn_rst (f : Nat) (v : FnState) : (s.setFn f v).rst = s.rst := rfl
@[simp] theorem setFn_pwr (f : Nat) (v : FnState) : (s.setFn f v).pwr = s.pwr := rfl
@[simp] theorem setFn_bru (f : Nat) (v : FnState) : (s.setFn f v).bru = s.bru := rfl
@[simp] theorem setFn_nv (f : Nat) (v : FnState) : (s.setFn f v).nv = s.nv := rfl
@[simp] theorem setFn_fwu (f : Nat) (v : FnState) : (s.setFn f v).fwu = s.fwu := rfl
@[simp] theorem setFn_mgmt (f : Nat) (v : FnState) : (s.setFn f v).mgmt = s.mgmt := rfl
@[simp] theorem setFn_jtag (f : Nat) (v : FnState) : (s.setFn f v).jtag = s.jtag := rfl
@[simp] theorem setFn_rdB (f : Nat) (v : FnState) (b x : Nat) : (s.setFn f v).rdB b x = s.rdB b x := rfl
@[simp] theorem setFn_fld (f : Nat) (v : FnState) (g : Fld) : (s.setFn f v).fld g = s.fld g := rfl
@[simp] theorem setFn_regsOk (f : Nat) (v : FnState) : RegsOk (s.setFn f v) ↔ RegsOk s := Iff.rfl

end Sys2Proof.Laws
end

