-- ==== Sys2Proof/WellFormed.lean ====
section
/-! DEFINITION. Which commands a sender can form: the checks on operands whose types allow more than the spec does.
The meanings are total and act on ill-formed commands too; a claim may ask for `Instr.wf`. -/

namespace Sys2Proof

/-- A register access covers one naturally aligned word of the 64 MiB of BAR0 (R6, R493). -/
def offsetWf (off : Nat) : Bool := off % 4 == 0 && decide (off < 2 ^ 26)

/-- A packet carries at most 64 payload units of 32 B (R243). -/
def Packet.wf (p : Packet) : Bool := p.payload.length % 32 == 0 && decide (p.payload.length ≤ 2048)

/-- A header, tail or control unit is 32 B (R242). -/
def unitWf (unit : List Byte) : Bool := unit.length == 32

/-- An error is reported for a 16 B word of the hold (R43). -/
def errsWf (errs : List WordErr) : Bool := errs.all fun e => e.addr % 16 == 0

/-- A frame has its addresses and type (R231). -/
def frameWf (frame : List Byte) : Bool := decide (14 ≤ frame.length)

/-- The fault collector has the sources 0 to 65 (R371). -/
def sourceWf (src : Nat) : Bool := decide (src < 66)

/-- The checks of every command; the operands of the commands not named here are bounded by their types. -/
def Instr.wf : Instr → Bool
  | .registerWrite _ off _ | .lowWordRead _ off | .contextConfigWrite _ off _ | .parcelDownAccess _ off _ => offsetWf off
  | .bar0BadAccess _ off len _ => !(off % 4 == 0 && len == 4)
  | .regAccess _ pk | .traverseStartReceive _ pk | .exchange _ pk | .datum _ pk | .confirm _ pk | .landGrant _ pk
  | .landing _ pk | .windowGrant pk | .timeRequest _ pk | .timeResponse _ pk => pk.wf
  | .writeReceive p | .signalReceive p | .responseReceive p | .joinNotice p | .joinAck p | .openNotice p | .rollbackNotice p | .leaveNotice p
  | .ackNotice p | .collResult p | .collAbort p | .tokenRecord p | .kvRecord p | .beaconRecord p | .journalAck p
  | .castoffReceive p | .fenceOrder p | .fenceAck p | .taken p | .takenAck p => p.wf
  | .applyNotice p errs terrs | .discardNotice p errs terrs => p.wf && errsWf errs && errsWf terrs
  | .collCount p errs | .collPart p errs => p.wf && errsWf errs
  | .rxHeader _ unit _ | .lctlUnit _ unit | .helloUnit _ unit | .restartUnit _ unit | .retrainReq _ unit | .retrainAck _ unit
  | .widthUnit _ unit => unitWf unit
  | .rxTail _ payload tail _ => payload.length % 32 == 0 && unitWf tail
  | .gemm _ errs | .cgemm _ errs | .gemv _ errs | .rmsApply _ errs | .rmsScale _ errs | .layerApply _ errs
  | .scrubStep _ errs | .vload _ errs | .attnMerge _ errs | .setFrame _ errs | .ethTxDescriptor _ errs => errsWf errs
  | .copy _ errs terrs _ => errsWf errs && errsWf terrs
  | .attn _ errs terrs | .kvAppend _ errs terrs | .kvCommit _ errs terrs | .promote _ errs terrs | .evict _ errs terrs
  | .writeback _ errs terrs | .migrate _ errs terrs | .kvPageFetch _ errs terrs => errsWf errs && errsWf terrs
  | .fxfer _ _ errs | .gwOpen _ _ errs | .gwJoin _ _ errs | .gwTree _ _ errs | .gwAccept _ _ errs
  | .groupSetDefine _ _ errs | .allReduce _ _ errs => errsWf errs
  | .ethFrameReceive _ frame _ | .macControlReceive _ frame _ => frameWf frame
  | .sourceEvent inputs => inputs.all fun i => sourceWf i.source
  | .countWindowExpiry src | .graceExpiry src => sourceWf src
  | .forecast means active => means.length == 12 && decide (active < 4096)
  | .telemetrySweep reads _ => reads.length == 14
  | .requestFirmwareData _ bytes => decide (bytes.length ≤ 1024)
  | .challenge _ _ nonce | .getMeasurements _ _ _ nonce => nonce.length == 32
  | .extest pins tdi | .samplePreload pins tdi => pins.length == tdi.length
  | _ => true

end Sys2Proof
end

