-- ==== Sys2Proof/Tests/Slice0.lean ====
section
/-! SUPPORT. Tests: the spec's worked examples, one ill-formed command for each check of `Instr.wf`, and for each obligation
states and operands that meet the conditions of its clauses. -/

set_option Elab.async false
set_option linter.unusedVariables false

open Sys2Proof Sys2Proof.Machine Sys2Proof.Safety

namespace Sys2Proof.Tests

/-! ## States -/

/-- A part that has been admitted, one that admission has not taken in, and one that has ended. -/
def withPart (st : PartSt) (s : State) : State :=
  { s with seq := { s.seq with descs := s.seq.descs.map fun d => { d with parts := d.parts.map fun p => { p with st := st } } } }

/-- Words of a descriptor from (byte, value) fields. -/
def rawOf (fields : List (Nat × Nat)) : BitVec 512 := BitVec.ofNat 512 (fields.foldl (fun v f => v + f.2 * 2 ^ (8 * f.1)) 0)

/-- Reset, with one descriptor of context 0 whose parts at the listed parcels run. -/
def running (parcels : List Nat) (fields : List (Nat × Nat)) : State :=
  { State.reset with seq := { State.reset.seq with
      descs := [{ id := 1, ctx := 0, index := 0, raw := rawOf fields,
                  parts := parcels.map fun n => { parcel := n, adm := 0, st := .running } }] } }

/-- The first descriptor, and its first part. -/
def desc1 (s : State) : Desc := s.seq.descs.headD ⟨0, 0, 0, 0, [], false, 0, none, none, false, false, []⟩
def part1 (s : State) : Part := (desc1 s).parts.headD { parcel := 0, adm := 0 }

/-- Plot 0 of parcel 0 belongs to function 0; its tiles and vector units are good. -/
def owned (s : State) : State :=
  ((s.setRd (Reg.HLD_PLOT_OWNER 0 0) 1).setRd (Reg.MT_TILE_GOOD_LO 0) 0xFFFFFFFF).setFld (F.VU_STATUS_GOOD 0) 0xFF

/-- A VRUN of two units at parcel 0, the first at word 4 of an image whose words from 4 on are given; its windows are the
first 4 KiB and 4 KiB further on. -/
def vectorWith (a b : UnitSt) (words : List Nat) : State :=
  let s := owned (running [0] [(0, 0x31), (32, 4096), (36, 4096), (40, 4096), (60, 1)])
  let run : VuRun := { id := 1, slot := 0, deadline := 128, phys := [0, 1], units := [(0, { a with pc := 4 }), (1, b)] }
  let image := [0xFFFFFFFFFFFF0004, 2 ^ 64 - 1, 2 ^ 64 - 1, 2 ^ 64 - 1] ++ words
  { s with vus := [(0, { images := [(0, image)], run := some run, xw := [(5, 7#32)] })] }

def vector (words : List Nat) : State :=
  let u : UnitSt :=
    { sr := [(1, 16#32), (2, 0x40000000#32)]
      v := [(64, 0x3F800000#32), (128, 0x40400000#32)]
      p := [(1, 5#64)] }
  vectorWith u { pc := 4 } words

/-- What a unit that may issue an instruction knows. -/
def issued (s : State) (n u op : Nat) : Issue :=
  (s.issue n u op).getD ⟨(s.vu n).run.getD ⟨0, 0, 0, [], []⟩, ⟨0, 0, 0, 0, [], false, 0, none, none, false, false, []⟩, 0, {}, vinstrOf 0⟩

/-- An instruction word (Table 2 of 05_vector_microprograms). -/
def vword (op d a b c pred pz imm : Nat) : Nat :=
  op * 2 ^ 56 + d * 2 ^ 51 + a * 2 ^ 46 + b * 2 ^ 41 + c * 2 ^ 36 + pred * 2 ^ 33 + pz * 2 ^ 32 + imm

/-- The same on a device whose parcel 0 takes work, with context 0 of function 0, which has a mark set there. -/
def held (fields : List (Nat × Nat)) : State :=
  let s := (((owned (running [0] fields)).setFld (F.REC_PARCEL_STATE_STATE 0) 0))
  { s with
    seq := { s.seq with sets := [(0, 0)] }
    host := { s.host with ctxs := [(0, { st := .running, reserved := 1 })], fns := [(0, { enabled := true, bme := true })] } }

/-- Admission has held its part back since cycle 7. -/
def heldBack : State :=
  let s := held [(0, 0x12)]
  { s with seq := { s.seq with descs := s.seq.descs.map fun d => { d with parts := d.parts.map fun p =>
      { p with st := .held, heldAt := some 7 } } } }

/-- Context 0 is configured for parcel 0, with rings of 64 entries; the device has an owner. -/
def configured (own : OwnSt) : State :=
  let s := (State.reset.setFld (F.REC_PARCEL_STATE_STATE 0) 0).setRdB (entryBank 0) Reg.HIF_CTX_PARCELS 0x10000
  let s := s.setRdB (entryBank 0) Reg.HIF_CTX_RINGS 0x606
  { s with own := own }

/-- A GEMM of one row of BF16 by a BF16 B of 128 columns, all zero but one element of A; C is FP32. -/
def gemmState : State :=
  { owned (running [0] [(0, 0x10), (28, 0x1000), (36, 0x8000), (40, 8), (42, 32), (44, 1), (46, 128), (49, 0x11), (52, 1)]) with
    hold := memWrite [] 0 [0x80, 0x3F] }

/-- The same with a coded MXFP4 B: two groups of raw segments of zeros. -/
def cgemmState : State :=
  let group (i : Nat) : List Byte :=
    [1, 16, 0, 0, 18, 0, 0, 0] ++ leBytes 4 i ++ List.replicate 20 0 ++ (List.replicate 16 (leBytes 2 0x8400)).flatten
  { owned (running [0] [(0, 0x11), (28, 0x1000), (32, 0x800), (36, 0x8000), (40, 8), (42, 32), (44, 1), (46, 128), (49, 0x61),
      (52, 1)]) with
    hold := memWrite (memWrite (memWrite (memWrite [] 0 [0x80, 0x3F]) 0x804 (leBytes 4 18)) 0x1000 (group 0)) 0x1900 (group 1) }

/-- Context 0 is running and bound to a mark set of parcel 0, on which its function has plot 0; this device has station 0. -/
def bound : State :=
  let s := ((owned State.reset).setRd Reg.FAB_STATION 0x10000).setFld (F.REC_PARCEL_STATE_STATE 0) 0
  { s with
    seq := { s.seq with sets := [(0, 0)] }
    host := { s.host with ctxs := [(0, { st := .running })], fns := [(0, { enabled := true, bme := true })] } }

/-- Parcel 0's part of the given descriptor runs, on a hold with a BF16 stream of head size 64 at 0x1000: LEN len, one page,
two staging frames at 0x20000. The page's entry at 0x2000 has frame 0x8000, backing 0 in the near tier, and flags. -/
def stream (flags len : Nat) (fields : List (Nat × Nat)) : State :=
  let s := ((held fields).setFld (F.NT_STATUS_READY 0) 1).setFld (F.PWR_STATUS_LOGIC_READY) 1
  let record := [1#8, 2#8, 1#8, 0#8] ++ leBytes 4 len ++ leBytes 4 0 ++ leBytes 4 0x2000 ++ leBytes 2 1 ++ leBytes 2 129 ++
    leBytes 4 0x20000
  { s.setRd (Reg.NT_TRACT_OWNER 0 0) 1 with
    hold := memWrite (memWrite [] 0x1000 record) 0x2000 (leBytes 4 0x8000 ++ leBytes 8 0 ++ leBytes 1 flags ++ leBytes 3 0)
    tier := { s.tier with near := memWrite [] 128 [5, 6, 7] } }

/-- The page of a stream above has one tentative entry. -/
def tentative (s : State) : State := { s with hold := memWrite s.hold 0x200D [1] }

/-- Port 0 is up; queue q has its ring of 64 entries (buffers of 2 KiB) at 0x1000 of plot 0, and marks 1 and 2 of context 0. -/
def ethernet (q qstate : Nat) : State :=
  let s := (bound.setFld (F.ETH_PORT_CFG_ENABLE 0) 1).setFld (F.ETH_PORT_STATUS_LINK_UP 0) 1
  let s := (s.setRdB (entryBank 0) Reg.HIF_CTX_PARCELS 0x10000).setFldB (pathNo .pf0) (F.ETH_Q_SEL_Q 0) q
  let s := (s.setRdB (entryBank q) (Reg.ETH_Q_CTX 0) 0x02010000).setRdB (entryBank q) (Reg.ETH_Q_RING 0) 0x1000
  (s.setRdB (entryBank q) (Reg.ETH_Q_FMT 0) 0xB6).setFldB (entryBank q) (F.ETH_Q_CTRL_STATE 0) qstate

/-- A frame of 60 bytes for the port's own address, with an EtherType. -/
def frame (hi lo : Nat) : List Byte := List.replicate 12 0 ++ [BitVec.ofNat 8 hi, BitVec.ofNat 8 lo] ++ List.replicate 46 0

/-- A parameter block that keeps Table 3 of 07_gangway_speculation: vocabulary 4, pacing buffer of 256 tokens at 0x40000. -/
def gwParams : List Byte :=
  leBytes 4 4 ++ [0, 4, 3, 0] ++ leBytes 4 0 ++ leBytes 4 0x3F800000 ++ leBytes 8 0 ++ leBytes 8 0x100000 ++ [6, 255, 0, 0] ++
    leBytes 4 1000 ++ leBytes 8 0 ++ leBytes 4 0x40000 ++ leBytes 4 256 ++ leBytes 8 0

def request : GwReq :=
  { ctx := 0, params := gwParams, key := List.replicate 16 0, nonce := 0, rootTok := 1, rootPos := 5, hist := [0, 0, 0, 1], index := 0, consumed := 0 }

/-- Parcel 0's part of the given descriptor runs; the request is in slot 0 there, and the context's membership is given. -/
def gangway (reqs : List (Nat × GwReq)) (binds : List (Nat × GwBind)) (fields : List (Nat × Nat)) : State :=
  { (held fields).setRd Reg.FAB_STATION 0x10000 with gw := { reqs := reqs, binds := binds }, fabRunning := true }

/-- A notice of a kind for context 0 of parcel 0. -/
def notice (kind : Nat) (x : Notice) : Packet := { ptype := 0x03, opx := BitVec.ofNat 8 kind, payload := x.bytes }

/-- A member of a request that has to acknowledge a notice of a kind. -/
def member (kind : Nat) : GwMember := { station := 0, ctx := 0, pend := [{ kind := kind, nseq := 0, deadline := some 9 }] }

/-- Binding 0 pairs parcel 0 with parcel 0 of the device at 0x100, for the job tag 7; it serves the request above. -/
def reliefWith (b : BindSt) : State :=
  let s := { bound with own := { owner := 1 }, rcv := { bound.rcv with binds := [(0, b)] }, hold := memWrite [] 0x1000 gwParams }
  let s := (s.setRdB (entryBank 0) Reg.REC_RLF_MASKS 0x10001).setRdB (entryBank 0) Reg.REC_RLF_PEER 0x100
  let s := (s.setRdB (entryBank 0) Reg.REC_RLF_JOB 7).setRdB (entryBank 0) Reg.REC_RLF_PARAM_ADDR 0x1000
  s.setRdB (entryBank 0) Reg.REC_RLF_REQ 0x40

/-- A packet of the paired parcel: of the journal, and a cast-off packet. -/
def journaled (kind jseq gen : Nat) (body : List Byte) : Packet :=
  { ptype := 0x22, src := 0x100, jobTag := 7, opx := BitVec.ofNat 8 kind, addr := BitVec.ofNat 32 jseq,
    txn := BitVec.ofNat 16 gen, payload := body }
def castPkt (kind gen cause : Nat) : Packet :=
  { ptype := 0x23, src := 0x100, jobTag := 7, opx := BitVec.ofNat 8 kind, payload := castPayload gen cause 0 0 0 0 1 1 1 0 }

/-- The device is out of reset, and its management port has its address. -/
def tray : State := (State.reset.setFld F.RST_STATE_STEP 10).setBit F.MGP_STATUS_ADDR_VALID

/-! ## Worked examples of the spec -/

/-- 02_hold, after R29: bank 37 of a parcel is lost; the line of plot 81, row 160 is stored in bank 44, row 75 of plot 94. -/
theorem test_lost_bank : remap (2 ^ 64 - 1 - 2 ^ 37) 37 81 160 = (44, 94, 75) ∧ retiredPlots 1 = 2 := by decide +kernel

/-- 02_hold, after R45: of three parts the last is fenced, or all are. -/
theorem test_partial_record :
    combineParts [Status.OK, Status.OK, Status.FENCED] = (Status.PARTIAL, 4) ∧
    combineParts [Status.FENCED, Status.FENCED, Status.FENCED] = (Status.FENCED, 7) := by decide

/-- 05_vector_microprograms: VCMUL V4, V4, V2 with P0. -/
theorem test_vcmul_word :
    vinstrOf 0x3D21040000000000 = { op := 0x3D, d := 4, a := 4, b := 2, c := 0, pred := 0, pz := false, imm := 0 } := by
  decide +kernel

/-- 11_fabric_topology_and_routing: berth 5 reaches berth 9 on its port 3, and berth 9 reaches berth 5 on port 11. -/
theorem test_mesh_ports :
    (State.reset.setFld F.FAB_STATION_BERTH 5).meshPort 9 = 3 ∧ (State.reset.setFld F.FAB_STATION_BERTH 9).meshPort 5 = 11 := by
  decide +kernel

/-- 02_hold Table 2: a LIMIT of 12 bits or more in a write of 32 is cut to the field. -/
theorem test_register_write_fields :
    (match execRegisterWrite .pf0 (Reg.HLD_CE_LIMIT 11) 0xABCD1234#32 { State.reset with own := { owner := 1 } } with
      | .next t => t.fld (F.HLD_CE_LIMIT_LIMIT 11)
      | _ => 0) = 0x1234 := by decide +kernel

/-- R9: the same write from a path that is not the owner counts a violation and leaves the field (R229). -/
theorem test_register_write_refused :
    (match execRegisterWrite .fabMgr (Reg.HLD_CE_LIMIT 11) 0xABCD1234#32 { State.reset with own := { owner := 1 } } with
      | .next t => (t.fld (F.HLD_CE_LIMIT_LIMIT 11), t.fld F.OWN_VIOL_COUNT_COUNT)
      | _ => (0, 0)) = (0x40, 1) := by decide +kernel

/-! ## Ill-formed commands are refused by the check -/

theorem test_wf_offset : (Instr.registerWrite .pf0 2 0).wf = false ∧ (Instr.lowWordRead .pf0 (2 ^ 26)).wf = false := by
  decide
theorem test_wf_bad_access : (Instr.bar0BadAccess 0 8 4 true).wf = false := by decide
theorem test_wf_packet :
    (Instr.writeReceive { ptype := 1, payload := [0] }).wf = false ∧
    (Instr.exchange 0 { ptype := 0x20, payload := List.replicate 2080 0 }).wf = false := by decide +kernel
theorem test_wf_errors :
    (Instr.gemm 0 [⟨8, true⟩]).wf = false ∧ (Instr.applyNotice { ptype := 3 } [] [⟨8, true⟩]).wf = false ∧
    (Instr.collPart { ptype := 0x21 } [⟨8, true⟩]).wf = false ∧ (Instr.copy 0 [⟨8, true⟩] [] true).wf = false := by decide
theorem test_wf_units : (Instr.helloUnit 0 [1]).wf = false ∧ (Instr.rxTail 0 [1] [] true).wf = false := by decide
theorem test_wf_frame : (Instr.ethFrameReceive 0 [1] true).wf = false := by decide
theorem test_wf_sources :
    (Instr.sourceEvent [{ source := 66 }]).wf = false ∧ (Instr.countWindowExpiry 66).wf = false := by decide
theorem test_wf_tables : (Instr.forecast [] 0).wf = false ∧ (Instr.telemetrySweep [] 0).wf = false := by decide
theorem test_wf_package_data : (Instr.requestFirmwareData 0 (List.replicate 1025 0)).wf = false := by decide +kernel
theorem test_wf_nonce : (Instr.challenge .i3c 0 []).wf = false := by decide
theorem test_wf_boundary : (Instr.extest [true] []).wf = false := by decide
theorem test_wf_good : (Instr.registerWrite .pf0 8 0).wf = true ∧ (Instr.extest [true] [false]).wf = true := by decide

/-! ## The conditions of the obligations can be met -/

def at_hldArbWrite : State :=
  { State.reset with own := { owner := 1 } }

def at_hldArbWrite_2 : State :=
  { State.reset with own := { owner := 1 } }

theorem test_meets_arb_write_keeps_guarantees :
    (∃ s : State, ∃ path : Path, ∃ n : Parcel, ∃ v : Word, RegsOk s ∧ s.mayRwl path = true ∧
      32 < bitsOf v.toNat 5 0 + bitsOf v.toNat 13 8 + max 1 (bitsOf v.toNat 21 16)) ∧
    (∃ s : State, ∃ path : Path, ∃ n : Parcel, ∃ v : Word, RegsOk s ∧ s.mayRwl path = true ∧
      bitsOf v.toNat 5 0 + bitsOf v.toNat 13 8 + max 1 (bitsOf v.toNat 21 16) ≤ 32) :=
  ⟨⟨at_hldArbWrite, .pf0, 0, 0x10A18#32, by decide +kernel, by decide +kernel, by decide +kernel⟩,
    ⟨at_hldArbWrite_2, .pf0, 11, 0x00F10#32, by decide +kernel, by decide +kernel, by decide +kernel⟩⟩

def at_plotOwnerWrite : State :=
  { State.reset with own := { owner := 1 } }

def at_plotClearDone : State :=
  State.reset.setBit (F.HLD_PLOT_OWNER_CLEARING 3 7)

def at_scrubStep : State :=
  (State.reset.setBit (F.HLD_SCRUB_ENABLE 0)).setSlice 0 { row := 24574 }

def at_scrubStep_2 : State :=
  (State.reset.setBit (F.HLD_SCRUB_ENABLE 11)).setSlice 11 { row := 24575 }

def at_hldScrubWrite : State :=
  { State.reset with own := { owner := 1 } }

def at_hldErrClr : State :=
  { State.reset with own := { owner := 1 } }.setFld (F.HLD_CE_COUNT_COUNT 2) 7

def at_wdcCommit : State :=
  State.reset.setFld (F.WDC_STAGE_TAG_TAG 4) 9

theorem test_meets_hold_commands_take_effect :
    (∃ s : State, ∃ path : Path, ∃ n : Parcel, ∃ plot : Fin 96, ∃ v : Word, RegsOk s ∧ Memory.wf s ∧ s.mayRwl path =
      true ∧ s.rd (Reg.HLD_PLOT_OWNER n plot) = 0 ∧ bitsOf v.toNat 1 0 = 1) ∧
    (∃ s : State, ∃ n : Parcel, ∃ plot : Fin 96, RegsOk s ∧ Memory.wf s ∧ s.fld (F.HLD_PLOT_OWNER_CLEARING n plot) =
      1) ∧
    (∃ s : State, ∃ n : Parcel, RegsOk s ∧ Memory.wf s ∧ s.fld (F.HLD_SCRUB_ENABLE n) = 1 ∧ (s.slice n).scrubOn =
      true ∧ (s.slice n).row < 24575) ∧
    (∃ s : State, ∃ n : Parcel, RegsOk s ∧ Memory.wf s ∧ s.fld (F.HLD_SCRUB_ENABLE n) = 1 ∧ (s.slice n).scrubOn =
      true ∧ (s.slice n).row = 24575) ∧
    (∃ s : State, ∃ path : Path, ∃ n : Parcel, ∃ v : Word, RegsOk s ∧ Memory.wf s ∧ s.mayRwl path = true) ∧
    (∃ s : State, ∃ path : Path, ∃ n : Parcel, ∃ v : Word, RegsOk s ∧ Memory.wf s ∧ s.mayRwl path = true ∧
      bitsOf v.toNat 0 0 = 1) ∧
    (∃ s : State, ∃ n : Parcel, ∃ v : Word, RegsOk s ∧ Memory.wf s ∧ bitsOf v.toNat 0 0 = 1) ∧
    (∃ s : State, ∃ n : Parcel, ∃ v : Word, RegsOk s ∧ Memory.wf s ∧ s.stageBad n = 0 ∧ bitsOf v.toNat 0 0 = 1) :=
  ⟨⟨at_plotOwnerWrite, .pf0, 11, 94, 0x3FF0005#32, by decide +kernel, by decide +kernel, by decide +kernel,
      by decide +kernel, by decide +kernel⟩,
    ⟨at_plotClearDone, 3, 7, by decide +kernel, by decide +kernel, by decide +kernel⟩,
    ⟨at_scrubStep, 0, by decide +kernel, by decide +kernel, by decide +kernel, by decide +kernel, by decide +kernel⟩,
    ⟨at_scrubStep_2, 11, by decide +kernel, by decide +kernel, by decide +kernel, by decide +kernel,
      by decide +kernel⟩,
    ⟨at_hldScrubWrite, .pf0, 1, 0xFFF0000#32, by decide +kernel, by decide +kernel, by decide +kernel⟩,
    ⟨at_hldErrClr, .pf0, 2, 1#32, by decide +kernel, by decide +kernel, by decide +kernel, by decide +kernel⟩,
    ⟨State.reset, 5, 1#32, by decide +kernel, by decide +kernel, by decide +kernel⟩,
    ⟨at_wdcCommit, 4, 1#32, by decide +kernel, by decide +kernel, by decide +kernel, by decide +kernel⟩⟩

theorem test_meets_locked_writes_are_counted_and_ignored :
    (∃ (c : Instr) (s : State), lockedWrite c = some (.fabMgr, Reg.TOL_JOB_FREE) ∧ s.mayRwl .fabMgr = false ∧
      RegsOk s) :=
  ⟨.tolJobFree .fabMgr 1#32, { State.reset with own := { owner := 3, locked := true } }, by decide, by decide,
    by decide⟩

theorem test_meets_ownership_commands_take_effect :
    (∃ s : State, RegsOk s ∧ (s.own.busy = none ∧ pathClaimant .pf0 ≠ 0 ∧ s.own.owner = 0)) ∧
    (∃ s : State, RegsOk s ∧ (s.own.busy = none ∧ pathClaimant .mgmtPort = s.own.owner ∧ s.own.locked = false ∧
      s.own.successor = none)) ∧
    (∃ s : State, RegsOk s ∧ (s.own.busy = none ∧ s.own.successor = some (pathClaimant .fabMgr) ∧
      s.own.handoverDeadline = some 1 ∧ s.mclk < 1)) ∧
    (∃ s : State, RegsOk s ∧ (s.own.busy = none ∧ pathClaimant .pf0 = s.own.owner ∧ s.own.locked = false ∧
      s.own.successor = none)) ∧
    (∃ s : State, RegsOk s ∧ (s.own.busy = none ∧ pathClaimant .pf0 = s.own.owner ∧ s.own.locked = true)) ∧
    (∃ s : State, RegsOk s ∧ (s.own.busy = none ∧ pathClaimant .pf0 = s.own.owner ∧ s.own.successor = none ∧
      (3 : Fin 4).val ≠ pathClaimant .pf0)) ∧
    (∃ s : State, RegsOk s ∧ (s.own.busy = none ∧ pathClaimant .pf0 = s.own.owner ∧ s.own.successor.isSome)) ∧
    (∃ s : State, RegsOk s ∧ (s.own.busy = some ⟨5, 1, .pf0⟩ ∧ s.nv.pfHold = false)) ∧
    (∃ s : State, RegsOk s ∧ s.own.handoverDeadline = some 25000000) ∧
    (∃ s : State, RegsOk s ∧ (s.mayRwl .pf0 = true ∧ bitsOf (1#32 : Word).toNat 0 0 = 1)) ∧
    (∃ s : State, RegsOk s ∧ s.own.busy = none ∧ pathClaimant .mgmtPort = 2 ∧ s.fld F.FCU_STATUS_SAFE = 1) :=
  ⟨⟨{ State.reset with own := {} }, by decide, by decide⟩,
    ⟨{ State.reset with own := { owner := 2 } }, by decide, by decide⟩,
    ⟨{ State.reset with own := { owner := 2, successor := some 3, handoverDeadline := some 1 } }, by decide,
      by decide⟩,
    ⟨{ State.reset with own := { owner := 1 } }, by decide, by decide⟩,
    ⟨{ State.reset with own := { owner := 1, locked := true } }, by decide, by decide⟩,
    ⟨{ State.reset with own := { owner := 1 } }, by decide, by decide⟩,
    ⟨{ State.reset with own := { owner := 1, successor := some 2 } }, by decide, by decide⟩,
    ⟨{ State.reset with own := { owner := 1, busy := some ⟨5, 1, .pf0⟩ } }, by decide, by decide⟩,
    ⟨{ State.reset with own := { owner := 1, successor := some 2, handoverDeadline := some 25000000 } }, by decide,
      by decide⟩,
    ⟨{ State.reset with own := { owner := 1 } }, by decide, by decide⟩,
    ⟨State.reset.setBit F.FCU_STATUS_SAFE, by decide, by decide, by decide, by decide⟩⟩

def at_ownClaim_2 : State :=
  { State.reset with own := { owner := 1 } }

theorem test_meets_refused_claim_changes_nothing :
    (∃ s : State, ∃ path : Path, RegsOk s ∧ s.own.busy = none ∧ pathClaimant path ≠ 0 ∧ s.own.owner ≠ 0) :=
  ⟨at_ownClaim_2, .fabMgr, by decide +kernel, by decide +kernel, by decide +kernel, by decide +kernel⟩

theorem test_meets_claim_and_commit_give_ownership :
    (∃ s : State, pathClaimant .mgmtPort ≠ 0 ∧ s.own.owner = 0 ∧ s.own.busy = none ∧ s.nv.pfHold = false ∧ s.pending =
      [.ownClaim .mgmtPort, .ownRecordCommit]) :=
  ⟨{ State.reset with pending := [.ownClaim .mgmtPort, .ownRecordCommit] }, by decide, by decide, by decide,
    by decide, by decide⟩

theorem test_meets_high_word_comes_from_the_latch :
    (∃ (s : State) (path : Path) (off : Nat) (w : Word), off % 4 = 0 ∧ isLowWord off = true ∧ isLowWord (off + 4) =
      false ∧ isParcelReg off = false ∧ isParcelReg (off + 4) = false ∧ amGet s.latches (latchKey path (off + 4)) =
      some w) :=
  ⟨{ State.reset with latches := [(latchKey .pf0 (Reg.FAB_TIME_LO + 4), 5#32)] }, .pf0, Reg.FAB_TIME_LO, 5#32,
    by decide, by decide, by decide, by decide, by decide, by decide⟩

def at_registerWrite : State :=
  { State.reset with own := { owner := 1 } }

def at_regAccess : State :=
  { State.reset with own := { owner := 3 } }.setFld (F.FAB_PORT_STATE_STATE 19) 2

theorem test_meets_register_accesses_take_effect :
    (∃ s : State, ∃ path : Path, ∃ n : Parcel, ∃ v : Word, RegsOk s ∧ s.mayRwl path = true) ∧
    (∃ s : State, ∃ path : Path, ∃ off : Nat, ∃ v : Word, RegsOk s ∧ off % 4 = 0 ∧ regRow off = none ∧ msixReg off =
      false ∧ isParcelReg off = false) ∧
    (∃ s : State, ∃ fn : Fin 1024, ∃ off : Nat, ∃ len : Nat, RegsOk s) ∧
    (∃ s : State, ∃ p : Port, ∃ n : Parcel, ∃ pk : Packet, RegsOk s ∧ s.isTree p = true ∧ s.portState p = 2 ∧
      s.own.locked = false ∧ s.own.owner = 3 ∧ pk.ptype = 0x24 ∧ bitsOf pk.opx.toNat 0 0 = 1 ∧ pk.addr.toNat =
      Reg.HLD_CE_LIMIT n ∧ s.linkUp p = false) :=
  ⟨⟨at_registerWrite, .pf0, 11, 0x12345678#32, by decide +kernel, by decide +kernel⟩,
    ⟨State.reset, .pf0, 0x3FFFFFC, 1#32, by decide +kernel, by decide +kernel, by decide +kernel, by decide +kernel,
      by decide +kernel⟩,
    ⟨State.reset, 1, 2, 8, by decide +kernel⟩,
    ⟨at_regAccess, 19, 0,
      { ptype := 0x24, vc := 3, opx := 1, addr := BitVec.ofNat 32 (Reg.HLD_CE_LIMIT 0), payload := List.replicate 32 7 },
      by decide +kernel, by decide +kernel, by decide +kernel, by decide +kernel, by decide +kernel,
      by decide +kernel, by decide +kernel, by decide +kernel, by decide +kernel⟩⟩

def at_signalDetect : State :=
  (((State.reset.setFld F.RST_STATE_STEP 6).setFld (F.LNK_CTRL_ENABLE 19) 1).setFld (F.LNK_STATUS_STATE 19) 1)

def at_trainDone : State :=
  (State.reset.setFld (F.LNK_STATUS_STATE 5) 2)

def at_trainTimeout : State :=
  (State.reset.setFld (F.LNK_STATUS_STATE 5) 2).setLink 5 { stateDeadline := some 9 }

def at_trainTimeout_2 : State :=
  (State.reset.setFld (F.LNK_STATUS_STATE 5) 4).setLink 5 { stateDeadline := some 9 }

def at_alignLock : State :=
  (State.reset.setFld (F.LNK_STATUS_STATE 5) 3).setFld (F.LNK_EPOCH_TX_EPOCH 5) 65535

def at_helloUnit : State :=
  (State.reset.setFld (F.LNK_STATUS_STATE 5) 4).setLink 5 { seen := true }

def at_helloUnit_2 : State :=
  (State.reset.setFld (F.LNK_STATUS_STATE 5) 4)

def at_refusedExpiry : State :=
  (State.reset.setFld (F.LNK_STATUS_STATE 5) 7).setLink 5 { stateDeadline := some 9 }

def at_fecLockLost : State :=
  (State.reset.setFld (F.LNK_STATUS_STATE 5) 5)

def at_retrain : State :=
  ((State.reset.setFld F.RST_STATE_STEP 6).setFld (F.LNK_CTRL_ENABLE 0) 1)

def at_lnkRestart : State :=
  (State.reset.setFld (F.LNK_STATUS_STATE 5) 5)

def at_restartUnit : State :=
  (State.reset.setFld (F.LNK_STATUS_STATE 5) 5)

def at_restartEnd : State :=
  (State.reset.setFld (F.LNK_STATUS_STATE 5) 6).setLink 5 { stateDeadline := some 9 }

theorem test_meets_link_state_machine_moves :
    (∃ s : State, ∃ p : Port, RegsOk s ∧ s.portExists p = true ∧ s.up 6 = true ∧ s.inBlockReset p = false ∧
      s.fld (F.LNK_CTRL_ENABLE p) = 1 ∧ s.linkState p ≤ 1) ∧
    (∃ s : State, ∃ p : Port, ∃ trained : BitVec 4, ∃ tempC : Byte, ∃ load : Fin 4, ∃ w : Nat, ∃ lanes : Nat,
      RegsOk s ∧ s.linkState p = 2 ∧ widthOf trained.toNat = some (w, lanes)) ∧
    (∃ s : State, ∃ p : Port, ∃ d : Nat, RegsOk s ∧ s.linkState p = 2 ∧ (s.link p).stateDeadline = some d) ∧
    (∃ s : State, ∃ p : Port, ∃ d : Nat, RegsOk s ∧ (s.linkState p = 3 ∨ s.linkState p = 4) ∧
      (s.link p).stateDeadline = some d) ∧
    (∃ s : State, ∃ p : Port, RegsOk s ∧ s.linkState p = 3) ∧
    (∃ s : State, ∃ p : Port, ∃ unit : List Byte, RegsOk s ∧ s.linkState p = 4 ∧ crc16 (unit.take 30) =
      leAt unit 30 2 ∧ leAt unit 1 1 = 1 ∧ leAt unit 2 1 % 32 ≤ 19 ∧ leAt unit 3 1 % 4 =
      s.fld (F.LNK_STATUS_WIDTH p) ∧ bitAt (leAt unit 26 1) 0 = true ∧ (s.link p).seen = true ∧ (s.link p).queue = []) ∧
    (∃ s : State, ∃ p : Port, ∃ unit : List Byte, RegsOk s ∧ s.linkState p = 4 ∧ crc16 (unit.take 30) =
      leAt unit 30 2 ∧ leAt unit 1 1 ≠ 1) ∧
    (∃ s : State, ∃ p : Port, ∃ d : Nat, RegsOk s ∧ s.linkState p = 7 ∧ (s.link p).stateDeadline = some d) ∧
    (∃ s : State, ∃ p : Port, RegsOk s ∧ s.linkState p = 5) ∧
    (∃ s : State, ∃ p : Port, RegsOk s ∧ s.portExists p = true ∧ s.up 6 = true ∧ s.inBlockReset p = false ∧
      s.fld (F.LNK_CTRL_ENABLE p) = 1) ∧
    (∃ s : State, ∃ p : Port, RegsOk s ∧ s.linkState p = 5 ∧ (s.link p).cur = none ∧
      (((s.link p).restartTimes.filter fun d => decide (s.mclk < d + 250000000)).length < 8)) ∧
    (∃ s : State, ∃ p : Port, ∃ unit : List Byte, RegsOk s ∧ s.linkState p = 5 ∧ leAt unit 0 1 = 0xF3 ∧
      (s.link p).cur = none ∧ (((s.link p).restartTimes.filter fun d => decide (s.mclk < d + 250000000)).length < 8)) :=
  ⟨⟨at_signalDetect, 19, by decide +kernel, by decide +kernel, by decide +kernel, by decide +kernel,
      by decide +kernel, by decide +kernel⟩,
    ⟨at_trainDone, 5, 0xC#4, 40, 1, 1, 12, by decide +kernel, by decide +kernel, by decide +kernel⟩,
    ⟨at_trainTimeout, 5, 9, by decide +kernel, by decide +kernel, by decide +kernel⟩,
    ⟨at_trainTimeout_2, 5, 9, by decide +kernel, by decide +kernel, by decide +kernel⟩,
    ⟨at_alignLock, 5, by decide +kernel, by decide +kernel⟩,
    ⟨at_helloUnit, 5, crcUnit ([0xF2, 1, 19, 0] ++ List.replicate 22 0 ++ [1, 0, 0, 0]), by decide +kernel,
      by decide +kernel, by decide +kernel, by decide +kernel, by decide +kernel, by decide +kernel,
      by decide +kernel, by decide +kernel, by decide +kernel⟩,
    ⟨at_helloUnit_2, 5, crcUnit ([0xF2, 2] ++ List.replicate 28 0), by decide +kernel, by decide +kernel,
      by decide +kernel, by decide +kernel⟩,
    ⟨at_refusedExpiry, 5, 9, by decide +kernel, by decide +kernel, by decide +kernel⟩,
    ⟨at_fecLockLost, 5, by decide +kernel, by decide +kernel⟩,
    ⟨at_retrain, 0, by decide +kernel, by decide +kernel, by decide +kernel, by decide +kernel, by decide +kernel⟩,
    ⟨at_lnkRestart, 5, by decide +kernel, by decide +kernel, by decide +kernel, by decide +kernel⟩,
    ⟨at_restartUnit, 5, [0xF3], by decide +kernel, by decide +kernel, by decide +kernel, by decide +kernel,
      by decide +kernel⟩⟩

theorem test_meets_link_state_machine_moves_2 :
    (∃ s : State, ∃ p : Port, ∃ d : Nat, RegsOk s ∧ s.linkState p = 6 ∧ (s.link p).stateDeadline = some d) :=
  ⟨at_restartEnd, 5, 9, by decide +kernel, by decide +kernel, by decide +kernel⟩

def at_rxHeader : State :=
  (State.reset.setFld (F.LNK_STATUS_STATE 5) 5).setFld (F.LNK_CREDIT_GRANTED_FREE 5 3) 3

def at_rxTail : State :=
  (State.reset.setFld (F.LNK_STATUS_STATE 5) 5).setLink 5 { cur := some ⟨[], { ptype := 0x20, vc := 3 }, 0, none, none⟩ }

def at_lctlUnit : State :=
  (State.reset.setFld (F.LNK_STATUS_STATE 5) 5).setLink 5 { unacked := [{ pkt := { ptype := 2 } }, { pkt := { ptype := 2 } }], oldest := 4095 }

def at_lctlSend : State :=
  (State.reset.setFld (F.LNK_STATUS_STATE 5) 5)

def at_replayTimeout : State :=
  (State.reset.setFld (F.LNK_STATUS_STATE 5) 5).setFld (F.LNK_CFG_REPLAY_LIMIT 5) 1 |>.setLink 5 { unacked := [{ pkt := { ptype := 2 } }], replayDeadline := some 3 }

def at_nakResend : State :=
  (State.reset.setFld (F.LNK_STATUS_STATE 5) 5).setLink 5 { nakSent := true, nakDeadline := some 3 }

def at_helloSend : State :=
  (State.reset.setFld (F.LNK_STATUS_STATE 5) 4)

def at_lnkViolClr : State :=
  { State.reset with own := { owner := 2 } }

theorem test_meets_link_units_take_effect :
    (∃ s : State, ∃ p : Port, ∃ unit : List Byte, RegsOk s ∧ s.portExists p = true ∧ s.linkState p = 5 ∧
      0 < leAt unit 0 1 ∧ leAt unit 0 1 < 0xF7 ∧ (s.link p).cur = none ∧ crc16 (unit.take 30) = leAt unit 30 2 ∧
      leAt unit 7 1 % 128 ≤ 64 ∧ leAt unit 2 2 % 4096 = s.fld (F.LNK_SEQ_RX_EXPECT p) ∧
      leAt unit 7 1 % 128 + 2 ≤ s.fld (F.LNK_CREDIT_GRANTED_FREE p (leAt unit 1 1 % 4))) ∧
    (∃ s : State, ∃ p : Port, ∃ c : RxCur, ∃ payload : List Byte, ∃ tail : List Byte, RegsOk s ∧ s.portExists p =
      true ∧ s.linkState p = 5 ∧ (s.link p).cur = some c ∧ payload.length = 32 * c.plen ∧ leAt tail 0 4 =
      crc32 (c.header ++ payload) ∧ bitAt (leAt tail 4 1) 0 = false ∧ c.viol = none ∧ c.cut = none ∧ c.pkt.ptype =
      0x20 ∧ c.pkt.dst = 0 ∧ c.pkt.src = 0 ∧ c.pkt.hops = 0 ∧
      crc16 ((sliceB tail 8 24).take 22) ≠ leAt (sliceB tail 8 24) 22 2) ∧
    (∃ s : State, ∃ p : Port, ∃ unit : List Byte, ∃ n : Nat, RegsOk s ∧ s.linkState p = 5 ∧ leAt unit 0 1 = 0xF1 ∧
      crc16 ((sliceB unit 8 24).take 22) = leAt (sliceB unit 8 24) 22 2 ∧ leAt (sliceB unit 8 24) 10 2 =
      s.fld (F.LNK_EPOCH_TX_EPOCH p) ∧ bitsOf (leAt (sliceB unit 8 24) 0 2) 13 12 = 1 ∧ (s.link p).unacked ≠ [] ∧
      (s.link p).queue = [] ∧ (∀ e ∈ (s.link p).unacked, e.fromPort = none) ∧ n =
      (leAt (sliceB unit 8 24) 0 2 % 4096 + 4097 - (s.link p).oldest) % 4096 ∧ n ≤ (s.link p).unacked.length ∧
      (∀ v < 4,
      s.fld (F.LNK_CREDIT_AVAIL p v) + (leAt (sliceB unit 8 24) (2 + 2 * v) 2 % 4096 + 4096 - (s.link p).crIn.getD v 0) % 4096 ≤ (s.link p).grant.getD v 0)) ∧
    (∃ s : State, ∃ p : Port, RegsOk s ∧ s.linkState p = 5) ∧
    (∃ s : State, ∃ p : Port, ∃ d : Nat, RegsOk s ∧ (s.link p).replayDeadline = some d ∧ s.linkState p = 5 ∧
      (s.link p).unacked ≠ [] ∧ (s.link p).replays < s.fld (F.LNK_CFG_REPLAY_LIMIT p)) ∧
    (∃ s : State, ∃ p : Port, ∃ d : Nat, RegsOk s ∧ (s.link p).nakDeadline = some d ∧ s.linkState p = 5 ∧
      (s.link p).nakSent = true) ∧
    (∃ s : State, ∃ p : Port, RegsOk s ∧ s.linkState p = 4) ∧
    (∃ s : State, ∃ path : Path, ∃ p : Port, ∃ v : Word, RegsOk s ∧ s.portExists p = true ∧ s.mayRwl path = true ∧
      bitsOf v.toNat 0 0 = 1) :=
  ⟨⟨at_rxHeader, 5, crcUnit ([0x20, 3] ++ List.replicate 5 0 ++ [1] ++ List.replicate 22 0), by decide +kernel,
      by decide +kernel, by decide +kernel, by decide +kernel, by decide +kernel, by decide +kernel,
      by decide +kernel, by decide +kernel, by decide +kernel, by decide +kernel⟩,
    ⟨at_rxTail, 5, ⟨[], { ptype := 0x20, vc := 3 }, 0, none, none⟩, [], leBytes 4 (crc32 []), by decide +kernel,
      by decide +kernel, by decide +kernel, by decide +kernel, by decide +kernel, by decide +kernel,
      by decide +kernel, by decide +kernel, by decide +kernel, by decide +kernel, by decide +kernel,
      by decide +kernel, by decide +kernel, by decide +kernel⟩,
    ⟨at_lctlUnit, 5, [0xF1] ++ List.replicate 7 0 ++ crcUnit ([0xFF, 0x1F] ++ List.replicate 20 0), 1,
      by decide +kernel, by decide +kernel, by decide +kernel, by decide +kernel, by decide +kernel,
      by decide +kernel, by decide +kernel, by decide +kernel, by decide +kernel, by decide +kernel,
      by decide +kernel, by decide +kernel⟩,
    ⟨at_lctlSend, 5, by decide +kernel, by decide +kernel⟩,
    ⟨at_replayTimeout, 5, 3, by decide +kernel, by decide +kernel, by decide +kernel, by decide +kernel,
      by decide +kernel⟩,
    ⟨at_nakResend, 5, 3, by decide +kernel, by decide +kernel, by decide +kernel, by decide +kernel⟩,
    ⟨at_helloSend, 5, by decide +kernel, by decide +kernel⟩,
    ⟨at_lnkViolClr, .mgmtPort, 19, 1, by decide +kernel, by decide +kernel, by decide +kernel, by decide +kernel⟩⟩

def at_csymWindow : State :=
  (State.reset.setFld (F.LNK_STATUS_STATE 5) 5).setFld (F.LNK_STATUS_LANES 5) 15

def at_laneRetrainStart : State :=
  (State.reset.setFld (F.LNK_STATUS_STATE 5) 5).setLink 5 { due := [3] }

def at_retrainReq : State :=
  (State.reset.setFld (F.LNK_STATUS_STATE 5) 5).setFld (F.LNK_STATUS_LANES 5) 15

def at_retrainAck : State :=
  (State.reset.setFld (F.LNK_STATUS_STATE 5) 5).setFld (F.LNK_STATUS_LANES 5) 15 |>.setLink 5 { exch := 1, exchLane := 2 }

def at_widthUnit : State :=
  (State.reset.setFld (F.LNK_STATUS_STATE 5) 5)

def at_laneRetrainDone : State :=
  (State.reset.setFld (F.LNK_STATUS_STATE 5) 5).setLink 5 { exch := 3, exchLane := 2 }

def at_laneRetrainDone_2 : State :=
  (State.reset.setFld (F.LNK_STATUS_STATE 5) 5).setLink 5 { exch := 2, exchLane := 0 }

theorem test_meets_lane_retraining_runs :
    (∃ s : State, ∃ p : Port, ∃ counts : List Nat, ∃ tempC : Byte, ∃ lane : Fin 4, RegsOk s ∧ s.linkState p = 5 ∧
      bitAt (s.fld (F.LNK_STATUS_LANES p)) lane = true) ∧
    (∃ s : State, ∃ p : Port, ∃ lane : Fin 4, RegsOk s ∧ s.portExists p = true) ∧
    (∃ s : State, ∃ p : Port, ∃ lane : Nat, RegsOk s ∧ s.dueLane p = some lane ∧ s.linkState p = 5 ∧ (s.link p).exch =
      0 ∧ s.retraining < 2) ∧
    (∃ s : State, ∃ p : Port, ∃ unit : List Byte, RegsOk s ∧ s.linkState p = 5 ∧ crc16 (unit.take 30) =
      leAt unit 30 2 ∧ bitAt (s.fld (F.LNK_STATUS_LANES p)) (leAt unit 1 1 % 4) = true ∧ ((s.link p).exch ≠ 1 ∨
      leAt unit 4 8 ≤ s.fuses.serial)) ∧
    (∃ s : State, ∃ p : Port, ∃ unit : List Byte, ∃ w : Nat, ∃ lanes : Nat, RegsOk s ∧ s.linkState p = 5 ∧
      (s.link p).exch = 1 ∧ crc16 (unit.take 30) = leAt unit 30 2 ∧ leAt unit 1 1 % 4 = (s.link p).exchLane ∧
      widthOf (narrowed (s.fld (F.LNK_STATUS_LANES p)) (s.link p).exchLane) = some (w, lanes)) ∧
    (∃ s : State, ∃ p : Port, ∃ unit : List Byte, RegsOk s ∧ s.linkState p = 5 ∧ crc16 (unit.take 30) =
      leAt unit 30 2 ∧ widthOf (leAt unit 2 1 % 16) = some (leAt unit 1 1 % 4, leAt unit 2 1 % 16) ∧ (∀ i < 4,
      bitAt (leAt unit 2 1 % 16) i = true → bitAt (15 - s.fld (F.LNK_STATUS_LANE_EXCL p)) i = true)) ∧
    (∃ s : State, ∃ p : Port, ∃ tempC : Byte, ∃ load : Fin 4, ∃ w : Nat, ∃ lanes : Nat, RegsOk s ∧ s.linkState p = 5 ∧
      ((s.link p).exch = 2 ∨ (s.link p).exch = 3) ∧ widthOf (15 - s.fld (F.LNK_STATUS_LANE_EXCL p)) = some (w,
      lanes) ∧ (s.link p).exchLane < 4) ∧
    (∃ s : State, ∃ p : Port, ∃ tempC : Byte, ∃ load : Fin 4, RegsOk s ∧ s.linkState p = 5 ∧ ((s.link p).exch = 2 ∨
      (s.link p).exch = 3) ∧ (s.link p).exchLane < 4) :=
  ⟨⟨at_csymWindow, 5, [1, 2, 3, 4294967299], 40, 3, by decide +kernel, by decide +kernel, by decide +kernel⟩,
    ⟨State.reset, 0, 3, by decide +kernel, by decide +kernel⟩,
    ⟨at_laneRetrainStart, 5, 3, by decide +kernel, by decide +kernel, by decide +kernel, by decide +kernel,
      by decide +kernel⟩,
    ⟨at_retrainReq, 5, retrainUnit 0xF5 2 77, by decide +kernel, by decide +kernel, by decide +kernel,
      by decide +kernel, by decide +kernel⟩,
    ⟨at_retrainAck, 5, retrainUnit 0xF6 2 1, 1, 3, by decide +kernel, by decide +kernel, by decide +kernel,
      by decide +kernel, by decide +kernel, by decide +kernel⟩,
    ⟨at_widthUnit, 5, widthUnitOf 1 12, by decide +kernel, by decide +kernel, by decide +kernel, by decide +kernel,
      by decide +kernel⟩,
    ⟨at_laneRetrainDone, 5, 60, 2, 2, 15, by decide +kernel, by decide +kernel, by decide +kernel, by decide +kernel,
      by decide +kernel⟩,
    ⟨at_laneRetrainDone_2, 5, 60, 2, by decide +kernel, by decide +kernel, by decide +kernel, by decide +kernel⟩⟩

def at_traverseTrigger : State :=
  (State.reset.setFld (F.LNK_STATUS_STATE 19) 5)

def at_travStart_2 : State :=
  { State.reset with fab := { trav := some { epoch := 1, t0 := 0, ports := [], ds := 1 } } }.setFld F.RST_STATE_STEP 5

def at_traverseStartReceive : State :=
  (State.reset.setFld (F.LNK_STATUS_STATE 19) 5)

def at_exchange : State :=
  { State.reset with fab := { trav := some { epoch := 1, t0 := 0, ports := [3], ds := 1 } } }

def at_exchangeDeadline : State :=
  { State.reset with fab := { trav := some { epoch := 1, t0 := 0, ports := [3], ds := 1 } } }

def at_datum : State :=
  { State.reset with fab := { trav := some { epoch := 1, t0 := 0, ports := [3], ds := 1, phase := 2 } } }

def at_berthFix : State :=
  { State.reset with fab := { trav := some { epoch := 1, t0 := 5, ports := [3], ds := 1, phase := 2 } } }

def at_confirm : State :=
  { State.reset with fab := { trav := some { epoch := 1, t0 := 0, ports := [14], ds := 1, phase := 3 } } }

def at_confirmDeadline : State :=
  { State.reset with fab := { trav := some { epoch := 1, t0 := 5, ports := [3], ds := 1, phase := 3, counted := true, confirms := [(3, (1, 4))] } } }

def at_landReq : State :=
  { State.reset with fab := { trav := some { epoch := 1, t0 := 5, ports := [3], ds := 1, phase := 4 } } }.setFld (F.LNK_STATUS_STATE 19) 5

def at_landGrant : State :=
  { State.reset with fab := { trav := some { epoch := 1, t0 := 5, ports := [], ds := 1, phase := 4 } } }

def at_landing : State :=
  { State.reset with fab := { trav := some { epoch := 1, t0 := 5, ports := [3], ds := 0, phase := 4 } } }

def at_landingDeadline : State :=
  { State.reset with fab := { trav := some { epoch := 1, t0 := 5, ports := [3], ds := 0, phase := 4 } } }

def at_traverseApply : State :=
  { State.reset with fab := { trav := some { epoch := 1, t0 := 5, ports := [3], ds := 9, b := 7, phase := 4, landing := some 4094 } } }

def at_traversePeerAbsent : State :=
  { State.reset with fab := { trav := some { epoch := 1, t0 := 5, ports := [3], ds := 9, leaving := [(3, 77)] } } }

theorem test_meets_traverse_proceeds :
    (∃ s : State, RegsOk s ∧ s.fab.trav = none ∧ s.rst.recovery = false ∧ s.fab.started = false ∧ s.upPorts ≠ []) ∧
    (∃ s : State, RegsOk s ∧ s.up 5 = true ∧ s.rst.recovery = false ∧ s.fab.trav = none) ∧
    (∃ s : State, RegsOk s ∧ s.up 5 = true ∧ s.rst.recovery = false ∧ s.fab.trav.isSome) ∧
    (∃ s : State, ∃ p : Port, ∃ pk : Packet, RegsOk s ∧ pk.ptype = 0x20 ∧ travOk pk 1 = true ∧
      epochNewer pk.addr.toNat s.fab.newest = true ∧ s.linkUp p = true ∧ s.rst.recovery = false ∧ s.fab.trav = none) ∧
    (∃ s : State, ∃ p : Port, ∃ pk : Packet, ∃ tr : Traverse, RegsOk s ∧ pk.ptype = 0x20 ∧ travOk pk 2 = true ∧
      s.travOn p pk = some tr ∧ tr.phase = 1) ∧
    (∃ s : State, ∃ tr : Traverse, RegsOk s ∧ s.fab.trav = some tr ∧ tr.phase = 1 ∧ ((tr.ports.all fun p =>
      (amGet tr.exchanges p).all fun x => !s.portMiscabled p x) = true)) ∧
    (∃ s : State, ∃ p : Port, ∃ pk : Packet, ∃ tr : Traverse, RegsOk s ∧ pk.ptype = 0x20 ∧ travOk pk 3 = true ∧
      s.travOn p pk = some tr ∧ tr.phase = 2 ∧ p.val < s.fuses.meshPorts ∧ tr.absent.contains p.val = false ∧
      tr.miscabled.contains p.val = false ∧ (leAt pk.payload 0 8 < tr.ds ∨ (leAt pk.payload 0 8 = tr.ds ∧
      leAt pk.payload 9 1 + 1 < tr.dist))) ∧
    (∃ s : State, ∃ tr : Traverse, RegsOk s ∧ s.fab.trav = some tr ∧ tr.phase = 2) ∧
    (∃ s : State, ∃ p : Port, ∃ pk : Packet, ∃ tr : Traverse, RegsOk s ∧ pk.ptype = 0x20 ∧ travOk pk 4 = true ∧
      s.travOn p pk = some tr ∧ (tr.phase = 2 ∨ tr.phase = 3) ∧ p.val < s.fuses.meshPorts) ∧
    (∃ s : State, ∃ tr : Traverse, RegsOk s ∧ s.fab.trav = some tr ∧ tr.phase = 3 ∧ tr.counted = true ∧
      ((tr.confirms.all fun e => e.2.1 == tr.ds && e.2.2 == (tr.b + e.1 + 1) % s.fuses.landingSize) = true)) ∧
    (∃ s : State, ∃ tr : Traverse, ∃ p : Nat, RegsOk s ∧ s.fab.trav = some tr ∧ tr.phase = 4 ∧ tr.ds =
      s.fuses.serial ∧ tr.landSent = false ∧ ((s.fuses.treePorts.find? fun p => s.portState p == 2 || s.linkUp p) =
      some p)) ∧
    (∃ s : State, ∃ p : Port, ∃ pk : Packet, ∃ tr : Traverse, RegsOk s ∧ pk.ptype = 0x20 ∧ travOk pk 6 = true ∧
      s.fab.trav = some tr ∧ tr.phase = 4 ∧ tr.epoch = pk.addr.toNat ∧ tr.ds = s.fuses.serial ∧ leAt pk.payload 0 8 =
      tr.ds ∧ s.isTree p = true ∧ tr.landing = none) :=
  ⟨⟨at_traverseTrigger, by decide +kernel, by decide +kernel, by decide +kernel, by decide +kernel,
      by decide +kernel⟩,
    ⟨(State.reset.setFld F.RST_STATE_STEP 5), by decide +kernel, by decide +kernel, by decide +kernel,
      by decide +kernel⟩,
    ⟨at_travStart_2, by decide +kernel, by decide +kernel, by decide +kernel, by decide +kernel⟩,
    ⟨at_traverseStartReceive, 19, travPacket 32767 1 [], by decide +kernel, by decide +kernel, by decide +kernel,
      by decide +kernel, by decide +kernel, by decide +kernel, by decide +kernel⟩,
    ⟨at_exchange, 3, travPacket 1 2 (List.replicate 256 0), { epoch := 1, t0 := 0, ports := [3], ds := 1 },
      by decide +kernel, by decide +kernel, by decide +kernel, by decide +kernel, by decide +kernel⟩,
    ⟨at_exchangeDeadline, { epoch := 1, t0 := 0, ports := [3], ds := 1 }, by decide +kernel, by decide +kernel,
      by decide +kernel, by decide +kernel⟩,
    ⟨at_datum, 3, travPacket 1 3 (List.replicate 32 0), { epoch := 1, t0 := 0, ports := [3], ds := 1, phase := 2 },
      by decide +kernel, by decide +kernel, by decide +kernel, by decide +kernel, by decide +kernel,
      by decide +kernel, by decide +kernel, by decide +kernel, by decide +kernel⟩,
    ⟨at_berthFix, { epoch := 1, t0 := 5, ports := [3], ds := 1, phase := 2 }, by decide +kernel, by decide +kernel,
      by decide +kernel⟩,
    ⟨at_confirm, 14, travPacket 1 4 (List.replicate 32 0),
      { epoch := 1, t0 := 0, ports := [14], ds := 1, phase := 3 }, by decide +kernel, by decide +kernel,
      by decide +kernel, by decide +kernel, by decide +kernel, by decide +kernel⟩,
    ⟨at_confirmDeadline,
      { epoch := 1, t0 := 5, ports := [3], ds := 1, phase := 3, counted := true, confirms := [(3, (1, 4))] },
      by decide +kernel, by decide +kernel, by decide +kernel, by decide +kernel, by decide +kernel⟩,
    ⟨at_landReq, { epoch := 1, t0 := 5, ports := [3], ds := 1, phase := 4 }, 19, by decide +kernel, by decide +kernel,
      by decide +kernel, by decide +kernel, by decide +kernel, by decide +kernel⟩,
    ⟨at_landGrant, 15, travPacket 1 6 (leBytes 8 1 ++ leBytes 2 4094 ++ List.replicate 22 0),
      { epoch := 1, t0 := 5, ports := [], ds := 1, phase := 4 }, by decide +kernel, by decide +kernel,
      by decide +kernel, by decide +kernel, by decide +kernel, by decide +kernel, by decide +kernel,
      by decide +kernel, by decide +kernel, by decide +kernel⟩⟩

theorem test_meets_traverse_proceeds_2 :
    (∃ s : State, ∃ p : Port, ∃ pk : Packet, ∃ tr : Traverse, RegsOk s ∧ pk.ptype = 0x20 ∧ travOk pk 7 = true ∧
      s.travOn p pk = some tr ∧ tr.phase = 4 ∧ tr.landing = none ∧ tr.ds ≠ s.fuses.serial ∧ p.val < s.fuses.meshPorts) ∧
    (∃ s : State, ∃ tr : Traverse, RegsOk s ∧ s.fab.trav = some tr ∧ tr.phase = 4 ∧ tr.landing = none) ∧
    (∃ s : State, ∃ tr : Traverse, ∃ l : Nat, RegsOk s ∧ s.fab.trav = some tr ∧ tr.phase = 4 ∧ tr.landing = some l) ∧
    (∃ s : State, ∃ p : Port, ∃ tr : Traverse, ∃ d : Nat, RegsOk s ∧ s.fab.trav = some tr ∧ amGet tr.leaving p =
      some d) :=
  ⟨⟨at_landing, 3, travPacket 1 7 (landingPayload 0 9), { epoch := 1, t0 := 5, ports := [3], ds := 0, phase := 4 },
      by decide +kernel, by decide +kernel, by decide +kernel, by decide +kernel, by decide +kernel,
      by decide +kernel, by decide +kernel, by decide +kernel⟩,
    ⟨at_landingDeadline, { epoch := 1, t0 := 5, ports := [3], ds := 0, phase := 4 }, by decide +kernel,
      by decide +kernel, by decide +kernel, by decide +kernel⟩,
    ⟨at_traverseApply, { epoch := 1, t0 := 5, ports := [3], ds := 9, b := 7, phase := 4, landing := some 4094 }, 4094,
      by decide +kernel, by decide +kernel, by decide +kernel, by decide +kernel⟩,
    ⟨at_traversePeerAbsent, 3, { epoch := 1, t0 := 5, ports := [3], ds := 9, leaving := [(3, 77)] }, 77,
      by decide +kernel, by decide +kernel, by decide +kernel⟩⟩

def at_windowGrant : State :=
  { State.reset with fab := { wins := [(0x5001000, { window := 32768, gen := 255 })] } }

def at_windowRecompute : State :=
  { State.reset with fab := { srcs := [(0x1001000, { last := 0, granted := 7 })] } }.setFld F.FAB_E2E_BUDGET_BUDGET 65535

def at_timeRequestSend : State :=
  (State.reset.setFld (F.FAB_PORT_STATE_STATE 19) 2)

def at_timeRequest : State :=
  (State.reset.setFld (F.FAB_PORT_STATE_STATE 19) 2)

def at_timeResponse : State :=
  { State.reset with fabTime := 1000, fab := { stepped := true, streak := 2 } }.setFld (F.FAB_PORT_STATE_STATE 0) 2

def at_timeResponse_2 : State :=
  { State.reset with fabTime := 1000, fab := { stepped := true, streak := 2 } }.setFld (F.FAB_PORT_STATE_STATE 0) 2

def at_timeHoldover : State :=
  { State.reset with fab := { timeDeadline := some 2500000 } }

theorem test_meets_windows_and_fabric_time_follow_their_packets :
    (∃ s : State, ∃ pk : Packet, ∃ w : WinSt, RegsOk s ∧ pk.ptype = 0x09 ∧
      amGet s.fab.wins (pk.dst.toNat / 16 % 16 * 2 ^ 24 + pk.src.toNat) = some w ∧
      1 ≤ (pk.opx.toNat + 256 - w.gen) % 256 ∧ (pk.opx.toNat + 256 - w.gen) % 256 ≤ 127) ∧
    (∃ s : State, ∃ n : Parcel, ∃ k : Nat, ∃ x : SrcSt, RegsOk s ∧ ((s.fab.srcs.filter fun e =>
      e.1 / 2 ^ 24 == n.val && decide (s.mclk < e.2.last + 25000)) = [(k, x)]) ∧ x.granted ≠ s.e2eDefault ∧
      s.e2eDefault ≤ s.fld F.FAB_E2E_BUDGET_BUDGET * 2048) ∧
    (∃ s : State, ∃ p : Nat, RegsOk s ∧ s.fld F.FAB_TIME_CFG_ROOT = 0 ∧ s.timeSource = some p ∧ s.linkUp p = false) ∧
    (∃ s : State, ∃ p : Port, ∃ pk : Packet, RegsOk s ∧ pk.ptype = 0x21 ∧ s.portState p = 2 ∧ leAt pk.payload 24 1 =
      0 ∧ s.linkUp p = false) ∧
    (∃ s : State, ∃ p : Port, ∃ pk : Packet, ∃ off : Int, RegsOk s ∧ pk.ptype = 0x21 ∧ leAt pk.payload 24 1 = 1 ∧
      p.val = s.fld F.FAB_TIME_STATUS_SRC_PORT ∧ s.portState p = 2 ∧ s.fld F.FAB_TIME_CFG_ROOT = 0 ∧ off =
      Int.tdiv (((leAt pk.payload 8 8 : Int) - (leAt pk.payload 0 8 : Int)) - ((s.fabTime : Int) - (leAt pk.payload 16 8 : Int))) 2 ∧
      100000 < off) ∧
    (∃ s : State, ∃ p : Port, ∃ pk : Packet, ∃ off : Int, RegsOk s ∧ pk.ptype = 0x21 ∧ leAt pk.payload 24 1 = 1 ∧
      p.val = s.fld F.FAB_TIME_STATUS_SRC_PORT ∧ s.portState p = 2 ∧ s.fld F.FAB_TIME_CFG_ROOT = 0 ∧ off =
      Int.tdiv (((leAt pk.payload 8 8 : Int) - (leAt pk.payload 0 8 : Int)) - ((s.fabTime : Int) - (leAt pk.payload 16 8 : Int))) 2 ∧
      off.natAbs ≤ 250 ∧ s.fab.stepped = true ∧ 2 ≤ s.fab.streak) ∧
    (∃ s : State, ∃ d : Nat, RegsOk s ∧ s.fab.timeDeadline = some d) :=
  ⟨⟨at_windowGrant, { ptype := 0x09, vc := 1, dst := 0x50, src := 0x1000, addr := 65536, opx := 126 },
      { window := 32768, gen := 255 }, by decide +kernel, by decide +kernel, by decide +kernel, by decide +kernel,
      by decide +kernel⟩,
    ⟨at_windowRecompute, 1, 0x1001000, { last := 0, granted := 7 }, by decide +kernel, by decide +kernel,
      by decide +kernel, by decide +kernel⟩,
    ⟨at_timeRequestSend, 19, by decide +kernel, by decide +kernel, by decide +kernel, by decide +kernel⟩,
    ⟨at_timeRequest, 19, { ptype := 0x21, vc := 3, payload := timePayload 5 0 0 0 3 }, by decide +kernel,
      by decide +kernel, by decide +kernel, by decide +kernel, by decide +kernel⟩,
    ⟨at_timeResponse, 0, { ptype := 0x21, vc := 3, payload := timePayload 0 200001 200001 1 0 }, 199501,
      by decide +kernel, by decide +kernel, by decide +kernel, by decide +kernel, by decide +kernel,
      by decide +kernel, by decide +kernel, by decide +kernel⟩,
    ⟨at_timeResponse_2, 0, { ptype := 0x21, vc := 3, payload := timePayload 0 1000 500 1 0 }, 250, by decide +kernel,
      by decide +kernel, by decide +kernel, by decide +kernel, by decide +kernel, by decide +kernel,
      by decide +kernel, by decide +kernel, by decide +kernel, by decide +kernel⟩,
    ⟨at_timeHoldover, 2500000, by decide +kernel, by decide +kernel⟩⟩

theorem test_meets_vector_scalar_results :
    (∃ (c : Instr) (n : Parcel) (u : Fin 8) (s : State) (x : Issue), (scalarOp c).any (fun e =>
      e.1 == n && e.2.1 == u && e.2.2.1 == 0x10) = true ∧ s.issue n u 0x10 = some x) :=
  ⟨.sli 0 0, 0, 0, vector [vword 0x10 3 1 2 4 1 0 3], issued (vector [vword 0x10 3 1 2 4 1 0 3]) 0 0 0x10,
    by decide +kernel, by decide +kernel⟩

theorem test_meets_vector_lane_results :
    (∃ (c : Instr) (n : Parcel) (u : Fin 8) (s : State) (x : Issue), (laneOp c).any (fun e =>
      e.1 == n && e.2.1 == u && e.2.2.1 == 0x30) = true ∧ s.issue n u 0x30 = some x) :=
  ⟨.vadd 0 0, 0, 0, vector [vword 0x30 3 1 2 4 1 0 3], issued (vector [vword 0x30 3 1 2 4 1 0 3]) 0 0 0x30,
    by decide +kernel, by decide +kernel⟩

theorem test_meets_vector_predicate_results :
    (∃ (c : Instr) (n : Parcel) (u : Fin 8) (s : State) (x : Issue), (predOp c).any (fun e =>
      e.1 == n && e.2.1 == u && e.2.2.1 == 0x50) = true ∧ s.issue n u 0x50 = some x) :=
  ⟨.vcmpeq 0 0, 0, 0, vector [vword 0x50 3 1 2 4 1 0 3], issued (vector [vword 0x50 3 1 2 4 1 0 3]) 0 0 0x50,
    by decide +kernel, by decide +kernel⟩

def at_vuEnd_2 : State :=
  vectorWith {} { halted := true } [vword 1 0 0 0 0 0 0 0]

def at_vuSync_2 : State :=
  vectorWith {} { atSync := true } [vword 6 0 0 0 0 0 0 0]

theorem test_meets_vector_control_and_exchange :
    (∃ s : State, ∃ n : Parcel, ∃ u : Fin 8, ∃ x : Issue, s.issue n u 0x00 = some x) ∧
    (∃ s : State, ∃ n : Parcel, ∃ u : Fin 8, ∃ x : Issue, s.issue n u 0x02 = some x) ∧
    (∃ s : State, ∃ n : Parcel, ∃ u : Fin 8, ∃ x : Issue, s.issue n u 0x03 = some x) ∧
    (∃ s : State, ∃ n : Parcel, ∃ u : Fin 8, ∃ x : Issue, s.issue n u 0x04 = some x) ∧
    (∃ s : State, ∃ n : Parcel, ∃ u : Fin 8, ∃ x : Issue, s.issue n u 0x05 = some x) ∧
    (∃ s : State, ∃ n : Parcel, ∃ u : Fin 8, ∃ x : Issue, s.issue n u 0x01 = some x ∧ (∃ e ∈ x.run.units,
      e.1 ≠ x.unit ∧ e.2.halted = false ∧ e.2.atSync = false)) ∧
    (∃ s : State, ∃ n : Parcel, ∃ u : Fin 8, ∃ x : Issue, s.issue n u 0x01 = some x ∧
      (∀ e ∈ amSet x.run.units x.unit { x.st with halted := true, pc := x.st.pc + 1 }, e.2.halted = true)) ∧
    (∃ s : State, ∃ n : Parcel, ∃ u : Fin 8, ∃ x : Issue, s.issue n u 0x06 = some x ∧ (∃ e ∈ x.run.units,
      e.1 ≠ x.unit ∧ e.2.halted = false ∧ e.2.atSync = false)) ∧
    (∃ s : State, ∃ n : Parcel, ∃ u : Fin 8, ∃ x : Issue, s.issue n u 0x06 = some x ∧
      (∀ e ∈ amSet x.run.units x.unit { x.st with atSync := true, pc := x.st.pc + 1 }, e.2.halted = true ∨
      e.2.atSync = true)) ∧
    (∃ s : State, ∃ n : Parcel, ∃ u : Fin 8, ∃ x : Issue, s.issue n u 0x07 = some x) ∧
    (∃ s : State, ∃ n : Parcel, ∃ u : Fin 8, ∃ x : Issue, s.issue n u 0x64 = some x) ∧
    (∃ s : State, ∃ n : Parcel, ∃ u : Fin 8, ∃ x : Issue, s.issue n u 0x65 = some x ∧ x.sa < x.run.phys.length) :=
  ⟨⟨vector [vword 0x00 3 1 2 4 1 0 4], 0, 0, issued (vector [vword 0x00 3 1 2 4 1 0 4]) 0 0 0x00, by decide +kernel⟩,
    ⟨vector [vword 0x02 3 1 2 4 1 0 4], 0, 0, issued (vector [vword 0x02 3 1 2 4 1 0 4]) 0 0 0x02, by decide +kernel⟩,
    ⟨vector [vword 0x03 3 1 2 4 1 0 4], 0, 0, issued (vector [vword 0x03 3 1 2 4 1 0 4]) 0 0 0x03, by decide +kernel⟩,
    ⟨vector [vword 0x04 3 1 2 4 1 0 4], 0, 0, issued (vector [vword 0x04 3 1 2 4 1 0 4]) 0 0 0x04, by decide +kernel⟩,
    ⟨vector [vword 0x05 3 1 2 4 1 0 4], 0, 0, issued (vector [vword 0x05 3 1 2 4 1 0 4]) 0 0 0x05, by decide +kernel⟩,
    ⟨vector [vword 0x01 3 1 2 4 1 0 4], 0, 0, issued (vector [vword 0x01 3 1 2 4 1 0 4]) 0 0 0x01, by decide +kernel,
      by decide +kernel⟩,
    ⟨at_vuEnd_2, 0, 0, issued at_vuEnd_2 0 0 0x01, by decide +kernel, by decide +kernel⟩,
    ⟨vector [vword 0x06 3 1 2 4 1 0 4], 0, 0, issued (vector [vword 0x06 3 1 2 4 1 0 4]) 0 0 0x06, by decide +kernel,
      by decide +kernel⟩,
    ⟨at_vuSync_2, 0, 0, issued at_vuSync_2 0 0 0x06, by decide +kernel, by decide +kernel⟩,
    ⟨vector [vword 0x07 3 1 2 4 1 0 4], 0, 0, issued (vector [vword 0x07 3 1 2 4 1 0 4]) 0 0 0x07, by decide +kernel⟩,
    ⟨vector [vword 0x64 3 1 2 4 0 0 3], 0, 0, issued (vector [vword 0x64 3 1 2 4 0 0 3]) 0 0 0x64, by decide +kernel⟩,
    ⟨vector [vword 0x65 3 0 2 4 0 0 3], 0, 0, issued (vector [vword 0x65 3 0 2 4 0 0 3]) 0 0 0x65, by decide +kernel,
      by decide +kernel⟩⟩

theorem test_meets_vector_control_and_exchange_2 :
    (∃ s : State, ∃ n : Parcel, ∃ u : Fin 8, ∃ x : Issue, s.issue n u 0x57 = some x) ∧
    (∃ s : State, ∃ n : Parcel, ∃ u : Fin 8, ∃ x : Issue, s.issue n u 0x3D = some x) :=
  ⟨⟨vector [vword 0x57 3 1 2 4 1 0 4], 0, 0, issued (vector [vword 0x57 3 1 2 4 1 0 4]) 0 0 0x57, by decide +kernel⟩,
    ⟨vector [vword 0x3D 4 0 2 4 1 0 4], 0, 0, issued (vector [vword 0x3D 4 0 2 4 1 0 4]) 0 0 0x3D, by decide +kernel⟩⟩

def at_vstE4m3 : State :=
  vectorWith { sr := [(1, 16#32), (2, 8176#32)], p := [(1, 5#64)], v := [(192, 0x3F800000#32)] } {} [vword 0x27 3 1 2 0 1 0 4080]

theorem test_meets_vector_memory_accesses :
    (∃ s : State, ∃ n : Parcel, ∃ u : Fin 8, ∃ x : Issue, s.issue n u 0x1A = some x ∧
      AccessClear s n x false 4 ([(x.addr, 4)])) ∧
    (∃ s : State, ∃ n : Parcel, ∃ u : Fin 8, ∃ x : Issue, s.issue n u 0x20 = some x ∧
      AccessClear s n x false 16 (lanePieces x x.addr 4)) ∧
    (∃ s : State, ∃ n : Parcel, ∃ u : Fin 8, ∃ x : Issue, s.issue n u 0x21 = some x ∧
      AccessClear s n x false 16 (lanePieces x x.addr 2)) ∧
    (∃ s : State, ∃ n : Parcel, ∃ u : Fin 8, ∃ x : Issue, s.issue n u 0x22 = some x ∧
      AccessClear s n x false 16 (lanePieces x x.addr 4)) ∧
    (∃ s : State, ∃ n : Parcel, ∃ u : Fin 8, ∃ x : Issue, s.issue n u 0x23 = some x ∧
      AccessClear s n x false 4 (if (List.range 64).any (x.st.isOn x.i) then [(x.addr, 4)] else [])) ∧
    (∃ s : State, ∃ n : Parcel, ∃ u : Fin 8, ∃ x : Issue, s.issue n u 0x24 = some x ∧
      (AccessClear s n x true 16 ((storeLanes x 4 fun l => x.st.lane x.i.d l).map fun r => (r.1, r.2.length)))) ∧
    (∃ s : State, ∃ n : Parcel, ∃ u : Fin 8, ∃ x : Issue, s.issue n u 0x25 = some x ∧
      (AccessClear s n x true 16 ((storeLanes x 2 fun l => toBf16 (ofF32 (x.st.lane x.i.d l))).map fun r => (r.1,
      r.2.length)))) ∧
    (∃ s : State, ∃ n : Parcel, ∃ u : Fin 8, ∃ x : Issue, s.issue n u 0x26 = some x ∧
      (AccessClear s n x true 16 ((storeLanes x 4 fun l =>
      toBf16 (ofF32 (x.st.lane x.i.d l)) + 65536 * toBf16 (ofF32 (x.st.lane (x.i.d + 1) l))).map fun r => (r.1,
      r.2.length)))) ∧
    (∃ s : State, ∃ n : Parcel, ∃ u : Fin 8, ∃ x : Issue, s.issue n u 0x27 = some x ∧
      (AccessClear s n x true 16 ((e4m3Rows x).map fun r => (r.1, r.2.length))) ∧ 64 ≤ x.sb - x.addr ∧ x.addr ≤ x.sb ∧
      x.sb < 2 ^ 32 - 1) :=
  ⟨⟨vector [vword 0x1A 3 1 2 4 0 0 16], 0, 0, issued (vector [vword 0x1A 3 1 2 4 0 0 16]) 0 0 0x1A,
      by decide +kernel, by decide +kernel⟩,
    ⟨vector [vword 0x20 3 1 2 4 1 0 16], 0, 0, issued (vector [vword 0x20 3 1 2 4 1 0 16]) 0 0 0x20,
      by decide +kernel, by decide +kernel⟩,
    ⟨vector [vword 0x21 3 1 2 4 1 0 16], 0, 0, issued (vector [vword 0x21 3 1 2 4 1 0 16]) 0 0 0x21,
      by decide +kernel, by decide +kernel⟩,
    ⟨vector [vword 0x22 4 1 2 4 1 0 16], 0, 0, issued (vector [vword 0x22 4 1 2 4 1 0 16]) 0 0 0x22,
      by decide +kernel, by decide +kernel⟩,
    ⟨vector [vword 0x23 3 1 2 4 1 0 16], 0, 0, issued (vector [vword 0x23 3 1 2 4 1 0 16]) 0 0 0x23,
      by decide +kernel, by decide +kernel⟩,
    ⟨vector [vword 0x24 3 1 2 4 1 0 4080], 0, 0, issued (vector [vword 0x24 3 1 2 4 1 0 4080]) 0 0 0x24,
      by decide +kernel, by decide +kernel⟩,
    ⟨vector [vword 0x25 3 1 2 4 1 0 4080], 0, 0, issued (vector [vword 0x25 3 1 2 4 1 0 4080]) 0 0 0x25,
      by decide +kernel, by decide +kernel⟩,
    ⟨vector [vword 0x26 4 1 2 4 1 0 4080], 0, 0, issued (vector [vword 0x26 4 1 2 4 1 0 4080]) 0 0 0x26,
      by decide +kernel, by decide +kernel⟩,
    ⟨at_vstE4m3, 0, 0, issued at_vstE4m3 0 0 0x27, by decide +kernel, by decide +kernel, by decide +kernel,
      by decide +kernel, by decide +kernel⟩⟩

def at_gemv : State :=
  (let s := (owned (running [0] [(0, 0x12), (28, 0x1000), (32, 0x2000), (36, 1), (40, 2), (44, 1)])); { s with hold := memWrite (memWrite [] 0 [0, 0, 0x80, 0x3F]) 0x1000 [0, 0, 0x40, 0x40] })

def at_rmsApply : State :=
  (let s := (owned (running [0] [(0, 0x18), (28, 0x2000), (32, 0x4000), (36, 0x6000), (40, 16), (42, 16), (44, 1), (46, 1), (48, 0), (52, 0x3F800000)])); { s with hold := memWrite (memWrite [] 0 [0, 0, 0x80, 0x3F]) 0x4000 [0, 0, 0x40, 0x40] })

def at_rmsScale : State :=
  (let s := (owned (running [0] [(0, 0x18), (28, 0x2000), (32, 0x4000), (36, 0x6000), (40, 16), (42, 16), (44, 1), (46, 1), (48, 1), (52, 0x3F800000)])); { s with hold := memWrite (memWrite [] 0 [0, 0, 0x80, 0x3F]) 0x4000 [0, 0, 0x40, 0x40] })

def at_layerApply : State :=
  (let s := (owned (running [0] [(0, 0x18), (28, 0x2000), (32, 0x4000), (36, 0x6000), (40, 16), (42, 16), (44, 1), (46, 1), (48, 2), (52, 0x3F800000)])); { s with hold := memWrite (memWrite [] 0 [0, 0, 0x80, 0x3F]) 0x4000 [0, 0, 0x40, 0x40] })

def at_tileParityError : State :=
  (let s := (owned (running [0] [(0, 0x10), (28, 0x1000), (36, 0x8000), (40, 8), (42, 32), (44, 1), (46, 128 + 2 ^ 28 + 2 ^ 24), (52, 1)])); { s with hold := memWrite [] 0 [0x80, 0x3F] })

def at_tileParityError_2 : State :=
  ((let s := (owned (running [0] [(0, 0x10), (28, 0x1000), (36, 0x8000), (40, 8), (42, 32), (44, 1), (46, 128 + 2 ^ 28 + 2 ^ 24), (52, 1)])); { s with hold := memWrite [] 0 [0x80, 0x3F] }) : State).setRd (Reg.MT_TILE_WITHDRAWN_LO 0) 1

theorem test_meets_matrix_operators_write_their_result :
    (∃ s : State, ∃ n : Parcel, ∃ d : Desc, ∃ g : GemmOp, ∃ rows : List (Nat × List Byte), RegsOk s ∧
      (s.runningPart n (fun d => d.opcode == 0x10) = some d) ∧ s.tilesInService n ≠ 0 ∧ g = gemmOp d n ∧ rows =
      s.cRows g { a := s.aElem g, b := s.bElem g } ∧ Clear s d g.reads g.dest rows) ∧
    (∃ s : State, ∃ n : Parcel, ∃ d : Desc, ∃ g : GemmOp, ∃ rows : List (Nat × List Byte), RegsOk s ∧
      (s.runningPart n (fun d => d.opcode == 0x11) = some d) ∧ s.tilesInService n ≠ 0 ∧ g = gemmOp d n ∧
      ((s.allGroups n d g).all (fun e => match e.2 with | .ok out _ => out.length == 4096 | _ => false) = true) ∧
      (rows =
      s.cRows g { a := s.aElem g, b := codedElem g ((s.allGroups n d g).map fun e => match e.2 with | .ok out sc => (out, sc) | _ => ([], [])) }) ∧
      Clear s d (rowsAt g.a g.astr g.m g.aRow ++ g.rowRegion ++ (if g.accum then rowsAt g.c g.cstr g.m g.cRow else [])) g.dest rows ∧
      s.mayRead (s.who d) g.aux (8 * g.nb * g.kb) = true) ∧
    (∃ s : State, ∃ n : Parcel, ∃ d : Desc, ∃ g : GemvOp, RegsOk s ∧ (s.runningPart n (fun d => d.opcode == 0x12) =
      some d) ∧ g = gemvOp d n ∧
      Clear s d (g.xReg :: rowsAt g.w g.wstr g.n (rowBytes g.fw g.k) ++ (if g.accum then [g.yReg] else [])) [g.yReg] [(g.y, storeRow g.fy ((List.range g.n).map (s.gemvRow g)))]) ∧
    (∃ s : State, ∃ n : Parcel, ∃ d : Desc, ∃ g : NormOp, ∃ rows : List (Nat × List Byte), RegsOk s ∧
      (s.runningPart n (fun d => d.opcode == 0x18 && d.bits 48 1 0 == 0) = some d) ∧ g = normOp d n ∧ (rows =
      ((List.range g.m).map fun m => (g.y + 16 * m * g.ystr, storeRow g.fy (s.normRow g m)))) ∧
      Clear s d (rowsAt g.x g.xstr g.m (rowBytes g.fx g.d) ++ g.gRegions) g.yRows rows) ∧
    (∃ s : State, ∃ n : Parcel, ∃ d : Desc, ∃ g : NormOp, ∃ rows : List (Nat × List Byte), RegsOk s ∧
      (s.runningPart n (fun d => d.opcode == 0x18 && d.bits 48 1 0 == 1) = some d) ∧ g = normOp d n ∧ (rows =
      ([(g.y, ((List.range g.m).map fun m => leBytes 4 (s.normScale g m).1).flatten)])) ∧
      Clear s d (rowsAt g.x g.xstr g.m (rowBytes g.fx g.d) ++ g.gRegions) g.yRows rows) ∧
    (∃ s : State, ∃ n : Parcel, ∃ d : Desc, ∃ g : NormOp, ∃ rows : List (Nat × List Byte), RegsOk s ∧
      (s.runningPart n (fun d => d.opcode == 0x18 && d.bits 48 1 0 == 2) = some d) ∧ g = normOp d n ∧ (rows =
      ((List.range g.m).map fun m => (g.y + 16 * m * g.ystr, storeRow g.fy (s.normRow g m)))) ∧
      Clear s d (rowsAt g.x g.xstr g.m (rowBytes g.fx g.d) ++ g.gRegions) g.yRows rows) ∧
    (∃ s : State, ∃ n : Parcel, ∃ d : Desc, ∃ tile : Fin 48, ∃ panel : Nat, ∃ k : Nat, RegsOk s ∧
      (s.runningPart n (fun d => d.opcode == 0x10 || d.opcode == 0x11) = some d) ∧ bitAt (s.goodTiles n) tile = true ∧
      bitAt (s.withdrawnTiles n) tile = false ∧ k = (d.id * 16 + n.val) * 2 ^ 32 + panel ∧ amGet s.seq.redealt k =
      none) ∧
    (∃ s : State, ∃ n : Parcel, ∃ d : Desc, ∃ tile : Fin 48, ∃ panel : Nat, RegsOk s ∧ (s.runningPart n (fun d =>
      d.opcode == 0x10 || d.opcode == 0x11) = some d) ∧ bitAt (s.withdrawnTiles n) tile = true) :=
  ⟨⟨gemmState, 0, desc1 gemmState, gemmOp (desc1 gemmState) (0 : Parcel),
      (gemmState).cRows (gemmOp (desc1 gemmState) (0 : Parcel)) { a := (gemmState).aElem (gemmOp (desc1 gemmState) (0 : Parcel)), b := (gemmState).bElem (gemmOp (desc1 gemmState) (0 : Parcel)) },
      by decide +kernel, by decide +kernel, by decide +kernel, rfl, rfl, by decide +kernel⟩,
    ⟨cgemmState, 0, desc1 cgemmState, gemmOp (desc1 cgemmState) (0 : Parcel),
      (cgemmState).cRows (gemmOp (desc1 cgemmState) (0 : Parcel)) { a := (cgemmState).aElem (gemmOp (desc1 cgemmState) (0 : Parcel)), b := codedElem (gemmOp (desc1 cgemmState) (0 : Parcel)) (((cgemmState).allGroups (0 : Parcel) (desc1 cgemmState) (gemmOp (desc1 cgemmState) (0 : Parcel))).map fun e => match e.2 with | .ok out sc => (out, sc) | _ => ([], [])) },
      by decide +kernel, by decide +kernel, by decide +kernel, rfl, by decide +kernel, rfl, by decide +kernel,
      by decide +kernel⟩,
    ⟨at_gemv, 0, desc1 at_gemv, gemvOp (desc1 at_gemv) (0 : Parcel), by decide +kernel, by decide +kernel, rfl,
      by decide +kernel⟩,
    ⟨at_rmsApply, 0, desc1 at_rmsApply, normOp (desc1 at_rmsApply) (0 : Parcel),
      (List.range (normOp (desc1 at_rmsApply) (0 : Parcel)).m).map fun m =>
      ((normOp (desc1 at_rmsApply) (0 : Parcel)).y + 16 * m * (normOp (desc1 at_rmsApply) (0 : Parcel)).ystr,
      storeRow (normOp (desc1 at_rmsApply) (0 : Parcel)).fy ((at_rmsApply).normRow (normOp (desc1 at_rmsApply) (0 : Parcel)) m)),
      by decide +kernel, by decide +kernel, rfl, rfl, by decide +kernel⟩,
    ⟨at_rmsScale, 0, desc1 at_rmsScale, normOp (desc1 at_rmsScale) (0 : Parcel),
      [((normOp (desc1 at_rmsScale) (0 : Parcel)).y, ((List.range (normOp (desc1 at_rmsScale) (0 : Parcel)).m).map fun m => leBytes 4 ((at_rmsScale).normScale (normOp (desc1 at_rmsScale) (0 : Parcel)) m).1).flatten)],
      by decide +kernel, by decide +kernel, rfl, rfl, by decide +kernel⟩,
    ⟨at_layerApply, 0, desc1 at_layerApply, normOp (desc1 at_layerApply) (0 : Parcel),
      (List.range (normOp (desc1 at_layerApply) (0 : Parcel)).m).map fun m =>
      ((normOp (desc1 at_layerApply) (0 : Parcel)).y + 16 * m * (normOp (desc1 at_layerApply) (0 : Parcel)).ystr,
      storeRow (normOp (desc1 at_layerApply) (0 : Parcel)).fy ((at_layerApply).normRow (normOp (desc1 at_layerApply) (0 : Parcel)) m)),
      by decide +kernel, by decide +kernel, rfl, rfl, by decide +kernel⟩,
    ⟨at_tileParityError, 0, desc1 at_tileParityError, 31, 5, 1 * 16 * 2 ^ 32 + 5, by decide +kernel,
      by decide +kernel, by decide +kernel, by decide +kernel, by decide +kernel, by decide +kernel⟩,
    ⟨at_tileParityError_2, 0, desc1 at_tileParityError_2, 0, 5, by decide +kernel, by decide +kernel,
      by decide +kernel⟩⟩

def at_vload : State :=
  (let s := (owned (running [0] [(0, 0x30), (24, 6), (26, 77), (28, 128), (32, 5)])); { s with hold := memWrite [] 128 (leBytes 8 0xFFFFFFFFFFFF0004 ++ List.replicate 24 0xFF ++ leBytes 8 0x0100000000000000) })

def at_vload_2 : State :=
  (let s := (owned (running [0] [(0, 0x30), (24, 6), (26, 77), (28, 128), (32, 5)])); { s with hold := memWrite [] 128 (leBytes 8 0xFFFFFFFFFFFF0004 ++ List.replicate 24 0xFF ++ leBytes 8 0x9900000000000000) })

def at_vloadFree : State :=
  (running [0] [(0, 0x30), (24, 9)]).setRd (Reg.VU_SLOT 0 1) 0x08000005

def at_vuSlotFree : State :=
  { State.reset with own := { owner := 1 } }

def at_vrun : State :=
  { ((owned (running [0] [(0, 0x31), (60, 3)])).setRd (Reg.VU_SLOT 0 0) 0x08000000) with vus := [(0, { images := [(0, [0xFFFFFFFFFFFF0004])] })] }

def at_vuErrClr : State :=
  { State.reset with own := { owner := 1 } }

def at_mtErrClr : State :=
  { State.reset with own := { owner := 1 } }

theorem test_meets_vector_slots_and_invocations :
    (∃ s : State, ∃ n : Parcel, ∃ d : Desc, ∃ v : VloadOp, RegsOk s ∧ (s.runningPart n (fun d =>
      d.opcode == 0x30 && !d.bit 24 3) = some d) ∧ v = vloadOp d n ∧ Clear s d [(v.src, 8 * v.words)] [] [] ∧
      (s.slotLoaded n v.slot = false ∨ s.slotOwner n v.slot = s.ctxFn d.ctx) ∧
      (imageFault ((List.range v.words).map fun i => leNat (memRead s.hold (v.src + 8 * i) 8)) = none)) ∧
    (∃ s : State, ∃ n : Parcel, ∃ d : Desc, ∃ v : VloadOp, ∃ i : Nat, RegsOk s ∧ (s.runningPart n (fun d =>
      d.opcode == 0x30 && !d.bit 24 3) = some d) ∧ v = vloadOp d n ∧ Clear s d [(v.src, 8 * v.words)] [] [] ∧
      s.slotLoaded n v.slot = false ∧ (imageFault ((List.range v.words).map fun i =>
      leNat (memRead s.hold (v.src + 8 * i) 8)) = some i) ∧ s.fld (F.VU_ERR_INFO_VALID n) = 0) ∧
    (∃ s : State, ∃ n : Parcel, ∃ d : Desc, RegsOk s ∧ (s.runningPart n (fun d => d.opcode == 0x30 && d.bit 24 3) =
      some d) ∧ (s.slotLoaded n (vloadOp d n).slot = false ∨ s.slotOwner n (vloadOp d n).slot = s.ctxFn d.ctx)) ∧
    (∃ s : State, ∃ path : Path, ∃ n : Parcel, ∃ v : Word, ∃ slot : Fin 4, RegsOk s ∧ s.mayRwl path = true ∧ v.toNat =
      2 ^ slot.val) ∧
    (∃ s : State, ∃ n : Parcel, ∃ d : Desc, ∃ v : VrunOp, ∃ e : Nat, RegsOk s ∧ (s.runningPart n (fun d =>
      d.opcode == 0x31) = some d) ∧ v = vrunOp d n ∧ (s.vu n).run = none ∧ s.slotLoaded n v.slot = true ∧
      s.fld (F.VU_SLOT_TAG n v.slot) = v.tag ∧ (s.slotOwner n v.slot = s.ctxFn d.ctx ∨
      s.fld (F.VU_SLOT_SHARED n v.slot) = 1) ∧ e = entryOf ((amGet (s.vu n).images v.slot).getD []) v.entry ∧
      e ≠ 0xFFFF ∧ s.unitsInService n ≠ []) ∧
    (∃ s : State, ∃ n : Parcel, ∃ r : VuRun, ∃ d : Desc, RegsOk s ∧ (s.vu n).run = some r ∧ s.desc r.id = some d) ∧
    (∃ s : State, ∃ n : Parcel, ∃ u : Fin 8, RegsOk s) ∧
    (∃ s : State, ∃ n : Parcel, ∃ u : Fin 8, ∃ r : VuRun, ∃ d : Desc, RegsOk s ∧ (s.vu n).run = some r ∧ s.desc r.id =
      some d ∧ r.slot < 4) ∧
    (∃ s : State, ∃ path : Path, ∃ n : Parcel, ∃ v : Word, RegsOk s ∧ s.mayRwl path = true ∧ bitsOf v.toNat 0 0 = 1) ∧
    (∃ s : State, ∃ path : Path, ∃ n : Parcel, ∃ v : Word, RegsOk s ∧ s.mayRwl path = true ∧ bitsOf v.toNat 0 0 = 1) :=
  ⟨⟨at_vload, 0, desc1 at_vload, vloadOp (desc1 at_vload) (0 : Parcel), by decide +kernel, by decide +kernel, rfl,
      by decide +kernel, by decide +kernel, by decide +kernel⟩,
    ⟨at_vload_2, 0, desc1 at_vload_2, vloadOp (desc1 at_vload_2) (0 : Parcel), 4, by decide +kernel,
      by decide +kernel, rfl, by decide +kernel, by decide +kernel, by decide +kernel, by decide +kernel⟩,
    ⟨at_vloadFree, 0, desc1 at_vloadFree, by decide +kernel, by decide +kernel, by decide +kernel⟩,
    ⟨at_vuSlotFree, .pf0, 11, 8#32, 3, by decide +kernel, by decide +kernel, by decide +kernel⟩,
    ⟨at_vrun, 0, desc1 at_vrun, vrunOp (desc1 at_vrun) (0 : Parcel), 4, by decide +kernel, by decide +kernel, rfl,
      by decide +kernel, by decide +kernel, by decide +kernel, by decide +kernel, by decide +kernel,
      by decide +kernel, by decide +kernel⟩,
    ⟨vector [], 0, (((vector [])).vu 0).run.getD ⟨0, 0, 0, [], []⟩, desc1 (vector []), by decide +kernel,
      by decide +kernel, by decide +kernel⟩,
    ⟨State.reset, 11, 7, by decide +kernel⟩,
    ⟨vector [], 0, 0, (((vector [])).vu 0).run.getD ⟨0, 0, 0, [], []⟩, desc1 (vector []), by decide +kernel,
      by decide +kernel, by decide +kernel, by decide +kernel⟩,
    ⟨at_vuErrClr, .pf0, 0, 1#32, by decide +kernel, by decide +kernel, by decide +kernel⟩,
    ⟨at_mtErrClr, .pf0, 0, 1#32, by decide +kernel, by decide +kernel, by decide +kernel⟩⟩

def at_copy : State :=
  (let s := (owned (running [0] [(0, 0x20), (32, 64), (40, 3)])); { s with hold := [(0, 7), (2, 9)] })

def at_copy_2 : State :=
  (let s := (owned (running [0] [(0, 0x20), (40, 3), (44, 3)])); { s with host := { s.host with fns := [(0, { bme := true })] } })

def at_copy_3 : State :=
  (let s := (owned (running [0] [(0, 0x20), (40, 3), (44, 48)])); { s with hold := [(0, 7)], host := { s.host with fns := [(0, { bme := true })] } })

def at_copyZero : State :=
  (let s := (owned (running [0] [(0, 0x20), (32, 64), (40, 3), (44, 8)])); { s with hold := [(64, 7), (67, 9)] })

def at_fxfer : State :=
  ((let s := (owned (running [0] [(0, 0x21), (32, 64), (36, 16)])); { s with hold := [(0, 7)] }).setRd Reg.FAB_STATION 0x10000)

def at_fxfer_2 : State :=
  (let s := (owned (running [0] [(0, 0x21), (32, 64), (36, 16)])); { s with seq := { s.seq with fxStatus := [(16, 3)] } })

theorem test_meets_transfers_move_their_bytes :
    (∃ s : State, ∃ n : Parcel, ∃ d : Desc, ∃ c : CopyOp, ∃ off : Nat, ∃ len : Nat, RegsOk s ∧
      (s.runningPart n (fun d => d.opcode == 0x20 && !d.bit 44 3) = some d) ∧ c = copyOp d n ∧ (off, len) =
      c.slice d.repl n ∧ s.copyGate (s.who d) c off len = .go ∧ s.copyReading n d.id = false ∧ c.sk ≤ 2 ∧ c.dk ≤ 2 ∧
      s.firstBad c.sk (c.src + off) len = none ∧ s.firstBad c.dk (c.dst + off) len = none) ∧
    (∃ s : State, ∃ n : Parcel, ∃ d : Desc, ∃ c : CopyOp, ∃ off : Nat, ∃ len : Nat, RegsOk s ∧
      (s.runningPart n (fun d => d.opcode == 0x20 && !d.bit 44 3) = some d) ∧ c = copyOp d n ∧ (off, len) =
      c.slice d.repl n ∧ s.copyGate (s.who d) c off len = .go ∧ s.copyReading n d.id = false ∧ c.sk = 3 ∧
      s.hostWaits (s.ctxFn d.ctx) = false) ∧
    (∃ s : State, ∃ n : Parcel, ∃ d : Desc, ∃ c : CopyOp, ∃ off : Nat, ∃ len : Nat, RegsOk s ∧
      (s.runningPart n (fun d => d.opcode == 0x20 && !d.bit 44 3) = some d) ∧ c = copyOp d n ∧ (off, len) =
      c.slice d.repl n ∧ s.copyGate (s.who d) c off len = .go ∧ s.copyReading n d.id = false ∧ c.sk ≤ 2 ∧ c.dk = 3 ∧
      s.hostWaits (s.ctxFn d.ctx) = false ∧ s.firstBad c.sk (c.src + off) len = none) ∧
    (∃ s : State, ∃ n : Parcel, ∃ d : Desc, ∃ c : CopyOp, ∃ off : Nat, ∃ len : Nat, RegsOk s ∧
      (s.runningPart n (fun d => d.opcode == 0x20 && d.bit 44 3) = some d) ∧ c = copyOp d n ∧ (off, len) =
      c.slice d.repl n ∧ s.copyGate (s.who d) c off len = .go ∧ c.dk ≤ 2 ∧ s.firstBad c.dk (c.dst + off) len = none) ∧
    (∃ s : State, ∃ n : Parcel, ∃ id : Nat, ∃ d : Desc, ∃ f : FxOp, ∃ p : Packet, RegsOk s ∧
      (s.runningPart n (fun d => d.opcode == 0x21 && d.id == id) = some d) ∧ f = fxOp d n ∧
      amGet s.seq.fxStatus (fxKey id n) = none ∧ s.mayRead (s.who d) f.src f.len = true ∧ s.clearingIn f.src f.len =
      false ∧ s.poisonedIn f.src f.len = false ∧ 1 ≤ f.len ∧ f.len ≤ 2048 ∧ p =
      { s.fxPacket n d f 0 with txn := BitVec.ofNat 16 s.seq.nextTxn } ∧ s.route p.dst.toNat 0 false = .here) ∧
    (∃ s : State, ∃ n : Parcel, ∃ id : Nat, ∃ d : Desc, ∃ f : FxOp, ∃ st : Nat, RegsOk s ∧ (s.runningPart n (fun d =>
      d.opcode == 0x21 && d.id == id) = some d) ∧ f = fxOp d n ∧ amGet s.seq.fxStatus (fxKey id n) = some st ∧
      amGet s.seq.fxNext (fxKey id n) = none ∧ s.clearingIn f.src f.len = false ∧ (∀ r ∈ s.seq.reqs, r.desc ≠ id ∨
      r.parcel ≠ n.val ∨ r.packet.ptype ≠ 1)) ∧
    (∃ s : State, ∃ p : Packet, ∃ n : Nat, RegsOk s ∧ s.arrivalStatus p = Status.OK ∧ s.fld F.PWR_STATUS_STATE = 0 ∧
      n = pkParcel p ∧ s.mayWrite (s.whoCtx p.dstCtx.toNat) p.addr.toNat p.payload.length = true ∧
      s.clearingIn p.addr.toNat p.payload.length = false ∧ s.poisonedIn p.addr.toNat p.payload.length = false ∧
      inParcel n p.addr.toNat = true) ∧
    (∃ s : State, ∃ p : Packet, ∃ n : Nat, ∃ k : Nat, RegsOk s ∧ s.arrivalStatus p = Status.OK ∧
      s.fld F.PWR_STATUS_STATE = 0 ∧ n = pkParcel p ∧ bitsOf p.addr.toNat 7 5 = 0 ∧ bitsOf p.addr.toNat 31 17 = 0 ∧
      bitsOf p.addr.toNat 15 8 ≠ 0 ∧ s.markSet n p.dstCtx.toNat = some k) :=
  ⟨⟨at_copy, 0, desc1 at_copy, copyOp (desc1 at_copy) (0 : Parcel), 0, 3, by decide +kernel, by decide +kernel, rfl,
      by decide +kernel, by decide +kernel, by decide +kernel, by decide +kernel, by decide +kernel,
      by decide +kernel, by decide +kernel⟩,
    ⟨at_copy_2, 0, desc1 at_copy_2, copyOp (desc1 at_copy_2) (0 : Parcel), 0, 3, by decide +kernel, by decide +kernel,
      rfl, by decide +kernel, by decide +kernel, by decide +kernel, by decide +kernel, by decide +kernel⟩,
    ⟨at_copy_3, 0, desc1 at_copy_3, copyOp (desc1 at_copy_3) (0 : Parcel), 0, 3, by decide +kernel, by decide +kernel,
      rfl, by decide +kernel, by decide +kernel, by decide +kernel, by decide +kernel, by decide +kernel,
      by decide +kernel, by decide +kernel⟩,
    ⟨at_copyZero, 0, desc1 at_copyZero, copyOp (desc1 at_copyZero) (0 : Parcel), 0, 3, by decide +kernel,
      by decide +kernel, rfl, by decide +kernel, by decide +kernel, by decide +kernel, by decide +kernel⟩,
    ⟨at_fxfer, 0, 1, desc1 at_fxfer, fxOp (desc1 at_fxfer) (0 : Parcel),
      { (at_fxfer).fxPacket (0 : Parcel) (desc1 at_fxfer) (fxOp (desc1 at_fxfer) (0 : Parcel)) 0 with txn := BitVec.ofNat 16 0 },
      by decide +kernel, by decide +kernel, rfl, by decide +kernel, by decide +kernel, by decide +kernel,
      by decide +kernel, by decide +kernel, by decide +kernel, by decide +kernel, by decide +kernel⟩,
    ⟨at_fxfer_2, 0, 1, desc1 at_fxfer_2, fxOp (desc1 at_fxfer_2) (0 : Parcel), 3, by decide +kernel,
      by decide +kernel, rfl, by decide +kernel, by decide +kernel, by decide +kernel, by decide +kernel⟩,
    ⟨bound, { ptype := 1, addr := 48, payload := List.replicate 32 7 }, 0, by decide +kernel, by decide +kernel,
      by decide +kernel, by decide +kernel, by decide +kernel, by decide +kernel, by decide +kernel,
      by decide +kernel⟩,
    ⟨bound, { ptype := 2, addr := 0x10304 }, 0, 0, by decide +kernel, by decide +kernel, by decide +kernel,
      by decide +kernel, by decide +kernel, by decide +kernel, by decide +kernel, by decide +kernel⟩⟩

def at_markAdd : State :=
  withPart .admitted (held [(0, 1), (24, 0), (25, 31), (28, 5)])

def at_markSet : State :=
  withPart .admitted (held [(0, 1), (24, 1), (25, 31), (28, 5)])

def at_markClearError : State :=
  withPart .admitted (held [(0, 1), (24, 2), (25, 31), (28, 5)])

theorem test_meets_sequencer_takes_descriptors :
    (∃ s : State, ∃ n : Parcel, ∃ id : Nat, ∃ d : Desc, RegsOk s ∧ s.desc id = some d ∧ d.heldAtParcel n = true ∧
      s.safe = false ∧ s.admits n = true ∧ (∀ x ∈ s.earlier d, x.heldAtParcel n = false) ∧ s.inFlight n < 256 ∧
      max d.energyClass (minClass d n) = 0) ∧
    (∃ s : State, ∃ n : Parcel, ∃ id : Nat, ∃ d : Desc, ∃ since : Nat, RegsOk s ∧ s.desc id = some d ∧ s.safe =
      false ∧ d.opcode ≠ 0x61 ∧ (((d.parts.find? fun p => p.adm == n.val && decide (p.st =
      .held) && p.heldAt.isSome).bind (·.heldAt)) = some since)) ∧
    (∃ s : State, ∃ n : Parcel, ∃ id : Nat, ∃ d : Desc, ∃ p : Part, RegsOk s ∧ Ready s n id d p ∧ s.engineFree d p =
      true ∧ s.defers n d false = false ∧ d.opcode ≠ 0x40) ∧
    (∃ s : State, ∃ n : Parcel, ∃ id : Nat, ∃ d : Desc, ∃ p : Part, RegsOk s ∧ Ready s n id d p ∧ d.opcode = 0) ∧
    (∃ s : State, ∃ n : Parcel, ∃ id : Nat, ∃ d : Desc, ∃ p : Part, RegsOk s ∧ Ready s n id d p ∧ d.opcode = 2) ∧
    (∃ s : State, ∃ n : Parcel, ∃ id : Nat, ∃ d : Desc, ∃ p : Part, ∃ k : Nat, RegsOk s ∧ Ready s n id d p ∧
      d.opcode = 1 ∧ d.bits 24 1 0 = 0 ∧ s.markSet n d.ctx = some k) ∧
    (∃ s : State, ∃ n : Parcel, ∃ id : Nat, ∃ d : Desc, ∃ p : Part, ∃ k : Nat, RegsOk s ∧ Ready s n id d p ∧
      d.opcode = 1 ∧ d.bits 24 1 0 = 1 ∧ s.markSet n d.ctx = some k) ∧
    (∃ s : State, ∃ n : Parcel, ∃ id : Nat, ∃ d : Desc, ∃ p : Part, ∃ k : Nat, RegsOk s ∧ Ready s n id d p ∧
      d.opcode = 1 ∧ d.bits 24 1 0 = 2 ∧ s.markSet n d.ctx = some k) ∧
    (∃ s : State, ∃ id : Nat, ∃ pj : Nat, ∃ occ : Nat, ∃ d : Desc, ∃ st : Nat, ∃ bm : Nat, RegsOk s ∧ s.desc id =
      some d ∧ d.parts ≠ [] ∧ d.parts.all (·.isOver) = true ∧ NoReduce s ∧ d.sigEn = false ∧
      s.gwBind (bindKey d.firstParcel d.ctx) = none ∧ d.outcome = (st, bm) ∧ st ≠ Status.SPECULATION_DISCARDED) :=
  ⟨⟨withPart .held (held [(0, 0)]), 0, 1, desc1 (withPart .held (held [(0, 0)])), by decide +kernel,
      by decide +kernel, by decide +kernel, by decide +kernel, by decide +kernel, by decide +kernel,
      by decide +kernel, by decide +kernel⟩,
    ⟨heldBack, 0, 1, desc1 heldBack, 7, by decide +kernel, by decide +kernel, by decide +kernel, by decide +kernel,
      by decide +kernel⟩,
    ⟨withPart .admitted (held [(0, 0x12)]), 0, 1, desc1 (withPart .admitted (held [(0, 0x12)])),
      part1 (withPart .admitted (held [(0, 0x12)])), by decide +kernel, by decide +kernel, by decide +kernel,
      by decide +kernel, by decide +kernel⟩,
    ⟨withPart .admitted (held [(0, 0)]), 0, 1, desc1 (withPart .admitted (held [(0, 0)])),
      part1 (withPart .admitted (held [(0, 0)])), by decide +kernel, by decide +kernel, by decide +kernel⟩,
    ⟨withPart .admitted (held [(0, 2)]), 0, 1, desc1 (withPart .admitted (held [(0, 2)])),
      part1 (withPart .admitted (held [(0, 2)])), by decide +kernel, by decide +kernel, by decide +kernel⟩,
    ⟨at_markAdd, 0, 1, desc1 at_markAdd, part1 at_markAdd, 0, by decide +kernel, by decide +kernel, by decide +kernel,
      by decide +kernel, by decide +kernel⟩,
    ⟨at_markSet, 0, 1, desc1 at_markSet, part1 at_markSet, 0, by decide +kernel, by decide +kernel, by decide +kernel,
      by decide +kernel, by decide +kernel⟩,
    ⟨at_markClearError, 0, 1, desc1 at_markClearError, part1 at_markClearError, 0, by decide +kernel,
      by decide +kernel, by decide +kernel, by decide +kernel, by decide +kernel⟩,
    ⟨withPart (.ended 3) (held [(0, 0)]), 1, 0, 0, desc1 (withPart (.ended 3) (held [(0, 0)])), 3, 1,
      by decide +kernel, by decide +kernel, by decide +kernel, by decide +kernel, by decide +kernel,
      by decide +kernel, by decide +kernel, by decide +kernel, by decide +kernel⟩⟩

theorem test_meets_records_reach_their_ring :
    (∃ (s : State) (d : Desc), (3 ≠ Status.OK ∨ d.cmplAlways = true) ∧ (s.fn (s.ctxFn d.ctx)).enabled = true ∧
      (s.fn (s.ctxFn d.ctx)).bme = true ∧ s.fldB (entryBank d.ctx) F.HIF_CTX_IRQ_CO_N = 1 ∧
      1 ≤ (s.ctx d.ctx).sinceMsg + 1) ∧
    (∃ s : State, (s.ctx (4095 : Fin 4096)).msgDeadline = some 7 ∧ (s.fn (s.ctxFn (4095 : Fin 4096))).enabled = true ∧
      (s.fn (s.ctxFn (4095 : Fin 4096))).bme = true ∧
      s.vecMasked (s.ctxFn (4095 : Fin 4096)) (s.fldB (entryBank (4095 : Fin 4096)) F.HIF_CTX_IRQ_VEC) = false) ∧
    (∃ s : State, RegsOk s ∧ (1023 : Fin 1024).val * 2048 + (2047 : Fin 2048).val ∈ s.host.msixPending ∧
      (s.fn (1023 : Fin 1024)).enabled = true ∧ (s.fn (1023 : Fin 1024)).bme = true) :=
  ⟨⟨held [(0, 0)], desc1 (held [(0, 0)]), by decide +kernel, by decide +kernel, by decide +kernel, by decide +kernel,
      by decide +kernel⟩,
    ⟨State.setRdB { State.reset with host := { State.reset.host with ctxs := [(4095, { msgDeadline := some 7 })], fns := [(0, { enabled := true, bme := true })] } } 64 0x18000C 0,
      by decide +kernel, by decide +kernel, by decide +kernel, by decide +kernel⟩,
    ⟨{ State.reset with host := { State.reset.host with msixPending := [2097151], fns := [(1023, { enabled := true, bme := true })] } },
      by decide +kernel, by decide +kernel, by decide +kernel, by decide +kernel⟩⟩

def at_ctxStart : State :=
  (let s := configured { owner := 1 }; { s with host := { s.host with ctxs := [(0, { st := .stopped })] } })

def at_ctxStop : State :=
  { State.reset with own := { owner := 1 }, host := { State.reset.host with ctxs := [(0, { st := .running })] } }

def at_ctxAbort : State :=
  (let s := held [(0, 0x12)]; { s with own := { owner := 1 }, host := { s.host with ctxs := [(0, { st := .running })] } })

def at_stoppingDrained : State :=
  { State.reset with own := { owner := 1 }, host := { State.reset.host with ctxs := [(0, { st := .stopping })] } }

def at_ctxDestroy : State :=
  { State.reset with own := { owner := 1 }, host := { State.reset.host with ctxs := [(0, { st := .stopped, fetch := 5 })] } }

def at_ctxRewind : State :=
  { State.reset with own := { owner := 1 }, host := { State.reset.host with ctxs := [(0, { st := .stopped, fetch := 5 })] } }

def at_contextConfigWrite : State :=
  { State.reset with own := { owner := 1 }, host := { State.reset.host with ctxs := [(0, { st := .stopped })] } }

def at_contextConfigWrite_2 : State :=
  { State.reset with own := { owner := 1 }, host := { State.reset.host with ctxs := [(0, { st := .running })] } }

theorem test_meets_context_commands_move_their_context :
    (∃ s : State, ∃ path : Path, ∃ c : Nat, ∃ u : State, RegsOk s ∧ s.mayRwl path = true ∧ c = s.ctxSel path ∧
      (s.ctx c).st = .free ∧ s.ctxFieldsOk c = true ∧ s.slotTaken c = false ∧ s.rebind c = some u) ∧
    (∃ s : State, ∃ path : Path, ∃ c : Nat, ∃ u : State, RegsOk s ∧ s.mayRwl path = true ∧ c = s.ctxSel path ∧
      (s.ctx c).st = .stopped ∧ s.ctxFieldsOk c = true ∧ s.slotTaken c = false ∧ s.rebind c = some u) ∧
    (∃ s : State, ∃ path : Path, ∃ c : Nat, RegsOk s ∧ s.mayRwl path = true ∧ c = s.ctxSel path ∧ (s.ctx c).st =
      .running) ∧
    (∃ s : State, ∃ path : Path, ∃ c : Nat, RegsOk s ∧ s.mayRwl path = true ∧ c = s.ctxSel path ∧
      (s.ctx c).st ≠ .free ∧ NoReduce s ∧ (∀ d ∈ s.seq.descs, d.opcode ≠ 0x21)) ∧
    (∃ s : State, ∃ c : Fin 4096, RegsOk s ∧ (s.ctx c).st = .stopping ∧ (s.ctx c).fetching = none ∧
      (∀ d ∈ s.seq.descs, d.ctx ≠ c.val)) ∧
    (∃ s : State, ∃ path : Path, ∃ c : Nat, RegsOk s ∧ s.mayRwl path = true ∧ c = s.ctxSel path ∧ (s.ctx c).st =
      .stopped ∧ s.isJoined c = false) ∧
    (∃ s : State, ∃ path : Path, ∃ c : Nat, RegsOk s ∧ s.mayRwl path = true ∧ c = s.ctxSel path ∧ (s.ctx c).st =
      .stopped) ∧
    (∃ s : State, ∃ path : Path, ∃ c : Nat, ∃ v : Word, RegsOk s ∧ s.mayRwl path = true ∧ c = s.ctxSel path ∧
      ((s.ctx c).st = .free ∨ (s.ctx c).st = .stopped)) ∧
    (∃ s : State, ∃ path : Path, ∃ c : Nat, ∃ v : Word, RegsOk s ∧ s.mayRwl path = true ∧ c = s.ctxSel path ∧
      ((s.ctx c).st = .running ∨ (s.ctx c).st = .stopping)) :=
  ⟨⟨configured { owner := 1 }, .pf0, ((configured { owner := 1 })).ctxSel .pf0,
      (((configured { owner := 1 })).rebind (((configured { owner := 1 })).ctxSel .pf0)).getD (configured { owner := 1 }),
      by decide +kernel, by decide +kernel, rfl, by decide +kernel, by decide +kernel, by decide +kernel,
      by decide +kernel⟩,
    ⟨at_ctxStart, .pf0, (at_ctxStart).ctxSel .pf0,
      ((at_ctxStart).rebind ((at_ctxStart).ctxSel .pf0)).getD at_ctxStart, by decide +kernel, by decide +kernel, rfl,
      by decide +kernel, by decide +kernel, by decide +kernel, by decide +kernel⟩,
    ⟨at_ctxStop, .pf0, 0, by decide +kernel, by decide +kernel, rfl, by decide +kernel⟩,
    ⟨at_ctxAbort, .pf0, 0, by decide +kernel, by decide +kernel, rfl, by decide +kernel, by decide +kernel,
      by decide +kernel⟩,
    ⟨at_stoppingDrained, 0, by decide +kernel, by decide +kernel, by decide +kernel, by decide +kernel⟩,
    ⟨at_ctxDestroy, .pf0, 0, by decide +kernel, by decide +kernel, rfl, by decide +kernel, by decide +kernel⟩,
    ⟨at_ctxRewind, .pf0, 0, by decide +kernel, by decide +kernel, rfl, by decide +kernel⟩,
    ⟨at_contextConfigWrite, .pf0, 0, 0xFFF#32, by decide +kernel, by decide +kernel, rfl, by decide +kernel⟩,
    ⟨at_contextConfigWrite_2, .pf0, 0, 0xFFF#32, by decide +kernel, by decide +kernel, rfl, by decide +kernel⟩⟩

def at_doorbell : State :=
  (let s := configured { owner := 1 }; { s with host := { s.host with ctxs := [(0, { st := .running, recPos := 9 })], fns := [(0, { enabled := true, bme := true })] } })

def at_doorbell_2 : State :=
  (let s := configured { owner := 1 }; { s with host := { s.host with ctxs := [(0, { st := .running, recPos := 9 })], fns := [(0, { enabled := true, bme := true })] } })

def at_completionHead : State :=
  (let s := configured { owner := 1 }; { s with host := { s.host with ctxs := [(0, { st := .running, recPos := 9 })], fns := [(0, { enabled := true, bme := true })] } })

def at_descriptorFetch : State :=
  (let s := configured { owner := 1 }; { s with host := { s.host with ctxs := [(0, { st := .running, db := 5 })], fns := [(0, { enabled := true, bme := true })] } })

def at_fetchComplete : State :=
  (let s := configured { owner := 1 }; { s with host := { s.host with ctxs := [(0, { st := .running, fetching := some 3 })], reads := [{ id := 3, fn := 0, addr := 0, len := 64, why := .fetch 0 63 1 }] } })

def at_flr : State :=
  { State.reset with host := { State.reset.host with fns := [(1023, { enabled := true })] } }

def at_functionDisableDone : State :=
  { State.reset with host := { State.reset.host with fns := [(0, { disabling := some true, bme := true })], ctxs := [(7, { st := .running })] } }

def at_bmeLimitExpiry : State :=
  { State.reset with host := { State.reset.host with fns := [(0, { enabled := true, bmeDeadline := some 9 })] } }

def at_apertureAccess : State :=
  { (owned State.reset).setBit F.HIF_CFG_BAR4_EN with hold := [(2, 9)] }

def at_apertureAccess_2 : State :=
  (owned State.reset).setBit F.HIF_CFG_BAR4_EN

def at_hifErrClr : State :=
  { State.reset with own := { owner := 1 } }

theorem test_meets_host_words_fetches_and_functions :
    (∃ s : State, ∃ fn : Fin 1024, ∃ slot : Fin 128, ∃ w : Word, ∃ c : Nat, ∃ size : Nat, ∃ p : Nat, RegsOk s ∧
      (s.fn fn).enabled = true ∧ s.ctxOfSlot fn slot = some c ∧ w.toNat < 2 ^ 20 ∧ size = s.dringSize c ∧
      w.toNat % 65536 < size ∧ p = w.toNat / 65536 * size + w.toNat % 65536 ∧
      0 < (p + 16 * size - (s.ctx c).db % (16 * size)) % (16 * size) ∧
      (p + 16 * size - (s.ctx c).db % (16 * size)) % (16 * size) < 8 * size ∧
      (p + 16 * size - (s.ctx c).fetch % (16 * size)) % (16 * size) ≤ size ∧ s.fld F.PWR_STATUS_STATE = 0 ∧
      s.entryHolds 4 (s.ctxHome c) = false) ∧
    (∃ s : State, ∃ fn : Fin 1024, ∃ slot : Fin 128, ∃ w : Word, ∃ c : Nat, ∃ size : Nat, ∃ p : Nat, RegsOk s ∧
      (s.fn fn).enabled = true ∧ s.ctxOfSlot fn slot = some c ∧ w.toNat < 2 ^ 20 ∧ size = s.dringSize c ∧
      w.toNat % 65536 < size ∧ p = w.toNat / 65536 * size + w.toNat % 65536 ∧
      8 * size ≤ (p + 16 * size - (s.ctx c).db % (16 * size)) % (16 * size)) ∧
    (∃ s : State, ∃ fn : Fin 1024, ∃ slot : Fin 128, ∃ w : Word, ∃ c : Nat, ∃ size : Nat, ∃ p : Nat, RegsOk s ∧
      (s.fn fn).enabled = true ∧ s.ctxOfSlot fn slot = some c ∧ w.toNat < 2 ^ 20 ∧ size = s.cringSize c ∧
      w.toNat % 65536 < size ∧ p = w.toNat / 65536 * size + w.toNat % 65536 ∧
      0 < (p + 16 * size - (s.ctx c).head % (16 * size)) % (16 * size) ∧
      (p + 16 * size - (s.ctx c).head % (16 * size)) % (16 * size) < 8 * size ∧
      (p + 16 * size - (s.ctx c).head % (16 * size)) % (16 * size) ≤ ((s.ctx c).recPos + 16 * size - (s.ctx c).head % (16 * size)) % (16 * size) ∧
      (s.ctx c).heldRec = none) ∧
    (∃ s : State, ∃ c : Fin 4096, ∃ k : Nat, RegsOk s ∧ (s.ctx c).st = .running ∧ (s.ctx c).fetching = none ∧ k =
      s.fetchCount c ∧ k ≠ 0 ∧ s.safe = false ∧ (s.fn (s.ctxFn c)).enabled = true ∧ s.fetches (s.ctxHome c) = true ∧
      s.hostWaits (s.ctxFn c) = false) ∧
    (∃ s : State, ∃ c : Fin 4096, ∃ bytes : List Byte, ∃ id : Nat, ∃ pos : Nat, ∃ r : HostRd, RegsOk s ∧
      (s.ctx c).fetching = some id ∧ s.host.reads = [r] ∧ r.id = id ∧ r.why = .fetch c pos 1 ∧ NoReduce s ∧
      (BitVec.ofNat 512 (leAt bytes 0 64)).toNat % 256 ≠ 0x61) ∧
    (∃ s : State, ∃ fn : Fin 1024, RegsOk s ∧ fn.val ≠ 0 ∧ (s.fn fn).enabled = true ∧ NoReduce s) ∧
    (∃ s : State, RegsOk s ∧ NoReduce s) ∧
    (∃ s : State, ∃ fn : Fin 1024, ∃ flr : Bool, RegsOk s ∧ (s.fn fn).disabling = some flr ∧ (∀ d ∈ s.seq.descs,
      s.ctxFn d.ctx ≠ fn.val) ∧ NoReduce s ∧ s.gw.binds = [] ∧ s.gw.reqs = []) ∧
    (∃ s : State, ∃ fn : Fin 1024, RegsOk s) ∧
    (∃ s : State, ∃ fn : Fin 1024, RegsOk s ∧ (s.fn fn).enabled = false) ∧
    (∃ s : State, ∃ fn : Fin 1024, ∃ d : Nat, RegsOk s ∧ (s.fn fn).bmeDeadline = some d ∧ (s.fn fn).enabled = true ∧
      NoReduce s) ∧
    (∃ s : State, ∃ numVfs : Fin 1024, RegsOk s ∧ NoReduce s) :=
  ⟨⟨at_doorbell, 0, 0, 5#32, 0, 64, 5, by decide +kernel, by decide +kernel, by decide +kernel, by decide +kernel,
      by decide +kernel, by decide +kernel, by decide +kernel, by decide +kernel, by decide +kernel,
      by decide +kernel, by decide +kernel, by decide +kernel⟩,
    ⟨at_doorbell_2, 0, 0, 0xF0005#32, 0, 64, 965, by decide +kernel, by decide +kernel, by decide +kernel,
      by decide +kernel, by decide +kernel, by decide +kernel, by decide +kernel, by decide +kernel⟩,
    ⟨at_completionHead, 0, 0, 9#32, 0, 64, 9, by decide +kernel, by decide +kernel, by decide +kernel,
      by decide +kernel, by decide +kernel, by decide +kernel, by decide +kernel, by decide +kernel,
      by decide +kernel, by decide +kernel, by decide +kernel⟩,
    ⟨at_descriptorFetch, 0, 5, by decide +kernel, by decide +kernel, by decide +kernel, by decide +kernel,
      by decide +kernel, by decide +kernel, by decide +kernel, by decide +kernel, by decide +kernel⟩,
    ⟨at_fetchComplete, 0, List.replicate 64 0, 3, 63,
      { id := 3, fn := 0, addr := 0, len := 64, why := .fetch 0 63 1 }, by decide +kernel, by decide +kernel,
      by decide +kernel, by decide +kernel, by decide +kernel, by decide +kernel, by decide +kernel⟩,
    ⟨at_flr, 1023, by decide +kernel, by decide +kernel, by decide +kernel, by decide +kernel⟩,
    ⟨State.reset, by decide +kernel, by decide +kernel⟩,
    ⟨at_functionDisableDone, 0, true, by decide +kernel, by decide +kernel, by decide +kernel, by decide +kernel,
      by decide +kernel, by decide +kernel⟩,
    ⟨State.reset, 1023, by decide +kernel⟩,
    ⟨State.reset, 1023, by decide +kernel, by decide +kernel⟩,
    ⟨at_bmeLimitExpiry, 0, 9, by decide +kernel, by decide +kernel, by decide +kernel, by decide +kernel⟩,
    ⟨State.reset, 1023, by decide +kernel, by decide +kernel⟩⟩

theorem test_meets_host_words_fetches_and_functions_2 :
    (∃ s : State, ∃ numVfs : Fin 1024, RegsOk s) ∧
    (∃ s : State, ∃ off : Nat, ∃ len : Nat, ∃ a : Nat, RegsOk s ∧ s.fld F.HIF_CFG_BAR4_EN = 1 ∧ a =
      s.fld F.HIF_CFG_APERTURE_PARCEL * 2 ^ 28 + off % 2 ^ 28 ∧ s.mayRead (Who.mk 0 none false) a len = true ∧
      s.clearingIn a len = false ∧ s.poisonedIn a len = false) ∧
    (∃ s : State, ∃ off : Nat, ∃ len : Nat, ∃ a : Nat, ∃ b : List Byte, RegsOk s ∧ s.fld F.HIF_CFG_BAR4_EN = 1 ∧ a =
      s.fld F.HIF_CFG_APERTURE_PARCEL * 2 ^ 28 + off % 2 ^ 28 ∧ s.mayWrite (Who.mk 0 none false) a b.length = true ∧
      s.clearingIn a b.length = false ∧ s.poisonedIn a b.length = false) ∧
    (∃ s : State, ∃ tag : Nat, ∃ users : List Nat, RegsOk s ∧ (∀ r ∈ s.host.reads, r.id ∉ users)) ∧
    (∃ s : State, ∃ width : Nat, ∃ speed : Nat, ∃ flit : Bool, RegsOk s ∧ (width = 16 ∨ width = 8)) ∧
    (∃ s : State, RegsOk s) ∧
    (∃ s : State, ∃ path : Path, ∃ v : Word, RegsOk s ∧ s.mayRwl path = true ∧ bitsOf v.toNat 0 0 = 1) :=
  ⟨⟨State.reset, 1023, by decide +kernel⟩,
    ⟨at_apertureAccess, 0, 4, 0, by decide +kernel, by decide +kernel, by decide +kernel, by decide +kernel,
      by decide +kernel, by decide +kernel⟩,
    ⟨at_apertureAccess_2, 0, 4, 0, [1, 2], by decide +kernel, by decide +kernel, by decide +kernel, by decide +kernel,
      by decide +kernel, by decide +kernel⟩,
    ⟨State.reset, 5, [], by decide +kernel, by decide +kernel⟩,
    ⟨State.reset, 8, 5, true, by decide +kernel, by decide +kernel⟩,
    ⟨State.reset, by decide +kernel⟩,
    ⟨at_hifErrClr, .pf0, 1#32, by decide +kernel, by decide +kernel, by decide +kernel⟩⟩

def at_ntTractOwnerWrite : State :=
  { State.reset with own := { owner := 1 } }

def at_ntTractOwnerWrite_2 : State :=
  { State.reset.setRd (Reg.NT_TRACT_OWNER 11 47) 9 with own := { owner := 1 } }

def at_ftTractOwnerWrite : State :=
  { State.reset.setRd (Reg.FT_TRACT_OWNER 2047) 0 with own := { owner := 1 } }

def at_ntScrubStep : State :=
  ((State.reset.setBit (F.NT_STATUS_READY 3)).setBit (F.NT_SCRUB_ENABLE 3))

def at_ntMarginCheck : State :=
  (((State.reset.setBit (F.NT_STATUS_READY 3)).setBit (F.NT_RETRAIN_AUTO 3)).setFld (F.NT_RETRAIN_MARGIN_MIN 3) 9).setFld (F.NT_RETRAIN_CHECKS 3) 1

def at_ntRetrainReq : State :=
  { State.reset with own := { owner := 1 } }

def at_ntRetrainStart : State :=
  { (State.reset.setBit (F.NT_STATUS_READY 3)) with tier := { State.reset.tier with ctl := [(3, { due := [4, 7] })] } }

def at_ntRetrainSlice : State :=
  { (State.reset.setBit (F.NT_STATUS_READY 3)) with tier := { State.reset.tier with ctl := [(3, { retrain := some (4, 63) })] } }

def at_ntRetrainDone : State :=
  { (State.reset.setBit (F.NT_STATUS_READY 3)) with tier := { State.reset.tier with ctl := [(3, { retrain := some (31, 64), due := [31] })] } }

def at_ntRetrainDone_2 : State :=
  ({ (State.reset.setBit (F.NT_STATUS_READY 3)) with tier := { State.reset.tier with ctl := [(3, { retrain := some (31, 64), due := [31] })] } } : State).setFld (F.NT_CH_TAG_MARGIN_NOW 3 31) 1

def at_ntErrClr : State :=
  { State.reset with own := { owner := 1 } }

def at_ntResetReturn : State :=
  ((State.reset.setFld (F.REC_PARCEL_STATE_STATE 3) 4).setFld F.BRU_STATUS_TRAIN 1)

theorem test_meets_near_tier_controllers_act :
    (∃ s : State, ∃ path : Path, ∃ n : Parcel, ∃ t : Fin 48, ∃ v : Word, RegsOk s ∧ s.mayRwl path = true ∧
      s.rd (Reg.NT_TRACT_OWNER n t) = 0 ∧ bitsOf v.toNat 1 0 = 1) ∧
    (∃ s : State, ∃ path : Path, ∃ n : Parcel, ∃ t : Fin 48, ∃ v : Word, RegsOk s ∧ s.mayRwl path = true ∧
      s.fld (F.NT_TRACT_OWNER_CLEARING n t) = 1) ∧
    (∃ s : State, ∃ path : Path, ∃ q : Fin 4, ∃ t : Fin 512, ∃ v : Word, RegsOk s ∧ s.mayRwl path = true ∧
      q.val < s.fuses.cxlPorts ∧ s.rd (Reg.FT_TRACT_OWNER (q * 512 + t)) = 0 ∧ bitsOf v.toNat 1 0 = 1) ∧
    (∃ s : State, ∃ n : Parcel, RegsOk s ∧ s.nearUp n = true ∧ s.fld (F.NT_SCRUB_ENABLE n) = 1) ∧
    (∃ s : State, ∃ k : Fin 12, RegsOk s) ∧
    (∃ s : State, ∃ n : Parcel, ∃ margin : Byte, ∃ tempC : Byte, ∃ low : Nat, RegsOk s ∧ s.nearUp n = true ∧
      0 < s.fuses.channels ∧ toSigned 8 tempC.toNat ≤ 95 ∧ 90 < toSigned 8 tempC.toNat ∧ s.fld (F.NT_RETRAIN_AUTO n) =
      1 ∧ (low =
      if margin.toNat < s.fld (F.NT_RETRAIN_MARGIN_MIN n) then (amGet (s.nearCtl n).low 0).getD 0 + 1 else 0) ∧
      max 1 (s.fld (F.NT_RETRAIN_CHECKS n)) ≤ low) ∧
    (∃ s : State, ∃ path : Path, ∃ n : Parcel, ∃ v : Word, RegsOk s ∧ s.mayRwl path = true ∧ bitAt v.toNat 8 = true ∧
      v.toNat % 32 < s.fuses.channels) ∧
    (∃ s : State, ∃ n : Parcel, ∃ c : Nat, RegsOk s ∧ s.nearUp n = true ∧ (s.nearCtl n).retrain = none ∧
      ((s.nearCtl n).due.find? (fun c => decide ((amGet (s.nearCtl n).backoff c).getD 0 ≤ s.mclk)) = some c)) ∧
    (∃ s : State, ∃ n : Parcel, ∃ c : Nat, ∃ k : Nat, ∃ m : Nat, RegsOk s ∧ (s.nearCtl n).retrain = some (c, k) ∧
      k < 64 ∧ (m = if k = 0 then s.mclk else max s.mclk ((s.nearCtl n).sliceAt + 5000))) ∧
    (∃ s : State, ∃ n : Parcel, ∃ tempC : Byte, ∃ margin : Byte, ∃ load : Fin 4, ∃ c : Nat, ∃ k : Nat, RegsOk s ∧
      (s.nearCtl n).retrain = some (c, k) ∧ k ≠ 0 ∧ c < 32) ∧
    (∃ s : State, ∃ n : Parcel, ∃ tempC : Byte, ∃ margin : Byte, ∃ load : Fin 4, ∃ c : Nat, ∃ k : Nat, RegsOk s ∧
      (s.nearCtl n).retrain = some (c, k) ∧ k ≠ 0 ∧ 1 ≤ s.fld (F.NT_CH_TAG_MARGIN_NOW n c)) ∧
    (∃ s : State, ∃ path : Path, ∃ n : Parcel, ∃ v : Word, RegsOk s ∧ s.mayRwl path = true ∧ bitsOf v.toNat 0 0 = 1) :=
  ⟨⟨at_ntTractOwnerWrite, .pf0, 11, 47, 0x3FF0005#32, by decide +kernel, by decide +kernel, by decide +kernel,
      by decide +kernel⟩,
    ⟨at_ntTractOwnerWrite_2, .pf0, 11, 47, 0#32, by decide +kernel, by decide +kernel, by decide +kernel⟩,
    ⟨at_ftTractOwnerWrite, .pf0, 3, 511, 0x3FF0005#32, by decide +kernel, by decide +kernel, by decide +kernel,
      by decide +kernel, by decide +kernel⟩,
    ⟨at_ntScrubStep, 3, by decide +kernel, by decide +kernel, by decide +kernel⟩,
    ⟨State.reset, 11, by decide +kernel⟩,
    ⟨at_ntMarginCheck, 3, 8, 93, 1, by decide +kernel, by decide +kernel, by decide +kernel, by decide +kernel,
      by decide +kernel, by decide +kernel, by decide +kernel, by decide +kernel⟩,
    ⟨at_ntRetrainReq, .pf0, 0, 0x10F#32, by decide +kernel, by decide +kernel, by decide +kernel, by decide +kernel⟩,
    ⟨at_ntRetrainStart, 3, 4, by decide +kernel, by decide +kernel, by decide +kernel, by decide +kernel⟩,
    ⟨at_ntRetrainSlice, 3, 4, 63, 5000, by decide +kernel, by decide +kernel, by decide +kernel, by decide +kernel⟩,
    ⟨at_ntRetrainDone, 3, 80, 9, 2, 31, 64, by decide +kernel, by decide +kernel, by decide +kernel,
      by decide +kernel⟩,
    ⟨at_ntRetrainDone_2, 3, 80, 9, 2, 31, 64, by decide +kernel, by decide +kernel, by decide +kernel,
      by decide +kernel⟩,
    ⟨at_ntErrClr, .pf0, 11, 1#32, by decide +kernel, by decide +kernel, by decide +kernel⟩⟩

theorem test_meets_near_tier_controllers_act_2 :
    (∃ s : State, ∃ n : Parcel, RegsOk s ∧ s.parcelState n = 4 ∧ (s.rt n).nearReady = false ∧ s.nearTrained n = true) :=
  ⟨at_ntResetReturn, 3, by decide +kernel, by decide +kernel, by decide +kernel, by decide +kernel⟩

def at_ftReset : State :=
  { State.reset with own := { owner := 1 } }

def at_acceptStale : State :=
  { State.reset with own := { owner := 1 } }

def at_cxlViral : State :=
  (State.reset.setFld (F.FT_PORT_STATE_STATE 1) 3)

def at_cxlLinkDown : State :=
  (State.reset.setFld (F.FT_PORT_STATE_STATE 1) 3)

def at_cxlLinkRetrain : State :=
  { (State.reset.setFld (F.FT_PORT_STATE_STATE 1) 1) with tier := { State.reset.tier with ports := [(1, { retrainAt := some 9 })] } }

def at_cxlLinkRetrain_2 : State :=
  { (State.reset.setFld (F.FT_PORT_STATE_STATE 1) 1) with tier := { State.reset.tier with ports := [(1, { retrainAt := some 9 })] } }

def at_ftPortRttUpdate : State :=
  (State.reset.setFld (F.FT_PORT_STATE_STATE 1) 3)

theorem test_meets_far_tier_ports_act :
    (∃ s : State, ∃ q : Fin 4, ∃ dev : CxlDevice, RegsOk s ∧ s.farHere q = true ∧ (s.farCtl q).enumDue = true ∧
      (s.farCtl q).viralSeen = false ∧ s.up 5 = true ∧ s.inBlockReset (34 + q) = false ∧ dev.supported = true) ∧
    (∃ s : State, ∃ q : Fin 4, RegsOk s ∧ s.farHere q = true ∧ (s.farCtl q).enumDue = true ∧ s.up 5 = true ∧
      s.inBlockReset (34 + q) = false) ∧
    (∃ s : State, ∃ path : Path, ∃ q : Fin 4, RegsOk s ∧ s.mayRwl path = true ∧ s.farHere q = true) ∧
    (∃ s : State, ∃ path : Path, ∃ q : Fin 4, RegsOk s ∧ s.mayRwl path = true ∧ s.farHere q = true) ∧
    (∃ s : State, ∃ q : Fin 4, ∃ n : Parcel, ∃ d : Desc, RegsOk s ∧ (s.runningPart n (fun d => d.usesPort q) =
      some d)) ∧
    (∃ s : State, ∃ q : Fin 4, RegsOk s ∧ s.farHere q = true ∧ s.fld (F.FT_PORT_STATE_STATE q) = 3) ∧
    (∃ s : State, ∃ q : Fin 4, RegsOk s ∧ s.farHere q = true ∧ s.fld (F.FT_PORT_STATE_STATE q) = 3) ∧
    (∃ s : State, ∃ q : Fin 4, ∃ wide : Bool, ∃ fast : Bool, ∃ d : Nat, RegsOk s ∧ s.farHere q = true ∧
      s.fld (F.FT_PORT_STATE_STATE q) = 1 ∧ (s.farCtl q).retrainAt = some d) ∧
    (∃ s : State, ∃ q : Fin 4, ∃ wide : Bool, ∃ fast : Bool, ∃ d : Nat, RegsOk s ∧ s.farHere q = true ∧
      s.fld (F.FT_PORT_STATE_STATE q) = 1 ∧ (s.farCtl q).retrainAt = some d) ∧
    (∃ s : State, ∃ q : Fin 4, ∃ ns : BitVec 16, RegsOk s ∧ s.farHere q = true ∧ s.fld (F.FT_PORT_STATE_STATE q) = 3) :=
  ⟨⟨State.reset.setFld F.RST_STATE_STEP 6, 3, ⟨true, 600, true, false⟩, by decide +kernel, by decide +kernel,
      by decide +kernel, by decide +kernel, by decide +kernel, by decide +kernel, by decide +kernel⟩,
    ⟨State.reset.setFld F.RST_STATE_STEP 6, 3, by decide +kernel, by decide +kernel, by decide +kernel,
      by decide +kernel, by decide +kernel⟩,
    ⟨at_ftReset, .pf0, 3, by decide +kernel, by decide +kernel, by decide +kernel⟩,
    ⟨at_acceptStale, .pf0, 3, by decide +kernel, by decide +kernel, by decide +kernel⟩,
    ⟨running [0] [(0, 0x20), (44, 0x20)], 0, 0, desc1 (running [0] [(0, 0x20), (44, 0x20)]), by decide +kernel,
      by decide +kernel⟩,
    ⟨at_cxlViral, 1, by decide +kernel, by decide +kernel, by decide +kernel⟩,
    ⟨at_cxlLinkDown, 1, by decide +kernel, by decide +kernel, by decide +kernel⟩,
    ⟨at_cxlLinkRetrain, 1, true, true, 9, by decide +kernel, by decide +kernel, by decide +kernel, by decide +kernel⟩,
    ⟨at_cxlLinkRetrain_2, 1, true, true, 9, by decide +kernel, by decide +kernel, by decide +kernel,
      by decide +kernel⟩,
    ⟨at_ftPortRttUpdate, 1, 0xFFFF, by decide +kernel, by decide +kernel, by decide +kernel⟩⟩

def at_tick : State :=
  { State.reset with tol := { State.reset.tol with sweeps := [70000, 5000] } }

def at_tolJobFree : State :=
  { State.reset with own := { owner := 1 } }

theorem test_meets_energy_and_thermal_control_act :
    (∃ s : State, ∃ (reads : List (Option RailRead)) (e : Nat), RegsOk s ∧ (∀ k ∈ s.fuses.rails, ∃ x,
      reads.getD k none = some x ∧ x.fault = false) ∧ (∀ k < 14, k ∉ s.fuses.rails → s.fld (F.TOL_RAIL_I_STALE k) =
      0) ∧ e = (s.fuses.rails.map fun k => (reads.getD k none).elim 0 fun x =>
      x.mv % 2 ^ 16 * (x.ca % 2 ^ 16)).sum / 1000 + 100 * s.fld F.TOL_STATIC_FIXED_W ∧ (s.tol.cut = true ∨
      (e ≤ 190000 ∧ s.tol.sweeps.sum + e ≤ 100 * s.fld F.TOL_STATUS_ALLOW_W * (s.tol.sweeps.length + 1)))) ∧
    (∃ temps : List (Option Int), (∀ x ∈ temps, ∃ c : Int, x = some c ∧ 0 ≤ c ∧ c ≤ 150) ∧ temps ≠ []) ∧
    (∃ s : State, RegsOk s ∧ s.fld (F.NT_TRACT_OWNER_CLEARING 11 47) = 1 ∧ s.fld (F.FT_TRACT_OWNER_CLEARING 2047) =
      1 ∧ (3 : Fin 4).val < s.fuses.cxlPorts) ∧
    (∃ s : State, ∃ uses : List AccountUse, ∃ device : List Nat, ∃ idle : Bool, ∃ e : Nat, RegsOk s ∧ e =
      s.tol.sweeps.sum) ∧
    (∃ s : State, ∃ n : Parcel, ∃ j : Nat, RegsOk s) ∧
    (∃ s : State, ∃ n : Parcel, RegsOk s) ∧
    (∃ s : State, ∃ temps : List (Option Int), RegsOk s ∧ ((temps.filterMap validTemp).any (fun x =>
      decide (115 ≤ x)) = true)) ∧
    (∃ s : State, RegsOk s ∧ s.fld F.TOL_STATUS_COOLANT_STALE = 0) ∧
    (∃ s : State, ∃ means : List Nat, ∃ active : Nat, RegsOk s) ∧
    (∃ s : State, ∃ path : Path, ∃ v : Word, RegsOk s ∧ s.mayRwl path = true ∧ bitsOf v.toNat 0 0 = 1) :=
  ⟨⟨State.reset.setFld F.TOL_STATUS_ALLOW_W 1000, List.replicate 14 (some ⟨1, 2, 3, false⟩), _, by decide +kernel,
      fun k hk => ⟨⟨1, 2, 3, false⟩, by revert k hk; decide +kernel, rfl⟩, by decide +kernel, rfl, by decide +kernel⟩,
    ⟨[some 150], by simp, by decide⟩,
    ⟨(State.reset.setRd (Reg.NT_TRACT_OWNER 11 47) 9).setRd (Reg.FT_TRACT_OWNER 2047) 9, by decide +kernel,
      by decide +kernel, by decide +kernel, by decide +kernel⟩,
    ⟨at_tick, [], [], false, 75000, by decide +kernel, by decide +kernel⟩,
    ⟨State.reset, 11, 15, by decide +kernel⟩,
    ⟨State.reset, 11, by decide +kernel⟩,
    ⟨State.reset, [some 115], by decide +kernel, by decide +kernel⟩,
    ⟨State.reset, by decide +kernel, by decide +kernel⟩,
    ⟨State.reset, [], 0, by decide +kernel⟩,
    ⟨at_tolJobFree, .pf0, 1#32, by decide +kernel, by decide +kernel, by decide +kernel⟩⟩

def at_attn : State :=
  { (stream 0x05 2 [(0, 0x40), (24, 0x40000), (28, 0x50000), (32, 0x1000), (36, 0x60000), (44, 1), (46, 1), (47, 1), (48, 8), (50, 16), (52, 0x3F800000)]) with hold := memWrite (memWrite (memWrite (stream 0x05 2 [(0, 0x40), (24, 0x40000), (28, 0x50000), (32, 0x1000), (36, 0x60000), (44, 1), (46, 1), (47, 1), (48, 8), (50, 16), (52, 0x3F800000)]).hold 0x60000 [1]) 0x40000 [0x80, 0x3F]) 0x8000 ([1, 0, 1, 0] ++ List.replicate 124 0 ++ [0, 0x40]) }

def at_attnMerge : State :=
  (let s := owned (running [0] [(0, 0x41), (24, 0x1000), (28, 0x8000), (32, 0x400), (36, 1), (38, 2), (39, 1)]); { s with hold := memWrite (memWrite [] 0x1000 [0, 0, 0x80, 0x3F]) 0x1400 [0, 0, 0x40, 0x40] })

def at_kvPageFetch : State :=
  { (stream 0x01 2 [(0, 0x40), (24, 0x40000), (28, 0x50000), (32, 0x1000), (36, 0x60000), (44, 1), (46, 1), (47, 1), (48, 8), (50, 16), (52, 0x3F800000)]) with hold := memWrite (memWrite (memWrite (stream 0x01 2 [(0, 0x40), (24, 0x40000), (28, 0x50000), (32, 0x1000), (36, 0x60000), (44, 1), (46, 1), (47, 1), (48, 8), (50, 16), (52, 0x3F800000)]).hold 0x60000 [1]) 0x40000 [0x80, 0x3F]) 0x8000 ([1, 0, 1, 0] ++ List.replicate 124 0 ++ [0, 0x40]) }

theorem test_meets_attention_writes_its_result :
    (∃ s : State, ∃ n : Parcel, ∃ d : Desc, ∃ j : AttnJob, RegsOk s ∧ (s.runningPart n (fun d => d.opcode == 0x40) =
      some d) ∧ (((({ n := n, d := d, errs := [], terrs := [] } : KvCtx).attnJob (attnOp d n) s).1.toOption) =
      some j) ∧ (∀ c ∈ j.toScan, PageHere s d n j.r c) ∧ ((s.kvpOf n d.id).getD { desc := d.id }).staged = [] ∧
      (∀ x ∈ j.rows (attnResult s d j), s.poisonedIn x.1 x.2.length = false)) ∧
    (∃ s : State, ∃ n : Parcel, ∃ d : Desc, ∃ g : MergeOp, RegsOk s ∧ (s.runningPart n (fun d => d.opcode == 0x41) =
      some d) ∧ g = mergeOp d n ∧ Clear s d g.arrays [g.out] [] ∧ s.poisonedIn g.out.1 g.out.2 = false) ∧
    (∃ s : State, ∃ n : Parcel, ∃ d : Desc, ∃ j : AttnJob, ∃ x : KvpSt, ∃ c : Nat, RegsOk s ∧
      (s.runningPart n (fun d => d.opcode == 0x40) = some d) ∧
      (((({ n := n, d := d, errs := [], terrs := [] } : KvCtx).attnJob (attnOp d n) s).1.toOption) = some j) ∧ x =
      (s.kvpOf n d.id).getD { desc := d.id } ∧ (j.toScan.find? (fun c =>
      (amGet x.staged c).isNone && !(pageOf s j.r c).res) = some c) ∧ x.staged.length < j.r.depth ∧ j.r.promote =
      false ∧ BackingHere s d j.r (pageOf s j.r c) ∧
      HoldHere s d (j.r.stageBase + x.next % j.r.stage * j.r.frameBytes, j.r.frameBytes)) :=
  ⟨⟨at_attn, 0, desc1 at_attn,
      ((({ n := 0, d := desc1 at_attn, errs := [], terrs := [] } : KvCtx).attnJob (attnOp (desc1 at_attn) 0) at_attn).1.toOption.getD ⟨attnOp (desc1 at_attn) 0,
      streamRec 0 [], 0, [], [], []⟩), by decide +kernel, by decide +kernel, by decide +kernel, by decide +kernel,
      by decide +kernel, by decide +kernel⟩,
    ⟨at_attnMerge, 0, desc1 at_attnMerge, mergeOp (desc1 at_attnMerge) (0 : Parcel), by decide +kernel,
      by decide +kernel, rfl, by decide +kernel, by decide +kernel⟩,
    ⟨at_kvPageFetch, 0, desc1 at_kvPageFetch,
      ((({ n := 0, d := desc1 at_kvPageFetch, errs := [], terrs := [] } : KvCtx).attnJob (attnOp (desc1 at_kvPageFetch) 0) at_kvPageFetch).1.toOption.getD ⟨attnOp (desc1 at_kvPageFetch) 0,
      streamRec 0 [], 0, [], [], []⟩), { desc := 1 }, 0, by decide +kernel, by decide +kernel, by decide +kernel,
      by decide +kernel, by decide +kernel, by decide +kernel, by decide +kernel, by decide +kernel,
      by decide +kernel⟩⟩

def at_kvAppend : State :=
  { (stream 0x05 3 [(0, 0x42), (24, 0x40000), (28, 0x1000), (32, 2), (34, 32), (36, 0)]) with hold := memWrite (stream 0x05 3 [(0, 0x42), (24, 0x40000), (28, 0x1000), (32, 2), (34, 32), (36, 0)]).hold 0x40000 [0, 0, 0x80, 0x3F] }

def at_kvCommit : State :=
  { (stream 0x05 3 [(0, 0x43), (24, 0x1000), (28, 1), (29, 9), (32, 2)]) with hold := memWrite (stream 0x05 3 [(0, 0x43), (24, 0x1000), (28, 1), (29, 9), (32, 2)]).hold 0x8008 [2, 9, 2, 9] }

def at_attnParityError : State :=
  (let s := owned (running [0] [(0, 0x41), (24, 0x1000), (28, 0x8000), (32, 0x400), (36, 1), (38, 2), (39, 1)]); { s with hold := memWrite (memWrite [] 0x1000 [0, 0, 0x80, 0x3F]) 0x1400 [0, 0, 0x40, 0x40] })

def at_kvpErrClr : State :=
  { State.reset with own := { owner := 1 } }

theorem test_meets_kv_entries_are_written_and_committed :
    (∃ s : State, ∃ n : Parcel, ∃ d : Desc, ∃ a : AppendOp, ∃ r : StreamRec, RegsOk s ∧ (s.runningPart n (fun d =>
      d.opcode == 0x42) = some d) ∧ a = appendOp d n ∧ (d.spec = false ∨
      ({ n := n, d := d, errs := [], terrs := [] } : KvCtx).joined a.stream s = true) ∧ (d.spec = true ∨
      s.mayWrite (s.who d) (a.stream + 4) 4 = true) ∧ StreamHere s d n a.stream r ∧
      r.len + a.base + a.n ≤ 64 * r.npages ∧ (∀ i ∈ pagesOf (r.len + a.base) (r.len + a.base + a.n),
      PageHere s d n r i) ∧ Clear s d (rowsAt a.src a.stride a.n (2 * r.hd * (if a.fmt = 0 then 4 else 2))) [] []) ∧
    (∃ s : State, ∃ n : Parcel, ∃ d : Desc, ∃ c : CommitOp, ∃ r : StreamRec, RegsOk s ∧ (s.runningPart n (fun d =>
      d.opcode == 0x43) = some d) ∧ c = commitOp d n ∧ d.spec = false ∧ StreamHere s d n c.stream r ∧
      r.len + c.a ≤ 64 * r.npages ∧ (∀ j ∈ c.nodes, r.len + j < 64 * r.npages ∧
      leAt (tagOf s.hold s r (r.len + j)) 0 1 = 2 ∧ leAt (tagOf s.hold s r (r.len + j)) 1 1 = c.epoch) ∧
      (∀ i ∈ pagesOf r.len (min (r.len + 64) (64 * r.npages)), PageHere s d n r i)) ∧
    (∃ s : State, ∃ n : Parcel, ∃ d : Desc, RegsOk s ∧ (s.runningPart n (fun d => decide (0x40 ≤ d.opcode ∧
      d.opcode ≤ 0x41)) = some d) ∧ d.opcode = 0x41 ∧ s.fld (F.KVP_ERR_INFO_VALID n) = 0) ∧
    (∃ s : State, ∃ path : Path, ∃ n : Parcel, ∃ v : Word, RegsOk s ∧ s.mayRwl path = true ∧ bitAt v.toNat 0 = true) :=
  ⟨⟨at_kvAppend, 0, desc1 at_kvAppend, appendOp (desc1 at_kvAppend) (0 : Parcel),
      streamRec 0x1000 (memRead (at_kvAppend).hold 0x1000 64), by decide +kernel, by decide +kernel,
      by decide +kernel, by decide +kernel, by decide +kernel, by decide +kernel, by decide +kernel,
      by decide +kernel, by decide +kernel⟩,
    ⟨at_kvCommit, 0, desc1 at_kvCommit, commitOp (desc1 at_kvCommit) (0 : Parcel),
      streamRec 0x1000 (memRead (at_kvCommit).hold 0x1000 64), by decide +kernel, by decide +kernel, rfl,
      by decide +kernel, by decide +kernel, by decide +kernel, by decide +kernel, by decide +kernel⟩,
    ⟨at_attnParityError, 0, desc1 at_attnParityError, by decide +kernel, by decide +kernel, by decide +kernel,
      by decide +kernel⟩,
    ⟨at_kvpErrClr, .pf0, 11, 1#32, by decide +kernel, by decide +kernel, by decide +kernel⟩⟩

def at_promote : State :=
  stream 0x01 3 [(0, 0x44), (24, 0x1000), (30, 1), (32, 0)]

def at_evict : State :=
  stream 0x0D 3 [(0, 0x44), (24, 0x1000), (30, 1), (32, 1)]

def at_writeback : State :=
  stream 0x0D 3 [(0, 0x44), (24, 0x1000), (30, 1), (32, 2)]

def at_writeback_2 : State :=
  tentative (stream 0x0D 3 [(0, 0x44), (24, 0x1000), (30, 1), (32, 2)])

def at_setFrame : State :=
  { (stream 0x01 3 [(0, 0x44), (24, 0x1000), (30, 1), (32, 3), (36, 0x70000)]) with hold := memWrite (stream 0x01 3 [(0, 0x44), (24, 0x1000), (30, 1), (32, 3), (36, 0x70000)]).hold 0x70000 [0, 0, 1] }

def at_migrate : State :=
  { (stream 0x01 3 [(0, 0x44), (24, 0x1000), (30, 1), (32, 4), (36, 0x70000)]) with hold := memWrite (stream 0x01 3 [(0, 0x44), (24, 0x1000), (30, 1), (32, 4), (36, 0x70000)]).hold 0x70000 [0, 0, 1, 0, 0, 0, 0, 0, 1] }

theorem test_meets_kv_moves_move_one_page :
    (∃ s : State, ∃ n : Parcel, ∃ d : Desc, ∃ m : MoveOp, ∃ r : StreamRec, ∃ e : PageEnt, RegsOk s ∧
      (s.runningPart n (fun d => d.opcode == 0x44 && (moveOp d n).action == 0) = some d) ∧ m = moveOp d n ∧ m.cnt =
      1 ∧ StreamHere s d n m.stream r ∧ m.lo < r.npages ∧ EntryHere s d r m.lo ∧ e = pageOf s r m.lo ∧ (e.res =
      false ∨ m.force = true) ∧ BackingHere s d r e ∧ r.frameOk n e.frame = true ∧ HoldHere s d (e.frame,
      r.frameBytes)) ∧
    (∃ s : State, ∃ n : Parcel, ∃ d : Desc, ∃ m : MoveOp, ∃ r : StreamRec, ∃ e : PageEnt, ∃ b : List Byte, RegsOk s ∧
      (s.runningPart n (fun d => d.opcode == 0x44 && (moveOp d n).action == 1) = some d) ∧ m = moveOp d n ∧ m.cnt =
      1 ∧ StreamHere s d n m.stream r ∧ m.lo < r.npages ∧ EntryHere s d r m.lo ∧ e = pageOf s r m.lo ∧ e.tent = 0 ∧
      e.backed = true ∧ e.dirty = true ∧ e.poison = false ∧ b = memRead s.hold e.frame r.frameBytes ∧
      PlaceHere s d e.kind e.back r.frameBytes ∧ r.frameOk n e.frame = true ∧ HoldHere s d (e.frame, r.frameBytes)) ∧
    (∃ s : State, ∃ n : Parcel, ∃ d : Desc, ∃ m : MoveOp, ∃ r : StreamRec, ∃ e : PageEnt, ∃ b : List Byte, RegsOk s ∧
      (s.runningPart n (fun d => d.opcode == 0x44 && (moveOp d n).action == 2) = some d) ∧ m = moveOp d n ∧ m.cnt =
      1 ∧ StreamHere s d n m.stream r ∧ m.lo < r.npages ∧ EntryHere s d r m.lo ∧ e = pageOf s r m.lo ∧ e.tent = 0 ∧
      e.backed = true ∧ e.dirty = true ∧ e.poison = false ∧ b = memRead s.hold e.frame r.frameBytes ∧
      PlaceHere s d e.kind e.back r.frameBytes ∧ r.frameOk n e.frame = true ∧ HoldHere s d (e.frame, r.frameBytes)) ∧
    (∃ s : State, ∃ n : Parcel, ∃ d : Desc, ∃ m : MoveOp, ∃ r : StreamRec, ∃ e : PageEnt, RegsOk s ∧
      (s.runningPart n (fun d => d.opcode == 0x44 && (moveOp d n).action == 2) = some d) ∧ m = moveOp d n ∧ m.cnt =
      1 ∧ StreamHere s d n m.stream r ∧ m.lo < r.npages ∧ EntryHere s d r m.lo ∧ e = pageOf s r m.lo ∧ e.tent ≠ 0) ∧
    (∃ s : State, ∃ n : Parcel, ∃ d : Desc, ∃ m : MoveOp, ∃ r : StreamRec, ∃ e : PageEnt, ∃ fr : Nat, RegsOk s ∧
      (s.runningPart n (fun d => d.opcode == 0x44 && (moveOp d n).action == 3) = some d) ∧ m = moveOp d n ∧ m.cnt =
      1 ∧ StreamHere s d n m.stream r ∧ m.lo < r.npages ∧ EntryHere s d r m.lo ∧ e = pageOf s r m.lo ∧
      Clear s d [(m.arg, 4)] [] [] ∧ fr = leAt (memRead s.hold m.arg 4) 0 4 ∧ e.res = false ∧ (fr = noFrame ∨
      r.frameOk n fr = true)) ∧
    (∃ s : State, ∃ n : Parcel, ∃ d : Desc, ∃ m : MoveOp, ∃ r : StreamRec, ∃ e : PageEnt, ∃ a : List Byte, RegsOk s ∧
      (s.runningPart n (fun d => d.opcode == 0x44 && (moveOp d n).action == 4) = some d) ∧ m = moveOp d n ∧ m.cnt =
      1 ∧ StreamHere s d n m.stream r ∧ m.lo < r.npages ∧ EntryHere s d r m.lo ∧ e = pageOf s r m.lo ∧
      Clear s d [(m.arg, 16)] [] [] ∧ a = memRead s.hold m.arg 16 ∧ e.tent = 0 ∧ e.res = false ∧ BackingHere s d r e ∧
      (leAt a 8 1 = 1 ∨ leAt a 8 1 = 2) ∧ PlaceHere s d (leAt a 8 1) (leAt a 0 8) r.frameBytes) :=
  ⟨⟨at_promote, 0, desc1 at_promote, moveOp (desc1 at_promote) (0 : Parcel),
      streamRec 0x1000 (memRead (at_promote).hold 0x1000 64),
      pageOf at_promote (streamRec 0x1000 (memRead (at_promote).hold 0x1000 64)) 0, by decide +kernel,
      by decide +kernel, by decide +kernel, by decide +kernel, by decide +kernel, by decide +kernel,
      by decide +kernel, by decide +kernel, by decide +kernel, by decide +kernel, by decide +kernel,
      by decide +kernel⟩,
    ⟨at_evict, 0, desc1 at_evict, moveOp (desc1 at_evict) (0 : Parcel),
      streamRec 0x1000 (memRead (at_evict).hold 0x1000 64),
      pageOf at_evict (streamRec 0x1000 (memRead (at_evict).hold 0x1000 64)) 0, memRead (at_evict).hold 0x8000 16512,
      by decide +kernel, by decide +kernel, by decide +kernel, by decide +kernel, by decide +kernel,
      by decide +kernel, by decide +kernel, by decide +kernel, by decide +kernel, by decide +kernel,
      by decide +kernel, by decide +kernel, rfl, by decide +kernel, by decide +kernel, by decide +kernel⟩,
    ⟨at_writeback, 0, desc1 at_writeback, moveOp (desc1 at_writeback) (0 : Parcel),
      streamRec 0x1000 (memRead (at_writeback).hold 0x1000 64),
      pageOf at_writeback (streamRec 0x1000 (memRead (at_writeback).hold 0x1000 64)) 0,
      memRead (at_writeback).hold 0x8000 16512, by decide +kernel, by decide +kernel, by decide +kernel,
      by decide +kernel, by decide +kernel, by decide +kernel, by decide +kernel, by decide +kernel,
      by decide +kernel, by decide +kernel, by decide +kernel, by decide +kernel, rfl, by decide +kernel,
      by decide +kernel, by decide +kernel⟩,
    ⟨at_writeback_2, 0, desc1 at_writeback_2, moveOp (desc1 at_writeback_2) (0 : Parcel),
      streamRec 0x1000 (memRead (at_writeback_2).hold 0x1000 64),
      pageOf at_writeback_2 (streamRec 0x1000 (memRead (at_writeback_2).hold 0x1000 64)) 0, by decide +kernel,
      by decide +kernel, by decide +kernel, by decide +kernel, by decide +kernel, by decide +kernel,
      by decide +kernel, by decide +kernel, by decide +kernel⟩,
    ⟨at_setFrame, 0, desc1 at_setFrame, moveOp (desc1 at_setFrame) (0 : Parcel),
      streamRec 0x1000 (memRead (at_setFrame).hold 0x1000 64),
      pageOf at_setFrame (streamRec 0x1000 (memRead (at_setFrame).hold 0x1000 64)) 0, 0x10000, by decide +kernel,
      by decide +kernel, by decide +kernel, by decide +kernel, by decide +kernel, by decide +kernel,
      by decide +kernel, by decide +kernel, by decide +kernel, by decide +kernel, by decide +kernel,
      by decide +kernel⟩,
    ⟨at_migrate, 0, desc1 at_migrate, moveOp (desc1 at_migrate) (0 : Parcel),
      streamRec 0x1000 (memRead (at_migrate).hold 0x1000 64),
      pageOf at_migrate (streamRec 0x1000 (memRead (at_migrate).hold 0x1000 64)) 0,
      memRead (at_migrate).hold 0x70000 16, by decide +kernel, by decide +kernel, by decide +kernel,
      by decide +kernel, by decide +kernel, by decide +kernel, by decide +kernel, by decide +kernel,
      by decide +kernel, by decide +kernel, by decide +kernel, by decide +kernel, by decide +kernel,
      by decide +kernel, by decide +kernel⟩⟩

def at_ethQueueEnable : State :=
  { ethernet 127 0 with own := { owner := 1 } }

def at_ethQueueDisable : State :=
  { ethernet 127 1 with own := { owner := 1 } }

def at_ethTxDescriptor : State :=
  (let s := ethernet 5 1; { s with seq := { s.seq with marks := [(1, ⟨1, false⟩)] }, hold := memWrite (memWrite [] 0x1000 (leBytes 4 0x9000 ++ leBytes 4 60 ++ [0, 14, 34, 0])) 0x9000 (frame 8 0) })

def at_ethFrameReceive : State :=
  ((ethernet 64 1).setFld (F.ETH_FILT_TGT_VALID 0 63) 1)

def at_ethFrameReceive_2 : State :=
  ((ethernet 64 1).setFld (F.ETH_FILT_TGT_VALID 0 63) 1)

theorem test_meets_ethernet_queues_move_frames :
    (∃ s : State, ∃ path : Path, ∃ e : Fin 2, ∃ q : Nat, RegsOk s ∧ s.mayRwl path = true ∧ s.ethExists e = true ∧ q =
      s.qSel path e ∧ s.qState e q = 0 ∧ s.queueOk e q = true ∧ s.fcMode e = 0) ∧
    (∃ s : State, ∃ path : Path, ∃ e : Fin 2, ∃ q : Nat, RegsOk s ∧ s.mayRwl path = true ∧ s.ethExists e = true ∧ q =
      s.qSel path e ∧ s.fld (F.ETH_PORT_STATUS_RX_PAUSED e) = 0) ∧
    (∃ s : State, ∃ e : Fin 2, ∃ q : Nat, ∃ k : Nat, ∃ b : List Byte, ∃ fr : List Byte, RegsOk s ∧ s.ethLive e =
      true ∧ s.entryHolds 3 0 = false ∧ s.nextTxQueue e = some q ∧ (s.qMarkP e q).error = false ∧
      i32Diff (s.qMarkP e q).count.toNat (s.qK e q) ≤ (s.qSize e q : Int) ∧ s.markSet (s.qParcel e q) (s.qCtx e q) =
      some k ∧ s.mayRead ⟨s.qFn e q, none, false⟩ (s.qBase e q + 16 * (s.qK e q % s.qSize e q)) 16 = true ∧
      s.clearingIn (s.qBase e q + 16 * (s.qK e q % s.qSize e q)) 16 = false ∧
      s.poisonedIn (s.qBase e q + 16 * (s.qK e q % s.qSize e q)) 16 = false ∧ b =
      memRead s.hold (s.qBase e q + 16 * (s.qK e q % s.qSize e q)) 16 ∧ txDescOk b = true ∧ s.mayRead ⟨s.qFn e q,
      none, false⟩ (txDescOf b).addr (txDescOf b).len = true ∧ s.clearingIn (txDescOf b).addr (txDescOf b).len =
      false ∧ s.poisonedIn (txDescOf b).addr (txDescOf b).len = false ∧ fr =
      memRead s.hold (txDescOf b).addr (txDescOf b).len ∧ headersAgree fr (txDescOf b) = true) ∧
    (∃ s : State, ∃ e : Fin 2, ∃ frame : List Byte, ∃ q : Nat, ∃ a : Nat, ∃ k : Nat, RegsOk s ∧ s.ethLive e = true ∧
      60 ≤ frame.length ∧ frame.length ≤ 9596 ∧ (rxInfo frame).etype ≠ 0x8808 ∧ s.rxMatch e frame = some q ∧
      s.qState e q = 1 ∧ s.rxHeld e q < (s.qSize e q : Int) ∧
      16 + frame.length ≤ 2 ^ s.qFld q (F.ETH_Q_FMT_BUF_LOG2 e) ∧ s.fcMode e = 0 ∧ a =
      (s.qBase e q + 2 ^ s.qFld q (F.ETH_Q_FMT_BUF_LOG2 e) * (s.qK e q % s.qSize e q)) ∧ s.mayWrite ⟨s.qFn e q, none,
      false⟩ a (16 + frame.length) = true ∧ s.clearingIn a (16 + frame.length) = false ∧
      s.poisonedIn a (16 + frame.length) = false ∧ s.markSet (s.qParcel e q) (s.qCtx e q) = some k) ∧
    (∃ s : State, ∃ e : Fin 2, ∃ frame : List Byte, RegsOk s ∧ s.ethLive e = true ∧ 60 ≤ frame.length ∧
      frame.length ≤ 9596 ∧ (rxInfo frame).etype ≠ 0x8808) ∧
    (∃ s : State, ∃ e : Fin 2, ∃ frame : List Byte, RegsOk s ∧ s.ethLive e = true ∧ 60 ≤ frame.length ∧
      frame.length ≤ 9596 ∧ (rxInfo frame).etype ≠ 0x8808 ∧ s.rxMatch e frame = none) :=
  ⟨⟨at_ethQueueEnable, .pf0, 0, 127, by decide +kernel, by decide +kernel, by decide +kernel, by decide +kernel,
      by decide +kernel, by decide +kernel, by decide +kernel⟩,
    ⟨at_ethQueueDisable, .pf0, 0, 127, by decide +kernel, by decide +kernel, by decide +kernel, by decide +kernel,
      by decide +kernel⟩,
    ⟨at_ethTxDescriptor, 0, 5, 0, memRead (at_ethTxDescriptor).hold 0x1000 16,
      memRead (at_ethTxDescriptor).hold 0x9000 60, by decide +kernel, by decide +kernel, by decide +kernel,
      by decide +kernel, by decide +kernel, by decide +kernel, by decide +kernel, by decide +kernel,
      by decide +kernel, by decide +kernel, rfl, by decide +kernel, by decide +kernel, by decide +kernel,
      by decide +kernel, by decide +kernel, by decide +kernel⟩,
    ⟨at_ethFrameReceive, 0, frame 8 0, 64, 0x1000, 0, by decide +kernel, by decide +kernel, by decide +kernel,
      by decide +kernel, by decide +kernel, by decide +kernel, by decide +kernel, by decide +kernel,
      by decide +kernel, by decide +kernel, by decide +kernel, by decide +kernel, by decide +kernel,
      by decide +kernel, by decide +kernel⟩,
    ⟨at_ethFrameReceive_2, 0, frame 8 0, by decide +kernel, by decide +kernel, by decide +kernel, by decide +kernel,
      by decide +kernel⟩,
    ⟨(ethernet 64 1), 0, frame 8 0, by decide +kernel, by decide +kernel, by decide +kernel, by decide +kernel,
      by decide +kernel, by decide +kernel⟩⟩

def at_ethPauseRelease : State :=
  (((ethernet 64 1).setFld (F.ETH_PORT_CFG_FC_MODE 0) 1).setFld (F.ETH_PORT_STATUS_RX_PAUSED 0) 255)

def at_pauseRefresh : State :=
  { (((ethernet 64 1).setFld (F.ETH_PORT_CFG_FC_MODE 0) 1).setFld (F.ETH_PORT_STATUS_RX_PAUSED 0) 255) with eth := [(0, { refreshAt := some 7 })] }

def at_macControlReceive : State :=
  ((ethernet 64 1).setFld (F.ETH_PORT_CFG_FC_MODE 0) 1)

def at_macControlReceive_2 : State :=
  ((ethernet 64 1).setFld (F.ETH_PORT_CFG_FC_MODE 0) 1)

def at_pauseTimerExpiry : State :=
  { State.reset with eth := [(1, { timers := [(7, 9)] })] }

theorem test_meets_ethernet_flow_control_pauses_and_releases :
    (∃ s : State, ∃ e : Fin 2, ∃ m : Nat, RegsOk s ∧ s.ethLive e = true ∧ s.fcMode e ≠ 0 ∧ m =
      s.fld (F.ETH_PORT_STATUS_RX_PAUSED e) ∧ m ≠ 0 ∧ (∀ p < 8, s.mayRelease e p = true)) ∧
    (∃ s : State, ∃ e : Fin 2, ∃ m : Nat, ∃ at0 : Nat, RegsOk s ∧ s.ethLive e = true ∧ s.fcMode e ≠ 0 ∧ m =
      s.fld (F.ETH_PORT_STATUS_RX_PAUSED e) ∧ m ≠ 0 ∧ (s.ethPort e).refreshAt = some at0) ∧
    (∃ s : State, ∃ e : Fin 2, ∃ frame : List Byte, ∃ z : Nat, RegsOk s ∧ s.ethLive e = true ∧ s.fcMode e = 1 ∧
      (rxInfo frame).etype = 0x8808 ∧ frame.length = 60 ∧ sliceB frame 0 6 = controlMac ∧ beAt frame 14 2 = 1 ∧ z =
      beAt frame 16 2) ∧
    (∃ s : State, ∃ e : Fin 2, ∃ frame : List Byte, RegsOk s ∧ s.ethLive e = true ∧ (rxInfo frame).etype = 0x8808) ∧
    (∃ s : State, ∃ e : Fin 2, ∃ prio : Fin 8, ∃ at0 : Nat, RegsOk s ∧ amGet (s.ethPort e).timers prio = some at0) ∧
    (∃ s : State, ∃ e : Fin 2, RegsOk s ∧ s.ethExists e = true ∧ s.fld (F.ETH_PORT_STATUS_LINK_UP e) = 1) ∧
    (∃ s : State, ∃ e : Fin 2, RegsOk s ∧ s.ethExists e = true ∧ s.up 8 = true ∧ s.fld (F.ETH_PORT_CFG_ENABLE e) = 1 ∧
      s.fcMode e = 0) :=
  ⟨⟨at_ethPauseRelease, 0, 255, by decide +kernel, by decide +kernel, by decide +kernel, by decide +kernel,
      by decide +kernel, by decide +kernel⟩,
    ⟨at_pauseRefresh, 0, 255, 7, by decide +kernel, by decide +kernel, by decide +kernel, by decide +kernel,
      by decide +kernel, by decide +kernel⟩,
    ⟨at_macControlReceive, 0,
      controlMac ++ (frame 0x88 8).drop 6 |>.take 14 |> (· ++ [0, 1, 0, 9] ++ List.replicate 42 0), 9,
      by decide +kernel, by decide +kernel, by decide +kernel, by decide +kernel, by decide +kernel,
      by decide +kernel, by decide +kernel, by decide +kernel⟩,
    ⟨at_macControlReceive_2, 0, frame 0x88 8, by decide +kernel, by decide +kernel, by decide +kernel⟩,
    ⟨at_pauseTimerExpiry, 1, 7, 9, by decide +kernel, by decide +kernel⟩,
    ⟨ethernet 0 0, 0, by decide +kernel, by decide +kernel, by decide +kernel⟩,
    ⟨(ethernet 0 0).setFld F.RST_STATE_STEP 9, 0, by decide +kernel, by decide +kernel, by decide +kernel,
      by decide +kernel, by decide +kernel⟩⟩

def at_groupSetDefine : State :=
  (let s := (held [(0, 0x60), (26, 1), (28, 0x1000), (32, 0x8000), (36, 64), (40, 1)]).setRd Reg.FAB_STATION 0x10000; { s with hold := [] })

def at_groupSetFree : State :=
  (let s := (held [(0, 0x60), (24, 16)]).setRd Reg.FAB_STATION 0x10000; { s with coll := { groups := [(0, { members := [(0, 0)], w := 1, grid := 64, stage := 0x8000, digest := 5 })] } })

def at_allReduce : State :=
  (let s := (held [(0, 0x61), (28, 0x1000), (32, 0x2000), (36, 2), (40, 0x3000)]).setRd Reg.FAB_STATION 0x10000; { s with coll := { groups := [(0, { members := [(0, 0), (16, 0)], w := 2, grid := 64, stage := 0x8000, digest := 5 })] } })

def at_allReduce_2 : State :=
  (let s := (held [(0, 0x61), (28, 0x1000), (32, 0x2000), (36, 2), (40, 0x3000)]).setRd Reg.FAB_STATION 0x10000; { s with coll := { groups := [(0, { members := [(0, 0)], w := 1, grid := 64, stage := 0x8000, digest := 5 })] }, hold := memWrite [] 0x1000 [0, 0, 0x80, 0x3F, 9] })

def at_collCount : State :=
  (let s := (held []).setRd Reg.FAB_STATION 0x10000; { s with coll := { groups := [(0, { members := [(0, 0), (256, 0)], w := 1, grid := 64, stage := 0x8000, digest := 5 })] } })

def at_collPart : State :=
  (let s := (held []).setRd Reg.FAB_STATION 0x10000; { s with coll := { groups := [(0, { members := [(0, 0), (256, 0)], w := 1, grid := 64, stage := 0x8000, digest := 5 })] } })

def at_collResult : State :=
  (let s := (held []).setRd Reg.FAB_STATION 0x10000; { s with coll := { groups := [(0, { members := [(0, 0), (256, 0)], w := 1, grid := 64, stage := 0x8000, digest := 5 })], ops := [(0, { seq := 0, exchanged := true })] } })

def at_collAbort : State :=
  (let s := (held []).setRd Reg.FAB_STATION 0x10000; { s with coll := { groups := [(0, { members := [(0, 0), (256, 0)], w := 1, grid := 64, stage := 0x8000, digest := 5 })] } })

def at_legTimeout : State :=
  (let s := (held []).setRd Reg.FAB_STATION 0x10000; { s with coll := { groups := [(0, { members := [(0, 0)], w := 1, grid := 64, stage := 0x8000, digest := 5 })], ops := [(0, { seq := 0, deadline := some 9 })] } })

def at_colAbortClr : State :=
  { State.reset with own := { owner := 1 } }

theorem test_meets_collectives_follow_their_steps :
    (∃ s : State, ∃ n : Parcel, ∃ id : Nat, ∃ d : Desc, ∃ l : List (Nat × Nat), ∃ g : GroupRec, ∃ reg : Region,
      RegsOk s ∧ (s.runningPart n (fun d => d.opcode == 0x60 && d.id == id && !(groupOp d n).free) = some d) ∧
      d.spec = false ∧ groupSetOk d n = true ∧ s.fld F.FAB_STATION_VALID = 1 ∧
      s.group (groupKey n d.ctx (groupOp d n).gidx) = none ∧ s.coll.groups.length < 1024 ∧
      Clear s d [((groupOp d n).list, 8 * (groupOp d n).nmemb)] [] [] ∧
      memberList (memRead s.hold (groupOp d n).list (8 * (groupOp d n).nmemb)) (groupOp d n).nmemb = some l ∧ g =
      { members := l, w := (groupOp d n).w, grid := (groupOp d n).grid, stage := (groupOp d n).stage, digest := crc32 (memRead s.hold (groupOp d n).list (8 * (groupOp d n).nmemb) ++ leBytes 4 (groupOp d n).grid ++ leBytes 4 (groupOp d n).w) } ∧
      g.sound (s.station n) d.ctx = true ∧ reg = g.stageReg ((g.legOf (s.station n)).getD 0) ∧ regionIn n reg = true ∧
      s.mayWrite (s.who d) reg.1 reg.2 = true) ∧
    (∃ s : State, ∃ n : Parcel, ∃ id : Nat, ∃ d : Desc, RegsOk s ∧ (s.runningPart n (fun d =>
      d.opcode == 0x60 && d.id == id && (groupOp d n).free) = some d) ∧ d.spec = false ∧ groupSetOk d n = true ∧
      s.fld F.FAB_STATION_VALID = 1 ∧ ((s.runningPart n (fun x =>
      x.opcode == 0x61 && x.ctx == d.ctx && (reduceOp x n).gidx == (groupOp d n).gidx)) = none)) ∧
    (∃ s : State, ∃ n : Parcel, ∃ id : Nat, ∃ d : Desc, ∃ r : ReduceOp, ∃ g : GroupRec, ∃ rank : Nat, ∃ o : LegOp,
      RegsOk s ∧ (s.runningPart n (fun d => d.opcode == 0x61 && d.id == id) = some d) ∧ r = reduceOp d n ∧
      s.group (groupKey n d.ctx r.gidx) = some g ∧ g.rankOf (s.station n) = some rank ∧ o =
      s.legOp g (rank / g.w) r.gidx g.opSeq ∧ amGet o.started rank = none ∧ (g.aborts.find? (fun a =>
      a.seq == g.opSeq) = none) ∧ r.ok n g.grid (g.stageReg (rank / g.w)) = true ∧
      Clear s d [r.srcReg] (r.dstReg g.grid :: r.noutReg) [] ∧
      (amSet o.started rank id).length ≠ g.legSize (rank / g.w)) ∧
    (∃ s : State, ∃ n : Parcel, ∃ id : Nat, ∃ d : Desc, ∃ r : ReduceOp, ∃ g : GroupRec, RegsOk s ∧
      (s.runningPart n (fun d => d.opcode == 0x61 && d.id == id) = some d) ∧ s.desc id = some d ∧ r = reduceOp d n ∧
      s.group (groupKey n d.ctx r.gidx) = some g ∧ g.members = [(s.station n, d.ctx)] ∧ 1 ≤ g.w ∧
      amGet s.coll.ops (opKey g 0 r.gidx g.opSeq) = none ∧ (g.aborts.find? (fun a => a.seq == g.opSeq) = none) ∧
      r.ok n g.grid (g.stageReg 0) = true ∧ Clear s d [r.srcReg] (r.dstReg g.grid :: r.noutReg) [] ∧
      s.poisonedIn (g.stageReg 0).1 (g.stageReg 0).2 = false ∧ s.poisonedIn (r.dstReg g.grid).1 (r.dstReg g.grid).2 =
      false ∧ (∀ x ∈ r.noutReg, s.poisonedIn x.1 x.2 = false)) ∧
    (∃ s : State, ∃ p : Packet, ∃ g : GroupRec, ∃ leg : Nat, ∃ src : Nat, ∃ q : Nat, RegsOk s ∧ p.ptype = 0x11 ∧
      p.opx.toNat / 16 % 4 = 0 ∧ s.fld F.PWR_STATUS_STATE = 0 ∧ s.collAccept p = some (g, leg, src, q) ∧
      (s.legOp g leg (p.opx.toNat % 16) q).exchanged = false) ∧
    (∃ s : State, ∃ p : Packet, ∃ g : GroupRec, ∃ leg : Nat, ∃ src : Nat, ∃ q : Nat, ∃ o : LegOp, ∃ lo : Nat,
      ∃ k : Nat, RegsOk s ∧ p.ptype = 0x10 ∧ p.opx.toNat / 16 % 4 = 0 ∧ s.fld F.PWR_STATUS_STATE = 0 ∧
      s.collAccept p = some (g, leg, src, q) ∧ o = s.legOp g leg (p.opx.toNat % 16) q ∧ o.exchanged = false ∧ lo =
      g.sliceLo leg + ((g.rankOf p.dst.toNat).getD 0) % g.w * g.runLen leg ∧ lo ≤ p.addr.toNat ∧ k =
      min (p.payload.length / 4) (min (lo + g.runLen leg) (g.sliceHi leg) - p.addr.toNat) ∧ 0 < k ∧ (src,
      p.addr.toNat, k) ∉ o.got) ∧
    (∃ s : State, ∃ p : Packet, ∃ g : GroupRec, ∃ leg : Nat, ∃ src : Nat, ∃ q : Nat, ∃ o : LegOp, ∃ sz : Nat,
      RegsOk s ∧ p.ptype = 0x10 ∧ p.opx.toNat / 16 % 4 = 1 ∧ s.fld F.PWR_STATUS_STATE = 0 ∧ s.collAccept p = some (g,
      leg, src, q) ∧ o = s.legOp g leg (p.opx.toNat % 16) q ∧ o.exchanged = true ∧ o.counts = [] ∧
      g.sliceLo src ≤ p.addr.toNat ∧ p.addr.toNat < g.sliceHi src ∧ p.addr.toNat ∉ o.results.map (·.1) ∧
      p.addr.toNat ∉ o.written.map (·.1) ∧ sz = (match s.legMembers g leg o with | m :: _ => m.2.2.osz | [] => 4)) ∧
    (∃ s : State, ∃ p : Packet, ∃ g : GroupRec, ∃ leg : Nat, ∃ src : Nat, ∃ q : Nat, RegsOk s ∧ p.ptype = 0x11 ∧
      p.opx.toNat / 16 % 4 = 1 ∧ s.fld F.PWR_STATUS_STATE = 0 ∧ s.collAccept p = some (g, leg, src, q)) ∧
    (∃ s : State, ∃ p : Packet, RegsOk s ∧ p.ptype = 0x11 ∧ p.opx.toNat / 16 % 4 = 0 ∧ s.fld F.PWR_STATUS_STATE = 0 ∧
      s.collAccept p = none) ∧
    (∃ s : State, ∃ n : Parcel, ∃ c : Fin 4096, ∃ gi : Fin 16, ∃ g : GroupRec, ∃ leg : Nat, ∃ at0 : Nat, RegsOk s ∧
      s.group (groupKey n c gi) = some g ∧ g.legOf (s.station n) = some leg ∧ (s.legOp g leg gi g.opSeq).deadline =
      some at0) ∧
    (∃ s : State, ∃ path : Path, ∃ v : Word, RegsOk s ∧ s.mayRwl path = true ∧ bitAt v.toNat 0 = true) :=
  ⟨⟨at_groupSetDefine, 0, 1, desc1 at_groupSetDefine, [(0, 0)],
      { members := [(0, 0)], w := (groupOp (desc1 at_groupSetDefine) (0 : Parcel)).w, grid := (groupOp (desc1 at_groupSetDefine) (0 : Parcel)).grid, stage := (groupOp (desc1 at_groupSetDefine) (0 : Parcel)).stage, digest := crc32 (memRead (at_groupSetDefine).hold (groupOp (desc1 at_groupSetDefine) (0 : Parcel)).list (8 * (groupOp (desc1 at_groupSetDefine) (0 : Parcel)).nmemb) ++ leBytes 4 (groupOp (desc1 at_groupSetDefine) (0 : Parcel)).grid ++ leBytes 4 (groupOp (desc1 at_groupSetDefine) (0 : Parcel)).w) },
      (0x8000, 512), by decide +kernel, by decide +kernel, by decide +kernel, by decide +kernel, by decide +kernel,
      by decide +kernel, by decide +kernel, by decide +kernel, by decide +kernel, rfl, by decide +kernel,
      by decide +kernel, by decide +kernel, by decide +kernel⟩,
    ⟨at_groupSetFree, 0, 1, desc1 at_groupSetFree, by decide +kernel, by decide +kernel, by decide +kernel,
      by decide +kernel, by decide +kernel, by decide +kernel⟩,
    ⟨at_allReduce, 0, 1, desc1 at_allReduce, reduceOp (desc1 at_allReduce) (0 : Parcel),
      { members := [(0, 0), (16, 0)], w := 2, grid := 64, stage := 0x8000, digest := 5 }, 0, { seq := 0 },
      by decide +kernel, by decide +kernel, by decide +kernel, by decide +kernel, by decide +kernel,
      by decide +kernel, by decide +kernel, by decide +kernel, by decide +kernel, by decide +kernel,
      by decide +kernel⟩,
    ⟨at_allReduce_2, 0, 1, desc1 at_allReduce_2, reduceOp (desc1 at_allReduce_2) (0 : Parcel),
      { members := [(0, 0)], w := 1, grid := 64, stage := 0x8000, digest := 5 }, by decide +kernel, by decide +kernel,
      by decide +kernel, by decide +kernel, by decide +kernel, by decide +kernel, by decide +kernel,
      by decide +kernel, by decide +kernel, by decide +kernel, by decide +kernel, by decide +kernel,
      by decide +kernel, by decide +kernel⟩,
    ⟨at_collCount, { ptype := 0x11, src := 256, opx := 0, addr := 0, payload := List.replicate 32 1 },
      { members := [(0, 0), (256, 0)], w := 1, grid := 64, stage := 0x8000, digest := 5 }, 0, 1, 0, by decide +kernel,
      by decide +kernel, by decide +kernel, by decide +kernel, by decide +kernel, by decide +kernel⟩,
    ⟨at_collPart, { ptype := 0x10, src := 256, opx := 0, addr := 3, payload := List.replicate 32 1 },
      { members := [(0, 0), (256, 0)], w := 1, grid := 64, stage := 0x8000, digest := 5 }, 0, 1, 0, { seq := 0 }, 0,
      8, by decide +kernel, by decide +kernel, by decide +kernel, by decide +kernel, by decide +kernel,
      by decide +kernel, by decide +kernel, by decide +kernel, by decide +kernel, by decide +kernel,
      by decide +kernel, by decide +kernel⟩,
    ⟨at_collResult, { ptype := 0x10, src := 256, opx := 16, addr := 40, payload := List.replicate 32 1 },
      { members := [(0, 0), (256, 0)], w := 1, grid := 64, stage := 0x8000, digest := 5 }, 0, 1, 0,
      { seq := 0, exchanged := true }, 4, by decide +kernel, by decide +kernel, by decide +kernel, by decide +kernel,
      by decide +kernel, by decide +kernel, by decide +kernel, by decide +kernel, by decide +kernel,
      by decide +kernel, by decide +kernel, by decide +kernel, by decide +kernel⟩,
    ⟨at_collAbort, { ptype := 0x11, src := 256, opx := 16, addr := 0, payload := List.replicate 32 1 },
      { members := [(0, 0), (256, 0)], w := 1, grid := 64, stage := 0x8000, digest := 5 }, 0, 1, 0, by decide +kernel,
      by decide +kernel, by decide +kernel, by decide +kernel, by decide +kernel⟩,
    ⟨bound, { ptype := 0x11 }, by decide +kernel, by decide +kernel, by decide +kernel, by decide +kernel,
      by decide +kernel⟩,
    ⟨at_legTimeout, 0, 0, 0, { members := [(0, 0)], w := 1, grid := 64, stage := 0x8000, digest := 5 }, 0, 9,
      by decide +kernel, by decide +kernel, by decide +kernel, by decide +kernel⟩,
    ⟨at_colAbortClr, .pf0, 1#32, by decide +kernel, by decide +kernel, by decide +kernel⟩⟩

def at_gwOpen : State :=
  { (gangway [] [] [(0, 0x50), (28, 0x1000), (32, 0x2000), (36, 1), (40, 5)]) with hold := memWrite [] 0x1000 gwParams }

def at_gwJoin : State :=
  ((gangway [] [] [(0, 0x51), (32, 0x3000), (36, 7), (37, 2)]).setRd (Reg.HLD_PLOT_OWNER 0 7) 1).setRd (Reg.HLD_PLOT_OWNER 0 8) 1

def at_gwLeave : State :=
  gangway [] [(0, { req := 0, home := 0, homeCtx := 0 })] [(0, 0x51), (24, 64)]

def at_gwTree : State :=
  gangway [(0, request)] [] [(0, 0x52), (2, 1), (36, 0x50000)]

def at_gwTreeRepair : State :=
  gangway [(0, { request with st := 4 })] [] [(0, 0x52), (2, 1), (25, 8), (36, 0x50000)]

def at_gwAccept : State :=
  { (gangway [(0, { request with openEpoch := 1 })] [] [(0, 0x53), (2, 1), (28, 0x60000), (32, 0x70000), (36, 1), (40, 0x50000)]) with hold := memWrite (memWrite (memWrite (memWrite [] 0x60000 ((treeBlock [⟨1, none, 0, oneHot, 0⟩] 1 0 5).take 80)) 0x60440 [1]) 0x60540 [5]) 0x60640 [1] }

def at_gwCommit : State :=
  gangway [(0, { request with openEpoch := 1, latch := some ⟨1, [0, 2], [3, 2]⟩ })] [] [(0, 0x54), (25, 1), (28, 0x50000)]

def at_gwDiscard : State :=
  gangway [(0, { request with openEpoch := 1 })] [] [(0, 0x55), (25, 1), (28, 0x50000)]

def at_gwClose : State :=
  gangway [(0, { request with openEpoch := 1 })] [] [(0, 0x56)]

def at_gwyErrClr : State :=
  { State.reset with own := { owner := 1 } }

theorem test_meets_gangway_operators_run_their_round :
    (∃ s : State, ∃ n : Parcel, ∃ id : Nat, ∃ d : Desc, ∃ g : GwOpenOp, ∃ b : List Byte, RegsOk s ∧
      (s.runningPart n (fun d => d.opcode == 0x50 && d.id == id) = some d) ∧ g = gwOpenOp d n ∧
      s.gwReq (gwKey n g.req) = none ∧ Clear s d [(g.param, 64), (g.key, 24)] [] [] ∧ b = memRead s.hold g.param 64 ∧
      paramsOk b n (fnVectors (s.ctxFn d.ctx)) = true ∧ g.tok < pVocab b ∧ g.pos < 2097152 ∧
      s.ownedClear (s.ctxFn d.ctx) (pNgBase b) (if pNgram b then 64 * 2 ^ pNgLog2 b else 0) = true ∧
      s.ownedClear (s.ctxFn d.ctx) (pEgrBase b) (4 * pEgrTokens b) = true) ∧
    (∃ s : State, ∃ n : Parcel, ∃ id : Nat, ∃ d : Desc, ∃ g : GwJoinOp, ∃ l : List Nat, RegsOk s ∧
      (s.runningPart n (fun d => d.opcode == 0x51 && d.id == id) = some d) ∧ g = gwJoinOp d n ∧ g.leave = false ∧
      s.gwBind (bindKey n d.ctx) = none ∧ ((s.gw.binds.filter fun e => e.1 / 4096 == n.val).length < 256) ∧
      g.plot + g.plots ≤ 96 ∧ (∀ i < g.plots, s.plotKind (n * 128 + g.plot + i) = 1 ∧
      s.plotOwner (n * 128 + g.plot + i) = s.ctxFn d.ctx ∧ s.plotReaders (n * 128 + g.plot + i) = false ∧
      s.scratchOf (n * 128 + g.plot + i) = none) ∧ Clear s d (if g.nstreams =
      0 then [] else [(g.streams, 4 * g.nstreams)]) [] [] ∧ (l = (List.range g.nstreams).map fun i =>
      leAt (memRead s.hold g.streams (4 * g.nstreams)) (4 * i) 4) ∧ (∀ a ∈ l, a % 64 = 0 ∧ inParcel n a = true ∧
      (streamRec a (memRead s.hold a 64)).ok n = true ∧ Clear s d [(a, 64)] [] [])) ∧
    (∃ s : State, ∃ n : Parcel, ∃ id : Nat, ∃ d : Desc, ∃ g : GwJoinOp, ∃ b : GwBind, RegsOk s ∧
      (s.runningPart n (fun d => d.opcode == 0x51 && d.id == id) = some d) ∧ g = gwJoinOp d n ∧ g.leave = true ∧
      s.gwBind (bindKey n d.ctx) = some b ∧ b.leaving = false) ∧
    (∃ s : State, ∃ n : Parcel, ∃ id : Nat, ∃ d : Desc, ∃ g : GwTreeOp, ∃ r : GwReq, ∃ dl : List Cand,
      ∃ nl : List Cand, ∃ hl : List Cand, ∃ a : Nat, ∃ tree : List Node, RegsOk s ∧ (s.runningPart n (fun d =>
      d.opcode == 0x52 && d.id == id) = some d) ∧ g = gwTreeOp d n ∧ g.repair = false ∧
      (s.treeGate d (gwKey n g.req) false).toOption = some r ∧
      (if !g.useDraft || g.draftN == 0 then some [] else candidates (memRead s.hold g.draft (16 * g.draftN)) g.draftN (pVocab r.params)) =
      some dl ∧
      (if !g.useHost || g.hostN == 0 then some [] else candidates (memRead s.hold g.host (16 * g.hostN)) g.hostN (pVocab r.params)) =
      some hl ∧
      Clear s d ((if !g.useDraft || g.draftN == 0 then [] else [(g.draft, 16 * g.draftN)]) ++ (if !g.useHost || g.hostN == 0 then [] else [(g.host, 16 * g.hostN)])) [(g.out, 2112)] [] ∧
      s.poisonedIn g.out 2112 = false ∧ ((g.useNgram = false ∧ nl = []) ∨ (g.useNgram = true ∧ pNgram r.params =
      true ∧ nl = ngChain (memRead s.hold a 64) (ngKey r.hist (pNgN r.params)) ∧ (∀ c ∈ nl, c.tok < pVocab r.params) ∧
      s.mayRead { s.who d with spec := false } a 64 = true ∧ s.clearingIn a 64 = false ∧ s.poisonedIn a 64 = false)) ∧
      a = pNgBase r.params + 64 * ngBucket (ngKey r.hist (pNgN r.params)) (pNgLog2 r.params) ∧ tree.length ≤ 64 ∧
      tree = buildTree r.rootTok (pMaxNodes r.params) (pMaxDepth r.params) [(1, dl), (2, nl), (3, hl)]) ∧
    (∃ s : State, ∃ n : Parcel, ∃ id : Nat, ∃ d : Desc, ∃ g : GwTreeOp, ∃ r : GwReq, ∃ path : GwPath, RegsOk s ∧
      (s.runningPart n (fun d => d.opcode == 0x52 && d.id == id) = some d) ∧ g = gwTreeOp d n ∧ g.repair = true ∧
      (s.treeGate d (gwKey n g.req) true).toOption = some r ∧ Clear s d [] [(g.out, 2112)] [] ∧
      s.poisonedIn g.out 2112 = false ∧ path = r.path.getD ⟨[r.rootTok], r.rootPos⟩ ∧ path.toks.length ≤ 64 ∧
      r.members = []) ∧
    (∃ s : State, ∃ n : Parcel, ∃ id : Nat, ∃ d : Desc, ∃ g : GwAcceptOp, ∃ r : GwReq, ∃ tree : List Node,
      ∃ y : List Nat × List Nat, RegsOk s ∧ (s.runningPart n (fun d => d.opcode == 0x53 && d.id == id) = some d) ∧ g =
      gwAcceptOp d n ∧ s.gwReq (gwKey n g.req) = some r ∧ r.st ≠ 5 ∧ r.ctx = d.ctx ∧ r.openEpoch ≠ 0 ∧ d.epoch =
      r.openEpoch ∧ Clear s d [(g.tree, 2112)] [(g.result, 128)] [] ∧ s.poisonedIn g.result 128 = false ∧
      leAt (memRead s.hold g.tree 2112) 2 1 = r.openEpoch ∧ pVocab r.params ≤ 4 * g.stride ∧
      parseTree (memRead s.hold g.tree 2112) = some tree ∧
      (if r.repair then some (some (List.range (min 16 tree.length),
      ([] : List Nat))) else ((cleanCtx n d).walk { params := r.params, key := r.key, nonce := r.nonce, rootPos := r.rootPos, tree := tree, logits := g.logits, stride := g.stride } 16 0 [0] [] s).1.toOption) =
      some (some y)) ∧
    (∃ s : State, ∃ n : Parcel, ∃ id : Nat, ∃ d : Desc, ∃ g : GwEndOp, ∃ r : GwReq, ∃ x : GwLatch, RegsOk s ∧
      (s.runningPart n (fun d => d.opcode == 0x54 && d.id == id) = some d) ∧ g = gwEndOp d n ∧
      s.gwReq (gwKey n g.req) = some r ∧ r.st ≠ 5 ∧ r.ctx = d.ctx ∧ r.openEpoch ≠ 0 ∧ g.epoch = r.openEpoch ∧
      r.members = [] ∧ s.acceptPending n g.req g.epoch = false ∧ r.latch = some x ∧ r.repair = false ∧
      pReliefEn r.params = false ∧ (∀ p ∈ plotsOf g.report 64, s.scratchOf p = none) ∧
      Clear s d [] [(g.report, 64)] [] ∧ s.poisonedIn g.report 64 = false) ∧
    (∃ s : State, ∃ n : Parcel, ∃ id : Nat, ∃ d : Desc, ∃ g : GwEndOp, ∃ r : GwReq, RegsOk s ∧
      (s.runningPart n (fun d => d.opcode == 0x55 && d.id == id) = some d) ∧ g = gwEndOp d n ∧
      s.gwReq (gwKey n g.req) = some r ∧ r.st ≠ 5 ∧ r.ctx = d.ctx ∧ r.openEpoch ≠ 0 ∧ g.epoch = r.openEpoch ∧
      r.endDesc = none ∧ r.treeDesc = none ∧ r.members = [] ∧ (∀ p ∈ plotsOf g.report 64, s.scratchOf p = none) ∧
      Clear s d [] [(g.report, 64)] [] ∧ s.poisonedIn g.report 64 = false) ∧
    (∃ s : State, ∃ n : Parcel, ∃ id : Nat, ∃ d : Desc, ∃ g : GwEndOp, ∃ r : GwReq, RegsOk s ∧
      (s.runningPart n (fun d => d.opcode == 0x56 && d.id == id) = some d) ∧ g = gwEndOp d n ∧
      s.gwReq (gwKey n g.req) = some r ∧ r.st ≠ 6 ∧ r.ctx = d.ctx ∧ r.treeDesc = none ∧ r.members = [] ∧ (g.drain =
      false ∨ r.buf = [])) ∧
    (∃ s : State, ∃ path : Path, ∃ n : Parcel, ∃ v : Word, RegsOk s ∧ s.mayRwl path = true ∧ bitAt v.toNat 0 = true) :=
  ⟨⟨at_gwOpen, 0, 1, desc1 at_gwOpen, gwOpenOp (desc1 at_gwOpen) (0 : Parcel), gwParams, by decide +kernel,
      by decide +kernel, rfl, by decide +kernel, by decide +kernel, rfl, by decide +kernel, by decide +kernel,
      by decide +kernel, by decide +kernel, by decide +kernel⟩,
    ⟨at_gwJoin, 0, 1, desc1 at_gwJoin, gwJoinOp (desc1 at_gwJoin) (0 : Parcel), [], by decide +kernel,
      by decide +kernel, rfl, by decide +kernel, by decide +kernel, by decide +kernel, by decide +kernel,
      by decide +kernel, by decide +kernel, by decide +kernel, by decide +kernel⟩,
    ⟨at_gwLeave, 0, 1, desc1 at_gwLeave, gwJoinOp (desc1 at_gwLeave) (0 : Parcel),
      { req := 0, home := 0, homeCtx := 0 }, by decide +kernel, by decide +kernel, rfl, by decide +kernel,
      by decide +kernel, by decide +kernel⟩,
    ⟨at_gwTree, 0, 1, desc1 at_gwTree, gwTreeOp (desc1 at_gwTree) (0 : Parcel), request, [], [], [],
      pNgBase request.params + 64 * ngBucket (ngKey request.hist (pNgN request.params)) (pNgLog2 request.params),
      [⟨1, none, 0, oneHot, 0⟩], by decide +kernel, by decide +kernel, rfl, by decide +kernel, by decide +kernel,
      by decide +kernel, by decide +kernel, by decide +kernel, by decide +kernel, by decide +kernel,
      by decide +kernel, by decide +kernel, by decide +kernel⟩,
    ⟨at_gwTreeRepair, 0, 1, desc1 at_gwTreeRepair, gwTreeOp (desc1 at_gwTreeRepair) (0 : Parcel),
      { request with st := 4 }, ⟨[1], 5⟩, by decide +kernel, by decide +kernel, rfl, by decide +kernel,
      by decide +kernel, by decide +kernel, by decide +kernel, by decide +kernel, by decide +kernel,
      by decide +kernel⟩,
    ⟨at_gwAccept, 0, 1, desc1 at_gwAccept, gwAcceptOp (desc1 at_gwAccept) (0 : Parcel),
      { request with openEpoch := 1 }, [⟨1, none, 0, oneHot, 0⟩], ([0], [0]), by decide +kernel, by decide +kernel,
      rfl, by decide +kernel, by decide +kernel, by decide +kernel, by decide +kernel, by decide +kernel,
      by decide +kernel, by decide +kernel, by decide +kernel, by decide +kernel, by decide +kernel,
      by decide +kernel⟩,
    ⟨at_gwCommit, 0, 1, desc1 at_gwCommit, gwEndOp (desc1 at_gwCommit) (0 : Parcel),
      { request with openEpoch := 1, latch := some ⟨1, [0, 2], [3, 2]⟩ }, ⟨1, [0, 2], [3, 2]⟩, by decide +kernel,
      by decide +kernel, rfl, by decide +kernel, by decide +kernel, by decide +kernel, by decide +kernel,
      by decide +kernel, by decide +kernel, by decide +kernel, by decide +kernel, by decide +kernel,
      by decide +kernel, by decide +kernel, by decide +kernel, by decide +kernel⟩,
    ⟨at_gwDiscard, 0, 1, desc1 at_gwDiscard, gwEndOp (desc1 at_gwDiscard) (0 : Parcel),
      { request with openEpoch := 1 }, by decide +kernel, by decide +kernel, rfl, by decide +kernel,
      by decide +kernel, by decide +kernel, by decide +kernel, by decide +kernel, by decide +kernel,
      by decide +kernel, by decide +kernel, by decide +kernel, by decide +kernel, by decide +kernel⟩,
    ⟨at_gwClose, 0, 1, desc1 at_gwClose, gwEndOp (desc1 at_gwClose) (0 : Parcel), { request with openEpoch := 1 },
      by decide +kernel, by decide +kernel, rfl, by decide +kernel, by decide +kernel, by decide +kernel,
      by decide +kernel, by decide +kernel, by decide +kernel⟩,
    ⟨at_gwyErrClr, .pf0, 11, 1#32, by decide +kernel, by decide +kernel, by decide +kernel⟩⟩

def at_openNotice : State :=
  gangway [] [(0, { req := 0, home := 0, homeCtx := 0, bound := true })] []

def at_applyNotice : State :=
  gangway [] [(0, { req := 0, home := 0, homeCtx := 0, bound := true })] []

def at_discardNotice : State :=
  gangway [] [(0, { req := 0, home := 0, homeCtx := 0, bound := true })] []

def at_rollbackNotice : State :=
  gangway [] [(0, { req := 0, home := 0, homeCtx := 0, bound := true })] []

def at_leaveNotice : State :=
  gangway [] [(0, { req := 0, home := 0, homeCtx := 0, bound := true })] []

def at_joinAck : State :=
  gangway [] [(0, { req := 0, home := 0, homeCtx := 0, joinDesc := some 1 })] [(0, 0x51)]

def at_ackNotice : State :=
  gangway [(0, { request with members := [member 3], treeDesc := some 1 })] [] [(0, 0x52)]

def at_applyTimeout : State :=
  gangway [(0, { request with members := [member 4] })] [] []

def at_responseReceive : State :=
  { (bound) with seq := { bound.seq with reqs := [{ txn := 5, parcel := 0, desc := 1, packet := { ptype := 2 }, deadline := 9 }] } }

def at_responseTimeout : State :=
  { (bound) with seq := { bound.seq with reqs := [{ txn := 5, parcel := 0, desc := 1, packet := { ptype := 2 }, deadline := 9 }] } }

def at_egressDelivery : State :=
  gangway [(0, { request with started := true, buf := [⟨3, none⟩] })] [] []

def at_egressDelivery_2 : State :=
  gangway [(0, { request with started := true })] [] []

theorem test_meets_notices_and_delivery_keep_the_gangway_in_step :
    (∃ s : State, ∃ p : Packet, ∃ n : Nat, ∃ c : Nat, ∃ x : Notice, ∃ b : GwBind, RegsOk s ∧ n = pkParcel p ∧ c =
      p.dstCtx.toNat ∧ x = noticeOf p ∧ InTurn s p K_OPEN b) ∧
    (∃ s : State, ∃ p : Packet, ∃ n : Nat, ∃ c : Nat, ∃ x : Notice, ∃ b : GwBind, ∃ saved : List (Nat × Nat),
      ∃ y : Nat × State, RegsOk s ∧ n = pkParcel p ∧ c = p.dstCtx.toNat ∧ x = noticeOf p ∧ InTurn s p K_APPLY b ∧
      s.specRunning n c = false ∧ saved =
      ((({ n := n, d := memberDesc c, errs := [], terrs := [], pager := true } : KvCtx).commitAll x.arg x.epoch x.nodes b.streams [] (s.setGwBind (bindKey n c) (turned p b))).1.toOption).getD [] ∧
      (({ n := n, d := memberDesc c, errs := [], terrs := [], pager := true } : KvCtx).commitAll x.arg x.epoch x.nodes b.streams [] (s.setGwBind (bindKey n c) (turned p b))).1.toOption ≠ none ∧
      y =
      (((({ n := n, d := memberDesc c, errs := [], terrs := [], pager := true } : KvCtx).commitAll x.arg x.epoch x.nodes b.streams [] (s.setGwBind (bindKey n c) (turned p b))).2).setGwBind (bindKey n c) { turned p b with openEpoch := 0, lastEpoch := x.epoch, saved := saved }).releaseHeld (bindKey n c) false ∧
      s.journalBinding n (s.ctxTag c) = none) ∧
    (∃ s : State, ∃ p : Packet, ∃ n : Nat, ∃ c : Nat, ∃ x : Notice, ∃ b : GwBind, ∃ y : Nat × State, RegsOk s ∧ n =
      pkParcel p ∧ c = p.dstCtx.toNat ∧ x = noticeOf p ∧ InTurn s p K_DISCARD b ∧ s.specRunning n c = false ∧ y =
      ((s.setGwBind (bindKey n c) { turned p b with openEpoch := 0, lastEpoch := x.epoch }).dropDeferred n c).releaseHeld (bindKey n c) true ∧
      (({ n := n, d := memberDesc c, errs := [], terrs := [], pager := true } : KvCtx).commitAll 0 x.epoch [] b.streams [] y.2).1.toOption ≠ none) ∧
    (∃ s : State, ∃ p : Packet, ∃ n : Nat, ∃ c : Nat, ∃ x : Notice, ∃ b : GwBind, RegsOk s ∧ n = pkParcel p ∧ c =
      p.dstCtx.toNat ∧ x = noticeOf p ∧ InTurn s p K_ROLLBACK b ∧ b.saved = []) ∧
    (∃ s : State, ∃ p : Packet, ∃ n : Nat, ∃ c : Nat, ∃ x : Notice, ∃ b : GwBind, RegsOk s ∧ n = pkParcel p ∧ c =
      p.dstCtx.toNat ∧ x = noticeOf p ∧ InTurn s p K_LEAVE b) ∧
    (∃ s : State, ∃ p : Packet, ∃ n : Nat, ∃ x : Notice, ∃ key : Nat, ∃ r : GwReq, RegsOk s ∧ n = pkParcel p ∧ x =
      noticeOf p ∧ key = gwKey n (p.addr.toNat % 64) ∧ s.noticeStatus p K_JOIN = Status.OK ∧ s.gwReq key = some r ∧
      x.arg = 0 ∧ r.ctx = p.dstCtx.toNat ∧ s.ctxTag r.ctx = p.jobTag.toNat ∧ r.st ≠ 6 ∧ r.members.length < 256) ∧
    (∃ s : State, ∃ p : Packet, ∃ n : Nat, ∃ c : Nat, ∃ x : Notice, ∃ b : GwBind, ∃ id : Nat, RegsOk s ∧ n =
      pkParcel p ∧ c = p.dstCtx.toNat ∧ x = noticeOf p ∧ s.noticeStatus p K_JOIN_ACK = Status.OK ∧
      s.gwBind (bindKey n c) = some b ∧ b.leaving = false ∧ b.bound = false ∧ x.result = 0 ∧ b.joinDesc = some id) ∧
    (∃ s : State, ∃ p : Packet, ∃ n : Nat, ∃ x : Notice, ∃ key : Nat, ∃ r : GwReq, ∃ r2 : GwReq, RegsOk s ∧ n =
      pkParcel p ∧ x = noticeOf p ∧ key = gwKey n (p.addr.toNat % 64) ∧ s.noticeStatus p K_ACK = Status.OK ∧
      s.gwReq key = some r ∧ olderGen x.gen r.gen = false ∧ x.arg = K_OPEN ∧ x.result = 0 ∧ ((r.members.any fun m =>
      m.station == p.src.toNat && m.ctx == p.srcCtx.toNat && m.pend.any fun q =>
      q.nseq == x.nseq && q.kind == x.arg) = true) ∧ (r2 = r.updMember p.src.toNat p.srcCtx.toNat fun m =>
      { m with pend := m.pend.filter fun q => !(q.nseq == x.nseq) }) ∧ r2.waitsFor K_OPEN = false) ∧
    (∃ s : State, ∃ n : Parcel, ∃ slot : Fin 64, ∃ r : GwReq, ∃ m : GwMember, ∃ q : GwPend, ∃ at0 : Nat, RegsOk s ∧
      s.gwReq (gwKey n slot) = some r ∧ r.members = [m] ∧ m.pend = [q] ∧ q.deadline = some at0) ∧
    (∃ s : State, ∃ p : Packet, ∃ r : OutReq, RegsOk s ∧ s.requestOf p = some r ∧ r.packet.ptype = 2 ∧ s.gw.waiting =
      [] ∧ s.fld F.PWR_STATUS_STATE = 0) ∧
    (∃ s : State, ∃ p : Packet, RegsOk s ∧ s.requestOf p = none ∧ p.ptype = 4) ∧
    (∃ s : State, ∃ txn : BitVec 16, ∃ r : OutReq, RegsOk s ∧ (s.seq.reqs.find? (fun r => r.txn == txn.toNat) =
      some r) ∧ r.packet.ptype = 2 ∧ s.gw.waiting = []) :=
  ⟨⟨at_openNotice, notice K_OPEN { epoch := 7 }, 0, 0, noticeOf (notice K_OPEN { epoch := 7 }),
      { req := 0, home := 0, homeCtx := 0, bound := true }, by decide +kernel, by decide +kernel, rfl,
      by decide +kernel, by decide +kernel⟩,
    ⟨at_applyNotice, notice K_APPLY { epoch := 7 }, 0, 0, noticeOf (notice K_APPLY { epoch := 7 }),
      { req := 0, home := 0, homeCtx := 0, bound := true }, [],
      ((at_applyNotice).setGwBind 0 { ({ req := 0, home := 0, homeCtx := 0, bound := true } : GwBind) with expect := 1, lastEpoch := 7 }).releaseHeld 0 false,
      by decide +kernel, by decide +kernel, rfl, by decide +kernel, by decide +kernel, by decide +kernel,
      by decide +kernel, by decide +kernel, by decide +kernel, by decide +kernel⟩,
    ⟨at_discardNotice, notice K_DISCARD { epoch := 7 }, 0, 0, noticeOf (notice K_DISCARD { epoch := 7 }),
      { req := 0, home := 0, homeCtx := 0, bound := true },
      (((at_discardNotice).setGwBind 0 { ({ req := 0, home := 0, homeCtx := 0, bound := true } : GwBind) with expect := 1, lastEpoch := 7 }).dropDeferred 0 0).releaseHeld 0 true,
      by decide +kernel, by decide +kernel, rfl, by decide +kernel, by decide +kernel, by decide +kernel,
      by decide +kernel, by decide +kernel⟩,
    ⟨at_rollbackNotice, notice K_ROLLBACK { epoch := 7 }, 0, 0, noticeOf (notice K_ROLLBACK { epoch := 7 }),
      { req := 0, home := 0, homeCtx := 0, bound := true }, by decide +kernel, by decide +kernel, rfl,
      by decide +kernel, by decide +kernel, by decide +kernel⟩,
    ⟨at_leaveNotice, notice K_LEAVE {}, 0, 0, noticeOf (notice K_LEAVE {}),
      { req := 0, home := 0, homeCtx := 0, bound := true }, by decide +kernel, by decide +kernel, rfl,
      by decide +kernel, by decide +kernel⟩,
    ⟨gangway [(0, request)] [] [], notice K_JOIN {}, 0, noticeOf (notice K_JOIN {}), 0, request, by decide +kernel,
      by decide +kernel, by decide +kernel, by decide +kernel, by decide +kernel, by decide +kernel,
      by decide +kernel, by decide +kernel, by decide +kernel, by decide +kernel, by decide +kernel⟩,
    ⟨at_joinAck, notice K_JOIN_ACK {}, 0, 0, noticeOf (notice K_JOIN_ACK {}),
      { req := 0, home := 0, homeCtx := 0, joinDesc := some 1 }, 1, by decide +kernel, by decide +kernel, rfl,
      by decide +kernel, by decide +kernel, by decide +kernel, by decide +kernel, by decide +kernel,
      by decide +kernel, by decide +kernel⟩,
    ⟨at_ackNotice, notice K_ACK { arg := 3 }, 0, noticeOf (notice K_ACK { arg := 3 }), 0,
      { request with members := [member 3], treeDesc := some 1 },
      { request with members := [{ station := 0, ctx := 0 }], treeDesc := some 1 }, by decide +kernel,
      by decide +kernel, by decide +kernel, by decide +kernel, by decide +kernel, by decide +kernel,
      by decide +kernel, by decide +kernel, by decide +kernel, by decide +kernel, by decide +kernel,
      by decide +kernel⟩,
    ⟨at_applyTimeout, 0, 0, { request with members := [member 4] }, member 4,
      { kind := 4, nseq := 0, deadline := some 9 }, 9, by decide +kernel, by decide +kernel, by decide +kernel,
      by decide +kernel, by decide +kernel⟩,
    ⟨at_responseReceive, { ptype := 4, txn := 5 },
      { txn := 5, parcel := 0, desc := 1, packet := { ptype := 2 }, deadline := 9 }, by decide +kernel,
      by decide +kernel, by decide +kernel, by decide +kernel, by decide +kernel⟩,
    ⟨State.reset, { ptype := 4 }, by decide +kernel, by decide +kernel, by decide +kernel⟩,
    ⟨at_responseTimeout, 5, { txn := 5, parcel := 0, desc := 1, packet := { ptype := 2 }, deadline := 9 },
      by decide +kernel, by decide +kernel, by decide +kernel, by decide +kernel⟩⟩

theorem test_meets_notices_and_delivery_keep_the_gangway_in_step_2 :
    (∃ s : State, ∃ n : Parcel, ∃ slot : Fin 64, ∃ r : GwReq, ∃ v : State, ∃ k : GwTok, RegsOk s ∧
      s.gwReq (gwKey n slot) = some r ∧ r.started = true ∧ r.owed = false ∧ r.st = 1 ∧ s.inService n = true ∧
      (s.fn (s.ctxFn r.ctx)).enabled = true ∧ v = s.advanceFab r.nextAt ∧ r.nextAt ≤ v.fabTime ∧
      v.fabTime ≤ r.nextAt + pCadence r.params ∧ r.buf.head? = some k ∧ k.wait = none ∧
      (r.index + 2 ^ 32 - r.consumed) % 2 ^ 32 < 2 ^ pOutLog2 r.params ∧ (s.fn (s.ctxFn r.ctx)).bme = true ∧
      pIrqLog2 r.params = 255) ∧
    (∃ s : State, ∃ n : Parcel, ∃ slot : Fin 64, ∃ r : GwReq, RegsOk s ∧ s.gwReq (gwKey n slot) = some r ∧ r.started =
      true ∧ r.owed = false ∧ r.st = 1 ∧ s.inService n = true ∧ (s.fn (s.ctxFn r.ctx)).enabled = true ∧
      r.nextAt ≤ s.fabTime ∧ r.buf = []) ∧
    (∃ s : State, ∃ fn : Fin 1024, ∃ n : Parcel, ∃ slot : Fin 64, ∃ v : Word, ∃ r : GwReq, RegsOk s ∧
      (s.fn fn).enabled = true ∧ s.gwReq (gwKey n slot) = some r ∧ s.ctxFn r.ctx = fn.val) :=
  ⟨⟨at_egressDelivery, 0, 0, { request with started := true, buf := [⟨3, none⟩] }, (at_egressDelivery).advanceFab 0,
      ⟨3, none⟩, by decide +kernel, by decide +kernel, by decide +kernel, by decide +kernel, by decide +kernel,
      by decide +kernel, by decide +kernel, rfl, by decide +kernel, by decide +kernel, by decide +kernel,
      by decide +kernel, by decide +kernel, by decide +kernel, by decide +kernel⟩,
    ⟨at_egressDelivery_2, 0, 0, { request with started := true }, by decide +kernel, by decide +kernel,
      by decide +kernel, by decide +kernel, by decide +kernel, by decide +kernel, by decide +kernel,
      by decide +kernel, by decide +kernel⟩,
    ⟨gangway [(0, request)] [] [], 0, 0, 0, 9, request, by decide +kernel, by decide +kernel, by decide +kernel,
      by decide +kernel⟩⟩

def at_fwuBegin : State :=
  ({ State.reset with own := { owner := 1 } }).setFld F.FWU_PKG_LEN_BYTES 512

def at_fwuBlock : State :=
  (((({ State.reset with own := { owner := 1 }, host := { State.reset.host with fns := [(0, { enabled := true, bme := true })] }, fwu := { pkgLen := 600 } } : State).setFld F.FWU_STATUS_STATE 1).setFld F.FWU_STATUS_KIND 2).setFld F.FWU_BLK_LEN_LEN 600)

def at_hostReadCompletion : State :=
  ((({ State.reset with own := { owner := 1 }, host := { State.reset.host with reads := [{ id := 7, fn := 0, addr := 0, len := 600, why := .firmware }] }, fwu := { pkgLen := 600, reading := some (.pf0, 0) } } : State).setFld F.FWU_STATUS_STATE 1).setFld F.FWU_STATUS_KIND 2)

def at_fwuVerify : State :=
  ((({ State.reset with own := { owner := 1 } } : State).setFld F.FWU_STATUS_STATE 1).setFld F.FWU_STATUS_KIND 2).setFld F.FWU_STATUS_ALL_RCVD 1

def at_fwuActivate : State :=
  ((({ State.reset with own := { owner := 1 } } : State).setFld F.FWU_STATUS_STATE 3).setFld F.FWU_STATUS_KIND 2)

def at_fwuActivate_2 : State :=
  (((({ State.reset with own := { owner := 1 } } : State).setFld F.FWU_STATUS_STATE 3).setFld F.FWU_STATUS_KIND 2).setRd64 Reg.FWU_ACT_TIME_LO 5)

def at_scheduledActivation : State :=
  ((({ State.reset with own := { owner := 1 }, fabRunning := true, fwu := { actTime := 9 } } : State).setFld F.FWU_STATUS_STATE 4).setFld F.FWU_STATUS_KIND 2)

def at_fwuAbort : State :=
  ((({ State.reset with own := { owner := 1 } } : State).setFld F.FWU_STATUS_STATE 4).setFld F.FWU_STATUS_KIND 2)

def at_fwuSwitch : State :=
  ((({ State.reset with own := { owner := 1 }, fwu := { valid := [5] } } : State).setFld F.FWU_STATUS_STATE 0).setFld F.FWU_STATUS_KIND 0)

theorem test_meets_update_sessions_stage_and_activate :
    (∃ s : State, ∃ path : Path, ∃ kind : Fin 8, RegsOk s ∧ s.fwuAllowed path = true ∧ s.fwuState = 0 ∧ 1 ≤ kind.val ∧
      kind.val ≤ 4 ∧ 512 ≤ s.fld F.FWU_PKG_LEN_BYTES ∧ s.fld F.FWU_PKG_LEN_BYTES ≤ 16777216 ∧
      s.actRec.trial.getD (kind.val - 1) false = false) ∧
    (∃ s : State, ∃ path : Path, ∃ v : Nat, RegsOk s ∧ s.fwuAllowed path = true ∧ s.fwuState = 1 ∧ s.fwu.reading =
      none ∧ v = s.fld F.FWU_BLK_OFF_OFF / 65536 ∧ s.blockOk = true ∧ bitAt s.rcvdUnits v = false ∧
      (∀ x ∈ s.host.reads, x.why ≠ .firmware) ∧ (s.fn 0).enabled = true ∧ s.hostWaits 0 = false) ∧
    (∃ s : State, ∃ id : Nat, ∃ b : List Byte, ∃ r : HostRd, ∃ path : Path, ∃ v : Nat, RegsOk s ∧
      (s.host.reads.find? (fun r => r.id == id) = some r) ∧ r.why = .firmware ∧ s.fwu.reading = some (path, v) ∧
      v < 256) ∧
    (∃ s : State, ∃ path : Path, ∃ norOk : Bool, ∃ c : Nat, RegsOk s ∧ s.fwuAllowed path = true ∧ s.fwuState = 1 ∧
      s.fld F.FWU_STATUS_ALL_RCVD = 1 ∧ c = 2 * s.fwuKind + s.targetSlot s.fwuKind ∧ s.fwuKind ≤ 3) ∧
    (∃ s : State, ∃ path : Path, RegsOk s ∧ s.fwuAllowed path = true ∧ s.fwuState = 3 ∧ s.privileged s.fwuKind = 0 ∧
      s.fwuKind ≤ 3 ∧ s.rst.recovery = false ∧ s.rd64 Reg.FWU_ACT_TIME_LO ≤ s.fabTime ∧ s.nv.pfHold = false ∧
      s.nv.waiting = []) ∧
    (∃ s : State, ∃ path : Path, ∃ resetOnAct : Bool, RegsOk s ∧ s.fwuAllowed path = true ∧ s.fwuState = 3 ∧
      s.rst.recovery = false ∧ s.fabTime < s.rd64 Reg.FWU_ACT_TIME_LO) ∧
    (∃ s : State, RegsOk s ∧ s.fwuState = 4 ∧ s.fabRunning = true ∧
      s.fwu.actTime ≤ (s.advanceTo (s.mclk + ceilDiv (s.fwu.actTime - s.fabTime) 4)).fabTime ∧
      s.privileged s.fwuKind = 0 ∧ s.fwuKind ≤ 2 ∧ s.fwu.resetOnAct = false ∧ s.rst.recovery = false ∧ s.nv.pfHold =
      false ∧ s.nv.waiting = []) ∧
    (∃ s : State, ∃ path : Path, RegsOk s ∧ s.fwuAllowed path = true ∧ 1 ≤ s.fwuState ∧ s.fwuState ≤ 4) ∧
    (∃ s : State, ∃ path : Path, ∃ kind : Fin 8, RegsOk s ∧ s.fwuAllowed path = true ∧ s.fwuState = 0 ∧ 1 ≤ kind.val ∧
      kind.val ≤ 3 ∧ 2 * kind + s.targetSlot kind ∈ s.fwu.valid ∧ s.privileged kind = 0 ∧ s.nv.pfHold = false ∧
      s.nv.waiting = []) ∧
    (∃ s : State, ∃ v : Word, RegsOk s ∧ bitAt v.toNat 0 = true ∧ s.nv.pfHold = false ∧ s.nv.waiting = []) :=
  ⟨⟨at_fwuBegin, .pf0, 2, by decide +kernel, by decide +kernel, by decide +kernel, by decide +kernel,
      by decide +kernel, by decide +kernel, by decide +kernel, by decide +kernel⟩,
    ⟨at_fwuBlock, .pf0, 0, by decide +kernel, by decide +kernel, by decide +kernel, by decide +kernel, rfl,
      by decide +kernel, by decide +kernel, by decide +kernel, by decide +kernel, by decide +kernel⟩,
    ⟨at_hostReadCompletion, 7, [1, 2], { id := 7, fn := 0, addr := 0, len := 600, why := .firmware }, .pf0, 0,
      by decide +kernel, by decide +kernel, by decide +kernel, by decide +kernel, by decide +kernel⟩,
    ⟨at_fwuVerify, .pf0, true, 5, by decide +kernel, by decide +kernel, by decide +kernel, by decide +kernel, rfl,
      by decide +kernel⟩,
    ⟨at_fwuActivate, .pf0, by decide +kernel, by decide +kernel, by decide +kernel, by decide +kernel,
      by decide +kernel, by decide +kernel, by decide +kernel, by decide +kernel, by decide +kernel⟩,
    ⟨at_fwuActivate_2, .pf0, true, by decide +kernel, by decide +kernel, by decide +kernel, by decide +kernel,
      by decide +kernel⟩,
    ⟨at_scheduledActivation, by decide +kernel, by decide +kernel, by decide +kernel, by decide +kernel,
      by decide +kernel, by decide +kernel, by decide +kernel, by decide +kernel, by decide +kernel,
      by decide +kernel⟩,
    ⟨at_fwuAbort, .pf0, by decide +kernel, by decide +kernel, by decide +kernel, by decide +kernel⟩,
    ⟨at_fwuSwitch, .pf0, 2, by decide +kernel, by decide +kernel, by decide +kernel, by decide +kernel,
      by decide +kernel, by decide +kernel, by decide +kernel, by decide +kernel, by decide +kernel⟩,
    ⟨State.reset, 1#32, by decide +kernel, by decide +kernel, by decide +kernel, by decide +kernel⟩⟩

def at_compact : State :=
  { State.reset with own := { owner := 1 } }

def at_compactionDone : State :=
  { State.reset with nv := { State.reset.nv with compacting := true } }

def at_pwrFailRise : State :=
  { State.reset with nv := { State.reset.nv with pfHold := true } }

def at_hostReadCompletion_2 : State :=
  { (owned (running [0] [(0, 0x20), (40, 3), (44, 3)])) with host := { State.reset.host with reads := [{ id := 7, fn := 0, addr := 0, len := 3, why := .copy 0 1 }] } }

def at_hostReadCompletion_3 : State :=
  { (owned (running [0] [(0, 0x20), (40, 3), (44, 3)])) with host := { State.reset.host with reads := [{ id := 7, fn := 0, addr := 0, len := 3, why := .copy 0 1 }] } }

def at_hostReadTimeout : State :=
  { (owned (running [0] [(0, 0x20), (40, 3), (44, 3)])) with host := { State.reset.host with reads := [{ id := 7, fn := 0, addr := 0, len := 3, why := .copy 0 1 }] } }

theorem test_meets_nv_store_and_host_reads_end :
    (∃ s : State, ∃ path : Path, RegsOk s ∧ s.mayRwl path = true) ∧
    (∃ s : State, ∃ i : Nat, RegsOk s ∧ s.nv.inForce = some i ∧ s.nv.compacting = true ∧ s.nv.pfHold = false ∧
      s.nv.waiting = []) ∧
    (∃ s : State, RegsOk s ∧ s.nv.waiting = []) ∧
    (∃ s : State, ∃ id : Nat, ∃ b : List Byte, ∃ r : HostRd, ∃ n : Nat, ∃ i : Nat, ∃ d : Desc, ∃ c : CopyOp,
      ∃ off : Nat, ∃ len : Nat, RegsOk s ∧ (s.host.reads.find? (fun r => r.id == id) = some r) ∧ r.why = .copy n i ∧
      (s.runningPart n (fun d => d.id == i) = some d) ∧ c = copyOp d n ∧ (off, len) = c.slice d.repl n ∧ r.len = len ∧
      b.length = len ∧ c.dk ≤ 2 ∧ s.firstBad c.dk (c.dst + off) len = none) ∧
    (∃ s : State, ∃ id : Nat, ∃ r : HostRd, ∃ n : Nat, ∃ i : Nat, RegsOk s ∧ (s.host.reads.find? (fun r =>
      r.id == id) = some r) ∧ r.why = .copy n i ∧ s.fld F.HIF_ERR_INFO_VALID = 0 ∧ r.fn < 1024) ∧
    (∃ s : State, ∃ id : Nat, ∃ r : HostRd, ∃ n : Nat, ∃ i : Nat, RegsOk s ∧ (s.host.reads.find? (fun r =>
      r.id == id) = some r) ∧ r.why = .copy n i ∧ s.fld F.HIF_ERR_INFO_VALID = 0 ∧ r.fn < 1024) :=
  ⟨⟨at_compact, .pf0, by decide +kernel, by decide +kernel⟩,
    ⟨at_compactionDone, 0, by decide +kernel, by decide +kernel, by decide +kernel, by decide +kernel,
      by decide +kernel⟩,
    ⟨at_pwrFailRise, by decide +kernel, by decide +kernel⟩,
    ⟨at_hostReadCompletion_2, 7, [1, 2, 3], { id := 7, fn := 0, addr := 0, len := 3, why := .copy 0 1 }, 0, 1,
      desc1 at_hostReadCompletion_2, copyOp (desc1 at_hostReadCompletion_2) 0, 0, 3, by decide +kernel,
      by decide +kernel, by decide +kernel, by decide +kernel, rfl, by decide +kernel, by decide +kernel,
      by decide +kernel, by decide +kernel, by decide +kernel⟩,
    ⟨at_hostReadCompletion_3, 7, { id := 7, fn := 0, addr := 0, len := 3, why := .copy 0 1 }, 0, 1, by decide +kernel,
      by decide +kernel, by decide +kernel, by decide +kernel, by decide +kernel⟩,
    ⟨at_hostReadTimeout, 7, { id := 7, fn := 0, addr := 0, len := 3, why := .copy 0 1 }, 0, 1, by decide +kernel,
      by decide +kernel, by decide +kernel, by decide +kernel, by decide +kernel⟩⟩

def at_underway : State :=
  ({ State.reset with own := { owner := 1 } } : State).setFld F.PWR_STATUS_STATE 1

def at_underway_2 : State :=
  ({ State.reset with own := { owner := 1 } } : State).setFld F.PWR_STATUS_STATE 2

def at_underway_3 : State :=
  { State.reset with own := { owner := 1 } }

def at_moored : State :=
  { State.reset with own := { owner := 1 } }

def at_laidUp : State :=
  { State.reset with own := { owner := 1 } }

def at_pwrOff : State :=
  { State.reset with own := { owner := 1 } }

def at_entryAnswer : State :=
  { State.reset with pwr := { block := 2, asked := [0] } }

def at_entryAnswer_2 : State :=
  { ((State.reset.setFld (F.REC_PARCEL_STATE_STATE 3) 0).setBit F.PWR_STATUS_LOGIC_READY) with pwr := { block := 4, asked := [3] } }

def at_entryAnswer_3 : State :=
  { ((gangway [(0, { request with openEpoch := 1 })] [] []).setBit F.PWR_STATUS_LOGIC_READY) with pwr := { block := 1, asked := [0], path := some .pf0 } }

def at_entryReask : State :=
  { State.reset with pwr := { busy := [(3, 9)] } }

def at_entryTimeout : State :=
  { State.reset with pwr := { block := 4, limit := some 9, path := some .pf0 } }

def at_entryCommit : State :=
  { State.reset with pwr := { block := 11, target := 1, path := some .pf0 } }

def at_entryCommit_2 : State :=
  { State.reset with pwr := { block := 11, target := 2, path := some .pf0 } }

def at_entryCommit_3 : State :=
  { State.reset with pwr := { block := 11, target := 3 } }

theorem test_meets_power_commands_and_entries_proceed :
    (∃ s : State, ∃ path : Path, RegsOk s ∧ s.mayRwl path = true ∧ s.safe = false ∧ s.fld F.PWR_STATUS_BUSY = 0 ∧
      s.fld F.PWR_STATUS_STATE = 1) ∧
    (∃ s : State, ∃ path : Path, RegsOk s ∧ s.mayRwl path = true ∧ s.safe = false ∧ s.fld F.PWR_STATUS_BUSY = 0 ∧
      s.fld F.PWR_STATUS_STATE = 2) ∧
    (∃ s : State, ∃ path : Path, RegsOk s ∧ s.mayRwl path = true ∧ s.safe = false ∧ s.fld F.PWR_STATUS_BUSY = 0 ∧
      s.fld F.PWR_STATUS_STATE = 0) ∧
    (∃ s : State, ∃ path : Path, RegsOk s ∧ s.mayRwl path = true ∧ s.safe = false ∧ s.fld F.PWR_STATUS_BUSY = 0 ∧
      s.fld F.PWR_STATUS_STATE = 0) ∧
    (∃ s : State, ∃ path : Path, RegsOk s ∧ s.mayRwl path = true ∧ s.safe = false ∧ s.fld F.PWR_STATUS_BUSY = 0 ∧
      s.fld F.PWR_STATUS_STATE = 0) ∧
    (∃ s : State, ∃ path : Path, RegsOk s ∧ s.mayRwl path = true ∧ s.safe = false ∧ s.fld F.PWR_STATUS_BUSY = 0 ∧
      s.fld F.PWR_STATUS_STATE = 0) ∧
    (∃ s : State, ∃ b : Fin 11, ∃ n : Parcel, ∃ transfer : Bool, RegsOk s ∧ s.pwr.block = b.val ∧ b ≠ 0 ∧
      n.val ∈ s.pwr.asked ∧ s.entryAnswer b n transfer = .grant) ∧
    (∃ s : State, ∃ b : Fin 11, ∃ n : Parcel, ∃ transfer : Bool, RegsOk s ∧ s.pwr.block = b.val ∧ b ≠ 0 ∧
      n.val ∈ s.pwr.asked ∧ s.entryAnswer b n transfer = .busy) ∧
    (∃ s : State, ∃ b : Fin 11, ∃ n : Parcel, ∃ transfer : Bool, ∃ c : Nat, ∃ path : Path, RegsOk s ∧ s.pwr.block =
      b.val ∧ b ≠ 0 ∧ n.val ∈ s.pwr.asked ∧ s.entryAnswer b n transfer = .refuse c ∧ s.pwr.path = some path) ∧
    (∃ s : State, ∃ n : Parcel, ∃ at0 : Nat, RegsOk s ∧ amGet s.pwr.busy n = some at0) ∧
    (∃ s : State, ∃ at0 : Nat, ∃ path : Path, RegsOk s ∧ s.pwr.block ≠ 0 ∧ s.pwr.block ≠ 11 ∧ s.pwr.limit = some at0 ∧
      s.pwr.path = some path) ∧
    (∃ s : State, ∃ path : Path, RegsOk s ∧ s.pwr.block = 11 ∧ s.pwr.target = 1 ∧ s.pwr.path = some path) :=
  ⟨⟨at_underway, .pf0, by decide +kernel, by decide +kernel, by decide +kernel, by decide +kernel, by decide +kernel⟩,
    ⟨at_underway_2, .pf0, by decide +kernel, by decide +kernel, by decide +kernel, by decide +kernel,
      by decide +kernel⟩,
    ⟨at_underway_3, .pf0, by decide +kernel, by decide +kernel, by decide +kernel, by decide +kernel,
      by decide +kernel⟩,
    ⟨at_moored, .pf0, by decide +kernel, by decide +kernel, by decide +kernel, by decide +kernel, by decide +kernel⟩,
    ⟨at_laidUp, .pf0, by decide +kernel, by decide +kernel, by decide +kernel, by decide +kernel, by decide +kernel⟩,
    ⟨at_pwrOff, .pf0, by decide +kernel, by decide +kernel, by decide +kernel, by decide +kernel, by decide +kernel⟩,
    ⟨at_entryAnswer, 2, 0, false, by decide +kernel, by decide +kernel, by decide +kernel, by decide +kernel,
      by decide +kernel⟩,
    ⟨at_entryAnswer_2, 4, 3, true, by decide +kernel, by decide +kernel, by decide +kernel, by decide +kernel,
      by decide +kernel⟩,
    ⟨at_entryAnswer_3, 1, 0, false, 1, .pf0, by decide +kernel, by decide +kernel, by decide +kernel,
      by decide +kernel, by decide +kernel, by decide +kernel⟩,
    ⟨at_entryReask, 3, 9, by decide +kernel, by decide +kernel⟩,
    ⟨at_entryTimeout, 9, .pf0, by decide +kernel, by decide +kernel, by decide +kernel, by decide +kernel,
      by decide +kernel⟩,
    ⟨at_entryCommit, .pf0, by decide +kernel, by decide +kernel, by decide +kernel, by decide +kernel⟩⟩

theorem test_meets_power_commands_and_entries_proceed_2 :
    (∃ s : State, ∃ path : Path, RegsOk s ∧ s.pwr.block = 11 ∧ s.pwr.target = 2 ∧ s.pwr.path = some path) ∧
    (∃ s : State, RegsOk s ∧ s.pwr.block = 11 ∧ s.pwr.target = 3) :=
  ⟨⟨at_entryCommit_2, .pf0, by decide +kernel, by decide +kernel, by decide +kernel, by decide +kernel⟩,
    ⟨at_entryCommit_3, by decide +kernel, by decide +kernel, by decide +kernel⟩⟩

def at_wakeEvent : State :=
  (State.reset.setFld F.PWR_STATUS_STATE 2).setRd Reg.PWR_WAKE_EN 7

def at_wakeEvent_2 : State :=
  (State.reset.setFld F.PWR_STATUS_STATE 2).setRd Reg.PWR_WAKE_EN 0

def at_wakeStep : State :=
  { State.reset with pwr := { wake := 2 } }

def at_wakeStep_2 : State :=
  { State.reset with pwr := { wake := 4 } }

def at_wakeStep_3 : State :=
  ({ State.reset with pwr := { wake := 5 } } : State).setBit F.PWR_IMAGE_VALID

def at_wakeStep_4 : State :=
  { State.reset with pwr := { wake := 6, path := some .pf0 } }

def at_padRelease : State :=
  ((({ State.reset with own := { owner := 1 } } : State).setBit F.PWR_STATUS_LOGIC_READY).setBit F.PWR_STATUS_PADS_HELD).setFld F.BRU_STATUS_TRAIN 2

def at_padRelease_2 : State :=
  ({ State.reset with own := { owner := 1 } } : State).setFld F.PWR_STATUS_LOGIC_READY 0

def at_parcelDownAccess : State :=
  State.reset.setFld F.PWR_STATUS_LOGIC_READY 0

theorem test_meets_wakes_and_pads_proceed :
    (∃ s : State, ∃ n : Parcel, RegsOk s ∧ s.pwr.block = 0 ∧ s.safe = false ∧ s.pwr.wake = 0 ∧ s.pwr.off = false ∧
      s.fld F.PWR_STATUS_STATE = 2 ∧ s.wakeEnabled 4 = true) ∧
    (∃ s : State, ∃ cause : Fin 5, ∃ n : Parcel, RegsOk s ∧ (cause = 2 ∨ cause = 3 ∨ cause = 4) ∧ s.pwr.block = 0 ∧
      s.safe = false ∧ s.pwr.wake = 0 ∧ s.pwr.off = false ∧ s.fld F.PWR_STATUS_STATE = 2 ∧ s.wakeEnabled cause =
      false) ∧
    (∃ s : State, ∃ cause : Fin 5, ∃ n : Parcel, RegsOk s ∧ (cause = 2 ∨ cause = 3 ∨ cause = 4) ∧ s.pwr.block = 0 ∧
      s.safe = false ∧ s.pwr.wake = 0 ∧ s.pwr.off = false ∧ s.fld F.PWR_STATUS_STATE = 1 ∧ s.pwr.path = none) ∧
    (∃ s : State, ∃ imageOk : Bool, RegsOk s ∧ s.pwr.wake = 2) ∧
    (∃ s : State, ∃ imageOk : Bool, RegsOk s ∧ (s.pwr.wake = 3 ∨ s.pwr.wake = 4)) ∧
    (∃ s : State, RegsOk s ∧ s.pwr.wake = 5 ∧ s.fld F.PWR_IMAGE_VALID = 1) ∧
    (∃ s : State, ∃ imageOk : Bool, ∃ path : Path, RegsOk s ∧ s.pwr.wake = 6 ∧ s.pwr.path = some path) ∧
    (∃ s : State, ∃ path : Path, ∃ v : Word, RegsOk s ∧ s.mayRwl path = true ∧ bitAt v.toNat 0 = true ∧
      s.fld F.PWR_STATUS_LOGIC_READY = 1 ∧ s.fld F.PWR_STATUS_PADS_HELD = 1 ∧ s.fld F.BRU_STATUS_TRAIN = 2) ∧
    (∃ s : State, ∃ path : Path, ∃ v : Word, RegsOk s ∧ s.mayRwl path = true ∧ bitAt v.toNat 0 = true ∧
      s.fld F.PWR_STATUS_LOGIC_READY = 0) ∧
    (∃ s : State, ∃ path : Path, ∃ off : Nat, ∃ isRead : Bool, RegsOk s ∧ s.logicUp = false ∧ isParcelReg off = true) :=
  ⟨⟨at_wakeEvent, 3, by decide +kernel, by decide +kernel, by decide +kernel, by decide +kernel, by decide +kernel,
      by decide +kernel, by decide +kernel⟩,
    ⟨at_wakeEvent_2, 3, 3, by decide +kernel, by decide +kernel, by decide +kernel, by decide +kernel,
      by decide +kernel, by decide +kernel, by decide +kernel, by decide +kernel⟩,
    ⟨State.reset.setFld F.PWR_STATUS_STATE 1, 2, 3, by decide +kernel, by decide +kernel, by decide +kernel,
      by decide +kernel, by decide +kernel, by decide +kernel, by decide +kernel, by decide +kernel⟩,
    ⟨at_wakeStep, true, by decide +kernel, by decide +kernel⟩,
    ⟨at_wakeStep_2, true, by decide +kernel, by decide +kernel⟩,
    ⟨at_wakeStep_3, by decide +kernel, by decide +kernel, by decide +kernel⟩,
    ⟨at_wakeStep_4, true, .pf0, by decide +kernel, by decide +kernel, by decide +kernel⟩,
    ⟨at_padRelease, .pf0, 1#32, by decide +kernel, by decide +kernel, by decide +kernel, by decide +kernel,
      by decide +kernel, by decide +kernel⟩,
    ⟨at_padRelease_2, .pf0, 1#32, by decide +kernel, by decide +kernel, by decide +kernel, by decide +kernel⟩,
    ⟨at_parcelDownAccess, .pf0, 0x1000000, true, by decide +kernel, by decide +kernel, by decide +kernel⟩⟩

def at_refMeasure_3 : State :=
  ((State.reset.setFld F.RST_STATE_STEP 10).setBit F.CLK_STATUS_REF_OK)

def at_pllRelock : State :=
  ((State.reset.setFld F.RST_STATE_STEP 10).setBit F.CLK_STATUS_AOSC_MODE)

theorem test_meets_clocks_follow_the_reference :
    (∃ s : State, ∃ edges : BitVec 20, RegsOk s ∧ 5000 ≤ edges.toNat) ∧
    (∃ s : State, ∃ edges : BitVec 20, RegsOk s ∧ edges.toNat < 5000 ∧ s.fld F.CLK_STATUS_REF_OK = 0) ∧
    (∃ s : State, ∃ edges : BitVec 20, RegsOk s ∧ edges.toNat < 5000 ∧ s.fld F.CLK_STATUS_REF_OK = 1 ∧ s.up 3 = true ∧
      (∀ p < 20, s.linkUp p = false)) ∧
    (∃ s : State, RegsOk s ∧ s.fld F.CLK_STATUS_LOCKED = 1 ∧ (∀ p < 20, s.linkUp p = false)) ∧
    (∃ s : State, RegsOk s ∧ s.up 3 = true ∧ s.rst.thermtrip = false ∧ s.fld F.CLK_STATUS_AOSC_MODE = 1) ∧
    (∃ s : State, ∃ unit : Nat, RegsOk s ∧ s.up 10 = true) ∧
    (∃ s : State, ∃ unit : Nat, RegsOk s ∧ s.up 10 = false) :=
  ⟨⟨State.reset, 5000#20, by decide +kernel, by decide +kernel⟩,
    ⟨State.reset.setFld F.CLK_STATUS_REF_OK 0, 4999#20, by decide +kernel, by decide +kernel, by decide +kernel⟩,
    ⟨at_refMeasure_3, 0#20, by decide +kernel, by decide +kernel, by decide +kernel, by decide +kernel,
      by decide +kernel⟩,
    ⟨State.reset.setBit F.CLK_STATUS_LOCKED, by decide +kernel, by decide +kernel, by decide +kernel⟩,
    ⟨at_pllRelock, by decide +kernel, by decide +kernel, by decide +kernel, by decide +kernel⟩,
    ⟨(State.reset.setFld F.RST_STATE_STEP 10), 4, by decide +kernel, by decide +kernel⟩,
    ⟨State.reset, 4, by decide +kernel, by decide +kernel⟩⟩

def at_powerOn : State :=
  { State.reset with rst := { State.reset.rst with asserted := none } }

def at_perst : State :=
  { State.reset with rst := { State.reset.rst with asserted := none } }

def at_sysReset : State :=
  { State.reset with rst := { State.reset.rst with asserted := none } }

def at_resetDeasserted : State :=
  { State.reset with rst := { State.reset.rst with levels := [1, 2] } }

def at_rstGo : State :=
  { (State.reset.setFld F.RST_STATE_STEP 10) with rst := { State.reset.rst with asserted := none }, own := { owner := 1 } }

def at_watchdog : State :=
  { State.reset with rst := { State.reset.rst with asserted := none, wdt := some 9 } }

def at_wdtKick : State :=
  ((State.reset.setFld F.RST_STATE_STEP 10).setFld F.RST_WDT_CFG_EN 1)

def at_deviceResetAssert : State :=
  { State.reset with rst := { State.reset.rst with request := some 5 } }

def at_resetReleaseStep_2 : State :=
  ({ State.reset with rst := { State.reset.rst with asserted := none } } : State).setFld F.RST_STATE_STEP 9

theorem test_meets_device_resets_assert_and_release :
    (∃ s : State, RegsOk s ∧ s.rst.request = none ∧ s.rst.asserted = none ∧ s.rst.thermtrip = false) ∧
    (∃ s : State, RegsOk s ∧ s.rst.request = none ∧ s.rst.asserted = none ∧ s.rst.thermtrip = false) ∧
    (∃ s : State, RegsOk s ∧ s.rst.request = none ∧ s.rst.asserted = none ∧ s.rst.thermtrip = false) ∧
    (∃ s : State, ∃ source : Fin 4, RegsOk s) ∧
    (∃ s : State, ∃ path : Path, ∃ v : Word, RegsOk s ∧ s.mayRwl path = true ∧ bitAt v.toNat 0 = true ∧
      s.rst.request = none ∧ s.rst.asserted = none ∧ s.rst.thermtrip = false) ∧
    (∃ s : State, ∃ at0 : Nat, RegsOk s ∧ s.rst.wdt = some at0 ∧ s.rst.request = none ∧ s.rst.asserted = none ∧
      s.rst.thermtrip = false) ∧
    (∃ s : State, ∃ v : Word, RegsOk s ∧ bitAt v.toNat 0 = true ∧ s.up 3 = true ∧ s.fld F.RST_WDT_CFG_EN = 1) ∧
    (∃ s : State, ∃ path : Path, ∃ v : Word, RegsOk s ∧ path ≠ .mgmtCore) ∧
    (∃ s : State, ∃ c : Nat, RegsOk s ∧ s.rst.request = some c ∧ c ≠ 1) ∧
    (∃ s : State, ∃ ready : Bool, ∃ a : Nat, ∃ c : Nat, RegsOk s ∧ s.rst.request = none ∧ s.rst.asserted = some (a,
      c) ∧ s.rst.levels = []) ∧
    (∃ s : State, ∃ k : Nat, RegsOk s ∧ s.rst.request = none ∧ s.rst.asserted = none ∧ s.fld F.RST_STATE_STEP = k ∧
      1 ≤ k ∧ k < 10) :=
  ⟨⟨at_powerOn, by decide +kernel, by decide +kernel, by decide +kernel, by decide +kernel⟩,
    ⟨at_perst, by decide +kernel, by decide +kernel, by decide +kernel, by decide +kernel⟩,
    ⟨at_sysReset, by decide +kernel, by decide +kernel, by decide +kernel, by decide +kernel⟩,
    ⟨at_resetDeasserted, 2, by decide +kernel⟩,
    ⟨at_rstGo, .pf0, 1#32, by decide +kernel, by decide +kernel, by decide +kernel, by decide +kernel,
      by decide +kernel, by decide +kernel⟩,
    ⟨at_watchdog, 9, by decide +kernel, by decide +kernel, by decide +kernel, by decide +kernel, by decide +kernel⟩,
    ⟨at_wdtKick, 1#32, by decide +kernel, by decide +kernel, by decide +kernel, by decide +kernel⟩,
    ⟨State.reset, .pf0, 1#32, by decide +kernel, by decide +kernel⟩,
    ⟨at_deviceResetAssert, 5, by decide +kernel, by decide +kernel, by decide +kernel⟩,
    ⟨State.reset, true, 0, 1, by decide +kernel, by decide +kernel, by decide +kernel, by decide +kernel⟩,
    ⟨at_resetReleaseStep_2, 9, by decide +kernel, by decide +kernel, by decide +kernel, by decide +kernel,
      by decide +kernel, by decide +kernel⟩⟩

def at_lnkBlockReset : State :=
  { (State.reset.setFld F.RST_STATE_STEP 10) with rst := { State.reset.rst with asserted := none }, own := { owner := 1 } }

def at_ethBlockReset : State :=
  { (State.reset.setFld F.RST_STATE_STEP 10) with rst := { State.reset.rst with asserted := none }, own := { owner := 1 } }

def at_ftBlockReset : State :=
  { (State.reset.setFld F.RST_STATE_STEP 10) with rst := { State.reset.rst with asserted := none }, own := { owner := 1 } }

def at_fabBlockReset : State :=
  { (State.reset.setFld F.RST_STATE_STEP 10) with rst := { State.reset.rst with asserted := none }, own := { owner := 1 } }

def at_colBlockReset : State :=
  { (State.reset.setFld F.RST_STATE_STEP 10) with rst := { State.reset.rst with asserted := none }, own := { owner := 1 } }

def at_blockResetRelease : State :=
  { State.reset with rst := { State.reset.rst with blocks := [(33, 9)] } }

def at_blockResetRelease_2 : State :=
  { State.reset with rst := { State.reset.rst with blocks := [(38, 9)] } }

theorem test_meets_block_resets_reset_one_block :
    (∃ s : State, ∃ path : Path, ∃ p : Port, RegsOk s ∧ s.mayRwl path = true ∧ s.inBlockReset (p.val) = false ∧
      s.blockExists (p.val) = true ∧ s.rst.request = none ∧ s.rst.asserted = none ∧ s.rst.thermtrip = false ∧ s.up 6 =
      true) ∧
    (∃ s : State, ∃ path : Path, ∃ e : Fin 2, ∃ sending : Bool, RegsOk s ∧ s.mayRwl path = true ∧
      s.inBlockReset (32 + e.val) = false ∧ s.blockExists (32 + e.val) = true ∧ s.rst.request = none ∧
      s.rst.asserted = none ∧ s.rst.thermtrip = false ∧ s.up 6 = true) ∧
    (∃ s : State, ∃ path : Path, ∃ q : Fin 4, RegsOk s ∧ s.mayRwl path = true ∧ s.inBlockReset (34 + q.val) = false ∧
      s.blockExists (34 + q.val) = true ∧ s.rst.request = none ∧ s.rst.asserted = none ∧ s.rst.thermtrip = false ∧
      s.up 6 = true) ∧
    (∃ s : State, ∃ path : Path, RegsOk s ∧ s.mayRwl path = true ∧ s.inBlockReset (38) = false ∧ s.blockExists (38) =
      true ∧ s.rst.request = none ∧ s.rst.asserted = none ∧ s.rst.thermtrip = false ∧ s.up 6 = true) ∧
    (∃ s : State, ∃ path : Path, RegsOk s ∧ s.mayRwl path = true ∧ s.inBlockReset (39) = false ∧ s.blockExists (39) =
      true ∧ s.rst.request = none ∧ s.rst.asserted = none ∧ s.rst.thermtrip = false ∧ s.up 6 = true) ∧
    (∃ s : State, ∃ k : Fin 40, ∃ at0 : Nat, RegsOk s ∧ k.val ≠ 38 ∧ amGet s.rst.blocks k = some at0) ∧
    (∃ s : State, ∃ at0 : Nat, RegsOk s ∧ amGet s.rst.blocks 38 = some at0 ∧ (∀ p < 20, s.linkUp p = false)) :=
  ⟨⟨at_lnkBlockReset, .pf0, 3, by decide +kernel, by decide +kernel, by decide +kernel, by decide +kernel,
      by decide +kernel, by decide +kernel, by decide +kernel, by decide +kernel⟩,
    ⟨at_ethBlockReset, .pf0, 1, true, by decide +kernel, by decide +kernel, by decide +kernel, by decide +kernel,
      by decide +kernel, by decide +kernel, by decide +kernel, by decide +kernel⟩,
    ⟨at_ftBlockReset, .pf0, 3, by decide +kernel, by decide +kernel, by decide +kernel, by decide +kernel,
      by decide +kernel, by decide +kernel, by decide +kernel, by decide +kernel⟩,
    ⟨at_fabBlockReset, .pf0, by decide +kernel, by decide +kernel, by decide +kernel, by decide +kernel,
      by decide +kernel, by decide +kernel, by decide +kernel, by decide +kernel⟩,
    ⟨at_colBlockReset, .pf0, by decide +kernel, by decide +kernel, by decide +kernel, by decide +kernel,
      by decide +kernel, by decide +kernel, by decide +kernel, by decide +kernel⟩,
    ⟨at_blockResetRelease, 33, 9, by decide +kernel, by decide +kernel, by decide +kernel⟩,
    ⟨at_blockResetRelease_2, 9, by decide +kernel, by decide +kernel, by decide +kernel⟩⟩

def at_sourceEvent : State :=
  (({ (State.reset.setFld F.RST_STATE_STEP 10) with fcu := { firstArmed := false } } : State).setFld F.FCU_IRQ_THRESHOLD 3).setFld (F.FCU_SRC_CFG_SEV 65) 1

def at_countWindowExpiry : State :=
  { State.reset with fcu := { State.reset.fcu with window := [(65, 9)] } }

def at_graceExpiry : State :=
  ({ State.reset with fcu := { State.reset.fcu with grace := [(65, 9)] } } : State).setBit F.FCU_STATUS_SAFE

def at_graceExpiry_2 : State :=
  ({ State.reset with fcu := { State.reset.fcu with grace := [(65, 9)], firstArmed := false } } : State).setFld F.FCU_IRQ_THRESHOLD 3

def at_statusClear : State :=
  ({ State.reset with own := { owner := 1 } } : State).setRd (Reg.FCU_STAT_W 2) 3

def at_statusClear_2 : State :=
  ({ State.reset with own := { owner := 1 } } : State).setBit (F.FCU_SRC_STATE_PIN 65)

def at_fcuLogPop : State :=
  { State.reset with own := { owner := 1 } }

def at_fcuFirstClr : State :=
  ({ State.reset with own := { owner := 1 } } : State).setBit F.FCU_FIRST_INFO_VALID

theorem test_meets_fault_events_are_latched_and_cleared :
    (∃ s : State, ∃ src : Nat, ∃ detail : Nat, ∃ kind : Nat, ∃ sev : Nat, ∃ condition : Bool,
      ∃ attr : Option (Nat × Nat × Nat × Nat), RegsOk s ∧ s.up 5 = true ∧ src < 66 ∧ s.fld F.FCU_STATUS_SELF = 0 ∧
      s.fld (F.FCU_SRC_CFG_COUNT_MODE src) = 0 ∧ s.fld (F.FCU_SRC_CFG_SEV src) = sev ∧ sev < 2 ∧
      sev < s.fld F.FCU_IRQ_THRESHOLD ∧ s.fcu.log.length < 256 ∧ s.fcu.firstArmed = false ∧ s.fcu.pinMode = 0 ∧
      amGet s.fcu.window src = none) ∧
    (∃ s : State, ∃ inputs : List FaultInput, RegsOk s ∧ s.up 5 = false) ∧
    (∃ s : State, ∃ src : Nat, ∃ at0 : Nat, RegsOk s ∧ amGet s.fcu.window src = some at0 ∧ src < 66) ∧
    (∃ s : State, ∃ src : Nat, ∃ at0 : Nat, RegsOk s ∧ amGet s.fcu.grace src = some at0 ∧ s.safe = true) ∧
    (∃ s : State, ∃ src : Nat, ∃ at0 : Nat, RegsOk s ∧ amGet s.fcu.grace src = some at0 ∧ src < 66 ∧ s.safe = false ∧
      3 < s.fld F.FCU_IRQ_THRESHOLD + 1 ∧ s.fcu.log.length < 256 ∧ s.fcu.firstArmed = false) ∧
    (∃ s : State, ∃ path : Path, ∃ w : Fin 4, ∃ mask : Word, ∃ b : Fin 32, RegsOk s ∧ s.mayRwl path = true ∧
      s.fld F.FCU_STATUS_SELF = 0 ∧ mask.toNat = 2 ^ b.val ∧ (w.val < 2 ∨ b.val < 2 ∧ w.val = 2) ∧
      s.fld (F.FCU_SRC_STATE_PIN (32 * w + b)) = 0 ∧ s.statBit (32 * w + b) = true) ∧
    (∃ s : State, ∃ path : Path, ∃ w : Fin 4, ∃ mask : Word, ∃ b : Fin 32, RegsOk s ∧ s.mayRwl path = true ∧
      s.fld F.FCU_STATUS_SELF = 0 ∧ mask.toNat = 2 ^ b.val ∧ s.fld (F.FCU_SRC_STATE_PIN (32 * w + b)) = 1) ∧
    (∃ s : State, ∃ path : Path, ∃ v : Word, RegsOk s ∧ s.mayRwl path = true ∧ s.fld F.FCU_STATUS_SELF = 0) ∧
    (∃ s : State, ∃ path : Path, ∃ v : Word, RegsOk s ∧ s.mayRwl path = true ∧ s.fld F.FCU_STATUS_SELF = 0 ∧
      bitAt v.toNat 0 = true) :=
  ⟨⟨at_sourceEvent, 65, 7, 2, 1, true, some (0, 1, 2, 3), by decide +kernel, by decide +kernel, by decide +kernel,
      by decide +kernel, by decide +kernel, by decide +kernel, by decide +kernel, by decide +kernel,
      by decide +kernel, by decide +kernel, by decide +kernel, by decide +kernel⟩,
    ⟨State.reset, [{ source := 3 }], by decide +kernel, by decide +kernel⟩,
    ⟨at_countWindowExpiry, 65, 9, by decide +kernel, by decide +kernel, by decide +kernel⟩,
    ⟨at_graceExpiry, 65, 9, by decide +kernel, by decide +kernel, by decide +kernel⟩,
    ⟨at_graceExpiry_2, 65, 9, by decide +kernel, by decide +kernel, by decide +kernel, by decide +kernel,
      by decide +kernel, by decide +kernel, by decide +kernel⟩,
    ⟨at_statusClear, .pf0, 2, 2#32, 1, by decide +kernel, by decide +kernel, by decide +kernel, by decide +kernel,
      by decide +kernel, by decide +kernel, by decide +kernel⟩,
    ⟨at_statusClear_2, .pf0, 2, 2#32, 1, by decide +kernel, by decide +kernel, by decide +kernel, by decide +kernel,
      by decide +kernel⟩,
    ⟨at_fcuLogPop, .pf0, 0x201#32, by decide +kernel, by decide +kernel, by decide +kernel⟩,
    ⟨at_fcuFirstClr, .pf0, 1#32, by decide +kernel, by decide +kernel, by decide +kernel, by decide +kernel⟩⟩

def at_fcuForceSafe : State :=
  { State.reset with own := { owner := 1 } }

def at_faultEsc : State :=
  { State.reset with fcu := { State.reset.fcu with escDeadline := some 9 }, rst := { State.reset.rst with asserted := none } }

def at_fcuCfgWrite : State :=
  { State.reset with own := { owner := 1 } }

def at_fcuCfgWrite_2 : State :=
  { State.reset with fcu := { State.reset.fcu with safeAt := some 4 }, own := { owner := 1 } }

def at_fcuCfgWrite_3 : State :=
  { State.reset with fcu := { State.reset.fcu with safeAt := some 4 }, own := { owner := 1 } }

def at_fcuCfgWrite_4 : State :=
  ({ State.reset with own := { owner := 1 } } : State).setBit F.FCU_STATUS_SELF

def at_faultPulseEnd : State :=
  { State.reset with fcu := { State.reset.fcu with pulse := some (4, 9) } }

def at_faultPulseEnd_2 : State :=
  { State.reset with fcu := { State.reset.fcu with pulse := some (4, 9), pulseMore := true } }

theorem test_meets_safe_state_is_forced_and_escalates :
    (∃ s : State, ∃ path : Path, ∃ v : Word, RegsOk s ∧ s.mayRwl path = true ∧ s.fld F.FCU_STATUS_SELF = 0 ∧
      bitAt v.toNat 0 = true ∧ s.safe = false) ∧
    (∃ s : State, RegsOk s ∧ s.safe = false) ∧
    (∃ s : State, RegsOk s ∧ s.safe = true) ∧
    (∃ s : State, ∃ at0 : Nat, RegsOk s ∧ s.fcu.escDeadline = some at0 ∧ s.rst.request = none ∧ s.rst.asserted =
      none ∧ s.rst.thermtrip = false) ∧
    (∃ s : State, ∃ path : Path, ∃ v : Word, RegsOk s ∧ s.mayRwl path = true ∧ s.fld F.FCU_STATUS_SELF = 0 ∧
      s.fcu.safeAt = none) ∧
    (∃ s : State, ∃ path : Path, ∃ v : Word, ∃ a : Nat, ∃ ms : Nat, RegsOk s ∧ s.mayRwl path = true ∧
      s.fld F.FCU_STATUS_SELF = 0 ∧ s.fcu.safeAt = some a ∧ v.toNat / 2 ^ 16 = ms ∧ ms ≠ 0 ∧ s.mclk < a + ms * 250000) ∧
    (∃ s : State, ∃ path : Path, ∃ v : Word, ∃ a : Nat, RegsOk s ∧ s.mayRwl path = true ∧ s.fld F.FCU_STATUS_SELF =
      0 ∧ s.fcu.safeAt = some a ∧ v.toNat < 2 ^ 16) ∧
    (∃ s : State, ∃ path : Path, ∃ v : Word, RegsOk s ∧ s.mayRwl path = true ∧ s.fld F.FCU_STATUS_SELF = 1) ∧
    (∃ s : State, ∃ a : Nat, ∃ z : Nat, RegsOk s ∧ s.fcu.pulse = some (a, z) ∧ s.fcu.pulseMore = false) ∧
    (∃ s : State, ∃ a : Nat, ∃ z : Nat, ∃ m : Nat, RegsOk s ∧ s.fcu.pulse = some (a, z) ∧ s.fcu.pulseMore = true ∧ m =
      max s.mclk z + 2500) :=
  ⟨⟨at_fcuForceSafe, .pf0, 1#32, by decide +kernel, by decide +kernel, by decide +kernel, by decide +kernel,
      by decide +kernel⟩,
    ⟨State.reset, by decide +kernel, by decide +kernel⟩,
    ⟨State.reset.setBit F.FCU_STATUS_SAFE, by decide +kernel, by decide +kernel⟩,
    ⟨at_faultEsc, 9, by decide +kernel, by decide +kernel, by decide +kernel, by decide +kernel, by decide +kernel⟩,
    ⟨at_fcuCfgWrite, .pf0, 0x12345678#32, by decide +kernel, by decide +kernel, by decide +kernel, by decide +kernel⟩,
    ⟨at_fcuCfgWrite_2, .pf0, 0x30000#32, 4, 3, by decide +kernel, by decide +kernel, by decide +kernel,
      by decide +kernel, by decide +kernel, by decide +kernel, by decide +kernel⟩,
    ⟨at_fcuCfgWrite_3, .pf0, 0xFFFF#32, 4, by decide +kernel, by decide +kernel, by decide +kernel, by decide +kernel,
      by decide +kernel⟩,
    ⟨at_fcuCfgWrite_4, .pf0, 1#32, by decide +kernel, by decide +kernel, by decide +kernel⟩,
    ⟨at_faultPulseEnd, 4, 9, by decide +kernel, by decide +kernel, by decide +kernel⟩,
    ⟨at_faultPulseEnd_2, 4, 9, 2509, by decide +kernel, by decide +kernel, by decide +kernel, by decide +kernel⟩⟩

def at_bellRing : State :=
  ((State.reset : State).setFld (F.REC_PARCEL_STATE_STATE 0) 0).setBit F.PWR_STATUS_LOGIC_READY

def at_bellExpiry : State :=
  { State.reset with rcv := { State.reset.rcv with bells := [(2, 9), (3, 9)] } }

def at_parcelFence : State :=
  { held [(0, 0x20)] with own := { owner := 1 } }

def at_parcelReset : State :=
  { held [(0, 0x20)] with own := { owner := 1 } }

def at_parcelReset_2 : State :=
  ({ held [(0, 0x20)] with own := { owner := 1 } } : State).setFld (F.REC_PARCEL_STATE_STATE 0) 2

def at_fenceComplete : State :=
  (held [(0, 0x20)] : State).setFld (F.REC_PARCEL_STATE_STATE 0) 1

def at_parcelResetRelease : State :=
  (State.reset : State).setFld (F.REC_PARCEL_STATE_STATE 0) 3

def at_seqImageReload : State :=
  ({ State.reset with rcv := { State.reset.rcv with rt := [(0, { fromReset := true, nearReady := true })] }, bru := { State.reset.bru with copy := some [1, 2] } } : State).setFld (F.REC_PARCEL_STATE_STATE 0) 4

def at_parcelBenchDone : State :=
  ({ State.reset with rcv := { State.reset.rcv with rt := [(0, { running := true })] } } : State).setFld (F.REC_PARCEL_STATE_STATE 0) 4

theorem test_meets_parcels_fence_reset_and_return :
    (∃ s : State, ∃ n : Parcel, ∃ h : Fin 4, ∃ v : Word, RegsOk s ∧ bitAt v.toNat h = true ∧ s.bellsRun n = true) ∧
    (∃ s : State, ∃ path : Path, ∃ n : Parcel, ∃ v : Word, RegsOk s ∧ (∀ h : Fin 4, path ≠ .hart n h)) ∧
    (∃ s : State, ∃ n : Parcel, ∃ at0 : Nat, ∃ hs : List Nat, RegsOk s ∧ (((List.range 4).filterMap fun h =>
      amGet s.rcv.bells (4 * n + h)).min? = some at0) ∧ hs = (s.advanceTo at0).expired n) ∧
    (∃ s : State, ∃ path : Path, ∃ n : Parcel, RegsOk s ∧ s.mayRwl path = true ∧ s.parcelState n = 0 ∧ s.benchRuns n =
      false) ∧
    (∃ s : State, ∃ path : Path, ∃ n : Parcel, RegsOk s ∧ s.mayRwl path = true ∧ s.parcelState n = 0 ∧ s.benchRuns n =
      false ∧ s.safe = false) ∧
    (∃ s : State, ∃ path : Path, ∃ n : Parcel, RegsOk s ∧ s.mayRwl path = true ∧ s.parcelState n = 2 ∧ s.safe =
      false ∧ (s.rt n).selfCaused = false) ∧
    (∃ s : State, ∃ n : Parcel, RegsOk s ∧ s.parcelState n = 1 ∧ NoReduce s ∧ (∀ e ∈ s.rcv.binds, e.2.st ≠ .taking ∧
      e.2.orders = []) ∧ (s.rt n).toReset = false ∧ (s.rt n).castOff = false) ∧
    (∃ s : State, ∃ n : Parcel, RegsOk s ∧ s.parcelState n = 3) ∧
    (∃ s : State, ∃ n : Parcel, ∃ r : ParcelRt, ∃ img : List Byte, RegsOk s ∧ s.parcelState n = 4 ∧ r = s.rt n ∧
      r.fromReset = true ∧ r.nearReady = true ∧ r.imageLoaded = false ∧ s.bru.copy = some img) ∧
    (∃ s : State, ∃ n : Parcel, RegsOk s ∧ s.parcelState n = 4 ∧ (s.rt n).running = true ∧ s.safe = false ∧
      (s.rt n).safeHold = false ∧ (s.rt n).castOff = false ∧ s.gw.waiting = [] ∧ (∀ e ∈ s.gw.reqs, e.1 / 64 ≠ n.val)) :=
  ⟨⟨at_bellRing, 0, 3, 8#32, by decide +kernel, by decide +kernel, by decide +kernel⟩,
    ⟨State.reset, .hart 1 0, 0, 1#32, by decide +kernel, by decide +kernel⟩,
    ⟨at_bellExpiry, 0, 9, [2, 3], by decide +kernel, by decide +kernel, by decide +kernel⟩,
    ⟨at_parcelFence, .pf0, 0, by decide +kernel, by decide +kernel, by decide +kernel, by decide +kernel⟩,
    ⟨at_parcelReset, .pf0, 0, by decide +kernel, by decide +kernel, by decide +kernel, by decide +kernel,
      by decide +kernel⟩,
    ⟨at_parcelReset_2, .pf0, 0, by decide +kernel, by decide +kernel, by decide +kernel, by decide +kernel,
      by decide +kernel⟩,
    ⟨at_fenceComplete, 0, by decide +kernel, by decide +kernel, by decide +kernel, by decide +kernel,
      by decide +kernel, by decide +kernel⟩,
    ⟨at_parcelResetRelease, 0, by decide +kernel, by decide +kernel⟩,
    ⟨at_seqImageReload, 0, { fromReset := true, nearReady := true }, [1, 2], by decide +kernel, by decide +kernel,
      by decide +kernel, by decide +kernel, by decide +kernel, by decide +kernel, by decide +kernel⟩,
    ⟨at_parcelBenchDone, 0, by decide +kernel, by decide +kernel, by decide +kernel, by decide +kernel,
      by decide +kernel, by decide +kernel, by decide +kernel, by decide +kernel⟩⟩

def at_surveyDone : State :=
  reliefWith { st := .reliefArmed, surveying := some .pf0 }

theorem test_meets_relief_bindings_are_armed_and_disarmed :
    (∃ s : State, ∃ path : Path, ∃ i : Nat, RegsOk s ∧ s.mayRwl path = true ∧ i = s.rlfSel path ∧ s.armable i = true ∧
      (s.bind i).arming = none ∧ (∀ e ∈ s.rcv.binds, e.1 = i)) ∧
    (∃ s : State, ∃ i : Fin 16, ∃ path : Path, ∃ at0 : Nat, RegsOk s ∧ (s.bind i).arming = some (path, at0)) ∧
    (∃ s : State, ∃ path : Path, ∃ i : Nat, RegsOk s ∧ s.mayRwl path = true ∧ i = s.rlfSel path ∧ s.armable i = true ∧
      (s.bind i).arming = none ∧ (∀ e ∈ s.rcv.binds, e.1 = i)) ∧
    (∃ s : State, ∃ path : Path, ∃ i : Nat, RegsOk s ∧ s.mayRwl path = true ∧ i = s.rlfSel path ∧
      (s.bind i).st ≠ .activeArmed ∧ (s.bind i).surveying = none ∧ (s.bind i).arming = none) ∧
    (∃ s : State, ∃ path : Path, ∃ i : Nat, RegsOk s ∧ s.mayRwl path = true ∧ i = s.rlfSel path ∧ (s.bind i).st =
      .activeArmed ∧ i < 16) ∧
    (∃ s : State, ∃ path : Path, ∃ i : Nat, RegsOk s ∧ s.mayRwl path = true ∧ i = s.rlfSel path ∧ (s.bind i).st =
      .reliefArmed ∧ (s.bind i).surveying = none) ∧
    (∃ s : State, ∃ i : Fin 16, ∃ engines : Bool, ∃ paths : Bool, ∃ path : Path, ∃ ue : Nat, RegsOk s ∧
      (s.bind i).surveying = some path ∧ ue = min (s.badMirrorWords i) 65535) ∧
    (∃ s : State, ∃ path : Path, RegsOk s ∧ s.mayRwl path = true ∧ (s.bind (s.rlfSel path)).st = .taking) ∧
    (∃ s : State, ∃ path : Path, RegsOk s ∧ s.mayRwl path = true ∧ (s.bind (s.rlfSel path)).st = .taking) ∧
    (∃ s : State, ∃ path : Path, RegsOk s ∧ s.mayRwl path = true ∧ (s.bind (s.rlfSel path)).st = .reliefArmed) ∧
    (∃ s : State, ∃ path : Path, RegsOk s ∧ s.mayRwl path = true ∧ (s.bind (s.rlfSel path)).st = .taken) :=
  ⟨⟨reliefWith {  }, .pf0, 0, by decide +kernel, by decide +kernel, by decide +kernel, by decide +kernel,
      by decide +kernel, by decide +kernel⟩,
    ⟨reliefWith { arming := some (.pf0, 9) }, 0, .pf0, 9, by decide +kernel, by decide +kernel⟩,
    ⟨reliefWith { bgen := 255 }, .pf0, 0, by decide +kernel, by decide +kernel, by decide +kernel, by decide +kernel,
      by decide +kernel, by decide +kernel⟩,
    ⟨reliefWith { st := .taken, bgen := 4 }, .pf0, 0, by decide +kernel, by decide +kernel, by decide +kernel,
      by decide +kernel, by decide +kernel, by decide +kernel⟩,
    ⟨reliefWith { st := .activeArmed }, .pf0, 0, by decide +kernel, by decide +kernel, by decide +kernel,
      by decide +kernel, by decide +kernel⟩,
    ⟨reliefWith { st := .reliefArmed }, .pf0, 0, by decide +kernel, by decide +kernel, by decide +kernel,
      by decide +kernel, by decide +kernel⟩,
    ⟨at_surveyDone, 0, true, false, .pf0, 0, by decide +kernel, by decide +kernel, by decide +kernel⟩,
    ⟨reliefWith { st := .taking }, .pf0, by decide +kernel, by decide +kernel, by decide +kernel⟩,
    ⟨reliefWith { st := .taking }, .pf0, by decide +kernel, by decide +kernel, by decide +kernel⟩,
    ⟨reliefWith { st := .reliefArmed }, .pf0, by decide +kernel, by decide +kernel, by decide +kernel⟩,
    ⟨reliefWith { st := .taken }, .pf0, by decide +kernel, by decide +kernel, by decide +kernel⟩⟩

def at_tokenRecord : State :=
  reliefWith { st := .reliefArmed, bgen := 3, streams := [{ parcel := 0, next := 5 }] }

def at_kvRecord : State :=
  reliefWith { st := .reliefArmed, bgen := 3, streams := [{ parcel := 0, next := 5 }] }

def at_kvRecord_2 : State :=
  ((((reliefWith { st := .reliefArmed, bgen := 3, streams := [{ parcel := 0, next := 5 }] } : State).setRdB (entryBank 0) Reg.REC_RLF_MIRROR 0x10000).setFld (F.NT_STATUS_READY 0) 1).setBit F.PWR_STATUS_LOGIC_READY).setRd (Reg.NT_TRACT_OWNER 0 0) 1

def at_kvRecord_3 : State :=
  reliefWith { st := .reliefArmed, bgen := 3, streams := [{ parcel := 0, next := 5 }] }

def at_tokenRecord_2 : State :=
  reliefWith { st := .reliefArmed, bgen := 3, streams := [{ parcel := 0, next := 5 }] }

def at_beaconRecord : State :=
  reliefWith { st := .reliefArmed, bgen := 3, streams := [{ parcel := 0, next := 5 }] }

def at_journalAck_2 : State :=
  reliefWith { st := .activeArmed, bgen := 3, streams := [{ parcel := 0, next := 6, unacked := [⟨5, 2, [], 3⟩] }] }

def at_journalResend : State :=
  reliefWith { st := .activeArmed, streams := [{ parcel := 0, next := 6, unacked := [⟨5, 2, [], 3⟩] }] }

def at_reliefLost : State :=
  reliefWith { st := .activeArmed, streams := [{ parcel := 0, next := 6, unacked := [⟨5, 2, [], 3⟩] }] }

theorem test_meets_journal_keeps_the_relief_current :
    (∃ s : State, ∃ p : Packet, ∃ i : Nat, ∃ n : Nat, ∃ h : Nat, ∃ g : List Nat, RegsOk s ∧ s.fld F.PWR_STATUS_STATE =
      0 ∧ (p.ptype = 0x22) ∧ s.reliefBinding p = some (i, n) ∧ p.txn.toNat % 256 = (s.bind i).bgen ∧ (s.bind i).st =
      .reliefArmed ∧ s.inService n = true ∧ p.addr.toNat = ((s.bind i).stream n).next ∧ s.reliefHome i = some h ∧ (g =
      (s.bind i).tokens ++ (List.range (min (leAt p.payload 2 1) 16)).map fun k => leAt p.payload (32 + 4 * k) 4) ∧
      pEgrTokens (s.reliefParams i) ≠ 0 ∧ (∀ k < min (leAt p.payload 2 1) 16, s.tierStatus 0 ⟨s.reliefFn i, none,
      false⟩ (pEgrBase (s.reliefParams i) + 4 * ((leAt p.payload 8 4 + k) % pEgrTokens (s.reliefParams i))) 4 true =
      Status.OK ∧
      s.tierClearing 0 (pEgrBase (s.reliefParams i) + 4 * ((leAt p.payload 8 4 + k) % pEgrTokens (s.reliefParams i))) 4 =
      false ∧
      s.poisonedIn (pEgrBase (s.reliefParams i) + 4 * ((leAt p.payload 8 4 + k) % pEgrTokens (s.reliefParams i))) 4 =
      false)) ∧
    (∃ s : State, ∃ p : Packet, ∃ i : Nat, ∃ n : Nat, ∃ a : Nat, RegsOk s ∧ s.fld F.PWR_STATUS_STATE = 0 ∧ (p.ptype =
      0x22) ∧ s.reliefBinding p = some (i, n) ∧ p.txn.toNat % 256 = (s.bind i).bgen ∧ (s.bind i).st = .reliefArmed ∧
      s.inService n = true ∧ p.addr.toNat = ((s.bind i).stream n).next ∧ p.payload.length ≤ 32 ∧
      leAt p.payload 10 2 ≠ 0xFFFF ∧ a =
      n * 2 ^ 28 + s.fldB (entryBank i) F.REC_RLF_STREAMS_BASE % 2 ^ 28 + 64 * leAt p.payload 10 2 + 4 ∧
      s.tierStatus 0 ⟨s.reliefFn i, none, false⟩ (a) 4 true = Status.OK ∧ s.tierClearing 0 (a) 4 = false ∧
      s.poisonedIn a 4 = false) ∧
    (∃ s : State, ∃ p : Packet, ∃ i : Nat, ∃ n : Nat, ∃ m : Nat, RegsOk s ∧ s.fld F.PWR_STATUS_STATE = 0 ∧ (p.ptype =
      0x22) ∧ s.reliefBinding p = some (i, n) ∧ p.txn.toNat % 256 = (s.bind i).bgen ∧ (s.bind i).st = .reliefArmed ∧
      s.inService n = true ∧ p.addr.toNat = ((s.bind i).stream n).next ∧ 32 < p.payload.length ∧ leAt p.payload 10 2 =
      0xFFFF ∧ s.mirrorAddr i n (leAt p.payload 0 8) (p.payload.length - 32) = some m ∧ s.tierStatus 1 ⟨s.reliefFn i,
      none, false⟩ (m) (p.payload.length - 32) true = Status.OK ∧ s.tierClearing 1 (m) (p.payload.length - 32) =
      false ∧ (∀ w ∈ s.tier.nearPoison, w + 64 ≤ m ∨ m + (p.payload.length - 32) ≤ w)) ∧
    (∃ s : State, ∃ p : Packet, ∃ i : Nat, ∃ n : Nat, ∃ d : Nat, RegsOk s ∧ s.fld F.PWR_STATUS_STATE = 0 ∧ (p.ptype =
      0x22) ∧ s.reliefBinding p = some (i, n) ∧ p.txn.toNat % 256 = (s.bind i).bgen ∧ (s.bind i).st = .reliefArmed ∧
      s.inService n = true ∧ d = (p.addr.toNat + 2 ^ 32 - ((s.bind i).stream n).next) % 2 ^ 32 ∧ d ≠ 0 ∧ d < 2 ^ 31) ∧
    (∃ s : State, ∃ p : Packet, ∃ i : Nat, ∃ n : Nat, RegsOk s ∧ s.fld F.PWR_STATUS_STATE = 0 ∧ (p.ptype = 0x22) ∧
      s.reliefBinding p = some (i, n) ∧ p.txn.toNat % 256 ≠ (s.bind i).bgen) ∧
    (∃ s : State, ∃ p : Packet, ∃ i : Nat, ∃ n : Nat, RegsOk s ∧ s.fld F.PWR_STATUS_STATE = 0 ∧ (p.ptype = 0x22) ∧
      s.reliefBinding p = some (i, n) ∧ p.txn.toNat % 256 = (s.bind i).bgen ∧ (s.bind i).st = .reliefArmed ∧
      s.inService n = true ∧ (s.reliefHome i ≠ some n ∨ (s.bind i).consumed = none)) ∧
    (∃ s : State, ∃ i : Fin 16, RegsOk s ∧ (s.bind i).st = .activeArmed) ∧
    (∃ s : State, ∃ i : Fin 16, RegsOk s ∧ (s.bind i).st ≠ .activeArmed) ∧
    (∃ s : State, ∃ p : Packet, ∃ i : Nat, ∃ n : Nat, ∃ path : Path, ∃ at0 : Nat, RegsOk s ∧
      s.fld F.PWR_STATUS_STATE = 0 ∧ p.ptype = 0x22 ∧ p.dstCtx.toNat < 16 ∧ i = p.dstCtx.toNat ∧ s.bindTag i =
      p.jobTag.toNat ∧ n = parcelOf p.dst.toNat ∧ bitAt (s.bindLocal i) n = true ∧ s.pairStation i n = p.src.toNat ∧
      (s.bind i).arming = some (path, at0)) ∧
    (∃ s : State, ∃ p : Packet, ∃ i : Nat, ∃ n : Nat, RegsOk s ∧ s.fld F.PWR_STATUS_STATE = 0 ∧ p.ptype = 0x22 ∧
      p.dstCtx.toNat < 16 ∧ i = p.dstCtx.toNat ∧ s.bindTag i = p.jobTag.toNat ∧ n = parcelOf p.dst.toNat ∧
      bitAt (s.bindLocal i) n = true ∧ s.pairStation i n = p.src.toNat ∧ (s.bind i).st = .activeArmed ∧
      (s.bind i).arming = none ∧ p.txn.toNat % 256 = (s.bind i).bgen ∧ ((s.bind i).stream n).unacked ≠ [] ∧
      (∀ r ∈ ((s.bind i).stream n).unacked, ackedBy r.jseq p.addr.toNat = true)) ∧
    (∃ s : State, ∃ i : Fin 16, ∃ n : Parcel, ∃ j : JStream, RegsOk s ∧ (s.bind i).st = .activeArmed ∧ j =
      (s.bind i).stream n ∧ j.unacked ≠ []) ∧
    (∃ s : State, ∃ i : Fin 16, ∃ m : Nat, RegsOk s ∧ (s.bind i).st = .activeArmed ∧ (s.bind i).oldestMade = some m) :=
  ⟨⟨at_tokenRecord,
      journaled 1 5 3 ([1, 2, 2, 0, 0, 0, 0, 0] ++ leBytes 4 255 ++ leBytes 4 9 ++ leBytes 4 7 ++ List.replicate 12 0 ++ leBytes 4 11 ++ leBytes 4 12 ++ List.replicate 56 0),
      0, 0, 0, [11, 12], by decide +kernel, by decide +kernel, by decide +kernel, by decide +kernel,
      by decide +kernel, by decide +kernel, by decide +kernel, by decide +kernel, by decide +kernel, rfl,
      by decide +kernel, by decide +kernel⟩,
    ⟨at_kvRecord, journaled 2 5 3 (kvBody 0 4 true 1 77 []), 0, 0, 68, by decide +kernel, by decide +kernel,
      by decide +kernel, by decide +kernel, by decide +kernel, by decide +kernel, by decide +kernel,
      by decide +kernel, by decide +kernel, by decide +kernel, by decide +kernel, by decide +kernel,
      by decide +kernel⟩,
    ⟨at_kvRecord_2, journaled 2 5 3 (kvBody 0x80 4 false 0xFFFF 0 (List.replicate 64 5)), 0, 0, 128,
      by decide +kernel, by decide +kernel, by decide +kernel, by decide +kernel, by decide +kernel,
      by decide +kernel, by decide +kernel, by decide +kernel, by decide +kernel, by decide +kernel,
      by decide +kernel, by decide +kernel, by decide +kernel⟩,
    ⟨at_kvRecord_3, journaled 2 6 3 (kvBody 0 4 true 1 77 []), 0, 0, 1, by decide +kernel, by decide +kernel,
      by decide +kernel, by decide +kernel, by decide +kernel, by decide +kernel, by decide +kernel,
      by decide +kernel, by decide +kernel, by decide +kernel⟩,
    ⟨at_tokenRecord_2,
      journaled 1 5 2 ([1, 2, 2, 0, 0, 0, 0, 0] ++ leBytes 4 255 ++ leBytes 4 9 ++ leBytes 4 7 ++ List.replicate 12 0 ++ leBytes 4 11 ++ leBytes 4 12 ++ List.replicate 56 0),
      0, 0, by decide +kernel, by decide +kernel, by decide +kernel, by decide +kernel, by decide +kernel⟩,
    ⟨at_beaconRecord, journaled 3 4 3 [1, 2], 0, 0, by decide +kernel, by decide +kernel, by decide +kernel,
      by decide +kernel, by decide +kernel, by decide +kernel, by decide +kernel, by decide +kernel⟩,
    ⟨reliefWith { st := .activeArmed }, 0, by decide +kernel, by decide +kernel⟩,
    ⟨State.reset, 0, by decide +kernel, by decide +kernel⟩,
    ⟨reliefWith { arming := some (.pf0, 9) }, journaled 4 4 3 [], 0, 0, .pf0, 9, by decide +kernel, by decide +kernel,
      by decide +kernel, by decide +kernel, by decide +kernel, by decide +kernel, by decide +kernel,
      by decide +kernel, by decide +kernel, by decide +kernel⟩,
    ⟨at_journalAck_2, journaled 4 5 3 [], 0, 0, by decide +kernel, by decide +kernel, by decide +kernel,
      by decide +kernel, by decide +kernel, by decide +kernel, by decide +kernel, by decide +kernel,
      by decide +kernel, by decide +kernel, by decide +kernel, by decide +kernel, by decide +kernel,
      by decide +kernel⟩,
    ⟨at_journalResend, 0, 0, { parcel := 0, next := 6, unacked := [⟨5, 2, [], 3⟩] }, by decide +kernel,
      by decide +kernel, by decide +kernel, by decide +kernel⟩,
    ⟨at_reliefLost, 0, 3, by decide +kernel, by decide +kernel, by decide +kernel⟩⟩

def at_silence : State :=
  reliefWith { st := .reliefArmed, bgen := 255, silenceDeadline := some 9 }

def at_castoffReceive : State :=
  reliefWith { st := .reliefArmed, bgen := 3 }

def at_fenceOrder : State :=
  reliefWith { st := .activeArmed, bgen := 3 }

def at_fenceOrder_2 : State :=
  reliefWith { st := .activeArmed, bgen := 3 }

def at_fenceAck : State :=
  reliefWith { st := .taking, bgen := 4, step := 2, awaitFence := [0x100, 0x110] }

def at_fenceAck_2 : State :=
  reliefWith { st := .taking, bgen := 4, step := 2, awaitFence := [0x100] }

def at_fenceWaitExpiry : State :=
  reliefWith { st := .taking, bgen := 4, step := 2, stepDeadline := some 9 }

def at_fenceWaitExpiry_2 : State :=
  reliefWith { st := .taking, bgen := 4, step := 3, stepDeadline := some 9 }

def at_taken : State :=
  { bound with gw := { reqs := [(2, { request with gen := 255, members := [{ station := 0x310, ctx := 1 }, { station := 0x320, ctx := 2 }] })] }, fabRunning := true }

def at_takenAck : State :=
  reliefWith { st := .taking, bgen := 4, step := 3 }

def at_takeoverDone : State :=
  ((reliefWith { st := .taking, bgen := 4, step := 4 } : State).setRdB (entryBank 0) Reg.REC_RLF_TK_VALUE 5).setMarkAt 0 0 ⟨5, false⟩

def at_takeoverDone_2 : State :=
  ((reliefWith { st := .taking, bgen := 4, step := 4 } : State).setRdB (entryBank 0) Reg.REC_RLF_TK_VALUE 5).setMarkAt 0 0 ⟨4, false⟩

def at_chainTimeout : State :=
  reliefWith { st := .taking, bgen := 4, step := 4, stepDeadline := some 9 }

theorem test_meets_takeovers_go_through_their_steps :
    (∃ s : State, ∃ i : Fin 16, ∃ at0 : Nat, RegsOk s ∧ (s.bind i).st = .reliefArmed ∧ (s.bind i).silenceDeadline =
      some at0 ∧ (s.bind i).surveying = none ∧ (∀ e ∈ s.rcv.binds, e.1 = i.val ∨ e.2.st ≠ .reliefArmed) ∧
      s.activeStations i ≠ []) ∧
    (∃ s : State, ∃ p : Packet, ∃ i : Nat, RegsOk s ∧ s.fld F.PWR_STATUS_STATE = 0 ∧ p.ptype = 0x23 ∧
      s.castBinding p [.reliefArmed] = some i ∧ leAt p.payload 0 1 = (s.bind i).bgen ∧ leAt p.payload 1 1 ≠ 4 ∧
      (s.bind i).surveying = none ∧ (∀ e ∈ s.rcv.binds, e.1 = i ∨ e.2.st ≠ .reliefArmed)) ∧
    (∃ s : State, ∃ p : Packet, RegsOk s ∧ s.fld F.PWR_STATUS_STATE = 0 ∧ p.ptype = 0x23 ∧
      s.castBinding p [.reliefArmed] = none ∧ s.castBinding p [.taking] = none) ∧
    (∃ s : State, ∃ p : Packet, ∃ i : Nat, RegsOk s ∧ s.fld F.PWR_STATUS_STATE = 0 ∧ p.ptype = 0x23 ∧
      s.castBinding p [.activeArmed, .reliefLost, .cast] = some i ∧ olderGen (s.bind i).bgen (leAt p.payload 0 1) =
      true ∧ (s.bind i).st ≠ .cast) ∧
    (∃ s : State, ∃ p : Packet, ∃ i : Nat, RegsOk s ∧ s.fld F.PWR_STATUS_STATE = 0 ∧ p.ptype = 0x23 ∧
      s.castBinding p [.activeArmed, .reliefLost, .cast] = some i ∧ olderGen (s.bind i).bgen (leAt p.payload 0 1) =
      false) ∧
    (∃ s : State, ∃ p : Packet, ∃ i : Nat, ∃ l : List Nat, RegsOk s ∧ s.fld F.PWR_STATUS_STATE = 0 ∧ p.ptype = 0x23 ∧
      s.takingBinding p 2 = some i ∧ l = setDel (s.bind i).awaitFence p.src.toNat ∧ l ≠ []) ∧
    (∃ s : State, ∃ p : Packet, ∃ i : Nat, RegsOk s ∧ s.fld F.PWR_STATUS_STATE = 0 ∧ p.ptype = 0x23 ∧
      s.takingBinding p 2 = some i ∧ setDel (s.bind i).awaitFence p.src.toNat = []) ∧
    (∃ s : State, ∃ i : Fin 16, ∃ at0 : Nat, RegsOk s ∧ (s.bind i).st = .taking ∧ (s.bind i).step = 2 ∧
      (s.bind i).stepDeadline = some at0) ∧
    (∃ s : State, ∃ i : Fin 16, ∃ at0 : Nat, RegsOk s ∧ (s.bind i).st = .taking ∧ (s.bind i).step = 3 ∧
      (s.bind i).stepDeadline = some at0) ∧
    (∃ s : State, ∃ p : Packet, ∃ n : Nat, ∃ k : Nat, ∃ r : GwReq, RegsOk s ∧ s.fld F.PWR_STATUS_STATE = 0 ∧ p.ptype =
      0x23 ∧ n = parcelOf p.dst.toNat ∧ k = gwKey n (leAt p.payload 2 1 % 64) ∧ s.gwReq k = some r ∧ s.ctxTag r.ctx =
      p.jobTag.toNat ∧ leAt p.payload 11 1 % 2 = 1 ∧ r.openEpoch = 0) ∧
    (∃ s : State, ∃ p : Packet, ∃ i : Nat, RegsOk s ∧ s.fld F.PWR_STATUS_STATE = 0 ∧ p.ptype = 0x23 ∧
      s.takingBinding p 3 = some i ∧ (s.ctx (s.fldB (entryBank i) F.REC_RLF_CTX_CONTEXT)).st ≠ .stopped) ∧
    (∃ s : State, ∃ i : Fin 16, ∃ m : Mark, RegsOk s ∧ (s.bind i).st = .taking ∧ (s.bind i).step = 4 ∧
      s.mark (s.ctxHome (s.fldB (entryBank i) F.REC_RLF_CTX_CONTEXT)) (s.fldB (entryBank i) F.REC_RLF_CTX_CONTEXT) (s.fldB (entryBank i) F.REC_RLF_CTX_TK_MARK) =
      some m ∧ m.error = false ∧
      0 ≤ toSigned 32 (m.count.toNat + 2 ^ 32 - s.fldB (entryBank i) F.REC_RLF_TK_VALUE_VALUE)) :=
  ⟨⟨at_silence, 0, 9, by decide +kernel, by decide +kernel, by decide +kernel, by decide +kernel, by decide +kernel,
      by decide +kernel⟩,
    ⟨at_castoffReceive, castPkt 1 3 1, 0, by decide +kernel, by decide +kernel, by decide +kernel, by decide +kernel,
      by decide +kernel, by decide +kernel, by decide +kernel, by decide +kernel⟩,
    ⟨reliefWith { st := .taken, bgen := 3 }, castPkt 1 3 1, by decide +kernel, by decide +kernel, by decide +kernel,
      by decide +kernel, by decide +kernel⟩,
    ⟨at_fenceOrder, castPkt 2 4 4, 0, by decide +kernel, by decide +kernel, by decide +kernel, by decide +kernel,
      by decide +kernel, by decide +kernel⟩,
    ⟨at_fenceOrder_2, castPkt 2 3 4, 0, by decide +kernel, by decide +kernel, by decide +kernel, by decide +kernel,
      by decide +kernel⟩,
    ⟨at_fenceAck, castPkt 3 4 4, 0, [0x110], by decide +kernel, by decide +kernel, by decide +kernel,
      by decide +kernel, by decide +kernel, by decide +kernel⟩,
    ⟨at_fenceAck_2, castPkt 3 4 4, 0, by decide +kernel, by decide +kernel, by decide +kernel, by decide +kernel,
      by decide +kernel⟩,
    ⟨at_fenceWaitExpiry, 0, 9, by decide +kernel, by decide +kernel, by decide +kernel, by decide +kernel⟩,
    ⟨at_fenceWaitExpiry_2, 0, 9, by decide +kernel, by decide +kernel, by decide +kernel, by decide +kernel⟩,
    ⟨at_taken, { ptype := 0x23, src := 0x100, opx := 4, payload := castPayload 4 1 2 0 0 0x310 1 2 1 0 }, 0, 2,
      { request with gen := 255, members := [{ station := 0x310, ctx := 1 }, { station := 0x320, ctx := 2 }] },
      by decide +kernel, by decide +kernel, by decide +kernel, by decide +kernel, by decide +kernel,
      by decide +kernel, by decide +kernel, by decide +kernel, by decide +kernel⟩,
    ⟨at_takenAck, castPkt 5 4 4, 0, by decide +kernel, by decide +kernel, by decide +kernel, by decide +kernel,
      by decide +kernel⟩,
    ⟨at_takeoverDone, 0, ⟨5, false⟩, by decide +kernel, by decide +kernel, by decide +kernel, by decide +kernel,
      by decide +kernel, by decide +kernel⟩⟩

theorem test_meets_takeovers_go_through_their_steps_2 :
    (∃ s : State, ∃ i : Fin 16, ∃ m : Mark, RegsOk s ∧ (s.bind i).st = .taking ∧ (s.bind i).step = 4 ∧
      s.mark (s.ctxHome (s.fldB (entryBank i) F.REC_RLF_CTX_CONTEXT)) (s.fldB (entryBank i) F.REC_RLF_CTX_CONTEXT) (s.fldB (entryBank i) F.REC_RLF_CTX_TK_MARK) =
      some m ∧ m.error = false ∧
      toSigned 32 (m.count.toNat + 2 ^ 32 - s.fldB (entryBank i) F.REC_RLF_TK_VALUE_VALUE) < 0) ∧
    (∃ s : State, ∃ i : Fin 16, ∃ at0 : Nat, RegsOk s ∧ (s.bind i).st = .taking ∧ (s.bind i).step = 4 ∧
      (s.bind i).stepDeadline = some at0) :=
  ⟨⟨at_takeoverDone_2, 0, ⟨4, false⟩, by decide +kernel, by decide +kernel, by decide +kernel, by decide +kernel,
      by decide +kernel, by decide +kernel⟩,
    ⟨at_chainTimeout, 0, 9, by decide +kernel, by decide +kernel, by decide +kernel, by decide +kernel⟩⟩

def at_bruTrain : State :=
  { State.reset with own := { owner := 1 } }

def at_stackTrainDone : State :=
  { State.reset with bru := { training := [3] } }

def at_stackTrainDone_2 : State :=
  { State.reset with bru := { training := [3, 4] } }

def at_linkWaitExpiry : State :=
  { State.reset.setFld F.BRU_LINK_EXPECT_PORTS 5 with bru := { linkWait := some 9 } }

def at_bruLoad : State :=
  ({ State.reset with own := { owner := 1 } } : State).setFld (F.REC_PARCEL_STATE_STATE 11) 4

def at_bruBench : State :=
  ({ State.reset with own := { owner := 1 }, rcv := { State.reset.rcv with rt := [(11, { imageLoaded := true })] } } : State).setFld (F.REC_PARCEL_STATE_STATE 11) 4

def at_benchRunDone : State :=
  (({ State.reset with own := { owner := 1 }, bru := { bench := [11] } } : State).setFld (F.REC_PARCEL_STATE_STATE 11) 4).setFld F.BRU_STATUS_BENCH 1

def at_computeReset : State :=
  (({ State.reset with own := { owner := 1 } } : State).setFld (F.REC_PARCEL_STATE_STATE 11) 0).setFld (F.REC_PARCEL_STATE_STATE 0) 0

def at_fpRestore : State :=
  { State.reset with own := { owner := 1 } }

def at_bruTrain_2 : State :=
  ({ State.reset with own := { owner := 1 } } : State).setBit F.FCU_STATUS_SAFE

def at_bruLoad_2 : State :=
  ({ State.reset with own := { owner := 1 } } : State).setBit F.FCU_STATUS_SAFE

def at_bruBench_2 : State :=
  ({ State.reset with own := { owner := 1 } } : State).setBit F.FCU_STATUS_SAFE

def at_computeReset_2 : State :=
  ({ State.reset with own := { owner := 1 } } : State).setBit F.FCU_STATUS_SAFE

def at_fpRestore_2 : State :=
  ({ State.reset with own := { owner := 1 } } : State).setBit F.FCU_STATUS_SAFE

theorem test_meets_bringup_trains_loads_and_benchmarks :
    (∃ s : State, ∃ path : Path, RegsOk s ∧ s.mayRwl path = true ∧ s.safe = false ∧ s.fld F.PWR_STATUS_BUSY = 0 ∧
      s.fld F.PWR_STATUS_STATE = 0 ∧ s.rst.recovery = false ∧ s.fld F.BRU_STATUS_TRAIN = 0) ∧
    (∃ s : State, ∃ k : Fin 12, ∃ tempC : Byte, ∃ ms : Vector Byte 32, RegsOk s ∧ s.bru.training = [k.val] ∧
      (∀ n ∈ s.fuses.stackParcels k, s.rd (Reg.NT_CH_FAILED n) = 0) ∧ k.val < s.fuses.stackCount ∧
      (s.fuses.stackCount = 12 ∨ s.fuses.stackCount = 6)) ∧
    (∃ s : State, ∃ k : Fin 12, ∃ tempC : Byte, ∃ margins : Vector (Option Byte) 32, RegsOk s ∧
      k.val ∈ s.bru.training ∧ setDel s.bru.training k ≠ [] ∧ s.fuses.stackParcels k ≠ []) ∧
    (∃ s : State, ∃ d : Nat, ∃ at0 : Nat, RegsOk s ∧ s.bru.linkWait = some d ∧ (at0 =
      if s.missingPorts.isEmpty then s.mclk else d)) ∧
    (∃ s : State, ∃ path : Path, ∃ mask : BitVec 12, ∃ bad : BitVec 12, RegsOk s ∧ s.mayRwl path = true ∧ s.safe =
      false ∧ s.fld F.PWR_STATUS_BUSY = 0 ∧ s.fld F.PWR_STATUS_STATE = 0 ∧ s.rst.recovery = false ∧
      s.loadable (setBits mask.toNat 12) = true) ∧
    (∃ s : State, ∃ path : Path, ∃ mask : BitVec 12, RegsOk s ∧ s.mayRwl path = true ∧ s.safe = false ∧
      s.fld F.PWR_STATUS_BUSY = 0 ∧ s.fld F.PWR_STATUS_STATE = 0 ∧ s.rst.recovery = false ∧
      s.fld F.BRU_STATUS_BENCH ≠ 1 ∧ (∀ n ∈ (setBits mask.toNat 12), s.parcelState n = 4 ∧ (s.rt n).imageLoaded =
      true)) ∧
    (∃ s : State, RegsOk s ∧ s.fld F.BRU_STATUS_BENCH = 1 ∧ (∀ n ∈ s.bru.bench, n < 12)) ∧
    (∃ s : State, ∃ path : Path, ∃ mask : BitVec 12, RegsOk s ∧ s.mayRwl path = true ∧ s.safe = false ∧
      s.fld F.PWR_STATUS_BUSY = 0 ∧ s.fld F.PWR_STATUS_STATE = 0 ∧ s.rst.recovery = false ∧
      (∀ n ∈ (setBits mask.toNat 12), s.parcelState n = 0 ∧ s.benchRuns n = false)) ∧
    (∃ s : State, ∃ path : Path, RegsOk s ∧ s.mayRwl path = true ∧ s.safe = false ∧ s.fld F.PWR_STATUS_BUSY = 0 ∧
      s.fld F.PWR_STATUS_STATE = 0 ∧ s.rst.recovery = false ∧ s.fld F.BRU_STATUS_BENCH ≠ 1) ∧
    (∃ s : State, ∃ path : Path, RegsOk s ∧ s.mayRwl path = true ∧ s.safe = true) ∧
    (∃ s : State, ∃ path : Path, ∃ mask : BitVec 12, RegsOk s ∧ s.mayRwl path = true ∧ s.safe = true) ∧
    (∃ s : State, ∃ path : Path, ∃ mask : BitVec 12, RegsOk s ∧ s.mayRwl path = true ∧ s.safe = true) :=
  ⟨⟨at_bruTrain, .pf0, by decide +kernel, by decide +kernel, by decide +kernel, by decide +kernel, by decide +kernel,
      by decide +kernel, by decide +kernel⟩,
    ⟨at_stackTrainDone, 3, 70, Vector.replicate 32 9, by decide +kernel, by decide +kernel, by decide +kernel,
      by decide +kernel, by decide +kernel⟩,
    ⟨at_stackTrainDone_2, 3, 70, Vector.replicate 32 none, by decide +kernel, by decide +kernel, by decide +kernel,
      by decide +kernel⟩,
    ⟨at_linkWaitExpiry, 9, 9, by decide +kernel, by decide +kernel, by decide +kernel⟩,
    ⟨at_bruLoad, .pf0, 0x800, 0, by decide +kernel, by decide +kernel, by decide +kernel, by decide +kernel,
      by decide +kernel, by decide +kernel, by decide +kernel⟩,
    ⟨at_bruBench, .pf0, 0x800, by decide +kernel, by decide +kernel, by decide +kernel, by decide +kernel,
      by decide +kernel, by decide +kernel, by decide +kernel, by decide +kernel⟩,
    ⟨at_benchRunDone, by decide +kernel, by decide +kernel, by decide +kernel⟩,
    ⟨at_computeReset, .pf0, 0x801, by decide +kernel, by decide +kernel, by decide +kernel, by decide +kernel,
      by decide +kernel, by decide +kernel, by decide +kernel⟩,
    ⟨at_fpRestore, .pf0, by decide +kernel, by decide +kernel, by decide +kernel, by decide +kernel,
      by decide +kernel, by decide +kernel, by decide +kernel⟩,
    ⟨at_bruTrain_2, .pf0, by decide +kernel, by decide +kernel, by decide +kernel⟩,
    ⟨at_bruLoad_2, .pf0, 0xFFF, by decide +kernel, by decide +kernel, by decide +kernel⟩,
    ⟨at_bruBench_2, .pf0, 0xFFF, by decide +kernel, by decide +kernel, by decide +kernel⟩⟩

theorem test_meets_bringup_trains_loads_and_benchmarks_2 :
    (∃ s : State, ∃ path : Path, ∃ mask : BitVec 12, RegsOk s ∧ s.mayRwl path = true ∧ s.safe = true) ∧
    (∃ s : State, ∃ path : Path, RegsOk s ∧ s.mayRwl path = true ∧ s.safe = true) :=
  ⟨⟨at_computeReset_2, .pf0, 0xFFF, by decide +kernel, by decide +kernel, by decide +kernel⟩,
    ⟨at_fpRestore_2, .pf0, by decide +kernel, by decide +kernel, by decide +kernel⟩⟩

def at_extest : State :=
  { State.reset with rst := { levels := [2] } }

theorem test_meets_jtag_shifts_its_registers :
    (∃ s : State, RegsOk s) ∧
    (∃ s : State, ∃ tdi : List Bool, RegsOk s) ∧
    (∃ s : State, ∃ pins : List Bool, ∃ tdi : List Bool, RegsOk s) ∧
    (∃ s : State, ∃ pins : List Bool, ∃ tdi : List Bool, RegsOk s ∧ (2 ∈ s.rst.levels ∨ 3 ∈ s.rst.levels)) ∧
    (∃ s : State, ∃ pins : List Bool, ∃ tdi : List Bool, RegsOk s ∧ 2 ∉ s.rst.levels ∧ 3 ∉ s.rst.levels) :=
  ⟨⟨State.reset, by decide +kernel⟩,
    ⟨State.reset, [true, false, true], by decide +kernel⟩,
    ⟨State.reset, [true], [false], by decide +kernel⟩,
    ⟨at_extest, [true], [false], by decide +kernel, by decide +kernel⟩,
    ⟨State.reset, [true], [false], by decide +kernel, by decide +kernel, by decide +kernel⟩⟩

theorem test_meets_management_messages_are_answered :
    (∃ s : State, ∃ addr : BitVec 7, RegsOk s ∧ s.up 3 = true ∧ s.fld F.MGP_STATUS_ADDR_VALID = 0) ∧
    (∃ s : State, ∃ addr : BitVec 7, RegsOk s ∧ s.fld F.MGP_STATUS_ADDR_VALID = 1) ∧
    (∃ s : State, RegsOk s) ∧
    (∃ s : State, RegsOk s) ∧
    (∃ s : State, ∃ tr : Transport, ∃ eid : BitVec 8, RegsOk s ∧ s.hears tr = true ∧ eid ≠ 0 ∧ eid ≠ 0xFF) ∧
    (∃ s : State, ∃ tr : Transport, RegsOk s ∧ s.hears tr = true) ∧
    (∃ s : State, ∃ tr : Transport, ∃ typ : BitVec 8, ∃ cmd : BitVec 8, RegsOk s ∧ s.hears tr = true) ∧
    (∃ s : State, ∃ tr : Transport, ∃ msgType : BitVec 8, ∃ typ : BitVec 8, ∃ cmd : BitVec 8, RegsOk s ∧ s.hears tr =
      false) ∧
    (∃ s : State, ∃ v : Word, RegsOk s ∧ s.hears .vdm = true) ∧
    (∃ s : State, ∃ tr : Transport, RegsOk s ∧ s.serves tr true false = true) ∧
    (∃ s : State, ∃ tr : Transport, ∃ tid : BitVec 8, RegsOk s ∧ s.serves tr true false = true ∧ tid ≠ 0 ∧ tid ≠ 0xFF) ∧
    (∃ s : State, ∃ tr : Transport, ∃ tid : BitVec 8, RegsOk s ∧ s.serves tr true false = true ∧ (tid = 0 ∨ tid =
      0xFF)) :=
  ⟨⟨State.reset.setFld F.RST_STATE_STEP 10, 0x55#7, by decide +kernel, by decide +kernel, by decide +kernel⟩,
    ⟨tray, 0x55#7, by decide +kernel, by decide +kernel⟩,
    ⟨tray, by decide +kernel⟩,
    ⟨tray, by decide +kernel⟩,
    ⟨tray, .i3c, 9#8, by decide +kernel, by decide +kernel, by decide +kernel, by decide +kernel⟩,
    ⟨tray, .i3c, by decide +kernel, by decide +kernel⟩,
    ⟨tray, .i3c, 2#8, 9#8, by decide +kernel, by decide +kernel⟩,
    ⟨State.reset, .i3c, 1, 2, 9, by decide +kernel, by decide +kernel⟩,
    ⟨tray.setFld F.MGP_CFG_VDM_EN 1, 5, by decide +kernel, by decide +kernel⟩,
    ⟨tray, .i3c, by decide +kernel, by decide +kernel⟩,
    ⟨tray, .i3c, 9#8, by decide +kernel, by decide +kernel, by decide +kernel, by decide +kernel⟩,
    ⟨tray, .i3c, 0#8, by decide +kernel, by decide +kernel, by decide +kernel⟩⟩

theorem test_meets_management_messages_are_answered_2 :
    (∃ s : State, ∃ tr : Transport, RegsOk s ∧ s.serves tr true false = true) ∧
    (∃ s : State, ∃ tr : Transport, RegsOk s ∧ s.serves tr true false = true) ∧
    (∃ s : State, ∃ tr : Transport, RegsOk s ∧ s.serves tr true false = true) ∧
    (∃ s : State, ∃ tr : Transport, RegsOk s ∧ s.serves tr true false = true) ∧
    (∃ s : State, ∃ tr : Transport, ∃ typ : BitVec 8, RegsOk s ∧ s.serves tr true false = true ∧ typ ≠ 0 ∧ typ ≠ 2 ∧
      typ ≠ 5) ∧
    (∃ s : State, ∃ tr : Transport, RegsOk s ∧ s.serves tr true false = true) ∧
    (∃ s : State, ∃ tr : Transport, ∃ record : BitVec 32, RegsOk s ∧ s.serves tr true false = true) ∧
    (∃ s : State, ∃ tr : Transport, RegsOk s ∧ s.serves tr true false = true) ∧
    (∃ s : State, ∃ tr : Transport, ∃ n : Fin 12, RegsOk s ∧ s.serves tr true false = true) ∧
    (∃ s : State, ∃ tr : Transport, RegsOk s ∧ s.serves tr true false = true) ∧
    (∃ s : State, ∃ tr : Transport, RegsOk s ∧ s.serves tr true false = true) ∧
    (∃ s : State, ∃ tr : Transport, RegsOk s ∧ s.serves tr true false = true) :=
  ⟨⟨tray, .i3c, by decide +kernel, by decide +kernel⟩,
    ⟨tray, .i3c, by decide +kernel, by decide +kernel⟩,
    ⟨tray, .i3c, by decide +kernel, by decide +kernel⟩,
    ⟨tray, .i3c, by decide +kernel, by decide +kernel⟩,
    ⟨tray, .i3c, 9#8, by decide +kernel, by decide +kernel, by decide +kernel, by decide +kernel, by decide +kernel⟩,
    ⟨tray, .i3c, by decide +kernel, by decide +kernel⟩,
    ⟨tray, .i3c, 7#32, by decide +kernel, by decide +kernel⟩,
    ⟨tray, .i3c, by decide +kernel, by decide +kernel⟩,
    ⟨tray, .i3c, 11, by decide +kernel, by decide +kernel⟩,
    ⟨tray, .i3c, by decide +kernel, by decide +kernel⟩,
    ⟨tray, .i3c, by decide +kernel, by decide +kernel⟩,
    ⟨tray, .i3c, by decide +kernel, by decide +kernel⟩⟩

theorem test_meets_management_messages_are_answered_3 :
    (∃ s : State, ∃ tr : Transport, ∃ n : Fin 12, RegsOk s ∧ s.serves tr true false = true) ∧
    (∃ s : State, ∃ tr : Transport, RegsOk s ∧ s.serves tr true false = true) ∧
    (∃ s : State, ∃ tr : Transport, RegsOk s ∧ s.serves tr false false = true) ∧
    (∃ s : State, ∃ tr : Transport, RegsOk s ∧ s.serves tr false false = true) ∧
    (∃ s : State, ∃ tr : Transport, RegsOk s ∧ s.serves tr false false = true) ∧
    (∃ s : State, ∃ tr : Transport, RegsOk s ∧ s.serves tr false false = true) ∧
    (∃ s : State, ∃ tr : Transport, ∃ id : BitVec 16, RegsOk s ∧ s.serves tr false false = true ∧ 5 ≤ id.toNat ∧
      id.toNat ≤ 8) ∧
    (∃ s : State, ∃ tr : Transport, ∃ eid : BitVec 8, RegsOk s ∧ s.serves tr false false = true) :=
  ⟨⟨tray, .i3c, 11, by decide +kernel, by decide +kernel⟩,
    ⟨tray, .i3c, by decide +kernel, by decide +kernel⟩,
    ⟨tray, .i3c, by decide +kernel, by decide +kernel⟩,
    ⟨tray, .i3c, by decide +kernel, by decide +kernel⟩,
    ⟨tray, .i3c, by decide +kernel, by decide +kernel⟩,
    ⟨tray, .i3c, by decide +kernel, by decide +kernel⟩,
    ⟨tray, .i3c, 7#16, by decide +kernel, by decide +kernel, by decide +kernel, by decide +kernel⟩,
    ⟨tray, .i3c, 9#8, by decide +kernel, by decide +kernel⟩⟩

def at_mgmtCmd : State :=
  { tray with rst := { tray.rst with asserted := none } }

def at_pollForPlatformEventMessage : State :=
  { tray with mgmt := { tray.mgmt with evq := [⟨0xF4, [2]⟩] } }

def at_pollForPlatformEventMessage_2 : State :=
  { tray with mgmt := { tray.mgmt with forecast := some [5] } }

def at_pollForPlatformEventMessage_4 : State :=
  { tray with mgmt := { tray.mgmt with evq := [⟨0xF4, [2]⟩], polled := true } }

def at_ibiRetry : State :=
  { tray.setFld F.MGP_CFG_IBI_EN 1 with mgmt := { evq := [⟨0xF4, [2]⟩], ibiDeadline := some 9 } }

def at_trayAbsent : State :=
  { tray with mgmt := { present := true, trayAt := some 9 } }

def at_backupStale : State :=
  { tray.setFld F.MGP_STATUS_BACKUP 2 with mgmt := { backupAt := some 9 } }

theorem test_meets_effecters_and_events_of_the_tray :
    (∃ s : State, ∃ tr : Transport, ∃ v : Word, RegsOk s ∧ s.serves tr false false = true ∧ v.toNat ≤ 2047) ∧
    (∃ s : State, ∃ tr : Transport, ∃ v : Word, RegsOk s ∧ s.serves tr false false = true ∧ 2047 < v.toNat) ∧
    (∃ s : State, ∃ tr : Transport, ∃ v : Word, RegsOk s ∧ s.serves tr false false = true ∧ v.toNat ≤ 450) ∧
    (∃ s : State, ∃ tr : Transport, ∃ v : Word, RegsOk s ∧ s.serves tr false false = true ∧ v.toNat ≤ 1500) ∧
    (∃ s : State, ∃ tr : Transport, ∃ v : Word, RegsOk s ∧ s.serves tr false false = true ∧ v.toNat ≤ 65535) ∧
    (∃ s : State, ∃ tr : Transport, ∃ v : BitVec 8, RegsOk s ∧ s.serves tr false true = true ∧ 1 ≤ v.toNat ∧
      v.toNat ≤ 2) ∧
    (∃ s : State, ∃ tr : Transport, RegsOk s ∧ s.serves tr false true = true) ∧
    (∃ s : State, ∃ tr : Transport, ∃ v : BitVec 8, RegsOk s ∧ s.serves tr false true = true ∧ (2 < v.toNat ∨ v = 0)) ∧
    (∃ s : State, ∃ tr : Transport, RegsOk s ∧ s.serves tr false false = true) ∧
    (∃ s : State, ∃ tr : Transport, RegsOk s ∧ s.serves tr false false = true) ∧
    (∃ s : State, ∃ tr : Transport, RegsOk s ∧ s.serves tr false false = true) ∧
    (∃ s : State, ∃ tr : Transport, RegsOk s ∧ s.serves tr false false = true) :=
  ⟨⟨tray, .i3c, 2047, by decide +kernel, by decide +kernel, by decide +kernel⟩,
    ⟨tray, .i3c, 2048, by decide +kernel, by decide +kernel, by decide +kernel⟩,
    ⟨tray, .i3c, 450, by decide +kernel, by decide +kernel, by decide +kernel⟩,
    ⟨tray, .i3c, 450, by decide +kernel, by decide +kernel, by decide +kernel⟩,
    ⟨tray, .i3c, 450, by decide +kernel, by decide +kernel, by decide +kernel⟩,
    ⟨tray, .i3c, 2, by decide +kernel, by decide +kernel, by decide +kernel, by decide +kernel⟩,
    ⟨tray, .i3c, by decide +kernel, by decide +kernel⟩,
    ⟨tray, .i3c, 3, by decide +kernel, by decide +kernel, by decide +kernel⟩,
    ⟨tray, .i3c, by decide +kernel, by decide +kernel⟩,
    ⟨tray, .i3c, by decide +kernel, by decide +kernel⟩,
    ⟨tray, .i3c, by decide +kernel, by decide +kernel⟩,
    ⟨tray, .i3c, by decide +kernel, by decide +kernel⟩⟩

theorem test_meets_effecters_and_events_of_the_tray_2 :
    (∃ s : State, ∃ tr : Transport, RegsOk s ∧ s.serves tr false false = true) ∧
    (∃ s : State, ∃ tr : Transport, RegsOk s ∧ s.serves tr false false = true ∧ s.rst.request = none ∧
      s.rst.asserted = none ∧ s.rst.thermtrip = false) ∧
    (∃ s : State, ∃ tr : Transport, ∃ e : MgmtEvent, ∃ r : List MgmtEvent, RegsOk s ∧ s.serves tr false false = true ∧
      s.mgmt.evq = e :: r) ∧
    (∃ s : State, ∃ tr : Transport, ∃ x : List Byte, RegsOk s ∧ s.serves tr false false = true ∧ s.mgmt.evq = [] ∧
      s.mgmt.forecast = some x) ∧
    (∃ s : State, ∃ tr : Transport, RegsOk s ∧ s.serves tr false false = true ∧ s.mgmt.evq = [] ∧ s.mgmt.forecast =
      none) ∧
    (∃ s : State, ∃ tr : Transport, RegsOk s ∧ s.serves tr false false = true ∧ s.mgmt.polled = true) ∧
    (∃ s : State, ∃ at0 : Nat, RegsOk s ∧ s.mgmt.ibiDeadline = some at0 ∧ s.mgmt.evq ≠ [] ∧ s.fld F.MGP_CFG_IBI_EN =
      1) ∧
    (∃ s : State, ∃ a : Nat, ∃ at0 : Nat, RegsOk s ∧ s.mgmt.present = true ∧ s.mgmt.trayAt = some a ∧ at0 =
      a + max 1 (s.fld F.MGP_CFG_ABSENT_MS) * 250000) ∧
    (∃ s : State, ∃ a : Nat, RegsOk s ∧ s.fld F.MGP_STATUS_BACKUP ≠ 0 ∧ s.mgmt.backupAt = some a) :=
  ⟨⟨tray, .i3c, by decide +kernel, by decide +kernel⟩,
    ⟨at_mgmtCmd, .i3c, by decide +kernel, by decide +kernel, by decide +kernel, by decide +kernel, by decide +kernel⟩,
    ⟨at_pollForPlatformEventMessage, .i3c, ⟨0xF4, [2]⟩, [], by decide +kernel, by decide +kernel, by decide +kernel⟩,
    ⟨at_pollForPlatformEventMessage_2, .i3c, [5], by decide +kernel, by decide +kernel, by decide +kernel,
      by decide +kernel⟩,
    ⟨tray, .i3c, by decide +kernel, by decide +kernel, by decide +kernel, by decide +kernel⟩,
    ⟨at_pollForPlatformEventMessage_4, .i3c, by decide +kernel, by decide +kernel, by decide +kernel⟩,
    ⟨at_ibiRetry, 9, by decide +kernel, by decide +kernel, by decide +kernel, by decide +kernel⟩,
    ⟨at_trayAbsent, 9, 9 + max 1 (tray.fld F.MGP_CFG_ABSENT_MS) * 250000, by decide +kernel, by decide +kernel,
      by decide +kernel, by decide +kernel⟩,
    ⟨at_backupStale, 9, by decide +kernel, by decide +kernel, by decide +kernel⟩⟩

def at_passComponentTable : State :=
  ({ tray with own := { owner := 1 }, mgmt := { upd := { phase := 1 } } } : State).setFld F.FWU_STATUS_STATE 0

def at_updateComponent : State :=
  ({ tray with own := { owner := 1 }, mgmt := { upd := { phase := 2 } } } : State).setFld F.FWU_STATUS_STATE 0

def at_requestFirmwareData : State :=
  ({ tray with own := { owner := 1 }, mgmt := { upd := { phase := 3 } }, fwu := { pkgLen := 2000 } } : State).setFld F.FWU_STATUS_STATE 1

def at_requestFirmwareData_2 : State :=
  ({ tray with own := { owner := 1 }, mgmt := { upd := { phase := 3 } }, fwu := { pkgLen := 2000 } } : State).setFld F.FWU_STATUS_STATE 1

def at_requestFirmwareData_3 : State :=
  ({ tray with own := { owner := 1 }, mgmt := { upd := { phase := 3, buf := [9], off := 1 } }, fwu := { pkgLen := 3 } } : State).setFld F.FWU_STATUS_STATE 1

def at_transferComplete : State :=
  ({ tray with own := { owner := 1 }, mgmt := { upd := { phase := 3, off := 3 } }, fwu := { pkgLen := 3 } } : State).setFld F.FWU_STATUS_STATE 1

def at_verifyComplete : State :=
  ({ tray with own := { owner := 1 }, mgmt := { upd := { phase := 4 } } } : State).setFld F.FWU_STATUS_STATE 1

def at_applyComplete : State :=
  ({ tray with own := { owner := 1 }, mgmt := { upd := { phase := 5 } } } : State).setFld F.FWU_STATUS_STATE 3

def at_activateFirmware : State :=
  (({ tray with own := { owner := 1 }, mgmt := { upd := { phase := 2 } } } : State).setFld F.FWU_STATUS_STATE 3).setFld F.FWU_STATUS_KIND 2

def at_cancelUpdateComponent : State :=
  ({ tray with own := { owner := 1 }, mgmt := { upd := { phase := 3 } } } : State).setFld F.FWU_STATUS_STATE 1

def at_cancelUpdate : State :=
  ({ tray with own := { owner := 1 }, mgmt := { upd := { phase := 3 } } } : State).setFld F.FWU_STATUS_STATE 1

theorem test_meets_firmware_updates_go_over_pldm :
    (∃ s : State, ∃ tr : Transport, RegsOk s ∧ s.serves tr false true = true) ∧
    (∃ s : State, ∃ tr : Transport, RegsOk s ∧ s.serves tr false true = true) ∧
    (∃ s : State, ∃ tr : Transport, RegsOk s ∧ s.serves tr false true = true ∧ s.fwuState = 0) ∧
    (∃ s : State, ∃ tr : Transport, RegsOk s ∧ s.serves tr false true = true ∧ s.fwuState ≠ 0) ∧
    (∃ s : State, ∃ tr : Transport, ∃ last : Bool, RegsOk s ∧ s.serves tr false true = true ∧ s.mgmt.upd.phase = 1) ∧
    (∃ s : State, ∃ tr : Transport, ∃ k : BitVec 16, ∃ size : BitVec 32, RegsOk s ∧ s.serves tr false true = true ∧
      s.mgmt.upd.phase = 2 ∧ 1 ≤ k.toNat ∧ k.toNat ≤ 4 ∧ 512 ≤ size.toNat ∧ size.toNat ≤ 16777216 ∧ s.fwuState = 0 ∧
      s.fwuAllowed .mgmtCore = true ∧ s.actRec.trial.getD (k.toNat - 1) false = false) ∧
    (∃ s : State, ∃ x : List Byte, RegsOk s ∧ s.hears .i3c = true ∧ s.mgmt.upd.phase = 3 ∧ s.fwuState = 1 ∧ x.length =
      min 1024 (s.fwu.pkgLen - s.mgmt.upd.off) ∧ s.mgmt.upd.off + 1024 < s.fwu.pkgLen ∧
      s.mgmt.upd.buf.length + 1024 < 65536) ∧
    (∃ s : State, ∃ cc : BitVec 8, ∃ x : List Byte, RegsOk s ∧ s.hears .i3c = true ∧ s.mgmt.upd.phase = 3 ∧
      s.fwuState = 1 ∧ s.mgmt.upd.off < s.fwu.pkgLen ∧ (cc ≠ 0 ∨ x.length ≠ min 1024 (s.fwu.pkgLen - s.mgmt.upd.off))) ∧
    (∃ s : State, ∃ x : List Byte, ∃ v : List Byte, RegsOk s ∧ s.hears .i3c = true ∧ s.mgmt.upd.phase = 3 ∧
      s.fwuState = 1 ∧ x.length = s.fwu.pkgLen - s.mgmt.upd.off ∧ 1 ≤ x.length ∧ x.length ≤ 1024 ∧ v =
      s.mgmt.upd.buf ++ x ∧ s.fwu.pkgLen - v.length < 2 ^ 24) ∧
    (∃ s : State, RegsOk s ∧ s.hears .i3c = true ∧ s.mgmt.upd.phase = 3 ∧ s.fwu.pkgLen = s.mgmt.upd.off ∧ s.fwuState =
      1) ∧
    (∃ s : State, ∃ norOk : Bool, RegsOk s ∧ s.hears .i3c = true ∧ s.mgmt.upd.phase = 4 ∧ s.fwuState = 1) ∧
    (∃ s : State, RegsOk s ∧ s.hears .i3c = true ∧ s.mgmt.upd.phase = 5 ∧ s.fwuState = 3) :=
  ⟨⟨tray, .i3c, by decide +kernel, by decide +kernel⟩,
    ⟨tray, .i3c, by decide +kernel, by decide +kernel⟩,
    ⟨tray, .i3c, by decide +kernel, by decide +kernel, by decide +kernel⟩,
    ⟨tray.setFld F.FWU_STATUS_STATE 1, .i3c, by decide +kernel, by decide +kernel, by decide +kernel⟩,
    ⟨at_passComponentTable, .i3c, true, by decide +kernel, by decide +kernel, by decide +kernel⟩,
    ⟨at_updateComponent, .i3c, 2, 512, by decide +kernel, by decide +kernel, by decide +kernel, by decide +kernel,
      by decide +kernel, by decide +kernel, by decide +kernel, by decide +kernel, by decide +kernel,
      by decide +kernel⟩,
    ⟨at_requestFirmwareData, List.replicate 1024 5, by decide +kernel, by decide +kernel, by decide +kernel,
      by decide +kernel, by decide +kernel, by decide +kernel, by decide +kernel⟩,
    ⟨at_requestFirmwareData_2, 0, [1], by decide +kernel, by decide +kernel, by decide +kernel, by decide +kernel,
      by decide +kernel, by decide +kernel⟩,
    ⟨at_requestFirmwareData_3, [7, 8], [9, 7, 8], by decide +kernel, by decide +kernel, by decide +kernel,
      by decide +kernel, by decide +kernel, by decide +kernel, by decide +kernel, rfl, by decide +kernel⟩,
    ⟨at_transferComplete, by decide +kernel, by decide +kernel, by decide +kernel, by decide +kernel,
      by decide +kernel⟩,
    ⟨at_verifyComplete, true, by decide +kernel, by decide +kernel, by decide +kernel, by decide +kernel⟩,
    ⟨at_applyComplete, by decide +kernel, by decide +kernel, by decide +kernel, by decide +kernel⟩⟩

theorem test_meets_firmware_updates_go_over_pldm_2 :
    (∃ s : State, ∃ tr : Transport, RegsOk s ∧ s.serves tr false true = true ∧ s.mgmt.upd.phase = 2 ∧ s.fwuState = 3 ∧
      s.fwuAllowed .mgmtCore = true ∧ s.privileged s.fwuKind = 0 ∧ 1 ≤ s.fwuKind ∧ s.fwuKind ≤ 3 ∧ s.rst.recovery =
      false ∧ s.nv.pfHold = false ∧ s.nv.waiting = []) ∧
    (∃ s : State, ∃ tr : Transport, RegsOk s ∧ s.serves tr false true = true) ∧
    (∃ s : State, ∃ tr : Transport, RegsOk s ∧ s.serves tr false true = true ∧ 3 ≤ s.mgmt.upd.phase ∧ 1 ≤ s.fwuState ∧
      s.fwuState ≤ 4 ∧ s.fwuAllowed .mgmtCore = true) ∧
    (∃ s : State, ∃ tr : Transport, RegsOk s ∧ s.serves tr false true = true ∧ 1 ≤ s.fwuState ∧ s.fwuState ≤ 4 ∧
      s.fwuAllowed .mgmtCore = true) ∧
    (∃ s : State, ∃ tr : Transport, RegsOk s ∧ s.serves tr false true = true ∧ s.mgmt.upd.phase = 0) ∧
    (∃ s : State, ∃ tr : Transport, RegsOk s ∧ s.serves tr false true = true ∧ s.mgmt.upd.phase = 0) ∧
    (∃ s : State, ∃ tr : Transport, RegsOk s ∧ s.serves tr false true = true ∧ s.mgmt.upd.phase = 0) ∧
    (∃ s : State, ∃ tr : Transport, RegsOk s ∧ s.serves tr false true = true ∧ s.mgmt.upd.phase = 0) ∧
    (∃ s : State, ∃ tr : Transport, RegsOk s ∧ s.serves tr false true = true ∧ s.mgmt.upd.phase = 0 ∧ s.fwuState = 0) :=
  ⟨⟨at_activateFirmware, .i3c, by decide +kernel, by decide +kernel, by decide +kernel, by decide +kernel,
      by decide +kernel, by decide +kernel, by decide +kernel, by decide +kernel, by decide +kernel,
      by decide +kernel, by decide +kernel⟩,
    ⟨tray, .i3c, by decide +kernel, by decide +kernel⟩,
    ⟨at_cancelUpdateComponent, .i3c, by decide +kernel, by decide +kernel, by decide +kernel, by decide +kernel,
      by decide +kernel, by decide +kernel⟩,
    ⟨at_cancelUpdate, .i3c, by decide +kernel, by decide +kernel, by decide +kernel, by decide +kernel,
      by decide +kernel⟩,
    ⟨tray, .i3c, by decide +kernel, by decide +kernel, by decide +kernel⟩,
    ⟨tray, .i3c, by decide +kernel, by decide +kernel, by decide +kernel⟩,
    ⟨tray, .i3c, by decide +kernel, by decide +kernel, by decide +kernel⟩,
    ⟨tray, .i3c, by decide +kernel, by decide +kernel, by decide +kernel⟩,
    ⟨tray, .i3c, by decide +kernel, by decide +kernel, by decide +kernel, by decide +kernel⟩⟩

def at_getVersion : State :=
  { tray with mgmt := { spdm := [(0, 0)] } }

def at_getCapabilities : State :=
  { tray with mgmt := { spdm := [(0, 1)] } }

def at_negotiateAlgorithms : State :=
  { tray with mgmt := { spdm := [(0, 2)] } }

def at_getDigests : State :=
  { tray with mgmt := { spdm := [(0, 3)] } }

def at_getCertificate : State :=
  { tray with mgmt := { spdm := [(0, 3)] } }

def at_challenge : State :=
  { tray with mgmt := { spdm := [(0, 3)] } }

def at_challenge_2 : State :=
  { tray with mgmt := { spdm := [(0, 3)] } }

def at_getMeasurements : State :=
  { tray with mgmt := { spdm := [(0, 3)] } }

def at_getMeasurements_2 : State :=
  { tray with mgmt := { spdm := [(0, 3)] } }

theorem test_meets_attestation_and_vendor_access :
    (∃ s : State, ∃ tr : Transport, RegsOk s ∧ s.hears tr = true ∧ s.rst.recovery = false ∧
      0 ≤ (amGet s.mgmt.spdm (transportNo tr)).getD 0) ∧
    (∃ s : State, ∃ tr : Transport, RegsOk s ∧ s.hears tr = true ∧ s.rst.recovery = false ∧
      1 ≤ (amGet s.mgmt.spdm (transportNo tr)).getD 0) ∧
    (∃ s : State, ∃ tr : Transport, ∃ p384 : Bool, ∃ sha384 : Bool, RegsOk s ∧ s.hears tr = true ∧ s.rst.recovery =
      false ∧ 2 ≤ (amGet s.mgmt.spdm (transportNo tr)).getD 0) ∧
    (∃ s : State, ∃ tr : Transport, RegsOk s ∧ s.hears tr = true ∧ s.rst.recovery = false ∧
      (amGet s.mgmt.spdm (transportNo tr)).getD 0 = 0) ∧
    (∃ s : State, ∃ tr : Transport, RegsOk s ∧ s.hears tr = true ∧ s.rst.recovery = false ∧
      3 ≤ (amGet s.mgmt.spdm (transportNo tr)).getD 0) ∧
    (∃ s : State, ∃ tr : Transport, ∃ slot : BitVec 8, ∃ off : BitVec 16, ∃ len : BitVec 16, RegsOk s ∧ s.hears tr =
      true ∧ s.rst.recovery = false ∧ 3 ≤ (amGet s.mgmt.spdm (transportNo tr)).getD 0) ∧
    (∃ s : State, ∃ tr : Transport, ∃ nonce : List Byte, RegsOk s ∧ s.hears tr = true ∧ s.rst.recovery = false ∧
      3 ≤ (amGet s.mgmt.spdm (transportNo tr)).getD 0) ∧
    (∃ s : State, ∃ tr : Transport, ∃ slot : BitVec 8, ∃ nonce : List Byte, RegsOk s ∧ s.hears tr = true ∧
      s.rst.recovery = false ∧ 3 ≤ (amGet s.mgmt.spdm (transportNo tr)).getD 0 ∧ slot ≠ 0) ∧
    (∃ s : State, ∃ tr : Transport, ∃ nonce : List Byte, RegsOk s ∧ s.hears tr = true ∧ s.rst.recovery = false ∧
      3 ≤ (amGet s.mgmt.spdm (transportNo tr)).getD 0) ∧
    (∃ s : State, ∃ tr : Transport, ∃ k : BitVec 8, ∃ nonce : List Byte, RegsOk s ∧ s.hears tr = true ∧
      s.rst.recovery = false ∧ 3 ≤ (amGet s.mgmt.spdm (transportNo tr)).getD 0 ∧ 1 ≤ k.toNat ∧ k.toNat ≤ 7) ∧
    (∃ s : State, ∃ off : BitVec 32, RegsOk s ∧ s.hears .i3c = true ∧ s.rst.recovery = false ∧ off.toNat % 4 = 0 ∧
      off.toNat < 2 ^ 26) ∧
    (∃ s : State, ∃ off : BitVec 32, RegsOk s ∧ s.hears .i3c = true ∧ s.rst.recovery = false ∧ (off.toNat % 4 ≠ 0 ∨
      2 ^ 26 ≤ off.toNat)) :=
  ⟨⟨at_getVersion, .i3c, by decide +kernel, by decide +kernel, by decide +kernel, by decide +kernel⟩,
    ⟨at_getCapabilities, .i3c, by decide +kernel, by decide +kernel, by decide +kernel, by decide +kernel⟩,
    ⟨at_negotiateAlgorithms, .i3c, true, true, by decide +kernel, by decide +kernel, by decide +kernel,
      by decide +kernel⟩,
    ⟨tray, .i3c, by decide +kernel, by decide +kernel, by decide +kernel, by decide +kernel⟩,
    ⟨at_getDigests, .i3c, by decide +kernel, by decide +kernel, by decide +kernel, by decide +kernel⟩,
    ⟨at_getCertificate, .i3c, 0, 0, 9, by decide +kernel, by decide +kernel, by decide +kernel, by decide +kernel⟩,
    ⟨at_challenge, .i3c, [1], by decide +kernel, by decide +kernel, by decide +kernel, by decide +kernel⟩,
    ⟨at_challenge_2, .i3c, 1, [1], by decide +kernel, by decide +kernel, by decide +kernel, by decide +kernel,
      by decide +kernel⟩,
    ⟨at_getMeasurements, .i3c, [1], by decide +kernel, by decide +kernel, by decide +kernel, by decide +kernel⟩,
    ⟨at_getMeasurements_2, .i3c, 6, [1], by decide +kernel, by decide +kernel, by decide +kernel, by decide +kernel,
      by decide +kernel, by decide +kernel⟩,
    ⟨tray, 0#32, by decide +kernel, by decide +kernel, by decide +kernel, by decide +kernel, by decide +kernel⟩,
    ⟨tray, 2#32, by decide +kernel, by decide +kernel, by decide +kernel, by decide +kernel⟩⟩

theorem test_meets_attestation_and_vendor_access_2 :
    (∃ s : State, ∃ off : Word, ∃ v : Word, ∃ n : Parcel, RegsOk s ∧ s.hears .i3c = true ∧ s.rst.recovery = false ∧
      s.own.locked = false ∧ s.own.owner = 2 ∧ off.toNat = Reg.HLD_CE_LIMIT n) ∧
    (∃ s : State, ∃ off : Word, RegsOk s) ∧
    (∃ s : State, ∃ off : Word, ∃ v : Word, RegsOk s) :=
  ⟨⟨{ tray with own := { owner := 2 } }, BitVec.ofNat 32 (Reg.HLD_CE_LIMIT 11), 0x12345678#32, 11, by decide +kernel,
      by decide +kernel, by decide +kernel, by decide +kernel, by decide +kernel, by decide +kernel⟩,
    ⟨tray, 0#32, by decide +kernel⟩,
    ⟨tray, 0#32, 1#32, by decide +kernel⟩⟩

theorem test_meets_steps_run_the_front_command :
    (∃ (s : State) (c : Instr) (rest : List Instr), s.pending = c :: rest) ∧
    (∃ s : State, s.pending = []) :=
  ⟨⟨{ State.reset with pending := [.ownCancel .pf0, .crossingWake 4] }, _, _, rfl⟩,
    ⟨State.reset, rfl⟩⟩

theorem test_meets_steps_keep_the_canonical_forms :
    (∃ s t : State, RegsOk s ∧ Memory.wf s ∧ step s = .next t) :=
  ⟨State.reset, State.reset, by decide +kernel, by decide +kernel, rfl⟩

theorem test_meets_lost_banks_retire_the_highest_plots :
    (∃ (s : State) (n : Parcel) (L : Nat), RegsOk s ∧ L + popcount (s.planBanks n) 64 = 64) :=
  ⟨State.reset.setRd (Reg.BRU_FP_BANK_LO 11) 1, 11, 63 - popcount (State.reset.rd (Reg.BRU_FP_BANK_HI 11)).toNat 32,
    by decide +kernel, by decide +kernel⟩

end Sys2Proof.Tests
end

section
/-! SUPPORT. Reads of 64-bit values (R11): what a read of a low word, and of its high word, answers and latches. -/

namespace Sys2Proof.Proofs

open Sys2Proof.Machine Sys2Proof.Safety Sys2Proof.Laws

variable {s : State} {path : Path} {off : Nat}

/-- The register at an offset answers: it is no parcel register, or the logic domain is up (R364). -/
theorem parcelDown_eq_false (h : s.logicUp = true ∨ isParcelReg off = false) :
    (!s.logicUp && isParcelReg off) = false := by
  rcases h with h | h <;> simp [h]

theorem readReg_lowWord (hup : s.logicUp = true ∨ isParcelReg off = false) (hlow : isLowWord off = true) :
    s.readReg path off = (s.regWord path off,
      { s with latches := amSet s.latches (latchKey path (off + 4)) (s.regWord path (off + 4)) }) := by
  rw [State.readReg, parcelDown_eq_false hup, if_neg Bool.false_ne_true, if_pos hlow]

/-- The path's own latch answers, and the live word only while that latch is empty. -/
theorem readReg_highWord (hup : s.logicUp = true ∨ isParcelReg (off + 4) = false) (hlow : isLowWord off = true)
    (hhigh : isLowWord (off + 4) = false) :
    s.readReg path (off + 4) =
      ((amGet s.latches (latchKey path (off + 4))).getD (s.regWord path (off + 4)), s) := by
  have hof : (decide (4 ≤ off + 4) && isLowWord (off + 4 - 4)) = true := by simp [hlow]
  rw [State.readReg, parcelDown_eq_false hup, hhigh, if_neg Bool.false_ne_true, if_neg Bool.false_ne_true, if_pos hof]

/-- A read of an aligned word sends back what `readReg` answers, with the latches that it leaves. -/
theorem exec_lowWordRead (halign : off % 4 = 0) :
    exec (.lowWordRead path off) s =
      .next ((s.readReg path off).2.emit (.readData path (leBytes 4 (s.readReg path off).1.toNat) false)) := by
  have hword : off / 4 * 4 = off := Nat.div_mul_cancel (Nat.dvd_of_mod_eq_zero halign)
  change execLowWordRead path off s = _
  rw [execLowWordRead, hword]

/-- Settles O7: the low word's read is `readReg_lowWord`, and the high word's is `readReg_highWord` at a latch that holds
a word. One latch for each path and register is log entry 16. -/
theorem highWordComesFromTheLatch : Obligations.HighWordComesFromTheLatch := by
  unfold Obligations.HighWordComesFromTheLatch
  intro s path off halign hlow hhigh hup
  have hupLow : s.logicUp = true ∨ isParcelReg off = false := hup.imp_right And.left
  have hupHigh : s.logicUp = true ∨ isParcelReg (off + 4) = false := hup.imp_right And.right
  constructor
  · refine ⟨_, exec_lowWordRead halign, ?_⟩
    rw [readReg_lowWord hupLow hlow]
    exact ⟨rfl, amGet_amSet .., fun k hk => amGet_amSet_ne _ _ _ _ (Ne.symm hk)⟩
  · intro w hw
    refine ⟨_, exec_lowWordRead (by omega), ?_⟩
    rw [readReg_highWord hupHigh hlow hhigh, hw]
    rfl

end Sys2Proof.Proofs
end

section
/-! SUPPORT. The hold (R28, R40): the guarantees of HLD_ARB, and the plots that a parcel's lost banks retire. -/

namespace Sys2Proof.Proofs

open Sys2Proof.Machine Sys2Proof.Safety Sys2Proof.Laws

variable {s t : State} {n p usable : Nat}

/-! ## Words and fields of the shared copy -/

theorem rd_setRd (h : RegsOk s) (o : Nat) (v : BitVec 32) : (s.setRd o v).rd o = v := rdB_setRdB s 0 o v h

theorem rd_setRd_ne (s : State) {o o' : Nat} (v : BitVec 32) (h : o ≠ o') : (s.setRd o v).rd o' = s.rd o' :=
  rdB_setRdB_ne s 0 o 0 o' v h

theorem rd_setRd64_ne (s : State) (v : Nat) {lo o : Nat} (hlo : lo ≠ o) (hhi : lo + 4 ≠ o) :
    (s.setRd64 lo v).rd o = s.rd o :=
  (rd_setRd_ne _ _ hhi).trans (rd_setRd_ne s _ hlo)

theorem fld_setRd (h : RegsOk s) (f : Fld) (v : BitVec 32) : (s.setRd f.off v).fld f = bitsOf v.toNat f.hi f.lo :=
  congrArg (fun w : BitVec 32 => bitsOf w.toNat f.hi f.lo) (rd_setRd h f.off v)

theorem becomes_setRd (s : State) (o : Nat) (v : BitVec 32) : Becomes s [o] (s.setRd o v) where
  rest := rfl
  regs := fun _ hk => storeRead_storeWrite_ne _ _ _ _ fun ho => hk (List.mem_singleton.2 ho.symm)

/-- A field's write is a write of its register. -/
theorem becomes_setFld (s : State) (f : Fld) (v : Nat) : Becomes s [f.off] (s.setFld f v) := becomes_setRd s f.off _

/-! ## HLD_ARB (R40) -/

/-- The sum of the guarantees that a write of v to HLD_ARB asks for, G_MAINT 0 taken as 1. -/
def arbSum (v : Nat) : Nat := bitsOf v 5 0 + bitsOf v 13 8 + max 1 (bitsOf v 21 16)

/-- The word of HLD_ARB with the three guarantees at their fields. -/
def arbWord (fab dma maint : Nat) : BitVec 32 := BitVec.ofNat 32 (fab + 2 ^ 8 * dma + 2 ^ 16 * maint)

theorem writeArb_dropped {v : Nat} (h : 32 < arbSum v) : s.writeArb n v = s.setBit (F.HLD_EVENT_ARB_WRITE_DROPPED n) :=
  if_pos h

theorem writeArb_stored {v : Nat} (h : arbSum v ≤ 32) : s.writeArb n v =
    s.setRd (Reg.HLD_ARB n) (arbWord (bitsOf v 5 0) (bitsOf v 13 8) (max 1 (bitsOf v 21 16))) :=
  if_neg (Nat.not_lt.2 h)

/-- Guarantees that sum to at most 32 fit their 6-bit fields and read back. -/
theorem bitsOf_arbWord {fab dma maint : Nat} (h : fab + dma + maint ≤ 32) :
    bitsOf (arbWord fab dma maint).toNat 5 0 = fab ∧ bitsOf (arbWord fab dma maint).toNat 13 8 = dma ∧
      bitsOf (arbWord fab dma maint).toNat 21 16 = maint := by
  have hfab : fab ≤ 32 := by omega
  have hdma : dma ≤ 32 := by omega
  have hmaint : maint ≤ 32 := by omega
  simp only [arbWord, bitsOf, BitVec.toNat_ofNat]
  omega

theorem fld_setRd_arbWord (hs : RegsOk s) {fab dma maint : Nat} (h : fab + dma + maint ≤ 32) :
    (s.setRd (Reg.HLD_ARB n) (arbWord fab dma maint)).fld (F.HLD_ARB_G_FAB n) = fab ∧
      (s.setRd (Reg.HLD_ARB n) (arbWord fab dma maint)).fld (F.HLD_ARB_G_DMA n) = dma ∧
      (s.setRd (Reg.HLD_ARB n) (arbWord fab dma maint)).fld (F.HLD_ARB_G_MAINT n) = maint := by
  obtain ⟨hfab, hdma, hmaint⟩ := bitsOf_arbWord h
  exact ⟨(fld_setRd hs (F.HLD_ARB_G_FAB n) _).trans hfab, (fld_setRd hs (F.HLD_ARB_G_DMA n) _).trans hdma,
    (fld_setRd hs (F.HLD_ARB_G_MAINT n) _).trans hmaint⟩

theorem exec_hldArbWrite {path : Path} (hmay : s.mayRwl path = true) (n : Parcel) (v : Word) :
    exec (.hldArbWrite path n v) s = .next (s.writeArb n v.toNat) :=
  congrArg Host.Outcome.next (if_pos hmay)

/-- Settles O1: a sum above 32 is `writeArb_dropped`, any other `writeArb_stored`, whose fields
`fld_setRd_arbWord` reads. -/
theorem arbWriteKeepsGuarantees : Obligations.ArbWriteKeepsGuarantees := by
  unfold Obligations.ArbWriteKeepsGuarantees
  intro s path n v hs hmay
  refine ⟨fun hsum => ⟨_, exec_hldArbWrite hmay n v, ?_⟩, fun hsum => ⟨_, exec_hldArbWrite hmay n v, ?_⟩⟩
  · rw [writeArb_dropped hsum]
    exact ⟨becomes_setFld s (F.HLD_EVENT_ARB_WRITE_DROPPED n) 1,
      fld_setFld s (F.HLD_EVENT_ARB_WRITE_DROPPED n) 1 hs (le_refl 1) (show 1 < 32 by decide)⟩
  · obtain ⟨hfab, hdma, hmaint⟩ := fld_setRd_arbWord (n := n) hs hsum
    rw [writeArb_stored hsum, hfab, hdma, hmaint]
    exact ⟨becomes_setRd .., rfl, rfl, rfl, Nat.sub_le_sub_left hsum 64⟩

/-! ## The plots that lost banks retire (R28) -/

/-- k retired plots make room for the lines of L lost banks: the banks left hold them in the plots retired. -/
abbrev Covers (L k : Nat) : Prop := L * (96 - k) ≤ k * (64 - L)

/-- The search of `retiredPlots` always ends at a covering k, since 96 retired plots leave no line to place. -/
theorem retiredPlots_least (L : Nat) :
    retiredPlots L ≤ 96 ∧ Covers L (retiredPlots L) ∧ ∀ j < retiredPlots L, ¬ Covers L j := by
  have hsome : ((List.range 97).find? fun k => decide (L * (96 - k) ≤ k * (64 - L))).isSome := by
    rw [List.find?_isSome]
    exact ⟨96, by decide, by simp⟩
  obtain ⟨k, hk⟩ := Option.isSome_iff_exists.1 hsome
  obtain ⟨hcov, hmem, hmin⟩ := List.find?_range_eq_some.1 hk
  have hret : retiredPlots L = k := by rw [retiredPlots, hk, Option.getD_some]
  rw [hret]
  refine ⟨Nat.le_of_lt_succ (List.mem_range.1 hmem), of_decide_eq_true hcov, fun j hj => ?_⟩
  simpa [Covers] using hmin j hj

/-! ## The hold leaves reset (R28, R36) -/

/-- What the release of the hold does to plot p: RETIRED above the usable plots, the transit plot at the highest. -/
def releasePlot (n usable : Nat) (t : State) (p : Nat) : State :=
  if usable ≤ p then t.setRd (Reg.HLD_PLOT_OWNER n p) 3#32
  else if p + 1 = usable then t.setRd (Reg.HLD_PLOT_OWNER n p) 2#32 else t

/-- The status word that the hold shows for g good banks. -/
def holdStatus (g usable : Nat) : BitVec 32 :=
  BitVec.ofNat 32 (g + 2 ^ 8 * usable + 2 ^ 16 * (usable - 1) + 2 ^ 24 * b2n (g != 64))

/-- The state in which the plots are released: the status and the good banks show the plan. -/
def showPlan (s : State) (n usable : Nat) : State :=
  (s.setRd (Reg.HLD_STATUS n) (holdStatus (popcount (s.planBanks n) 64) usable)).setRd64 (Reg.HLD_BANK_GOOD_LO n)
    (s.planBanks n)

theorem releaseHold_eq {L : Nat} (hL : L + popcount (s.planBanks n) 64 = 64) : s.releaseHold n =
    (List.range 96).foldl (releasePlot n (96 - retiredPlots L)) (showPlan s n (96 - retiredPlots L)) := by
  rw [Nat.eq_sub_of_add_eq hL]
  rfl

theorem regsOk_releasePlot (ht : RegsOk t) : RegsOk (releasePlot n usable t p) := by
  unfold releasePlot
  split
  · exact regsOk_setRd _ _ _ ht
  · split
    · exact regsOk_setRd _ _ _ ht
    · exact ht

/-- The release of a plot changes its own ownership word alone. -/
theorem rd_releasePlot_ne (t : State) (usable : Nat) {o : Nat} (h : Reg.HLD_PLOT_OWNER n p ≠ o) :
    (releasePlot n usable t p).rd o = t.rd o := by
  unfold releasePlot
  split
  · exact rd_setRd_ne t _ h
  · split
    · exact rd_setRd_ne t _ h
    · rfl

theorem rd_foldl_releasePlot_ne {o : Nat} (l : List Nat) (h : ∀ q ∈ l, Reg.HLD_PLOT_OWNER n q ≠ o) :
    (l.foldl (releasePlot n usable) t).rd o = t.rd o := by
  induction l generalizing t with
  | nil => rfl
  | cons q l ih =>
    obtain ⟨hq, hl⟩ := List.forall_mem_cons.1 h
    exact (ih hl).trans (rd_releasePlot_ne t usable hq)

theorem plotOwner_ne {q : Nat} (h : q ≠ p) : Reg.HLD_PLOT_OWNER n q ≠ Reg.HLD_PLOT_OWNER n p := by
  unfold Reg.HLD_PLOT_OWNER
  omega

theorem rd_releasePlot (ht : RegsOk t) : (releasePlot n usable t p).rd (Reg.HLD_PLOT_OWNER n p) =
    if usable ≤ p then 3#32 else if p + 1 = usable then 2#32 else t.rd (Reg.HLD_PLOT_OWNER n p) := by
  unfold releasePlot
  split
  · exact rd_setRd ht _ _
  · split
    · exact rd_setRd ht _ _
    · rfl

/-- The release of the other plots does not touch the word that plot p's release leaves. -/
theorem rd_foldl_releasePlot (ht : RegsOk t) {l : List Nat} (hl : l.Nodup) (hp : p ∈ l) :
    (l.foldl (releasePlot n usable) t).rd (Reg.HLD_PLOT_OWNER n p) =
      if usable ≤ p then 3#32 else if p + 1 = usable then 2#32 else t.rd (Reg.HLD_PLOT_OWNER n p) := by
  induction l generalizing t with
  | nil => exact absurd hp List.not_mem_nil
  | cons q l ih =>
    obtain ⟨hq, hl⟩ := List.nodup_cons.1 hl
    rcases List.mem_cons.1 hp with rfl | hpl
    · have hother : ∀ r ∈ l, Reg.HLD_PLOT_OWNER n r ≠ Reg.HLD_PLOT_OWNER n p :=
        fun r hr => plotOwner_ne (ne_of_mem_of_not_mem hr hq)
      exact (rd_foldl_releasePlot_ne l hother).trans (rd_releasePlot ht)
    · have hqp : q ≠ p := (ne_of_mem_of_not_mem hpl hq).symm
      rw [List.foldl_cons, ih (regsOk_releasePlot ht) hl hpl, rd_releasePlot_ne t usable (plotOwner_ne hqp)]

theorem regsOk_showPlan (hs : RegsOk s) : RegsOk (showPlan s n usable) :=
  regsOk_setRd _ _ _ (regsOk_setRd _ _ _ (regsOk_setRd _ _ _ hs))

theorem rd_showPlan_status (hs : RegsOk s) : (showPlan s n usable).rd (Reg.HLD_STATUS n) =
    holdStatus (popcount (s.planBanks n) 64) usable := by
  unfold showPlan
  rw [rd_setRd64_ne, rd_setRd hs] <;> · simp only [Reg.HLD_STATUS, Reg.HLD_BANK_GOOD_LO]; omega

theorem rd_showPlan_plotOwner (s : State) (n usable p : Nat) :
    (showPlan s n usable).rd (Reg.HLD_PLOT_OWNER n p) = s.rd (Reg.HLD_PLOT_OWNER n p) := by
  unfold showPlan
  rw [rd_setRd64_ne, rd_setRd_ne] <;> · simp only [Reg.HLD_STATUS, Reg.HLD_BANK_GOOD_LO, Reg.HLD_PLOT_OWNER]; omega

/-- USABLE_PLOTS of the status word: neither the good banks below it nor the transit plot above it reach its bits. -/
theorem bitsOf_holdStatus {g : Nat} (hg : g ≤ 64) (hu : usable ≤ 96) :
    bitsOf (holdStatus g usable).toNat 14 8 = usable := by
  have hremap : b2n (g != 64) ≤ 1 := by
    unfold b2n
    split <;> decide
  have hword : (holdStatus g usable).toNat = g + 256 * usable + 65536 * (usable - 1) + 16777216 * b2n (g != 64) := by
    rw [holdStatus, BitVec.toNat_ofNat]
    omega
  rw [hword]
  simp only [bitsOf]
  omega

/-- The status word stands as `showPlan` wrote it: no plot's ownership word is at its offset. -/
theorem fld_releaseHold_usablePlots {L : Nat} (hs : RegsOk s) (hL : L + popcount (s.planBanks n) 64 = 64) :
    (s.releaseHold n).fld (F.HLD_STATUS_USABLE_PLOTS n) = 96 - retiredPlots L := by
  have hplots : ∀ q ∈ List.range 96, Reg.HLD_PLOT_OWNER n q ≠ Reg.HLD_STATUS n := by
    intro q _
    unfold Reg.HLD_PLOT_OWNER Reg.HLD_STATUS
    omega
  have hword : (s.releaseHold n).rd (Reg.HLD_STATUS n) =
      holdStatus (popcount (s.planBanks n) 64) (96 - retiredPlots L) := by
    rw [releaseHold_eq hL, rd_foldl_releasePlot_ne _ hplots, rd_showPlan_status hs]
  calc (s.releaseHold n).fld (F.HLD_STATUS_USABLE_PLOTS n)
      = bitsOf ((s.releaseHold n).rd (Reg.HLD_STATUS n)).toNat 14 8 := rfl
    _ = 96 - retiredPlots L := by rw [hword, bitsOf_holdStatus (by omega) (Nat.sub_le _ _)]

theorem rd_releaseHold_plotOwner {L : Nat} (hs : RegsOk s) (hL : L + popcount (s.planBanks n) 64 = 64) (hp : p < 96) :
    (s.releaseHold n).rd (Reg.HLD_PLOT_OWNER n p) =
      if 96 - retiredPlots L ≤ p then 3#32
      else if p + 1 = 96 - retiredPlots L then 2#32 else s.rd (Reg.HLD_PLOT_OWNER n p) := by
  rw [releaseHold_eq hL, rd_foldl_releasePlot (regsOk_showPlan hs) List.nodup_range (List.mem_range.2 hp),
    rd_showPlan_plotOwner]

/-- Settles O60 with k = `retiredPlots L`: the least k is `retiredPlots_least`, the status and the plots are as
`fld_releaseHold_usablePlots` and `rd_releaseHold_plotOwner` read them. -/
theorem lostBanksRetireTheHighestPlots : Obligations.LostBanksRetireTheHighestPlots := by
  unfold Obligations.LostBanksRetireTheHighestPlots
  intro s n L hs hL
  obtain ⟨hle, hcov, hmin⟩ := retiredPlots_least L
  refine ⟨retiredPlots L, hle, hcov, hmin, fld_releaseHold_usablePlots hs hL, fun p hp => ?_⟩
  have hword := rd_releaseHold_plotOwner hs hL hp
  split
  next hret =>
    rw [if_pos hret] at hword
    exact congrArg (fun w : BitVec 32 => bitsOf w.toNat 1 0) hword
  next hret =>
    intro htransit
    rwa [if_neg hret, if_neg htransit] at hword

end Sys2Proof.Proofs
end
